-- ==== Sys2Proof/Word.lean ====
section
/-! DEFINITION. The word and byte types of the module and their plainest arithmetic. -/

namespace Sys2Proof

/-- A register word (R12) or a payload word of a descriptor. -/
abbrev Word := BitVec 32

/-- One byte of a memory. -/
abbrev Byte := BitVec 8

/-- A natural number as a word, its low 32 bits. -/
def w32 (n : Nat) : Word := BitVec.ofNat 32 n

/-- The bits `lo` to `lo + wd - 1` of a word, as a number. -/
def bitsOf (w : Word) (lo wd : Nat) : Nat := (w.toNat / 2 ^ lo) % 2 ^ wd

/-- A number with its bits `lo` to `lo + wd - 1` replaced by the low `wd` bits of `v`. -/
def putBitsNat (n lo wd v : Nat) : Nat :=
  n - ((n / 2 ^ lo) % 2 ^ wd) * 2 ^ lo + (v % 2 ^ wd) * 2 ^ lo

/-- A word with its bits `lo` to `lo + wd - 1` replaced by the low `wd` bits of `v`. -/
def putBits (w : Word) (lo wd v : Nat) : Word := w32 (putBitsNat w.toNat lo wd v)

/-- Bit `k` of a word. -/
def bitOf (w : Word) (k : Nat) : Bool := w.getLsbD k

end Sys2Proof
end

