-- ==== Sys2Proof/Machine/F32.lean ====
section
/-! DEFINITION. Binary32 and binary64 arithmetic as IEEE 754 defines it, rounding to nearest, ties to even: every
operation is computed exactly and rounded once (R262, R405, R188). -/

namespace Sys2Proof.Machine

/-- A floating-point value: not a number, an infinity, or a sign and an exact `m * 2^e`. -/
inductive Fl where
  | nan
  | inf (neg : Bool)
  | fin (neg : Bool) (m : Nat) (e : Int)
  deriving DecidableEq, Repr

/-- A binary format: precision, least exponent of the last place, and the exponent above which a value overflows. -/
structure FmtF where
  p : Nat
  emin : Int
  emax : Int
  deriving DecidableEq, Repr

/-- binary32. -/
def fmt32 : FmtF := ⟨24, -149, 128⟩
/-- binary64. -/
def fmt64 : FmtF := ⟨53, -1074, 1024⟩

/-- The number of bits of a natural number. -/
def bitLen (m : Nat) : Nat := if m = 0 then 0 else Nat.log2 m + 1

/-- `m / 2^d` rounded to nearest, ties to even. -/
def shrEven (m d : Nat) : Nat :=
  if d = 0 then m
  else
    let q := m / 2 ^ d
    let r := m % 2 ^ d
    let h := 2 ^ (d - 1)
    if h < r ∨ (r = h ∧ q % 2 = 1) then q + 1 else q

/-- An exact value rounded to a format. -/
def rnd (f : FmtF) (neg : Bool) (m : Nat) (e : Int) : Fl :=
  if m = 0 then .fin neg 0 f.emin
  else
    let e' := max (e + (bitLen m : Int) - (f.p : Int)) f.emin
    let q := if e' ≤ e then m * 2 ^ (e - e').toNat else shrEven m (e' - e).toNat
    let (q, e') := if f.p < bitLen q then (q / 2, e' + 1) else (q, e')
    if f.emax < (bitLen q : Int) + e' then .inf neg else .fin neg q e'

/-- The binary32 that a word holds. -/
def f32 (w : Word) : Fl :=
  let neg := bitOf w 31
  let ex := bitsOf w 23 8
  let fr := bitsOf w 0 23
  if ex = 255 then (if fr = 0 then .inf neg else .nan)
  else if ex = 0 then .fin neg fr (-149)
  else .fin neg (fr + 8388608) ((ex : Int) - 150)

/-- The word of a binary32 value. -/
def w32f (x : Fl) : Word :=
  match x with
  | .nan => 0x7FC00000
  | .inf neg => if neg then 0xFF800000 else 0x7F800000
  | .fin neg m e =>
    let s := if neg then 2147483648 else 0
    match rnd fmt32 neg m e with
    | .fin _ q e' =>
      if q < 8388608 then w32 (s + q) else w32 (s + (e' + 150).toNat * 8388608 + (q - 8388608))
    | _ => if neg then 0xFF800000 else 0x7F800000

/-- A value rounded to binary32. -/
def Fl.to32 (x : Fl) : Fl :=
  match x with
  | .fin neg m e => rnd fmt32 neg m e
  | y => y

/-- The signed mantissa of a finite value. -/
def sgn (neg : Bool) (m : Nat) : Int := if neg then -(m : Int) else m

/-- The exact sum of two finite values as a signed mantissa and an exponent. -/
def exactAdd (n1 : Bool) (m1 : Nat) (e1 : Int) (n2 : Bool) (m2 : Nat) (e2 : Int) : Int × Int :=
  let e := min e1 e2
  (sgn n1 (m1 * 2 ^ (e1 - e).toNat) + sgn n2 (m2 * 2 ^ (e2 - e).toNat), e)

/-- The sum in a format. -/
def Fl.add (f : FmtF) (x y : Fl) : Fl :=
  match x, y with
  | .nan, _ => .nan
  | _, .nan => .nan
  | .inf a, .inf b => if a = b then .inf a else .nan
  | .inf a, _ => .inf a
  | _, .inf b => .inf b
  | .fin n1 m1 e1, .fin n2 m2 e2 =>
    let (m, e) := exactAdd n1 m1 e1 n2 m2 e2
    if m = 0 then .fin (n1 && n2) 0 f.emin else rnd f (m < 0) m.natAbs e

/-- The negation. -/
def Fl.neg (x : Fl) : Fl :=
  match x with
  | .nan => .nan
  | .inf a => .inf (!a)
  | .fin n m e => .fin (!n) m e

/-- The magnitude. -/
def Fl.abs (x : Fl) : Fl :=
  match x with
  | .nan => .nan
  | .inf _ => .inf false
  | .fin _ m e => .fin false m e

/-- The difference in a format. -/
def Fl.sub (f : FmtF) (x y : Fl) : Fl := Fl.add f x y.neg

/-- Whether a value is a zero. -/
def Fl.isZero (x : Fl) : Bool :=
  match x with
  | .fin _ m _ => m = 0
  | _ => false

/-- Whether a value is finite. -/
def Fl.isFin (x : Fl) : Bool :=
  match x with
  | .fin _ _ _ => true
  | _ => false

/-- The product in a format. -/
def Fl.mul (f : FmtF) (x y : Fl) : Fl :=
  match x, y with
  | .nan, _ => .nan
  | _, .nan => .nan
  | .inf a, .inf b => .inf (a != b)
  | .inf a, .fin n m _ => if m = 0 then .nan else .inf (a != n)
  | .fin n m _, .inf b => if m = 0 then .nan else .inf (n != b)
  | .fin n1 m1 e1, .fin n2 m2 e2 => rnd f (n1 != n2) (m1 * m2) (e1 + e2)

/-- The fused multiply-add `x * y + z` in a format: one rounding. -/
def Fl.fma (f : FmtF) (x y z : Fl) : Fl :=
  match x, y, z with
  | .fin n1 m1 e1, .fin n2 m2 e2, .fin n3 m3 e3 =>
    let n := n1 != n2
    let (m, e) := exactAdd n (m1 * m2) (e1 + e2) n3 m3 e3
    if m = 0 then .fin (n && n3) 0 f.emin else rnd f (m < 0) m.natAbs e
  | x, y, z => Fl.add f (Fl.mul f x y) z

/-- A quotient of naturals with a bit for what is left over, wide enough to round. -/
def quotSticky (p a b : Nat) : Nat × Int :=
  let k := p + 2 + bitLen b - bitLen a
  let q := a * 2 ^ k / b
  let r := a * 2 ^ k % b
  (2 * q + (if r = 0 then 0 else 1), -((k : Int) + 1))

/-- The quotient in a format. -/
def Fl.div (f : FmtF) (x y : Fl) : Fl :=
  match x, y with
  | .nan, _ => .nan
  | _, .nan => .nan
  | .inf _, .inf _ => .nan
  | .inf a, .fin n _ _ => .inf (a != n)
  | .fin n _ _, .inf b => .fin (n != b) 0 f.emin
  | .fin n1 m1 e1, .fin n2 m2 e2 =>
    if m2 = 0 then (if m1 = 0 then .nan else .inf (n1 != n2))
    else if m1 = 0 then .fin (n1 != n2) 0 f.emin
    else
      let (q, e) := quotSticky f.p m1 m2
      rnd f (n1 != n2) q (e1 - e2 + e)

/-- The integer square root, by bisection over `n` bits. -/
def isqrtAux (x : Nat) : Nat → Nat → Nat
  | 0, r => r
  | n + 1, r =>
    let c := r + 2 ^ n
    isqrtAux x n (if c * c ≤ x then c else r)

/-- The square root in a format. -/
def Fl.sqrt (f : FmtF) (x : Fl) : Fl :=
  match x with
  | .nan => .nan
  | .inf a => if a then .nan else .inf false
  | .fin n m e =>
    if m = 0 then .fin n 0 f.emin
    else if n then .nan
    else
      let k := 2 * (f.p + 2)
      let k := if (e - (k : Int)) % 2 = 0 then k else k + 1
      let y := m * 2 ^ k
      let r := isqrtAux y (bitLen y / 2 + 1) 0
      let st := if r * r = y then 0 else 1
      rnd f false (2 * r + st) ((e - (k : Int)) / 2 - 1)

/-- The order of two values that are numbers: −1, 0 or 1. -/
def Fl.cmp (x y : Fl) : Int :=
  match x, y with
  | .inf a, .inf b => if a = b then 0 else if a then -1 else 1
  | .inf a, _ => if a then -1 else 1
  | _, .inf b => if b then 1 else -1
  | .fin n1 m1 e1, .fin n2 m2 e2 => (exactAdd n1 m1 e1 (!n2) m2 e2).1.sign
  | _, _ => 0

/-- Whether a value is not a number. -/
def Fl.isNan (x : Fl) : Bool := x = .nan

/-- `x < y`, false when either is not a number. -/
def Fl.lt (x y : Fl) : Bool := !x.isNan && !y.isNan && Fl.cmp x y < 0

/-- `x ≤ y`, false when either is not a number. -/
def Fl.le (x y : Fl) : Bool := !x.isNan && !y.isNan && Fl.cmp x y ≤ 0

/-- A value held between two limits. -/
def Fl.clamp (lo hi x : Fl) : Fl := if Fl.lt x lo then lo else if Fl.lt hi x then hi else x

/-- An integer as an exact value. -/
def Fl.ofInt (i : Int) : Fl := .fin (i < 0) i.natAbs 0

/-- An exact integer quotient in a format. -/
def Fl.ofRat (f : FmtF) (a : Int) (b : Nat) : Fl := Fl.div f (Fl.ofInt a) (.fin false b 0)

/-- The value rounded to an integer, ties to even; 0 for what is no number. -/
def Fl.toIntEven (x : Fl) : Int :=
  match x with
  | .fin n m e => sgn n (if 0 ≤ e then m * 2 ^ e.toNat else shrEven m (-e).toNat)
  | _ => 0

/-- The value scaled by a natural number and a power of two and rounded to an integer, ties to even. -/
def Fl.scaleInt (x : Fl) (k : Nat) (p : Int) : Int :=
  match x with
  | .fin n m e => (Fl.fin n (m * k) (e + p)).toIntEven
  | _ => 0

/-- The integer part towards zero. -/
def Fl.toIntTrunc (x : Fl) : Int :=
  match x with
  | .fin n m e => sgn n (if 0 ≤ e then m * 2 ^ e.toNat else m / 2 ^ (-e).toNat)
  | _ => 0

/-- The word as a two's complement integer. -/
def sInt (w : Word) : Int := w.toInt

/-- An integer as a word, its low 32 bits. -/
def wInt (i : Int) : Word := BitVec.ofInt 32 i

/-- An integer held to 32 bits of two's complement. -/
def satInt32 (i : Int) : Int := if i < -2147483648 then -2147483648 else if 2147483647 < i then 2147483647 else i

end Sys2Proof.Machine
end

