-- ==== Sys2Proof/Parts.lean ====
section
/-! DEFINITION. The data that commands carry and the parts of the state: plain structures, one per block of the
module. -/

namespace Sys2Proof

/-- An item: one command descriptor that the module fetched (R117), or received from another module (R525).
`origin` is the device ID of the module that sent it, for a remote item at its target. -/
structure Item where
  ring    : Nat
  seq     : Word
  flags   : Nat
  remote  : Bool
  device  : Nat
  block   : Nat
  inst    : Nat
  payload : List Word
  origin  : Option Nat
  deriving DecidableEq, Repr

/-- Payload word `n` of the descriptor, 3 to 14; a word the item does not carry is zero (R117). -/
def Item.w (it : Item) (n : Nat) : Word := it.payload.getD (n - 3) 0

/-- FLAGS bit 0, IRQ (R117). -/
def Item.irq (it : Item) : Bool := it.flags % 2 = 1

/-- FLAGS bit 1, FENCE (R117). -/
def Item.fence (it : Item) : Bool := it.flags / 2 % 2 = 1

/-- Items applied again by a new active member (R134) or a warm restart (R90) carry the number of their ring from here
on: they complete without a record. -/
def redoRing : Nat := 1048576

/-- An item that is applied again. -/
def Item.again (it : Item) : Item := { it with ring := redoRing + it.ring, origin := none, remote := false }

/-- Whether an item is one applied again. -/
def Item.isAgain (it : Item) : Bool := redoRing ≤ it.ring

/-- A full stamp (R481): 48 bits of seconds, nanoseconds below 1,000,000,000. -/
structure Stamp where
  sec : Nat
  ns  : Nat
  deriving DecidableEq, Repr

/-- An event as a block reports it (R428): its code, its instance and its four parameters. -/
structure Event where
  code : Nat
  inst : Nat
  p0   : Word
  p1   : Word
  p2   : Word
  p3   : Word
  deriving DecidableEq, Repr

/-- A Vexlink frame (R507). -/
structure Frame where
  ty      : Nat
  scope   : Bool
  hops    : Nat
  src     : Nat
  dst     : Nat
  kind    : Nat
  fseq    : Word
  aux     : Word
  payload : List Word
  deriving DecidableEq, Repr

/-- An entry of a SCAN frame (R517). -/
structure ScanEntry where
  coord   : Nat
  quality : Nat
  value   : Word
  age     : Nat
  deriving DecidableEq, Repr

/-- A transceiver in a J4 cage as the module reads it over the cage's two-wire interface (SFF-8472): its identity and its
diagnostics (R54). -/
structure Sfp where
  ident : List Byte
  diag : List Byte
  deriving DecidableEq, Repr

/-- What a cold start finds around the module: whether the newest full configuration image fails its check; the inputs of J6 that read active, bits 0 to 7 DRVF0 to DRVF7 and bit 8
TRIP_IN, an open one among them (R56); the transceivers in the J4 cages, 0 J4A and 1 J4B (R54); and the STATE that the
partner's heartbeats show at the end of the start, none without a heartbeat (R540). -/
structure StartEnv where
  badImage : Bool
  trips    : Nat
  sfp      : List (Nat × Sfp)
  partner  : Option Nat
  deriving DecidableEq, Repr

/-- What a warm restart finds: whether the newest full configuration image fails its check, and the partner's STATE as for a
cold start. -/
structure WarmEnv where
  badImage : Bool
  partner  : Option Nat
  deriving DecidableEq, Repr

/-- A malformed access (R108): whether it goes to BAR2, else to BAR0, and whether it reads. -/
structure BarAccess where
  bar2 : Bool
  read : Bool
  deriving DecidableEq, Repr

/-- The temperatures that the supervisor measures, in degrees (R65). -/
structure Temps where
  junction : Int
  board    : Int
  deriving DecidableEq, Repr

/-- The voltage on SIG of a digital input, in mV, and for how many ns it has stood there (R194, R196). -/
structure DiLevel where
  mv   : Int
  held : Nat
  deriving DecidableEq, Repr

/-- A global channel and the voltage on its SIG, in mV (R200). -/
structure ChanVolt where
  ch : Nat
  mv : Int
  deriving DecidableEq, Repr

/-- A global channel and what it measures, in V or mA, binary32 (R236 to R239). -/
structure ChanMeas where
  ch   : Nat
  meas : Word
  deriving DecidableEq, Repr

/-- An output stage: its junction temperature in degrees, and the voltage its loop needs, in 10 mV (R237, R240). -/
structure StageHeat where
  temp : Nat
  need : Nat
  deriving DecidableEq, Repr

/-- What a calibration run has found (R214, R215): offset, gain and skew of each slice, and the test DAC's own error. -/
structure CalFound where
  factors : List (Int × Int × Int)
  dac     : Int × Int
  deriving DecidableEq, Repr

/-- An edge of a pulse input in the 1 µs before a frame (R206): the local channel, the instant in units of 8 ns, its
direction, and the length in ns of the shorter of the two pulses it bounds. -/
structure PiEdge where
  ch     : Nat
  at8    : Nat
  rising : Bool
  pulse  : Nat
  deriving DecidableEq, Repr

/-- What a Facet measures around one frame boundary: twenty conversions of the frame that begins, one every 50 ns, each
with the code that the path through SIG gives and the code that the path between SNS and RTN gives (R51, R212); the
voltage on SIG of the eight channels at the boundary, in mV; the edges of the microsecond before it; the field supply in
10 mV; the temperature in degrees; and the receive symbols of the HART modem (R246). -/
structure FieldFrame where
  conv   : List (Int × Int)
  volts  : List Int
  edges  : List PiEdge
  supply : Nat
  temp   : Int
  rxc    : Nat
  rxd    : Nat
  deriving DecidableEq, Repr

namespace Machine

/-- A sparse store: pairs of key and value, keys strictly rising, no entry equal to the key's default. -/
abbrev Tab (α : Type) := List (Nat × α)

/-- A memory of bytes (R41 to R43): the same canonical form, an unlisted byte reads as zero. -/
abbrev Mem := List Host.Cell

/-! ### Helix (spec/14_helix_recorder.md) -/

/-- A Helix record (R428). -/
structure HlxRec where
  code : Nat
  flags : Nat
  inst : Nat
  ns : Word
  sec : Word
  seq : Word
  p0 : Word
  p1 : Word
  p2 : Word
  p3 : Word
  deriving DecidableEq, Repr

/-- A run of events that some reader did not receive: how many, the first and the last sequence number. -/
structure LossRun where
  count : Nat
  first : Word
  last : Word
  deriving DecidableEq, Repr

/-- The states of the first-fault region (R437). -/
inductive FfState where
  | armed | filling | latched
  deriving DecidableEq, Repr

/-- Helix (R428 to R443). The sequence counter lies in PD_AON; the rest lies in PD_ACQ. -/
structure HlxSt where
  running : Bool            -- PD_ACQ is on and Helix is out of reset (R433)
  lostOff : Nat             -- events lost while Helix was not running (R433)
  seq : Word                -- the next sequence number (R431)
  drop : Option LossRun     -- the intake FIFO is full: the run of discarded events (R432)
  dropIntake : Nat          -- HLX_DROP.INTAKE
  dropStream : Nat          -- HLX_DROP.STREAM
  ovwr : Nat                -- HLX_OVWR
  log : List HlxRec         -- oldest first, at most 16,384 (R434)
  frozen : Option LossRun   -- the freeze and the records not logged in it (R436)
  frozenAt : Nat            -- the base counter when the log froze
  ff : FfState
  ffPre : List HlxRec       -- the pre-buffer (R437)
  ffRegion : List HlxRec    -- the first-fault region
  ffTrigSeq : Word
  ffTrigCode : Nat
  ffTrigNs : Word
  ffTrigSec : Word
  ffPreLen : Nat            -- FF_PRE as the region took it when it was last ARMED (R441)
  stream : List HlxRec      -- the stream FIFO of 256 (R439)
  streamLoss : Option LossRun
  deriving DecidableEq, Repr

/-! ### Fault queue (spec/21_faults_ecc.md) -/

/-- An entry of the fault queue (R595). -/
structure FltEntry where
  sev : Nat
  code : Nat
  inst : Nat
  ns : Word
  sec : Word
  p0 : Word
  p1 : Word
  seq : Word
  deriving DecidableEq, Repr

/-- The fault queue (R595 to R599): waiting entries, oldest first, and the presented entry of each severity. -/
structure FltSt where
  waiting : List FltEntry
  pres1 : Option FltEntry
  pres2 : Option FltEntry
  pres3 : Option FltEntry
  ovf : Bool                -- FLT_STATUS.OVF
  ovfAt : Option Nat        -- base counter when hardware last set it (R15)
  ovfCnt : Nat              -- FLT_OVFCNT
  ceTimes : Tab (List Nat)  -- base counters of each region's corrected words of the last hour, newest first (R603)
  kickAt : Tab Nat          -- base counter at each core's last kick of the core watchdog (R607)
  deriving DecidableEq, Repr

/-! ### Vertex (spec/11_vertex_dispatch.md) -/

/-- Where a work item stands: waiting in its queue (`released` once a DEP queue has released it), or in service. -/
inductive VtxPhase where
  | waiting
  | released
  | inService (core : Nat)
  deriving DecidableEq, Repr

/-- A work item (R354) and its place; the list of items is in order of arrival. -/
structure VtxItem where
  queue : Nat
  source : Nat
  flow : Option Nat
  gen : Nat
  slot : Nat
  inst : Nat
  code : Nat
  param : Word
  ns : Word
  sec : Word
  seq : Word
  first : Bool
  lost : Nat
  phase : VtxPhase
  deriving DecidableEq, Repr

/-- Vertex (R352 to R373) but for the registers the cores write. -/
structure VtxSt where
  running : Bool            -- PD_ENG is up and Vertex is out of reset (R370)
  items : List VtxItem
  srcSeq : Tab Word         -- VTX_SRC_SEQ
  srcSeen : Tab Bool        -- the source has had an item since the start (FIRST)
  srcLost : Tab Nat         -- events lost since the source's last item (R354 word 7)
  srcEpisode : Tab Bool     -- an episode of losses under R355 is open
  slotGen : Tab Nat         -- the generation the slot's next item takes
  cnt : Tab Int             -- the counter of each DEP queue (R357)
  qDisp : Tab Word          -- VTX_Q_DISP
  lostAll : Nat             -- VTX_LOSTALL
  unmapSrc : Nat            -- VTX_UNMAPPED.SOURCE
  unmapCnt : Nat            -- VTX_UNMAPPED.COUNT
  badCnt : Nat              -- VTX_BADDONE.COUNT
  badHandle : Nat           -- VTX_BADDONE.HANDLE
  unsig : Tab Nat           -- entries written to a core's ring since its line was last asserted (R368)
  deriving DecidableEq, Repr

/-- What records and reports events: Helix, the fault queue, Vertex, the interrupt messages sent and held, and the
time of the last rate-limited report of each event (key: code and instance). -/
structure Trace where
  hlx : HlxSt
  flt : FltSt
  vtx : VtxSt
  msix : List Nat           -- MSI-X vectors sent, newest first (the model's own record of what left the module)
  pba : Tab Bool            -- the pending-bit array of the MSI-X vectors (R106, R107)
  lastLog : Tab Nat         -- base counter at the last rate-limited report, plus 1
  sinceLog : Tab Nat        -- occurrences since that report
  deriving DecidableEq, Repr

/-! ### Host interface (spec/04_host_rings.md) -/

/-- Where a fetched item stands: decided by its block and not yet at its commit point, or past it (R126). -/
inductive Phase where
  | fetched
  | waiting
  | committed
  deriving DecidableEq, Repr

/-- A fetched, uncompleted item (R121): its opcode, its place, whether its intent is mirrored (R134), and the status
and details it will complete with once its commit point is past. -/
structure Inflight where
  opcode : Nat
  item : Item
  phase : Phase
  mirrored : Bool
  deadline : Nat            -- base counter instant of the deadline of a remote item (R136), 0 none
  note : List Word          -- words the item's block keeps for it until it completes
  intent : Option Nat       -- its intent has been stated: 0 not yet captured, n + 1 in epoch n (R549)
  doneAt : Option Stamp     -- the instant of its commit point, once that is past (R127)
  deriving DecidableEq, Repr

/-- The outcome of an item in the intake log (R132). -/
inductive Verdict where
  | inFlight
  | applied (status : Nat)
  | notApplied (status : Nat)
  deriving DecidableEq, Repr

/-- An entry of the intake log, keyed by ring and SEQ (R132). -/
structure IntakeEntry where
  ring : Nat
  seq : Word
  verdict : Verdict
  written : Bool            -- the item's completion record has been written
  deriving DecidableEq, Repr

/-- Entries that wait for room in a module-to-host ring (R130): the ring, the words of one entry, the submission ring of
its item, whether FLAGS.IRQ asks for an interrupt, and whether it is the item's completion record. -/
structure HeldEntry where
  cq : Nat
  words : List Word
  sq : Option Nat
  irq : Bool
  record : Bool
  deriving DecidableEq, Repr

/-- HIF (R106 to R140) but for its registers. -/
structure HifSt where
  msixOn : Bool             -- MSI-X is enabled by the host
  d3hot : Bool              -- the function is in D3hot (R106)
  inflight : List Inflight  -- oldest first
  intake : List IntakeEntry -- newest first, at most 65,536
  fetchIdx : Tab Word       -- advanced fetch index of each ring in the intake log (R122)
  held : List HeldEntry     -- oldest first
  stalled : List Nat        -- completion rings that hold a fetch because they are full (HIF_CQ_STAT.STALLS)
  lastDone : List Word      -- status and details of the last item that was applied again (R134)
  unsig : Tab Nat           -- entries of a ring written since its last interrupt (R131)
  msixTab : Tab Word        -- the MSI-X table at BAR0 0x28000 by word index (R106)
  turn : Tab Nat            -- the submission ring of each PRIO that fetched last, for the turn of R121
  deriving DecidableEq, Repr

/-! ### Meridian (spec/17_meridian_time.md) -/

/-- A servo (R486, R487, R491). `integ` is the integrator, exact, in units of ppb / (10^9 * 2^181); `rem` and `last`
are in 2^-32 ns, `rate` in 2^-32 ns per tick. -/
structure Servo where
  state : Nat
  integ : Int
  rate : Int
  rem : Int
  last : Int
  lastBase : Option Nat     -- base counter at the last accepted input
  hasIn : Bool              -- an input has been accepted since FREE_RUN
  inCount : Nat
  capped : Bool             -- an episode of the integrator at its limit is open (R487)
  deriving DecidableEq, Repr

/-- An instant at which D_n changed its slope or stepped (R489): T and D_n there in 2^-32 ns, and the slope of D_n per
tick from there on. `stop` is T and D_n just before the step that ended it, where a step did. -/
structure DNode where
  t : Int
  d : Int
  slope : Int
  stop : Option (Int × Int)
  deriving DecidableEq, Repr

/-- An entry of a transmit timestamp queue (R496). -/
structure TxTs where
  stamp : Stamp
  msgType : Nat
  seqId : Nat
  domain : Nat
  deriving DecidableEq, Repr

/-- Meridian (R481 to R500): the base counter in ns, the three offsets and the remaining corrections in 2^-32 ns. -/
structure MerSt where
  base : Nat
  offT : Int
  offA : Int
  offB : Int
  xPrev : Int
  rateT : Int
  sv0 : Servo
  sv1 : Servo
  sv2 : Servo
  set : Bool
  switching : Bool
  stampBad : Bool
  active : Nat
  tstate : Nat
  hist1 : List DNode        -- newest first, at most 64
  hist2 : List DNode
  txts0 : List TxTs
  txts1 : List TxTs
  txtsOvf : Tab Nat
  txtsEpisode : Tab Bool
  deriving DecidableEq, Repr

/-! ### Configuration (spec/05_configuration.md) -/

/-- One change of a validated item: the key and the value its block takes. -/
structure Change where
  key : Nat
  val : Word
  deriving DecidableEq, Repr

/-- An item of CFG between its validation and its completion (R157 to R159): what it changes, the blocks whose values
have not been taken, the report ring, first index and count, and whether its journal entry has been written. -/
structure CfgJob where
  item : Item
  changes : List Change
  blocks : List Nat
  rptRing : Nat
  rptFirst : Word
  rptCount : Nat
  journaled : Bool
  given : List Change       -- what the item was given, and whether it came from the staging area (R147, R161)
  moved : Bool
  ints : List Nat           -- SUB entries that the grant types as integers (R514)
  deriving DecidableEq, Repr

/-- A clamp, as one entry of the REPORT ring tells it (R156). -/
structure Clamp where
  flt : Bool
  reason : Nat
  block : Nat
  fld : Nat
  elem : Nat
  inst : Nat
  req : Word
  app : Word
  cause : Word
  deriving DecidableEq, Repr

/-- What a RESULT frame tells beside status and details (R210, R526): its stamp and the clamps. -/
structure ResultAt where
  st : Stamp
  clamps : List Clamp
  deriving DecidableEq, Repr

/-- Values under validation: the values as they will stand after the item (R149), the clamps in the order of each
field's first, the first field that cannot be clamped with its requested value, and whether an image is being loaded
(R169). -/
structure Val where
  tab : Tab Word
  clamps : List Clamp
  fail : Option (Nat × Word)
  load : Bool
  deriving DecidableEq, Repr

/-- A commit that waits for the manager's grant in its pass 3 (R521): its item, the changes it was given, whether they
came from the staging area, the values before it, and the validation so far. -/
structure GrantWait where
  item : Item
  given : List Change
  moved : Bool
  old : Tab Word
  val : Val
  deriving DecidableEq, Repr

/-- CFG (R141 to R170). -/
structure CfgSt where
  active : Tab Word         -- active values, the default of an unlisted key is `cfgDefault`
  image : Tab Word          -- the committed image
  staged : Tab (Option Word)
  jobs : List CfgJob        -- oldest first
  waits : List (Nat × Word × Nat × List Nat) -- ring and SEQ of a job, a block, and its objects that have yet to take (R158)
  grant : Option GrantWait
  slots : Tab (Option (Nat × Tab Word)) -- the two full image slots: image ID and contents, none while not valid (R166)
  journal : List (Nat × List Change) -- entries since the newest valid image, with the image ID of each, oldest first
  imageId : Nat             -- 64 bits
  imageHiLatch : Word       -- what CFG_IMAGE_HI shows
  journalUsed : Nat         -- bytes
  slot : Nat                -- the slot of the newest valid full image
  writingImage : Bool
  imageBad : Bool           -- the newest full image in MRAM reads uncorrectable (R605)
  regErr : Bool
  regErrAt : Option Nat     -- base counter when it was last set (R15)
  exports : List (Tab Word) -- the images exported so far, newest first (the model's own record, R142)
  deriving DecidableEq, Repr

/-! ### Vexlink (spec/18_vexlink_hierarchy.md) -/

/-- An entry of the coordinate table (R513, R514): its value, its quality, its stamp in 2^-32 ns, the cycle of the value
it holds (SUB entries) and its consecutive missed cycles. -/
structure CoEntry where
  val : Word
  q : Nat
  t : Int
  cyc : Nat
  misses : Nat
  deriving DecidableEq, Repr

/-- The window of frame sequence numbers accepted from one source (R508): the highest, and the 64 below it, bit k for
the one k + 1 below. -/
structure SeqWin where
  seen : Bool
  high : Word
  mask : Nat
  deriving DecidableEq, Repr

/-- What the manager has granted a module (R521): its publications and its subscriptions of other rings. -/
structure Grant where
  device : Nat
  pubs : List Nat
  subs : List Nat
  deriving DecidableEq, Repr

/-- Vexlink and the coordinate table but for the registers. -/
structure VxlSt where
  coords : Tab CoEntry
  granted : Tab Bool        -- the publication of entry e is granted
  subInt : Tab Bool         -- the grant types SUB entry e as an integer (R514)
  members : List Nat        -- admitted device IDs
  win : Tab SeqWin
  inj : Tab SeqWin          -- the frames of each source that this module has sent into its ring from another (R508)
  badRun : Tab Nat          -- consecutive frames on each port that failed their CRC (R502)
  fseq : Word               -- the next frame sequence number of this module
  cycle : Nat               -- full cycle count of the last mark
  judged : Option Nat       -- the last judged cycle
  got : Tab (List Nat)      -- cycles not yet judged of which each SUB entry has received a value (R519)
  joinedAt : Option Nat     -- the cycle of this module's admission as a worker (R529)
  silent : Nat              -- marks since the last CYCLE frame (R524)
  stalePub : Tab Bool       -- publishers with a stale subscription
  turned : Tab Bool         -- SUB entry e has turned stale and taken no value since (R519)
  mark : Option (Int × Int) -- emission stamp and offset e of the last mark's first copy (R510)
  refused : List (Nat × Nat × Word) -- origin, ring and SEQ of remote items recorded as refused (R526)
  grants : List Grant
  twins : List Nat          -- admitted devices that sit in a twin base (R520, R529)
  fwd : List (Nat × Nat)    -- the forwarding table: a coordinate and a ring that subscribes to it (R508, R521)
  upl : Tab Nat             -- the uplink in use of each other ring: 0 primary, 1 alternate (R506)
  joinPend : List Nat       -- joins and leaves that the CYCLE frame of the next mark lists
  leavePend : List (Nat × Nat)
  presence : Tab Nat        -- cycles without presence of each admitted device (R530)
  newCycle : Option (Nat × Nat) -- a new CYCLE in us and the first mark it holds for (R523)
  ringKnown : Bool
  deriving DecidableEq, Repr

/-! ### Facets (spec/06 and spec/07) -/

/-- An update that a link end delivers to its Facet (R182, R183, R229, R552): the whole configuration or some fields of
it, the pair variant, and calibration sets (index 4 × channel + range, A and B). -/
structure FctUpd where
  full : Bool
  variant : Option Bool
  vals : List Change
  cals : List (Nat × Word × Word)
  deriving DecidableEq, Repr

/-- A fallback slot (R187 to R190). -/
structure FbSlot where
  run : Bool
  u : Word
  ePrev : Word
  has : Bool                -- e_prev has been set from a usable sample (R189)
  bad : Bool
  expired : Bool
  deriving DecidableEq, Repr

/-- A diagnosis in progress (R231 to R234): its item, its kind, its local channel and its levels. -/
structure DiagSt where
  ring : Nat
  seq : Word
  wire : Bool
  ch : Nat
  a : Word
  b : Word
  aborted : Bool            -- an APPLY frame has changed the channel's mode
  since : Option Int        -- when the Facet began, once it has answered BUSY
  codes : List (Int × Int)  -- instants and codes of the HELD words since then, oldest first
  deriving DecidableEq, Repr

/-- A diagnosis as the Facet runs it (R232): the local channel, its kind, its level codes, and the time of its start. -/
structure FieldDiag where
  ch : Nat
  wire : Bool
  a : Nat
  b : Nat
  since : Int
  deriving DecidableEq, Repr

/-- A frame that a HART modem is sending (R243): the local channel, its type, and the request bytes so far. -/
structure ModemTx where
  ch : Nat
  long : Bool
  bytes : List Byte
  deriving DecidableEq, Repr

/-- A sample that waits for its position in an upstream frame (R176): when it is ready and its sampling instant, in ns
from the frame start, and the local channel, FLAGS and code of its word. -/
structure ReadySample where
  ready : Int
  inst : Int
  ch : Nat
  flags : Nat
  code : Int
  deriving DecidableEq, Repr

/-- A HART transaction in progress (R242 to R244). -/
structure HartTx where
  ring : Nat
  seq : Word
  ch : Nat
  sent : Nat                -- request bytes sent
  ready : Bool              -- the last upstream frame showed TX_READY
  closed : Bool             -- CLOSE has been sent
  closedAt : Nat            -- base counter at CLOSE
  rx : List Byte            -- reply bytes received so far
  deriving DecidableEq, Repr

/-- A Facet and its link end. The first group lies in the link end, the second on the field side. -/
structure FacetSt where
  fseq : Nat                -- FSEQ of the next downstream frame
  upSeq : Option Nat        -- FSEQ of the last valid upstream frame since training
  invalid : Nat             -- consecutive invalid upstream frames
  delivered : Bool          -- the Facet has been given the committed configuration
  updates : List FctUpd     -- still to be applied, oldest first
  abort : Bool              -- the next frame carries ABORT
  cfgIdx : Nat              -- the next configuration chunk
  need : List Nat           -- chunks of the shadow that the Facet has not confirmed (R182)
  sent : List (Nat × Nat)   -- FSEQ and chunk of the last downstream frames
  cmds : List (Nat × Nat)   -- CMD and CMDARG, oldest first (R246)
  diag : Option DiagSt
  hart : Option HartTx
  spot : Nat                -- the channel that FCT_SPOT follows (R225)
  tempSeen : Bool           -- FCT_TEMP.PEAK holds a value since it was last read
  cfgOk : Bool              -- field side: it holds a committed configuration
  variant : Bool            -- the pair variant is in force
  perimOff : Bool
  lastFrame : Nat           -- base counter at the last valid downstream frame
  released : Bool           -- the release ramp of R553 has run
  rampNs : Nat              -- how far into the release ramp the Facet is, in ns (R553)
  safeAt : Nat              -- base counter at entry into safe state
  supWarn : Bool
  supLow : Bool
  shedSeq : Option Nat      -- the group whose instant comes next (R202)
  shedNext : Nat            -- the lowest group not yet shed
  autoRest : Option Nat     -- the group restored next (R203)
  total : Option Nat        -- outputs switched off in the sequence of R199
  restarted : Bool
  unfed : Bool              -- the field supply is absent (R67, R204)
  calBusy : Bool
  ffseq : Nat               -- FSEQ of the Facet's next upstream frame (R175)
  dack : Nat                -- FSEQ of the last valid downstream frame
  perimRel : Bool           -- the Perimeter line has released since the last frame boundary (R172)
  shadow : List Nat         -- chunks held in the shadow (R182)
  slices : List (Int × Int × Int) -- offset, gain and skew of the four slices (R171, R213)
  dac : Int × Int           -- offset and gain of the test DAC as the last FCT_CAL measured them (R214)
  queue : List ReadySample  -- samples that wait for a position, oldest first (R176)
  fdiag : Option FieldDiag
  lastCmd : Nat × Nat       -- CMD and CMDARG of the last valid frame
  ack : Nat                 -- CMDACK (R246)
  modem : Option ModemTx
  slot0 : FbSlot
  slot1 : FbSlot
  slot2 : FbSlot
  slot3 : FbSlot
  fbsp : List Word          -- FBSP0 to FBSP3 of the last valid frame
  deriving DecidableEq, Repr

/-- A channel: the owner's value in the link end, the rest on the field side but for the gate edges and `last`. -/
structure ChanSt where
  own : Word                -- the owner's latest value
  ownHas : Bool             -- produced since the link came up and the mode last changed (R184)
  last : Word               -- value of the last word that was not HELD (R222)
  lastCode : Nat            -- and its code
  lastAt : Int              -- time of the last change of a digital input that was delivered
  oldSeq : Option Nat       -- FSEQ of the last upstream frame with samples of the mode before (R193)
  gateN : Nat               -- edges in the present gate (R207)
  gateFirst : Int
  gateLast : Int
  out : Word                -- the value taken from the last valid frame
  taken : Bool              -- an owner value has been taken since the mode changed (R193)
  safe : Bool
  shed : Bool
  ovl : Bool
  ovlAt : Nat               -- base counter at the switch-off for overload
  trim : Nat                -- 0 none, 1 point p1, 2 point p2 (R230)
  mism : Bool
  comp : Bool
  therm : Bool
  hot : Bool                -- switched off at 175 degrees
  openw : Bool
  ilim : Nat                -- current limit, 0.1 mA
  vsup : Nat                -- adaptive supply of the stage, 10 mV (R237)
  cmp : Bool                -- comparator state (R194)
  deb : Bool                -- debounced state
  chgAt : Option Int        -- the debounced state has changed since the last frame boundary, and when (R196)
  accN : Nat                -- conversions in the present window, and their sum (R219)
  accSum : Int
  presNew : Bool            -- OUTVAL has come since the condition of HANDBACK ended (R274)
  drv : Word                -- the value driven
  nom : Word                -- the nominal value the stage is set to (R226)
  deriving DecidableEq, Repr

/-- What is on its way from a link end to Prism (R20, R180, R413): kind 0 a sample, 1 a LOST marker, 2 the first valid
frame after lost ones. -/
structure PrmIn where
  kind : Nat
  ch : Nat                  -- the channel; the Facet for kinds 1 and 2
  val : Word
  q : Nat
  raw : Word                -- FLAGS and code of the sample word (R399)
  t : Int
  deriving DecidableEq, Repr

/-- All Facets. -/
structure FctSt where
  facets : Tab FacetSt
  chans : Tab ChanSt
  own : Tab Word            -- the configuration each Facet holds, by field key
  cals : Tab (Option (Word × Word)) -- the calibration sets each Facet holds
  linkCfg : Bool            -- the link ends hold the committed configuration (R37)
  toPrm : List PrmIn        -- oldest first
  lostEng : Tab (Option Int) -- by Facet, the stamp of the last LOST marker that reached Tangent and the coordinate table (R180)
  engBad : List Nat         -- Facets whose next sample word an error has destroyed in the crossing to CK_ENG (R20, R604)
  deriving DecidableEq, Repr

/-! ### Tangent (spec/08_tangent_loops.md) -/

/-- A request that a loop takes at its next sample, in the order of arrival (R268, R271, R285): kind 0 TAN_MODE,
1 setpoint, 2 TAN_MANOUT, 3 TAN_INJECT, 4 TAN_INJECT_STOP; its value; the item behind it, if it is one; and whether
Locus made it. -/
structure LoopReq where
  kind : Nat
  val : Word
  item : Option (Nat × Word)
  locus : Bool
  deriving DecidableEq, Repr

/-- The state of the law (R262). -/
structure LawSt where
  u1 : Word
  e1 : Word
  yf1 : Word
  yf2 : Word
  ff1 : Word
  deriving DecidableEq, Repr

/-- A capture entry on its way to Prism (R283); `last` tells the end of its injection instead. -/
structure CapIn where
  loop : Nat
  recNo : Word
  t : Int
  inj : Word
  spw : Word
  pv : Word
  drive : Word
  last : Bool
  deriving DecidableEq, Repr

/-- What a loop held before a sample was evaluated, for a result that is discarded (R259); with the registers that show the
last sample, and of TAN_LSTAT the limits that acted. -/
structure LoopUndo where
  law : LawSt
  last : Word
  hasLast : Bool
  init : Bool
  numErr : Bool
  sp : Word
  spw : Word
  sampled : Bool
  outShown : Word
  spShown : Word
  pvShown : Word
  limits : Word
  deriving DecidableEq, Repr

/-- A sample of a loop between its tick and its hand-off (R253 to R259). -/
structure Sample where
  t : Int                   -- the tick instant, 2^-32 ns
  ready : Bool
  x : Word                  -- the input, binary32
  q : Nat
  readyAt : Nat             -- base counter at readiness
  done : Bool               -- evaluated, waiting for the hand-off
  drive : Option Word       -- what the hand-off writes
  undo : Option LoopUndo    -- once evaluated, the state before it (R259)
  cap : Option CapIn        -- the injection it carried (R282, R283)
  deriving DecidableEq, Repr

/-- A running test-signal injection (R280 to R283). -/
structure Inject where
  signal : Nat
  point : Nat
  capture : Bool
  bitlen : Nat
  a : Word
  f0 : Word
  f1 : Word
  ms : Nat
  lfsr : Nat
  bitCnt : Nat
  samples : Nat
  t0 : Int                  -- the time of its first sample
  recNo : Word              -- the Prism record number
  stop : Bool               -- TAN_INJECT_STOP has come: the present sample is the last
  deriving DecidableEq, Repr

/-- A loop slot. -/
structure LoopSt where
  cmd : Nat                 -- commanded mode: 0 none, 1 MANUAL, 2 AUTO, 3 CASCADE
  cmdSrc : Nat              -- what last set it: 0 command, 1 Locus, 3 input, 5 commit
  st : Nat                  -- effective state (R272)
  sp : Word                 -- setpoint target
  spw : Word                -- working setpoint of the last sample
  sampled : Bool            -- it has sampled since it was enabled (R270)
  law : LawSt
  last : Word               -- its last output
  hasLast : Bool
  man : Word                -- MANOUT
  init : Bool               -- R273 runs before the next evaluation
  numErr : Bool             -- an episode of R265 is open
  ecc : Bool                -- its state had an uncorrectable error: the next sample is handled as R265 (R604)
  ramp : Bool               -- a Locus ramp generator targets the loop
  hbAt : Nat                -- base counter at entry into HANDBACK
  reqs : List LoopReq
  samp : Option Sample
  inj : Option Inject
  evLate : Nat              -- misses since the last event 0x21C1
  evNone : Nat
  evAt : Nat                -- base counter at that event, plus 1
  tickN : Nat               -- the last tick served, plus 1
  deriving DecidableEq, Repr

/-- Tangent. -/
structure TanSt where
  loops : Tab LoopSt
  capt : List CapIn         -- oldest first
  deriving DecidableEq, Repr

/-! ### Lattice (spec/10_lattice_logic.md) -/

/-- A timer (R329). -/
structure TimSt where
  et : Nat                  -- us
  q : Bool
  run : Bool
  prev : Bool
  deriving DecidableEq, Repr

/-- A counter (R330). -/
structure CtrSt where
  cv : Word
  cu : Bool
  cd : Bool
  deriving DecidableEq, Repr

/-- An edge detector (R331). -/
structure EdgeSt where
  ep : Bool
  r : Bool
  primed : Bool
  deriving DecidableEq, Repr

/-- The working memory of a program. -/
structure LatMem where
  m : Tab Word              -- markers, 32 to a word
  q : Tab Word              -- output bits, 32 to a word
  tim : Tab TimSt
  ctr : Tab CtrSt
  edge : Tab EdgeSt
  k : Tab Bool              -- comparator results
  kBad : Tab Bool           -- an episode of an unusable comparator source is open (R332)
  deriving DecidableEq, Repr

/-- What carry-over needs of a program (R335, R347): its words to the END, and of each comparator it uses the entry and
the OP. -/
structure LatProg where
  words : List Word
  cmps : List (Nat × Nat × Nat)
  deriving DecidableEq, Repr

/-- Lattice. The published image and the state lie in the registers LAT_MARK, LAT_QIMG, LAT_KIMG and LAT_STATUS. -/
structure LatSt where
  mem : LatMem
  shadow : Option LatMem    -- the shadow memory (R346)
  ran : LatProg             -- the program that built `mem`
  partner : LatProg         -- the partner's committed program
  first : Bool              -- the next scan has FIRST = 1
  carry : Bool              -- a program committed during the stop waits for the carry-over of R345
  lastN : Nat               -- grid index of the last scan, plus 1
  patches : List (Nat × Word) -- ring and SEQ of the waiting patches, oldest first (R340)
  stopReq : Option (Nat × Word) -- the item that stops Lattice (R344)
  startReq : Option (Nat × Word)
  shadowReq : Option (Nat × Word)
  cmpM : Tab Word           -- markers that have differed since shadowing began
  cmpQ : Tab Word
  cmpEp : Bool              -- an episode of differences is open
  snapN : Nat               -- grid index of the scan whose image the last snapshot holds, plus 1
  shImg : Option (Nat × Tab Word × Tab Word) -- the last image of the shadow, not yet compared
  deriving DecidableEq, Repr

/-! ### Arc (spec/12_arc_pwm.md) -/

/-- A generator but for its registers (R378, R387, R392). -/
structure GenSt where
  ctl : List Word           -- the fields in force while it runs, by field ID; empty: the active configuration (R381)
  shPer : Option Nat        -- the pending period shadow
  shCmp : Option (Nat × Nat)
  perItem : Option (Nat × Word) -- the ARC_SET that wrote each shadow
  cmpItem : Option (Nat × Word)
  pcount : Nat              -- 48 bits
  locReq : Bool             -- the Locus enable input as last set; LOC_EN takes it at a boundary
  split : Bool              -- an episode of R380 is open
  full : Bool               -- the present period is full-on (R386)
  prevOn : Bool             -- the reference was on when the present period started
  held : Nat                -- steps that the reference had stood at that level by then
  eOn : Nat                 -- the emitted reference of the present period: on from eOn to eOff
  eOff : Nat
  eFull : Nat               -- the steps of the present period
  phased : Bool             -- a slave whose own period 0 is still to start (R377)
  pre0 : Nat                -- events since the last one each prescaler passed: ZERO, PERIOD, CMPA, CMPB
  pre1 : Nat
  pre2 : Nat
  pre3 : Nat
  armT : Int
  startItem : Option (Nat × Word)
  stopItem : Option (Nat × Word)
  stopAt : Nat              -- a stop at the next boundary: 0 none, 1 by command, 2 by a commit
  resume : Bool             -- ARMED to go on after a takeover (R556)
  deriving DecidableEq, Repr

/-- Arc. -/
structure ArcSt where
  duty : Tab Word           -- the duty that Tangent has handed to a generator, binary32
  gens : Tab GenSt
  deriving DecidableEq, Repr

/-! ### Prism (spec/13_prism_capture.md) -/

/-- The history region of a channel (R398, R399). Slots are numbered from the first since the history was emptied. -/
structure HistCh where
  base : Nat                -- address in DRAM
  slots : Nat
  iv : Nat                  -- INTERVAL, ps
  n : Nat                   -- the number of the next slot
  tLast : Int               -- stamp of the last slot, 2^-32 ns
  hdr : Tab Int             -- stamp of the first slot of each block of 1,024, by block number
  deriving DecidableEq, Repr

/-- What was last emitted of an entry (R402). -/
structure ChgSt where
  has : Bool
  ve : Word
  qe : Nat
  base : Nat                 -- base counter
  deriving DecidableEq, Repr

/-- The open CHANGE entry (R408). -/
structure OpenChg where
  entry : Nat
  val : Word
  q : Nat
  t : Int
  base : Nat                 -- base counter when it was opened
  deriving DecidableEq, Repr

/-- A running reduction (R404, R405); sums in binary64. -/
structure RedSt where
  len : Nat                 -- ms
  idx : Nat                 -- the interval's number, its start divided by its length
  part : Bool
  cnt : Nat
  mn : Fl
  mx : Fl
  sum : Fl
  sq : Fl
  qmax : Nat
  deriving DecidableEq, Repr

/-- A trigger unit's detector, its last firing and its hold-off (R416, R417). -/
structure UnitSt where
  below : Bool
  above : Bool
  known : Bool
  inside : Bool
  prevValid : Bool
  vPrev : Word
  tPrev : Int
  armT : Int                -- T of a TIME unit
  trigT : Int
  supp : Nat                -- conditions suppressed since the firing
  deriving DecidableEq, Repr

/-- A trigger record that has not entered the backlog (R418 to R420). -/
structure RecSt where
  no : Word
  unit : Nat
  trigT : Int
  coinc : Nat
  ch : Nat
  started : Bool            -- the trigger sample has come
  total : Nat               -- N of the record, once it has
  pre : Nat
  short : Bool
  words : List Word         -- slot words, oldest first
  t0 : Int                  -- stamp of the first of them
  iv : Nat
  deriving DecidableEq, Repr

/-- A capture record (R422): each entry its stamp, inj, spw, pv and drive, newest first. -/
structure CapRec where
  loop : Nat
  no : Word
  entries : List (Int × Word × Word × Word × Word)
  trunc : Bool              -- it has been closed at its limit
  dropped : Nat
  dropFirst : Int
  dropLast : Int
  deriving DecidableEq, Repr

/-- The pending GAP entry of the backlog (R412). -/
structure GapAcc where
  t0 : Word × Word
  t1 : Word × Word
  entries : Nat
  vals : Nat
  recs : Nat
  deriving DecidableEq, Repr

/-- A run of lost frames of a Facet (R413). -/
structure LinkRun where
  t0 : Int
  t1 : Int
  n : Nat                   -- frames since the last GAP entry of the run
  deriving DecidableEq, Repr

/-- Prism but for its registers. The backlog and the record buffer lie in DRAM. -/
structure PrmSt where
  hist : Tab (Option HistCh)
  realloc : Bool            -- the history is to be allocated anew once no unit is in COLLECT (R400, R423)
  chg : Tab ChgSt
  opn : Option OpenChg
  red : Tab (Option RedSt)  -- by 4 x entry + k
  bkHead : Nat              -- number of the oldest entry in the backlog, and of the next
  bkTail : Nat
  bkRecs : List (Nat × Nat) -- first entry and length of each record in the backlog
  bkBad : List Nat          -- entries in the backlog that an uncorrectable error has discarded (R604)
  gap : Option GapAcc
  units : Tab UnitSt
  fires : List (Nat × Int)  -- conditions met and not yet acted on: the unit and the instant
  recs : List RecSt
  caps : List CapRec
  kept : List (Word × Nat × Nat) -- kept records, newest first: number, place in the record buffer, bytes
  rbNext : Nat
  runs : Tab (Option LinkRun)
  lostRecs : Nat            -- records lost since Prism stopped (R424)
  offAt : Int               -- when it stopped
  gapOn : Bool              -- PD_ACQ is on again, and its GAP entry waits for the first commit (R413)
  deriving DecidableEq, Repr

/-! ### Locus (spec/09_locus_recipes.md) -/

/-- A track but for its registers. `tn` and `evalN` are tick indexes plus 1. -/
structure TrackSt where
  entry : List Word         -- the four words of the present step, as they were when it started (R318)
  flds : List Word          -- TIMING, ABORT_STEP, HOLD_BIT, ABORT_BIT and VTX_EN in force; empty: as committed (R292)
  held : Nat                -- the state the track was held in (R307)
  next : Nat                -- the step a resume starts after a HOLD successor
  fail : Bool               -- an action failure holds the track at the end of the tick (R297)
  prev : Nat                -- the step before the one that waits for its scheduled commit
  tn : Nat                  -- the tick of its last transition
  evalN : Nat               -- the tick that its elapsed time last counted, plus 1
  cmds : List (Nat × Word)  -- ring and SEQ of the commands that have arrived, oldest first
  deriving DecidableEq, Repr

/-- A counter write or token on its way to step 1 of R289: kind 0 decrement, 1 set, 2 add. -/
structure CntOp where
  kind : Nat
  ctr : Nat
  val : Int
  item : Option (Nat × Word)
  deriving DecidableEq, Repr

/-- A readiness token that waits for its slot (R313). -/
structure PendTok where
  group : Nat
  t : Int
  idx : Nat
  sent : Int
  base : Nat                -- base counter at its arrival
  deriving DecidableEq, Repr

/-- A remote TOKEN that has not been answered (R298): its number, its track, its action and FAILHOLD of its step. -/
structure TokOut where
  no : Nat
  track : Nat
  action : Nat
  failhold : Bool
  deriving DecidableEq, Repr

/-- Locus but for its registers. -/
structure LocSt where
  tracks : Tab TrackSt
  cq : List CntOp           -- oldest first
  born : Tab Nat            -- the tick at which a ramp generator started or thawed, plus 1 (R303, R305)
  slotT : Tab Int           -- T of a schedule slot
  slotPart : Tab (List Nat) -- its participants
  slotDead : List Nat       -- armed slots whose track aborted, was held or disabled after TR (R315)
  pend : List PendTok       -- oldest first, at most 16
  tokens : List TokOut
  tokNo : Nat
  lastN : Nat               -- the last tick served, plus 1
  deriving DecidableEq, Repr

/-! ### CAN FD (spec/15_canfd.md) -/

/-- A frame to transmit (R448): its entry (0 to 63 queue, 64 to 71 expedite slots), its item, payload words 3 and 4, its
data bytes and its failed attempts. -/
structure CanTx where
  entry : Nat
  ring : Nat
  seq : Word
  id : Word
  ctl : Word
  data : List Byte
  fails : Nat
  deriving DecidableEq, Repr

/-- What a receive FIFO of CAN or ETH holds (R453, R472): a frame (`lost` 0) with its words 3 and 4, or a run of `lost`
frames from `seq` to `last`. -/
structure NetRx where
  lost : Nat
  seq : Nat
  last : Nat
  st : Stamp
  id : Word
  info : Word
  data : List Byte
  deriving DecidableEq, Repr

/-- A CAN controller but for its registers. -/
structure CanCtl where
  frames : List CanTx       -- queue and slots, in order of arrival
  att : Option Nat          -- the entry of the attempt in progress
  last : Nat                -- the entry of the last one
  rx : List NetRx           -- the receive FIFO, oldest first
  rxSeq : Nat
  lost : Option NetRx       -- the run of frames that found the FIFO full
  boAt : Nat                -- base counter at bus-off
  deriving DecidableEq, Repr

/-! ### Ethernet (spec/16_ethernet_prp.md) -/

/-- A frame to transmit (R474): its item, the ports it is still to be sent on, those it has been sent on, those it has
started on (masks), its bytes, the stamp of its first copy and its PRP sequence number. -/
structure EthTx where
  ring : Nat
  seq : Word
  left : Nat
  sent : Nat
  started : Nat
  data : List Byte
  st : Stamp
  prp : Option Nat
  deriving DecidableEq, Repr

/-- A port but for its registers. -/
structure EthPort where
  rx : List NetRx           -- the receive FIFO, oldest first
  rxSeq : Nat
  lost : Option NetRx
  deriving DecidableEq, Repr

/-- An entry of the duplicate table (R469): source address, sequence number, base counter when it was made. -/
structure DupEntry where
  src : Nat
  seq : Nat
  base : Nat
  deriving DecidableEq, Repr

/-- A cyclic frame that has not started on every port: its index, the ports left, its PRP sequence number, its bytes. -/
structure CycTx where
  idx : Nat
  left : Nat
  prp : Option Nat
  data : List Byte
  deriving DecidableEq, Repr

/-- Ethernet but for its registers. -/
structure EthSt where
  tx : List EthTx           -- in order of arrival
  ports : Tab EthPort
  dup : List DupEntry       -- oldest first, at most 1,024
  prpSeq : Nat
  cyc : List CycTx
  lateEp : Bool             -- an episode of late cyclic frames is open
  lateN : Nat               -- the cycle count of the mark that dropped the last ones, plus 1
  deriving DecidableEq, Repr

/-! ### Perimeter (spec/20_perimeter_safety.md) -/

/-- A slot of the safety functions (R573 to R575). `st` is 0 OFF, 1 DEMAND, 2 WAIT_RESET, 3 ON, 4 FAULT. -/
structure SafeSlot where
  func : Nat
  pair : Nat                -- the first pair it claims
  width : Nat
  st : Nat
  cause : Nat               -- fault cause
  perm : Bool               -- its function permits
  need : Bool               -- a reset edge is needed before the first ON (R575)
  stop : Bool               -- a stop request has demanded it (R582)
  muting : Bool
  hand : Option Nat         -- when the first hand was actuated
  rel : Bool                -- both hands have been released since
  fPair : Nat               -- the pair of its fault
  fAt : Nat                 -- when the fault was last seen
  clr : Nat                 -- progress of a DISCREPANCY's clearing: 1 demand state seen, 2 permitting since (R586)
  muteAt : Nat              -- when muting started (R574)
  deriving DecidableEq, Repr

/-- The Perimeter die. `state` is 0 unpowered, 1 SELFTEST, 2 CONFIRM, 3 RUN, 4 FAULT. -/
structure PerSt where
  state : Nat
  read : Nat                -- the switch pattern as read
  stored : Nat              -- the pattern in the nonvolatile registers
  pfw : Nat
  runs : Nat
  closed : Nat              -- contacts judged closed: bit 2i SIiA, bit 2i + 1 SIiB
  slots : List SafeSlot
  req : Nat                 -- request bits of the last valid stop-request frame
  act : Nat                 -- request bits acted on
  lost : Option Nat         -- when the stop-request channel was lost
  stuck : Bool              -- RESET_STUCK
  changed : Bool            -- PATTERN_CHG
  flt : Option (Bool × Nat × Nat × Nat) -- the fault PER_FAULT shows: die fault, cause, pair, channels
  cycleAt : Nat             -- base counter at which the test-pulse cycle began, with the supply (R570)
  reqAt : Option Nat        -- when the first frame with the present PER_STOP arrived (R592)
  oddAt : Tab Nat           -- when each pair came into the combination that its type does not allow (R573)
  frameAt : Nat             -- when the last valid stop-request frame arrived (R583)
  viewAt : Nat              -- when the last valid status frame was sent (R588)
  tested : Tab (Option Nat) -- when the last test of each output's switches began (R577)
  deriving DecidableEq, Repr

/-! ### The process as a checkpoint and the mirrored image hold it (R97; spec/19_mirror_pairs.md) -/

/-- An output of the output image: its channel and owner, the owner's value, and its shed and overload state. -/
structure OutImg where
  ch : Nat
  owner : Nat
  own : Word
  ownHas : Bool
  shed : Bool
  ovl : Bool
  deriving DecidableEq, Repr

/-- Tangent, Locus, Lattice, Arc and the outputs. `regs` are the registers of Locus, of Lattice's published image and of
Arc that hold part of it. -/
structure ProcImg where
  loops : Tab LoopSt
  loc : LocSt
  lat : LatMem
  latN : Nat                -- grid index of the last scan, plus 1
  duty : Tab Word
  gens : Tab GenSt
  regs : Tab Word
  outs : List OutImg
  deriving DecidableEq, Repr

/-- A checkpoint (R97): the base counter (none once that counter has started at zero again, R75) and the Meridian time of
its capture, the image ID, the process. -/
structure Checkpoint where
  base : Option Nat
  t : Int
  imageId : Nat
  proc : ProcImg
  deriving DecidableEq, Repr

/-- The mirrored state image (the image table of spec/19): the process, the committed configuration, the intake state of
the shared rings, and the SOFT coordinates; with it the program that Lattice runs. -/
structure Image where
  proc : ProcImg
  cfg : Tab Word
  imageId : Nat
  intake : List IntakeEntry
  fetch : Tab Word          -- recorded fetch index of each shared ring (R122), the index fetched up to, and PI
  ci : Tab Word
  pi : Tab Word
  items : List Inflight     -- oldest first
  jobs : List CfgJob
  refused : List (Nat × Nat × Word)
  soft : List (Nat × CoEntry)
  prog : LatProg
  deriving DecidableEq, Repr

/-! ### Mirror (spec/19_mirror_pairs.md) -/

/-- Mirror but for its registers. -/
structure MirSt where
  partnerState : Nat        -- STATE of the partner's last heartbeat
  vxlRun : Nat              -- consecutive valid heartbeats on each path since it was lost (R545)
  plRun : Nat
  lastVxl : Nat             -- base counter at the last valid heartbeat of each path
  lastPl : Nat
  image : Option Image      -- the image as last applied, on the standby (R548)
  complete : Bool           -- the standby holds a complete image (R550)
  resend : Nat              -- bytes of discarded epochs: to be asked for (standby), asked for (active) (R548)
  resync : Bool             -- the standby asks for a full transfer (R561)
  token : Option (Nat × Nat) -- the switch token and the base counter at its issue (R558)
  switchAt : Int            -- S of the MIR_SWITCH in progress
  hold : Bool               -- from S on: fetching stopped, state held (R558)
  final : Bool              -- the standby has applied the final epoch
  leave : Bool              -- a leave notice started the handover (R559)
  goAt : Option Int         -- the switch instant S2, a time in 2^-32 ns
  waiting : Bool            -- both paths lost: items stay held at their commit points (R549)
  lostAt : Nat              -- base counter when both paths were lost
  transfer : Option Nat     -- base counter at the start of the full transfer in progress (R561)
  sent : Nat                -- epochs of it that have been captured
  rampDown : Option Nat     -- base counter at which this member's outputs began to ramp off (R557, R558)
  rampUp : Option Nat       -- base counter at which they begin to ramp on (R555)
  frameStart : Nat          -- base counter at the frame start that the partner's last heartbeat carried (R555)
  ownFrame : Int            -- the start of this member's last Facet frame, a time in 2^-32 ns (R544)
  ackIdx : Tab Word         -- the fetch index of each ring that the partner has acknowledged (R122)
  idxSent : Tab (Word × Nat) -- the fetch index stated for each ring, and its epoch as in `intent`
  captureAt : Int           -- time of the capture that the last applied epoch holds (R548)
  lagFrom : Int             -- the latest such capture from which on the lag has stayed above LAG_MAX, once it exceeds it (R550)
  arbAt : Nat               -- base counter from which ARB_WAIT counts: the end of the start, or an ACTIVE heartbeat (R540)
  deriving DecidableEq, Repr

/-! ### Start-up, reset and supply (spec/01, 02 and 03) -/

/-- How the module as a whole stands. -/
inductive RunMode where
  /-- Running. -/
  | running
  /-- A cold start has its cause and has not run (R82). -/
  | starting
  /-- A warm restart has run its step 1; it may be held there for a lost clock (R26, R611). -/
  | warming
  /-- STOPPED by the restart limit (R77). -/
  | stopped
  /-- The boot ROM loads no image: BOOT_SEL or ROLE is HALT (R79, R80). -/
  | halt
  /-- RECOVERY: no usable image (R87). -/
  | recovery
  /-- Held in reset after a power-fail (R60). -/
  | powerFail
  /-- Switched off after a thermal shutdown (R66). -/
  | thermalOff
  /-- Held in reset while the Meridian oscillator stays away (R26). -/
  | noTcxo
  /-- Not powered, or PD_AON up and the cold start not yet released (R68). -/
  | unpowered
  deriving DecidableEq, Repr

/-- SYS, CLK and PWR but for their registers. -/
structure SysSt where
  mode : RunMode
  warmBegun : List Nat      -- base counter at the begin of each recent warm restart (R77)
  selfRefresh : Bool        -- the hold-up store still keeps DRAM in self-refresh (R76)
  unlocked : Bool           -- PWR_UNLOCK permits off-transitions (R34)
  rising : List Nat         -- power domains switched on and not yet at power-good (R35)
  falling : List Nat        -- power domains switched off and not yet off
  domCode : Tab Word        -- code of the last switch-off event of each domain (R36)
  domSeq : Tab Word         -- its Helix sequence number
  baseCode : Nat            -- BASE_ID as the contacts read now (R47)
  prevStrap : Nat           -- the strap pattern of the previous cold start (R81)
  gone : Option (Nat × Bool) -- presence is lost: the base counter then, and whether a partner is to take over (R72)
  trialNext : Option Nat    -- the image that SYS_FW_TRIAL selected for the next cold start (R102)
  trialBack : Option Nat    -- the trial image that was not confirmed: the next start tells it (R102)
  restartCause : Nat        -- the cause a held restart will record
  startBase : Nat           -- base counter at the trigger of the last start
  chkPeriodDue : Bool       -- a checkpoint trigger has come and its capture has not (R96)
  chkWriting : Bool         -- a checkpoint write is running (R97)
  ckpt0 : Option Checkpoint -- slots 0 and 1 (R42, R97)
  ckpt1 : Option Checkpoint
  ckptNew : Option Checkpoint -- the capture being written
  redo : List (Nat × Item)  -- opcode and item, oldest first (R90)
  redoNew : Nat             -- how many entries the capture being written covers
  selector : Nat            -- the image that the selector in flash names
  chkCfg : Word             -- SYS_CHKCFG as the last checkpoint trigger took it
  poison : List Nat         -- poisoned DRAM bursts, address / 64 (R604)
  fpErr : Option (Nat × Nat) -- region and address of the fault-path error behind a warm restart (R600)
  lossAt : Tab Nat          -- base counter, plus 1, when each bit of CLK_LOSS was last set (R15)
  hot : Bool                -- a thermal shutdown is in force (R66)
  hotEv : Bool              -- event 0x4042 is owed to the next start (R66)
  oscLost : Bool            -- the Meridian oscillator has been away: a cold start with CAUSE 6 is owed (R26)
  wasStopped : Bool         -- STOPPED when the power failed (R77)
  peakSeen : Bool           -- SYS_TEMP.PEAK holds a value since it was last read (R65)
  sfp : Tab Sfp             -- the transceivers in J4A (0) and J4B (1), as read (R54)
  rmtIntake : List IntakeEntry -- the intake of remote items as the last power-fail wrote it to MRAM (R527)
  imgLen : Nat              -- bytes of the firmware image in DRAM, write-protected (R82), 0 none
  deriving DecidableEq, Repr

/-! ### What leaves the module -/

/-- A message or signal that leaves the module. The list of them in the state is the model's own record: the spec
gives what is sent, and nothing in the module reads the list back. -/
inductive Out where
  /-- The answer of a target to a remote item (R525): the origin, the ring and SEQ, the status and its details, and the
  clamps that the REPORT ring of the item is to tell (R210). -/
  | result (device ring : Nat) (seq : Word) (status : Nat) (details : List Word) (clamps : List Clamp)
  /-- A Vexlink frame sent on a port (R507, R508). -/
  | vxl (port : Nat) (f : Frame)
  /-- A remote item sent to its target (R525): the target and the item's opcode. -/
  | remote (device opcode : Nat) (it : Item)
  /-- The acceptance of a remote item by this module (R525). -/
  | accept (device ring : Nat) (seq : Word)
  /-- A query for a remote item (R526), and the answer to one: 0 NOT_FOUND, 1 APPLIED, 2 NOT_APPLIED, 3 IN_FLIGHT. -/
  | query (device ring : Nat) (seq : Word)
  | answer (device ring : Nat) (seq : Word) (verdict status : Nat)
  /-- A downstream frame of a Facet link, symbols 1 to 124 (R174). -/
  | facet (n : Nat) (bytes : List Byte)
  /-- An upstream frame of a Facet link, symbols 1 to 124 (R175). -/
  | facetUp (n : Nat) (bytes : List Byte)
  /-- A frame that a HART modem sends on a channel, preamble and check byte included (R243). -/
  | hart (ch : Nat) (bytes : List Byte)
  /-- A readiness token of a scheduled commit to another participant (R312): group, T, index and send stamp; and a
  withdraw notice (R315). -/
  | readiness (device group : Nat) (t : Stamp) (idx : Nat) (sent : Stamp)
  | withdraw (device group : Nat) (t : Stamp) (idx : Nat)
  /-- A remote TOKEN of a Locus action (R298): its number, device, counter and count. -/
  | token (no device counter count : Nat)
  /-- A CAN frame sent without error (R450): the controller, payload words 3 and 4 of its item, its data. -/
  | can (c : Nat) (id ctl : Word) (bytes : List Byte)
  /-- An Ethernet frame sent on a port, FCS excluded (R474, R476). -/
  | eth (port : Nat) (bytes : List Byte)
  /-- A heartbeat on a path, 0 Vexlink or 1 PAIRLINK (R544): its four words, and what the spec says it asks for beyond
  them: bytes to be marked again (R548) and a full transfer (R561). -/
  | heartbeat (path : Nat) (ws : List Word) (again : Nat) (resync : Bool)
  /-- A TICK on PAIRLINK at a Facet frame start (R544). -/
  | tick (us : Nat)
  /-- An epoch of the mirrored image (R547): its number, its instant, whether it belongs to a full transfer, ends it, or
  is the final one of a handover, and the image as it stands with it. -/
  | epoch (n : Word) (t : Int) (full last final : Bool) (img : Image)
  /-- A leave notice over PAIRLINK and Vexlink (R70). -/
  | leaveNotice
  /-- A PRP supervision frame sent on both ports (R470). -/
  | prpSup
  /-- The answer to a register read: its BAR0 offset and the word returned (R14). -/
  | read (offset : Nat) (value : Word)
  /-- The answer to a read of BAR2 (R108): its offset and the word returned. -/
  | readBar2 (offset : Nat) (value : Word)
  deriving DecidableEq, Repr

end Machine

end Sys2Proof
end

