-- ==== Sys2Proof/Syntax.lean ====
section
/-! DEFINITION. The commands the module takes (spec/opcode_table.json, one constructor per row). A command is one whole,
indivisible step of the spec's list; its operands name the target and carry what comes from outside the module (a host
write, a received frame, a measured value). -/

namespace Sys2Proof

/-- The commands of the module: one constructor per row of spec/opcode_table.json. -/
inductive Instr where
  /-- REGISTER_WRITE (R14): A write to a register that has no row of its own sets or acts on its fields as its access code states. -/
  | registerWrite (offset : Nat) (value : Word) (host : Bool)
  /-- REGISTER_READ_CLEAR (R16): A read of a register with RC fields returns their values and then clears them without losing a coinciding hardware update. -/
  | registerReadClear (offset : Nat)
  /-- MALFORMED_ACCESS (R108): A register or doorbell access of wrong width, alignment or target is discarded, counted in HIF_BADCNT and captured once in HIF_BADACC. -/
  | malformedAccess (acc : BarAccess) (offset : Nat)
  /-- OFF_DOMAIN_ACCESS (R19): A register access to a block whose power domain is off reads zero or is discarded, is captured in PWR_OFFACC and logs event 0x24C1. -/
  | offDomainAccess (offset : Nat)
  /-- CLOCK_LOSS (R26): Loss of a clock domain sets CLK_LOSS, logs 0x4500 plus the domain and triggers the domain's action: restart, Arc inactive, hold in reset or interface down. -/
  | clockLoss (mask : Nat)
  /-- CLOCK_RESTORED (R611): A lost domain's PLL relocks or reference returns, PRESENT sets and a warm restart held at its step 1 continues once all five core domains are present. -/
  | clockRestored (n : Nat)
  /-- TCXO_RETURN (R26): The Meridian oscillator returns after a CK_TIME loss and the module cold-starts with CAUSE = 6. -/
  | tcxoReturn
  /-- PWR_UNLOCK_WRITE (R34): Writing 0x0A55 to PWR_UNLOCK permits off-transitions for 1 ms; any other value cancels the permission. -/
  | pwrUnlockWrite (value : Word)
  /-- PWR_UNLOCK_EXPIRY (R34): The 1 ms off-transition permission of PWR_UNLOCK ends. -/
  | pwrUnlockExpiry
  /-- PWR_CTRL_WRITE (R33): A PWR_CTRL write is checked for BUSY, LOCKED, DEPENDENCY, PAIR_ACTIVE and HOST_PATH and, if accepted, switches domains in dependency order. -/
  | pwrCtrlWrite (value : Word) (host : Bool)
  /-- DOMAIN_POWER_GOOD (R35): A switched-on domain reaches power-good, its blocks leave reset at their reset values and PWR_STATUS.UP sets. -/
  | domainPowerGood (n : Nat)
  /-- DOMAIN_OFF_COMPLETE (R35): A switched-off domain is actually off and PWR_STATUS.UP clears; queued descriptors for it complete FAILED_TARGET_ABSENT. -/
  | domainOffComplete (n : Nat)
  /-- POWER_GOOD_LOST (R38): Power-good is lost in a switched domain that was on, logging 0x44C0 as a severity-3 fault and restarting or taking the interface down per R75. -/
  | powerGoodLost (n : Nat)
  /-- BASE_ID_CHANGE (R47): A change of the base coding contacts while running logs event 0x2047 and keeps the cold-start interpretation. -/
  | baseIdChange (code : Nat)
  /-- LS_SAG (R60): LS below 19.2 V for 1 ms logs event 0x2043. -/
  | lsSag (volt : Nat)
  /-- POWER_FAIL (R60): LS below 17.0 V for 10 ms logs 0x4044, writes a checkpoint from the hold-up store and holds the module in reset. -/
  | powerFail (volt : Nat)
  /-- SELF_REFRESH_LOST (R76): The DRAM self-refresh hold-up store runs out after a power-fail, so the next start will be cold with CAUSE = 3. -/
  | selfRefreshLost
  /-- POWER_RELEASE (R76): LS has stayed at 19.2 V or more for 100 ms after power-on or a power-fail and the supervisor releases a warm or cold start. -/
  | powerRelease (volt : Nat)
  /-- HOT_INSERTION (R68): Contacts mate on insertion, LS ramps, PD_AON starts and the Facets power their isolated stages with every channel OFF. -/
  | hotInsertion (base : Nat)
  /-- PRESENCE_SETTLED (R68): Both presence contacts have stayed mated for 100 ms and the supervisor releases the cold start. -/
  | presenceSettled
  /-- SRST_RELEASE (R75): SRST_N on J8 held low for 1 µs or longer is released and a cold start with CAUSE = 1 begins. -/
  | srstRelease
  /-- TEMP_WARN (R66): The Nimurec junction exceeds SYS_TEMP.TEMP_WARN and event 0x2040 is logged. -/
  | tempWarn (temps : Temps)
  /-- TEMP_CRITICAL (R66): The junction exceeds 115 °C and severity-3 event 0x4041 is logged with no further action. -/
  | tempCritical (temps : Temps)
  /-- THERMAL_SHUTDOWN (R66): At 125 °C the supervisor switches off every domain except PD_AON and PD_SAFE. -/
  | thermalShutdown (temps : Temps)
  /-- THERMAL_RECOVERY (R66): After a thermal shutdown the junction falls below 100 °C and the module cold-starts, logging 0x4042. -/
  | thermalRecovery (temps : Temps)
  /-- LEVER_OPEN (R70): Opening the extraction lever sets SYS_HWSTAT.LATCH and logs event 0x0045, with no other action. -/
  | leverOpen
  /-- LEVER_CLOSE (R68): Closing the extraction lever clears SYS_HWSTAT.LATCH. -/
  | leverClose
  /-- PRESENCE_CONTACT_LOST (R71): Loss of one presence contact alone logs event 0x0046 with the contact as instance and nothing else. -/
  | presenceContactLost (contact : Nat)
  /-- PRESENCE_LOST (R72): Both presence contacts read 0 for 5 µs and the module sends its leave notice to the partner within 10 µs. -/
  | presenceLost
  /-- REMOVAL_OUTPUTS_OFF (R72): After partner takeover confirmation or 100 µs from presence loss, the module commands every Facet output off and logs 0x0046. -/
  | removalOutputsOff
  /-- COLD_START (R82): A cold start samples straps, trains DRAM, loads and checks an image, enumerates and calibrates Facets, commits the stored configuration and hands outputs to owners. -/
  | coldStart (cause : Nat) (straps : Nat) (links : List (Nat × Nat)) (env : StartEnv)
  /-- WARM_RESTART (R95): A warm-restart trigger stops frames, Arc and heartbeats, restarts cores and engines, reloads configuration, restores the checkpoint and redo list and hands outputs back. -/
  | warmRestart (cause : Nat) (links : List (Nat × Nat)) (env : WarmEnv)
  /-- SYS_RESET_WARM (R75): SYS_RESET with the key and TYPE = WARM takes a checkpoint and starts a warm restart with CAUSE = 8. -/
  | sysResetWarm (value : Word)
  /-- SYS_RESET_COLD (R75): SYS_RESET with the key and TYPE = COLD starts a cold start with CAUSE = 2. -/
  | sysResetCold (value : Word)
  /-- CHECKPOINT_PERIOD (R96): The SYS_CHKCFG.PERIOD interval expires and a checkpoint capture becomes due. -/
  | checkpointPeriod
  /-- CHECKPOINT_CAPTURE (R97): A due checkpoint is captured in one CK_ENG cycle at a Locus tick and its MRAM write starts, or is left pending while a write runs. -/
  | checkpointCapture
  /-- CHECKPOINT_WRITE_DONE (R97): A checkpoint MRAM write ends with its validity marker, clearing covered redo entries and taking any pending capture. -/
  | checkpointWriteDone
  /-- TRIAL_TIMEOUT (R102): No SYS_FW_CONFIRM arrives within 60 s of a trial start's step 11 and the module cold-starts into the previous image, logging 0x4050. -/
  | trialTimeout
  /-- SYS_FW_WRITE (R101): Writes a block of firmware into the image not running, rejecting writes to the running image. -/
  | sysFwWrite (it : Item)
  /-- SYS_FW_VERIFY (R101): Computes an image's SHA-256 digest and compares it with its header, completing FAILED_FAULT on mismatch. -/
  | sysFwVerify (it : Item)
  /-- SYS_FW_TRIAL (R102): Selects an image to run once as a trial at the next cold start. -/
  | sysFwTrial (it : Item)
  /-- SYS_FW_CONFIRM (R102): Confirms the running trial image as the selector's image. -/
  | sysFwConfirm (it : Item)
  /-- PCIE_LINK_UP (R140): The PCI Express link comes up, logs event 0x0080 and FLT raises the vectors of presented entries again. -/
  | pcieLinkUp (speed : Nat) (width : Nat)
  /-- PCIE_LINK_DOWN (R107): Link loss or PERST_N stops all host rings, clears their ENABLE, discards unwritten completions and logs 0x2081. -/
  | pcieLinkDown
  /-- RING_ENABLE (R111): A write setting a ring's ENABLE is checked for size, alignment, window, binding and vector and, if accepted, zeroes its indices. -/
  | ringEnable (ring : Nat) (value : Word)
  /-- RING_DISABLE (R112): A write clearing a ring's ENABLE stops fetching, or is refused with BINDING for a bound module-to-host ring. -/
  | ringDisable (ring : Nat)
  /-- SQ_DOORBELL (R115): A submission doorbell write advances PI, is ignored as a backstep or puts the ring into ERROR with OVERRUN. -/
  | sqDoorbell (ring : Nat) (value : Word)
  /-- CQ_DOORBELL (R116): A completion-side doorbell write advances the consumer index or is ignored as a backstep. -/
  | cqDoorbell (m : Nat) (value : Word)
  /-- DESCRIPTOR_FETCH (R118): Once intake room and a completion slot exist, a descriptor is fetched by priority, logged in the intake log, mirrored if needed and checked. -/
  | descriptorFetch
  /-- CQ_COALESCE_TIMEOUT (R131): The oldest unsignalled entry of a module-to-host ring has waited TIME µs and the ring raises its vector. -/
  | cqCoalesceTimeout (m : Nat)
  /-- REPORT_ROOM_RESUME (R130): A full REPORT ring gains room and waiting clamp-report entries and the completions behind them are written. -/
  | reportRoomResume (m : Nat)
  /-- HOST_DMA_ERROR (R139): A host memory error on a fetch or write puts the ring into ERROR with ERR = DMA and logs 0x2082. -/
  | hostDmaError (ring : Nat)
  /-- HIF_NOP (R124): A no-operation item that completes DONE. -/
  | hifNop (it : Item)
  /-- HIF_ABORT (R125): Aborts a target item that has not reached its commit point, completing it ABORTED_BY_HOST. -/
  | hifAbort (it : Item)
  /-- HIF_QUERY (R132): Returns from the intake log whether an item is APPLIED, NOT_APPLIED, IN_FLIGHT or NOT_FOUND. -/
  | hifQuery (it : Item)
  /-- CFG_STAGE (R143): Stages up to five scalar field values in the staging area after format and space checks. -/
  | cfgStage (it : Item)
  /-- CFG_STAGE_TABLE (R143): Stages table elements from a buffer in the staging area after format and space checks. -/
  | cfgStageTable (it : Item)
  /-- CFG_DATA_WRITE (R143): A CFG_DATA write stages the value named by CFG_SEL and CFG_FIELD, or is discarded and sets REGERR. -/
  | cfgDataWrite (value : Word)
  /-- CFG_VALIDATE_COMMIT (R148): Moves the named blocks' staged fields into the item, runs the four validation passes, writes clamp reports and writes the journal entry or rejects. -/
  | cfgValidateCommit (it : Item)
  /-- CFG_DRY_RUN (R155): A CFG_VALIDATE_COMMIT with DRY_RUN runs all passes and writes reports but applies nothing and returns the fields to staging. -/
  | cfgDryRun (it : Item)
  /-- CFG_JOURNAL_WRITTEN (R157): The item's journal entry is written to MRAM and mirrored, so the item reaches its commit point and the image ID increments. -/
  | cfgJournalWritten (ring : Nat) (seq : Word)
  /-- BLOCK_VALUES_TAKEN (R158): A block takes a committed item's values at its own commit point and the item completes once the last block has taken them. -/
  | blockValuesTaken (ring : Nat) (seq : Word) (block : Nat)
  /-- CFG_DISCARD (R143): Discards the staged fields of the blocks named in the mask. -/
  | cfgDiscard (it : Item)
  /-- CFG_READ (R142): Returns a field's active and staged values. -/
  | cfgRead (it : Item)
  /-- CFG_PERSIST (R165): Enters the present active values, including direct writes, into the committed image and increments the image ID. -/
  | cfgPersist (it : Item)
  /-- CFG_IMAGE_EXPORT (R142): Copies the committed configuration image to a buffer. -/
  | cfgImageExport (it : Item)
  /-- CFG_IMAGE_IMPORT (R142): Stages the fields of an image from a buffer without applying them. -/
  | cfgImageImport (it : Item)
  /-- FULL_IMAGE_WRITTEN (R167): A background full configuration image write completes with its marker, a new journal starts and event 0x10C3 is logged. -/
  | fullImageWritten
  /-- TAN_GAIN_WRITE (R279): A direct write to a TAN_GAIN window entry changes one active breakpoint or gain of loop TAN_GSEL.LOOP, clamping or replacing NaN. -/
  | tanGainWrite (t : Nat) (i : Nat) (value : Word)
  /-- TAN_KFF_WRITE (R279): A direct write to TAN_KFF changes a loop's active feedforward gain. -/
  | tanKffWrite (l : Nat) (value : Word)
  /-- TAN_DFILT_WRITE (R279): A direct write to TAN_DFILT changes a loop's active derivative filter coefficient. -/
  | tanDfiltWrite (l : Nat) (value : Word)
  /-- ARC_BOOT_WRITE (R381): A direct write to ARC_BOOT changes BSN and BSW from the next period boundary. -/
  | arcBootWrite (g : Nat) (value : Word)
  /-- ARC_IRQDIV_WRITE (R381): A direct write to ARC_IRQDIV changes the four event prescalers from the next period boundary. -/
  | arcIrqdivWrite (g : Nat) (value : Word)
  /-- FCT_DITHR_WRITE (R183): A direct write to FCT_DITHR sends the DI threshold and hysteresis to the Facet alone with APPLY in the next frame. -/
  | fctDithrWrite (ch : Nat) (value : Word)
  /-- FCT_DEBOUNCE_WRITE (R183): A direct write to FCT_DEBOUNCE sends the DI debounce time to the Facet alone with APPLY in the next frame. -/
  | fctDebounceWrite (ch : Nat) (value : Word)
  /-- FCT_SPOT_SEL_WRITE (R225): A direct write to FCT_SPOT_SEL selects the channel shown in FCT_SPOT from the next upstream frame. -/
  | fctSpotSelWrite (n : Nat) (value : Word)
  /-- FACET_FRAME_TICK (R174): Every 1 µs the link end composes and sends a downstream frame with gated owner values, fallback setpoints, configuration chunks and commands. -/
  | facetFrameTick (n : Nat)
  /-- DOWNSTREAM_FRAME_RX (R179): A Facet takes a downstream frame, restarting FCT_WDT and applying outputs, APPLY, ABORT and commands if valid, or ignoring it if not. -/
  | downstreamFrameRx (n : Nat) (sof : Bool) (codeErr : Bool) (bytes : List Byte) (x : FieldFrame)
  /-- UPSTREAM_FRAME_RX (R175): The link end takes an upstream frame, stamps and forwards its samples, DI, PI and status, or passes a LOST marker for an invalid frame. -/
  | upstreamFrameRx (n : Nat) (sof : Bool) (codeErr : Bool) (bytes : List Byte)
  /-- FACET_LINK_DOWN (R181): Eight consecutive invalid upstream frames or 8 µs without a comma declare the link DOWN, mark inputs BAD, log 0x4481 and restart training. -/
  | facetLinkDown (n : Nat)
  /-- FACET_LINK_UP (R181): Training completes after 16 valid frames each way, the propagation delay is measured and event 0x0480 is logged. -/
  | facetLinkUp (n : Nat) (delay : Nat)
  /-- PERIM_OFF_LINE (R172): The Perimeter all-outputs-off line becomes active at a Facet, which turns every output off within 20 µs and reports PERIM_OFF. -/
  | perimOffLine (n : Nat)
  /-- PERIM_OFF_RELEASE (R172): The all-outputs-off line releases and each output returns to its next precedence entry at the next frame boundary. -/
  | perimOffRelease (n : Nat)
  /-- FACET_WDT_EXPIRY (R185): FCT_WDT expires without a valid frame, every output enters its safe state, fallback slots start and event 0x2483 is logged. -/
  | facetWdtExpiry (n : Nat) (ins : List (Option Word))
  /-- FALLBACK_EVAL (R188): Every 1 ms a running fallback slot evaluates its PI law and drives its output, or holds it when its input is flagged. -/
  | fallbackEval (n : Nat) (slot : Nat) (inp : Option Word)
  /-- FALLBACK_EXPIRY (R190): A fallback slot has run for FCT_FBMAX, stops and applies its output's safe state, logging 0x2485. -/
  | fallbackExpiry (n : Nat) (slot : Nat)
  /-- PAIR_RELEASE_RAMP (R553): Under the pair variant, no valid frame for D_R ramps each AO_I output to 0 mA over 40 µs and opens DO at the ramp's end. -/
  | pairReleaseRamp (n : Nat)
  /-- DI_CHANGE (R197): A DI comparator state held for DI_DEBOUNCE becomes the debounced state, producing a stamped sample, a Vertex source and optionally event 0x0490. -/
  | diChange (ch : Nat) (level : DiLevel) (st : Stamp)
  /-- DO_OVERLOAD (R198): A DO output held at its current limit for 2 ms switches off, sets OVERLOAD and logs 0x348C. -/
  | doOverload (ch : Nat)
  /-- DO_RETRY (R198): With DO_RETRY, an overloaded output switches on again once its selected value is on at least 100 ms after switch-off, logging 0x048B. -/
  | doRetry (ch : Nat)
  /-- DO_TOTAL_OVERLOAD (R199): A Facet's total DO current above 4.0 A for 2 ms starts shedding outputs in shed order. -/
  | doTotalOverload (n : Nat)
  /-- DO_TOTAL_SHED_NEXT (R199): Each 1 ms of the sequence switches off the next output until the total is at or below 4.0 A, then logs 0x348D. -/
  | doTotalShedNext (n : Nat) (still : Bool)
  /-- DO_MISMATCH (R200): A DO readback that disagrees with the driven value for 1 ms sets MISMATCH and logs 0x248E. -/
  | doMismatch (ch : Nat) (mv : Int) (limited : Bool)
  /-- DO_MISMATCH_CLEAR (R200): MISMATCH clears after 1 ms of agreement between driven value and readback. -/
  | doMismatchClear (sig : ChanVolt)
  /-- SUP_WARN (R201): A Facet's supply below 19.2 V for 1 ms sets SUP_WARN and logs 0x2487. -/
  | supWarn (n : Nat) (volt : Nat)
  /-- SUP_LOW (R201): A Facet's supply below 15.0 V for 2 ms sets SUP_LOW, logs 0x3488 and starts a shed sequence. -/
  | supLow (n : Nat) (volt : Nat)
  /-- SHED_GROUP_INSTANT (R202): At T + g ms a shed group is shed if the supply is still below 15.0 V, otherwise the sequence ends. -/
  | shedGroupInstant (n : Nat) (volt : Nat)
  /-- SHED_RESTART (R202): The supply stays below 15.0 V for 2 ms while SUP_LOW is set and a new sequence starts at the lowest unshed group. -/
  | shedRestart (n : Nat) (volt : Nat)
  /-- SUP_RECOVERED (R201): The supply stays at or above 19.2 V for 50 ms, SUP_WARN and SUP_LOW clear and event 0x048A is logged. -/
  | supRecovered (n : Nat) (volt : Nat)
  /-- AUTO_RESTORE_GROUP (R203): Once the supply flags clear, shed and overloaded outputs with AUTO_RESTORE are restored one group per 1 ms. -/
  | autoRestoreGroup (n : Nat)
  /-- FACET_SUPPLY_RESET (R204): A Facet's supply below 12.0 V resets the Facet, losing its configuration, and logs 0x448F. -/
  | facetSupplyReset (n : Nat)
  /-- FACET_POWER_UP (R204): A Facet's supply rises above 15.0 V and it starts with every channel OFF and RESTARTED set for retraining, configuration and FCT_CAL. -/
  | facetPowerUp (n : Nat)
  /-- PI_GATE_END (R207): At the end of each PI_GATE the link end produces a count or frequency sample stamped at the gate end. -/
  | piGateEnd (ch : Nat)
  /-- FCT_OUTPUT (R210): Sets the host-owned value of an output from the next frame, clamping AO values to range. -/
  | fctOutput (it : Item)
  /-- FCT_RESTORE (R203): Restores shed and overloaded outputs of a Facet named in the mask, refused while SUP_LOW is set. -/
  | fctRestore (it : Item)
  /-- FCT_PICLEAR (R206): Sets a PI channel's FCT_PICOUNT to zero. -/
  | fctPiclear (it : Item)
  /-- SLICE_CORRECTION (R213): Background correction updates a slice's offset, gain and skew factors by bounded amounts, flagging LIMIT at a field limit. -/
  | sliceCorrection (n : Nat) (slice : Nat) (dOff : Int) (dGain : Int) (dSkew : Int)
  /-- FCT_CAL (R214): Starts calibration of each slice and the test DAC, holding every analog input of the Facet for 38 ms. -/
  | fctCal (it : Item)
  /-- FCT_CAL_DONE (R215): FCT_CAL ends, replacing the slice factors or, on an out-of-range factor, keeping the old ones with FAIL and event 0x4492. -/
  | fctCalDone (n : Nat) (found : CalFound)
  /-- FCT_DIAG_PATH (R232): Starts a PATH diagnosis that connects the test DAC to the converter at levels A and B. -/
  | fctDiagPath (it : Item)
  /-- FCT_DIAG_WIRE (R233): Starts a WIRE diagnosis that injects levels A and B into SIG through 100 kΩ on an AI_V channel. -/
  | fctDiagWire (it : Item)
  /-- DIAG_DONE (R234): A diagnosis ends with a verdict and means in the completion, logging 0x249A for any verdict but PASS, or ends aborted by link loss. -/
  | diagDone (n : Nat) (mA : Word) (mB : Word)
  /-- FCT_CALSET_READ (R250): Copies a channel's calibration record for one range to a buffer. -/
  | fctCalsetRead (it : Item)
  /-- FCT_CALSET_WRITE (R229): With the key, overwrites a calibration record as USER and sends it to the Facet, logging 0x1499. -/
  | fctCalsetWrite (it : Item)
  /-- FCT_TRIMDRIVE (R230): Drives a host-owned output at nominal point p1 or p2 with no correction applied. -/
  | fctTrimdrive (it : Item)
  /-- FCT_TRIMDRIVE_RELEASE (R230): FCT_TRIMDRIVE with POINT = 2 ends the trim and returns the output to its owner's value at the next frame. -/
  | fctTrimdriveRelease (it : Item)
  /-- FCT_HART (R243): Sends a HART request through the Facet's modem, with CLOSE only after the intake log and mirror hold the item. -/
  | fctHart (it : Item)
  /-- HART_REPLY (R243): A HART reply reaches the reply buffer and the item completes with its length and check status. -/
  | hartReply (n : Nat) (bytes : List Byte) (clean : Bool)
  /-- HART_REPLY_TIMEOUT (R243): No reply arrives within HART_RTMO and the item completes NO_REPLY. -/
  | hartReplyTimeout (n : Nat)
  /-- HART_TX_TIMEOUT (R244): A HART frame without CLOSE ends without a check byte after 20 ms without a byte or at safe-state entry. -/
  | hartTxTimeout (n : Nat)
  /-- HART_UNSOLICITED (R245): A HART frame received with no transaction waiting is counted in UNSOL and discarded. -/
  | hartUnsolicited (n : Nat)
  /-- AI_OPEN_DETECT (R236): With AI_OPENDET, an input beyond its open threshold for 10 ms sets OPEN and logs 0x2494. -/
  | aiOpenDetect (m : ChanMeas)
  /-- AI_OPEN_CLEAR (R236): An input back within its open threshold for 10 ms clears OPEN. -/
  | aiOpenClear (m : ChanMeas)
  /-- AO_COMPLIANCE (R238): A current output at its 27 V ceiling and short of its command for 1 ms sets COMPLIANCE and logs 0x2495. -/
  | aoCompliance (ch : Nat) (meas : Word) (need : Nat)
  /-- AO_OPEN (R239): A current output commanded at least 1.0 mA but measuring below 0.2 mA for 5 ms sets OPEN and logs 0x2497. -/
  | aoOpen (m : ChanMeas)
  /-- AO_THERMAL_STEP (R240): Every 10 ms a stage above 150 °C lowers, or below 140 °C raises, its current limit by 2 mA, setting THERMAL and switching off at 175 °C. -/
  | aoThermalStep (ch : Nat) (stage : StageHeat)
  /-- AO_V_OVERLOAD (R241): An AO_V output held at its current limit for 2 ms sets OVERLOAD and logs 0x2498. -/
  | aoVOverload (ch : Nat)
  /-- LOOP_TICK (R253): At a 5 µs Tangent tick each enabled loop whose phase matches takes a sample, becoming ready at once for a COORD input. -/
  | loopTick
  /-- LOOP_READY (R255): The first sample of a LOCAL input at or after the tick reaches Tangent and the loop becomes ready. -/
  | loopReady (l : Nat)
  /-- LOOP_EVALUATION (R262): A ready loop takes a free evaluation unit by priority and runs the part of its law that its state calls for. -/
  | loopEvaluation
  /-- LOOP_RESULT_HANDOFF (R258): An evaluation's result is handed to its Facet, Arc or inner-loop destination after its 100 ns. -/
  | loopResultHandoff (l : Nat)
  /-- LOOP_DEADLINE_MISS (R259): A sample's deadline passes before readiness or hand-off, so the output and state stay, MISS sets and the cause counter increments. -/
  | loopDeadlineMiss (l : Nat)
  /-- TAN_MODE (R271): Sets a loop's commanded mode from its next sample. -/
  | tanMode (it : Item)
  /-- TAN_SETPOINT (R268): Replaces a loop's setpoint target, clamped to its limits, unless the loop is in CASCADE or ramped. -/
  | tanSetpoint (it : Item)
  /-- TAN_MANOUT (R276): Sets a MANUAL loop's manual output, clamped to its output limits. -/
  | tanManout (it : Item)
  /-- TAN_INJECT (R282): Starts a loop's test-signal injection at a chosen point, optionally with Prism capture. -/
  | tanInject (it : Item)
  /-- TAN_INJECT_STOP (R282): Ends a running injection. -/
  | tanInjectStop (it : Item)
  /-- LOCUS_TICK (R289): At each 100 µs tick Locus applies counter writes, reads markers, processes tracks, advances ramps and raises events. -/
  | locusTick
  /-- STEP_TIMEOUT (R293): A step's DURATION count expires, meeting its duration term or, with LIMIT, selecting the timeout successor. -/
  | stepTimeout (t : Nat)
  /-- SCHED_SLOT_FIRE (R314): At tick T an armed slot starts its step if all readiness tokens are held, otherwise fails and holds the track. -/
  | schedSlotFire (k : Nat)
  /-- READINESS_TOKEN_RX (R313): A received readiness token sent no later than TR sets the sender's bit in the matching slot or waits in the pending list. -/
  | readinessTokenRx (grp : Nat) (t : Stamp) (idx : Nat) (sent : Stamp)
  /-- PENDING_TOKEN_EXPIRY (R313): A readiness token waiting in the pending list for 1 s is discarded. -/
  | pendingTokenExpiry
  /-- WITHDRAW_NOTICE_RX (R315): A received withdraw notice clears the sender's bit in the matching slot. -/
  | withdrawNoticeRx (grp : Nat) (t : Stamp) (idx : Nat)
  /-- REMOTE_TOKEN_OUTCOME (R298): The outcome of a remote TOKEN returns to the sending Locus, which treats any status but DONE as an action failure. -/
  | remoteTokenOutcome (no : Nat) (status : Nat)
  /-- LOC_START (R320): Starts a step on an IDLE, ENDED or ABORTED track, or enters WAIT_SCHED for a SCHED step. -/
  | locStart (it : Item)
  /-- LOC_HOLD (R306): Holds a running track with HOLD_CAUSE COMMAND. -/
  | locHold (it : Item)
  /-- LOC_RESUME (R307): Returns a HELD track to RUN or WAIT_SCHED, or starts NEXT after a HOLD successor. -/
  | locResume (it : Item)
  /-- LOC_ABORT (R308): Aborts a track, stopping its ramps and withdrawing its slot, and starts its abort chain or makes it ABORTED. -/
  | locAbort (it : Item)
  /-- LOC_JUMP (R310): Ends a track's present step and starts the named step at the next tick. -/
  | locJump (it : Item)
  /-- LOC_RESET (R310): Takes a HELD, ENDED or ABORTED track to IDLE with its generators stopped. -/
  | locReset (it : Item)
  /-- LOC_TOKEN (R301): Decrements a dependence counter at the next tick. -/
  | locToken (it : Item)
  /-- LOC_COUNTER_SET (R301): LOC_COUNTER with SET sets a dependence counter at the next tick. -/
  | locCounterSet (it : Item)
  /-- LOC_COUNTER_ADD (R301): LOC_COUNTER with ADD adds to a dependence counter at the next tick. -/
  | locCounterAdd (it : Item)
  /-- LOC_SCHED_ARM (R312): Checks readiness, arms a schedule slot and sends a readiness token to every other participant. -/
  | locSchedArm (it : Item)
  /-- LOC_SCHED_CANCEL (R315): Withdraws an armed slot before TR and sends withdraw notices. -/
  | locSchedCancel (it : Item)
  /-- LATTICE_SCAN (R323): At a scan grid tick Lattice latches inputs, applies one patch, executes the program and publishes markers, gates, outputs and stop lines. -/
  | latticeScan
  /-- LAT_TIMER_EXPIRY (R329): A Lattice timer's elapsed time reaches its preset at its instruction, setting or clearing its Q. -/
  | latTimerExpiry (n : Nat) (acc : Bool)
  /-- LAT_PATCH (R340): Queues one value change that takes effect at a scan start, one per scan. -/
  | latPatch (it : Item)
  /-- LAT_STOP (R344): Requests that Lattice stop in FREEZE or SAFE mode at the next scan boundary. -/
  | latStop (it : Item)
  /-- LAT_STOP_BOUNDARY (R344): At the scan boundary after LAT_STOP, Lattice enters STOPPED and publishes the frozen or SAFE image. -/
  | latStopBoundary
  /-- LAT_START (R345): Takes a STOPPED Lattice to RUN at the next scan boundary with carry-over for a new program. -/
  | latStart (it : Item)
  /-- LAT_SHADOW_START (R346): LAT_SHADOW with 1 copies the snapshot memory into a shadow and enters SHADOW on a SYNCED standby with a differing program. -/
  | latShadowStart (it : Item)
  /-- LAT_SHADOW_STOP (R346): LAT_SHADOW with 0 returns Lattice from SHADOW to FOLLOW. -/
  | latShadowStop (it : Item)
  /-- LAT_CMP_READ (R350): Writes the bitmap of marker and output addresses that differed in shadowing, with the compare counts. -/
  | latCmpRead (it : Item)
  /-- VERTEX_EVENT (R355): A source event becomes a work item in its queue with its flow, or is counted as lost or unmapped. -/
  | vertexEvent (source : Nat) (inst : Nat) (code : Nat) (param : Word) (st : Stamp)
  /-- DEP_RELEASE (R357): A DEP queue whose counter has reached zero or below releases its head item and rearms the counter. -/
  | depRelease (queue : Nat)
  /-- VERTEX_DISPATCH (R363): An eligible item is written to the chosen core's dispatch ring with its shadow producer index. -/
  | vertexDispatch
  /-- VTX_CORE_DONE (R366): A write of a handle finishes the matching in-service item, releasing its flow and optionally decrementing successor DEP queues. -/
  | vtxCoreDone (core : Nat) (value : Word)
  /-- VTX_CORE_RAISE (R369): A core raises a software source 144–255 with its own RPARAM and RCODE. -/
  | vtxCoreRaise (core : Nat) (source : Nat)
  /-- VTX_CORE_ENABLE (R365): Setting VTX_CORE_CTRL.ENABLE checks and enables a core's dispatch ring. -/
  | vtxCoreEnable (core : Nat) (value : Word)
  /-- VTX_CORE_DISABLE (R367): Clearing ENABLE stops dispatch to the core at once. -/
  | vtxCoreDisable (core : Nat)
  /-- VTX_CORE_FLUSH (R367): FLUSH finishes every item in service on the core without decrement and logs 0x2184. -/
  | vtxCoreFlush (core : Nat)
  /-- VTX_CORE_CI_WRITE (R368): A core writes its consumer index, deasserting its interrupt line once it equals the producer index. -/
  | vtxCoreCiWrite (core : Nat) (value : Word)
  /-- VTX_COALESCE_TIMEOUT (R368): The oldest unsignalled dispatch entry has waited TIME µs and the core's line is asserted. -/
  | vtxCoalesceTimeout (core : Nat)
  /-- VTX_POST (R372): Raises a software source with the given code, instance and parameter. -/
  | vtxPost (it : Item)
  /-- VTX_SIGNAL (R358): Adds a signed value to a DEP queue's counter. -/
  | vtxSignal (it : Item)
  /-- ARC_PERIOD_BOUNDARY (R379): At a generator's period boundary shadows transfer, duties become compares, pending enables take effect and the new period starts. -/
  | arcPeriodBoundary (g : Nat)
  /-- ARC_EDGE_EVENT (R392): A CMPA or CMPB edge of the emitted reference raises its prescaled event to Vertex and Prism. -/
  | arcEdgeEvent (g : Nat) (off : Bool)
  /-- ARC_SET (R378): Writes a generator's period shadow, compare shadow or both, waiting if a shadow it writes is still pending. -/
  | arcSet (it : Item)
  /-- ARC_START_NOW (R387): Starts a generator's period 0 at the next tick. -/
  | arcStartNow (it : Item)
  /-- ARC_START_AT (R387): Arms a generator to start period 0 at Meridian time T. -/
  | arcStartAt (it : Item)
  /-- ARC_ARMED_START (R387): Meridian time reaches an armed generator's T and period 0 starts. -/
  | arcArmedStart (g : Nat)
  /-- ARC_STOP_AT_END (R395): Stops a generator at the end of its period. -/
  | arcStopAtEnd (it : Item)
  /-- ARC_STOP_NOW (R395): Stops a generator immediately. -/
  | arcStopNow (it : Item)
  /-- ARC_CLEAR (R391): Clears trip latches whose sources are inactive and logs 0x0283 for each. -/
  | arcClear (it : Item)
  /-- ARC_TRIP (R391): A trip source active beyond its filter sets its latch, drives affected pairs inactive within 30 ns and logs 0x4282. -/
  | arcTrip (src : Nat) (active : Bool)
  /-- PRISM_SAMPLE (R399): A sample or LOST marker reaches Prism and is written to its history slot, with VALID = 0 for missing slots. -/
  | prismSample
  /-- CO_VALUE (R402): A coordinate-table update is emitted as a change when its quality or deadband rule requires and accumulated into reductions. -/
  | coValue (e : Nat)
  /-- CHANGE_ENTRY_TIMEOUT (R408): An open CHANGE entry is written with one change 10 µs after it was opened. -/
  | changeEntryTimeout
  /-- CO_MAXINT_EXPIRY (R402): MAXINT ms pass since an entry's last emission and its value is emitted. -/
  | coMaxintExpiry (e : Nat)
  /-- REDUCTION_COMPLETE (R405): A reduction interval completes and its REDUCE entry is produced. -/
  | reductionComplete (e : Nat) (k : Nat)
  /-- TRIGGER_FIRE (R417): An armed trigger unit meets its condition, takes a record number and enters COLLECT, or counts the condition as suppressed. -/
  | triggerFire (u : Nat)
  /-- TRIGGER_TIME_REACHED (R415): Meridian time reaches a TIME unit's T, firing it and advancing T with AUTO. -/
  | triggerTimeReached (u : Nat)
  /-- RECORD_COMPLETE (R418): A record's last sample arrives and the record, with its coincidence group, enters the backlog and raises its Vertex source. -/
  | recordComplete (u : Nat)
  /-- HOLDOFF_END (R417): A unit's hold-off ends and it re-arms or becomes IDLE. -/
  | holdoffEnd (u : Nat)
  /-- CAPTURE_ENTRY (R422): A Tangent capture entry is added to its open capture record, truncating and dropping beyond 1,048,576 entries. -/
  | captureEntry
  /-- PRISM_STREAM_DELIVER (R409): With room in the STREAM ring, backlog entries are moved into it in order. -/
  | prismStreamDeliver
  /-- PRM_ARM (R417): Arms an IDLE trigger unit. -/
  | prmArm (it : Item)
  /-- PRM_DISARM (R417): Takes an ARMED or HOLDOFF unit to IDLE. -/
  | prmDisarm (it : Item)
  /-- PRM_TRIGGER (R415): Fires an ARMED unit by command. -/
  | prmTrigger (it : Item)
  /-- PRM_MARK (R426): Produces a MARKER entry with SOFT = 1. -/
  | prmMark (it : Item)
  /-- PRM_READ (R421): Copies a kept record from the record buffer in stream format. -/
  | prmRead (it : Item)
  /-- PRM_HIST_READ (R401): Copies slots of a channel's history as blocks with headers. -/
  | prmHistRead (it : Item)
  /-- HELIX_EVENT (R430): An event reaches the Helix intake, takes the next sequence number and is logged, put in the first-fault region, streamed and passed to Vertex, or dropped. -/
  | helixEvent (e : Event) (st : Stamp) (full : Bool)
  /-- HLX_INTAKE_RESUME (R432): The intake FIFO has room again after drops and Helix writes record 0x2302. -/
  | hlxIntakeResume
  /-- HLX_STREAM_DELIVER (R439): With room in the NOTIFY ring, stream FIFO records are written in order, with 0x2303 after losses. -/
  | hlxStreamDeliver
  /-- FREEZE_TIMEOUT (R436): A freeze that lasted FRZ_MAX ends and record 0x2301 is written. -/
  | freezeTimeout
  /-- HLX_READ (R435): Copies records from the log or the first-fault region in sequence order. -/
  | hlxRead (it : Item)
  /-- HLX_FREEZE (R436): Stops writes to the log. -/
  | hlxFreeze (it : Item)
  /-- HLX_UNFREEZE (R436): Ends a freeze and writes record 0x2301. -/
  | hlxUnfreeze (it : Item)
  /-- HLX_FF_REARM (R438): Clears a LATCHED first-fault region and arms it again. -/
  | hlxFfRearm (it : Item)
  /-- CAN_TX (R448): Appends a frame to a controller's queue or places it in an expedite slot. -/
  | canTx (it : Item)
  /-- CAN_FLUSH (R451): Removes queued or expedite frames not in an attempt, completing them ABORTED_BY_HOST. -/
  | canFlush (it : Item)
  /-- CAN_TX_ATTEMPT (R449): At a bus-idle point the controller chooses an expedite frame or the queue head and starts an attempt. -/
  | canTxAttempt (c : Nat)
  /-- CAN_ATTEMPT_END (R450): An attempt ends in success and the frame completes DONE, or fails and is retried or completes at RETRY_MAX. -/
  | canAttemptEnd (c : Nat) (ok : Bool) (st : Stamp) (tec : Nat) (rec_ : Nat)
  /-- CAN_FRAME_RX (R452): A frame completing without error is stamped, enters the receive FIFO, updates the mailbox or is counted as lost. -/
  | canFrameRx (c : Nat) (own : Bool) (id : Word) (ctl : Word) (bytes : List Byte) (st : Stamp) (tec : Nat) (rec_ : Nat)
  /-- CAN_RX_DELIVER (R453): With room in the ring, a received frame or LOST entry is written and raises its Vertex source. -/
  | canRxDeliver (c : Nat)
  /-- CAN_BUS_OFF (R456): The error counters reach bus-off, the frame in attempt completes FAILED_FAULT and 0x4383 is logged. -/
  | canBusOff (c : Nat) (tec : Nat)
  /-- CAN_RECOVER (R457): Writing RECOVER with HOLD = 1 during bus-off starts recovery. -/
  | canRecover (c : Nat)
  /-- CAN_BUSOFF_RECOVERED (R457): Recovery ends after 128 occurrences of 11 recessive bits, logs 0x0384 and transmission resumes. -/
  | canBusoffRecovered (c : Nat)
  /-- ETH_TX (R474): Appends a frame to a port's transmit queue. -/
  | ethTx (it : Item)
  /-- ETH_TX_FLUSH (R479): Removes frames not yet started, completing them ABORTED_BY_HOST. -/
  | ethTxFlush (it : Item)
  /-- ETH_TX_SENT (R474): A frame's last copy has been sent, its item completes with the first copy's stamp and PTP messages enter the timestamp queue. -/
  | ethTxSent (port : Nat) (st : Stamp)
  /-- ETH_FRAME_RX (R471): A received frame is filtered, PRP duplicates discarded, stamped and put in the receive FIFO or counted as lost. -/
  | ethFrameRx (port : Nat) (bytes : List Byte) (fcsOk : Bool) (st : Stamp)
  /-- ETH_RX_DELIVER (R472): With room in the ring, a received frame or LOST entry is written and raises its Vertex source. -/
  | ethRxDeliver (port : Nat)
  /-- PRP_ENTRY_FORGET (R469): A duplicate-table entry is forgotten ENTRY_FORGET ms after it was made. -/
  | prpEntryForget
  /-- PRP_SUPERVISION (R470): Every 2 s a PRP supervision frame is sent on both ports. -/
  | prpSupervision
  /-- CYCLIC_FRAME_SEND (R476): At a cycle mark the cyclic engine takes the listed coordinates and sends the due cyclic frames. -/
  | cyclicFrameSend
  /-- CYCLIC_FRAME_LATE (R477): A cyclic frame not started by the next mark is dropped and counted in LATE. -/
  | cyclicFrameLate
  /-- ETH_LINK_UP (R480): A port's link comes up and logs 0x0340. -/
  | ethLinkUp (port : Nat) (speed : Nat)
  /-- ETH_LINK_DOWN (R480): A port's link goes down and logs 0x2341. -/
  | ethLinkDown (port : Nat)
  /-- MER_OFS_GO (R489): A write of MER_OFS_GO forms a PTP offset input for a domain's servo or discards it as FUTURE or STALE. -/
  | merOfsGo (n : Nat) (frac : Nat)
  /-- SERVO_HOLDOVER (R491): A LOCKED servo receives no input for HOLD_TMO and enters HOLDOVER. -/
  | servoHoldover (x : Nat)
  /-- SERVO_FREE_RUN (R491): An ACQUIRING or HOLDOVER servo receives no input for HOLD_TMO or HOLD_MAX and enters FREE_RUN. -/
  | servoFreeRun (x : Nat)
  /-- SLEW_COMPLETE (R491): OFF_T reaches the new domain's offset, SWITCHING clears and TSTATE returns to LOCKED. -/
  | slewComplete
  /-- MER_SET (R499): Sets T to a given value in FREE, stepping it with cause 0. -/
  | merSet (it : Item)
  /-- MER_SNAP (R498): MER_SNAP.GO captures T, VA and VB at one tick into the snapshot registers. -/
  | merSnap
  /-- MER_TXTS_POP (R497): Removes the oldest transmit timestamp entry of a port. -/
  | merTxtsPop (p : Nat)
  /-- VXL_PORT_UP (R502): A port holds block lock for 1 ms and receives a valid HELLO, becomes UP and logs 0x03C0. -/
  | vxlPortUp (port : Nat) (neighbour : Nat)
  /-- VXL_PORT_DOWN (R502): A port loses block lock, fails 4 CRCs or sees no HELLO for 10 ms, becomes DOWN and may switch uplink or open the ring. -/
  | vxlPortDown (port : Nat)
  /-- HELLO_SEND (R502): Every 1 ms each port sends a HELLO with device ID, ring, role, slot and port. -/
  | helloSend
  /-- HELLO_RX (R505): A HELLO is received, teaching the neighbour identity and the ring number. -/
  | helloRx (port : Nat) (device : Nat) (ring : Option Nat) (peerPort : Nat)
  /-- RING_NUMBER_TIMEOUT (R505): A non-manager receives no ring number within 100 ms and reports NO_PATH. -/
  | ringNumberTimeout
  /-- VXL_FRAME_RX (R508): A Vexlink frame copy is accepted once per source and sequence, forwarded onward or into another ring, or removed on return. -/
  | vxlFrameRx (port : Nat) (f : Frame) (crcOk : Bool)
  /-- TIME_MARK_SEND (R510): The active manager sends a MARK TIME frame at every Meridian millisecond. -/
  | timeMarkSend
  /-- TIME_MARK_RX (R510): A module receives the first copy of a mark and passes its offset e to servo 0. -/
  | timeMarkRx (port : Nat) (f : Frame) (em : Int) (corr : Int) (ing : Int) (residence : Nat)
  /-- LINK_DELAY_MEASURE (R511): Every 100 ms a port measures its link delay by a stamped request and response. -/
  | linkDelayMeasure (port : Nat) (roundTrip : Int)
  /-- CYCLE_MARK (R516): At each cycle mark modules latch published entries and send SCAN or ALIVE frames, and the manager sends the CYCLE frame. -/
  | cycleMark (n : Nat)
  /-- SCAN_RX (R518): A received SCAN value is written into its SUB entry with its rebuilt stamp unless older. `src` is the device that its coordinates name: of a pair, the even ID (R513). -/
  | scanRx (src : Nat) (n : Nat) (es : List ScanEntry)
  /-- CYCLE_JUDGEMENT (R519): At M + 10 µs each SUB entry without a value counts a miss and turns STALE after MISS_N misses. -/
  | cycleJudgement (n : Nat)
  /-- MANAGER_LOST (R524): Sixteen marks pass without a CYCLE frame and MGR_SEEN clears. -/
  | managerLost
  /-- GRANT_REQUEST_RX (R521): The manager handles a grant request in arrival order, clamping what does not fit and sending forwarding tables. -/
  | grantRequestRx (device : Nat) (pubs : List Nat) (subs : List Nat)
  /-- GRANT_TIMEOUT (R521): No grant reply within 10 ms and the committing item completes FAILED_TARGET_ABSENT. -/
  | grantTimeout
  /-- REMOTE_ITEM_RX (R525): A target receives a remote item, refuses it or enters it, returning ACCEPT and later RESULT. -/
  | remoteItemRx (opcode : Nat) (it : Item) (deadline : Stamp)
  /-- REMOTE_RESULT_RX (R526): The originator receives a RESULT and completes the remote item with that status and FLAGS.REMOTE. -/
  | remoteResultRx (ring : Nat) (seq : Word) (status : Nat) (res : Machine.ResultAt) (d0 : Word) (d1 : Word) (d2 : Word) (d3 : Word)
  /-- REMOTE_QUERY_TIMER (R526): No RESULT by D + 2 ms, then every 10 ms, and the originator sends a QUERY and logs 0x23CD. -/
  | remoteQueryTimer (ring : Nat) (seq : Word)
  /-- REMOTE_QUERY_RX (R526): A target answers a QUERY from its intake log, recording an unentered SEQ as refused. -/
  | remoteQueryRx (device : Nat) (ring : Nat) (seq : Word)
  /-- JOIN_REQUEST (R529): A locked module sends a JOIN request to the manager, repeating every 1 s. -/
  | joinRequest
  /-- JOIN_REQUEST_RX (R529): The manager admits the module for the next mark or refuses it with a reason. -/
  | joinRequestRx (device : Nat) (slot : Nat) (ring : Nat) (locked : Bool)
  /-- PRESENCE_TIMEOUT (R530): The manager sees no presence from a module for MISS_LEAVE cycles and lists its leave. -/
  | presenceTimeout (device : Nat)
  /-- VXL_WRITE (R534): Writes a value and quality into a SOFT coordinate-table entry. -/
  | vxlWrite (it : Item)
  /-- VXL_LEAVE (R530): Requests that the module leave the system at the next mark. -/
  | vxlLeave (it : Item)
  /-- VXL_MEMBERS (R534): Writes the bitmap of admitted device IDs. -/
  | vxlMembers (it : Item)
  /-- HEARTBEAT_SEND (R544): Every 10 µs each pair member sends a heartbeat on the pair segment and on PAIRLINK. -/
  | heartbeatSend
  /-- HEARTBEAT_RX (R545): A valid heartbeat is received, updating partner presence, acknowledgements and path restoration. -/
  | heartbeatRx (path : Nat) (w0 : Word) (w1 : Word) (w2 : Word) (w3 : Word) (again : Nat) (resync : Bool)
  /-- PATH_LOST (R545): No heartbeat on a path for HB_MISS × 10 µs marks it lost, sets DEGRADED and logs 0x6401. -/
  | pathLost (path : Nat)
  /-- TAKEOVER (R554): Both paths lost on a SYNCED standby make it ACTIVE from its last epoch, completing in-flight items and ramping outputs on. -/
  | takeover (tick : Option Nat)
  /-- EPOCH_CAPTURE (R547): Every 10 µs the active captures changed image words as an epoch and sends them in DELTA frames. -/
  | epochCapture
  /-- EPOCH_APPLY (R548): The standby applies a complete epoch in one cycle or discards it and requests resending. -/
  | epochApply (n : Word) (t : Int) (ok : Bool) (full : Bool) (last : Bool) (final : Bool) (bytes : Nat) (img : Machine.Image)
  /-- SYNC_LAG_TIMEOUT (R550): The standby's lag exceeds LAG_MAX for 10 ms and it leaves SYNCED. -/
  | syncLagTimeout
  /-- ARB_WAIT_EXPIRY (R540): A starting slot-B module receives no ACTIVE heartbeat for ARB_WAIT and becomes ACTIVE. -/
  | arbWaitExpiry
  /-- MIRROR_WAIT_TIMEOUT (R549): Items held after both paths were lost proceed without the mirror wait after one CYCLE plus 200 µs without a yield. -/
  | mirrorWaitTimeout
  /-- PAIR_YIELD (R557): An ACTIVE member receiving the partner's SCAN for the pair yields, becomes STANDBY and ramps its outputs off. -/
  | pairYield
  /-- MIR_TOKEN_READ (R558): A read of MIR_TOKEN issues a new switch token valid for 10 s and voids the previous one. -/
  | mirTokenRead
  /-- MIR_SWITCH (R558): Starts a planned handover with a valid token while the partner is SYNCED. -/
  | mirSwitch (it : Item)
  /-- SWITCH_INSTANT (R558): At S the active stops fetching, holds its state and captures the final epoch. -/
  | switchInstant
  /-- SWITCH_GO (R558): From S2 the roles swap, output ramps run and items complete on the new active. -/
  | switchGo
  /-- LEAVE_NOTICE_RX (R559): A leave notice from the active partner starts the handover with S at the notice. -/
  | leaveNoticeRx
  /-- MIR_RESYNC (R561): Requests a full transfer of the image to the standby. -/
  | mirResync (it : Item)
  /-- MIR_LOCAL_WRITE (R542): A MIR_LOCAL write changes the local bits of disabled submission rings only. -/
  | mirLocalWrite (hi : Bool) (value : Word)
  /-- SAFETY_SUPPLY_ON (R584): 24VSO is applied and each Perimeter channel starts its self-test with outputs off and lines active. -/
  | safetySupplyOn
  /-- SELFTEST_DONE (R584): The self-test ends and the pattern check enters RUN, CONFIRM or a die fault. -/
  | selftestDone (patH : Nat) (patP : Nat) (cause : Nat) (chans : Nat) (pfw : Nat)
  /-- SAFETY_SUPPLY_LOSS (R57): Loss of 24VSO de-energises every safety and TP output and activates the TRIP and all-outputs-off lines. -/
  | safetySupplyLoss
  /-- SAFETY_INPUT_DEMAND (R571): A safety contact open for 300 µs outside its test window makes its slot demand, opening outputs and activating lines as applicable. -/
  | safetyInputDemand (pair : Nat) (a : Bool) (b : Bool)
  /-- SAFETY_INPUT_PERMIT (R575): A slot's function permits again and the slot enters ON or WAIT_RESET. -/
  | safetyInputPermit (pair : Nat) (a : Bool) (b : Bool)
  /-- TP_FAULT (R572): A contact stays closed through its dark pulse or opens in another's, declaring TP_MISSING or TP_FOREIGN. -/
  | tpFault (pair : Nat) (cause : Nat) (chans : Nat)
  /-- DISCREPANCY (R573): A pair in a disallowed contact combination for 500 ms, or 10 ms for OSSD, enters DISCREPANCY. -/
  | discrepancy (pair : Nat) (chans : Nat)
  /-- MUTING_START (R574): Both mute sensors close within 3 s while the OSSD pair permits and muting starts. -/
  | mutingStart (slot : Nat)
  /-- MUTING_LIMIT (R574): Muting ends after 60 s or at a sensor opening. -/
  | mutingLimit (slot : Nat)
  /-- RESET_PULSE (R579): A RESET pulse of 100 ms to 2 s is accepted at its falling edge, moving WAIT_RESET slots to ON, clearing faults and confirming a pattern. -/
  | resetPulse (ms : Nat)
  /-- RESET_STUCK (R578): RESET held high for more than 2 s makes RESET_STUCK and logs 0x5448. -/
  | resetStuck (ms : Nat)
  /-- RESET_ONE_CHANNEL (R580): One channel accepted a reset and the other did not within 20 ms, so the effect is withdrawn. -/
  | resetOneChannel (ms : Nat)
  /-- STOP_REQUEST_FRAME (R581): A stop-request frame arrives and each channel acts on a bit set in two consecutive frames. -/
  | stopRequestFrame (ok : Bool)
  /-- STOP_CHANNEL_LOSS (R583): No valid stop-request frame for 1 ms makes both channels treat STOP0–STOP3 as active. -/
  | stopChannelLoss
  /-- CROSS_LINK_EXCHANGE (R569): Every 1 ms the two channels exchange their decisions over the cross-link. -/
  | crossLinkExchange
  /-- CHANNEL_DISAGREE (R569): A decision differing between channels for more than 20 ms is a die fault. -/
  | channelDisagree
  /-- SWITCH_TEST (R577): Every 10 s each energised output has its P-switch, then its M-switch, briefly opened and read back. -/
  | switchTest (out : Nat)
  /-- READBACK_FAULT (R577): A switch found in the wrong state for 5 ms is a die fault. -/
  | readbackFault (chans : Nat)
  /-- DIE_FAULT (R586): A clock, supply or memory check fails, Perimeter enters FAULT with all outputs off and lines active. -/
  | dieFault (cause : Nat) (chans : Nat)
  /-- PATTERN_CHANGE (R585): The seal switch pattern changes while in RUN, setting PATTERN_CHG and logging 0x2442. -/
  | patternChange (pattern : Nat)
  /-- STATUS_FRAME (R588): A Perimeter status frame arrives and updates the status view at the Nimurec die. -/
  | statusFrame (ok : Bool)
  /-- STATUS_CHANNEL_LOSS (R588): No valid status frame for 4 µs clears VALID and the view and logs 0x244C. -/
  | statusChannelLoss
  /-- PER_STOP_WRITE (R581): A PER_STOP write sets or withdraws stop requests carried in the next stop-request frames. -/
  | perStopWrite (value : Word)
  /-- PER_STOP_REQ (R592): Replaces PER_STOP and completes when the view confirms STOPREQ for a newly set bit. -/
  | perStopReq (it : Item)
  /-- FAULT_ENTRY (R595): An event of severity 1–3 enters the FLT queue, or the overflow entry, and is presented when its severity exceeds L. -/
  | faultEntry (e : Event) (st : Stamp) (seq : Word)
  /-- FLT_HACK (R597): Acknowledging a severity removes its presented entry and presents the next one by severity. -/
  | fltHack (sev : Nat)
  /-- ECC_CORRECTED (R601): A read with one or two bit errors delivers and writes back the corrected word and counts it. -/
  | eccCorrected (region : Nat) (addr : Nat)
  /-- ECC_UNCORRECTABLE (R604): An uncorrectable word is rebuilt, poisoned or discarded per its region, or starts a fault-path warm restart. -/
  | eccUncorrectable (region : Nat) (addr : Nat) (obj : Nat) (dirty : Bool)
  /-- PATROL_SCRUB (R602): The patrol scrubber reads and corrects DRAM bursts and SRAM words on its period. -/
  | patrolScrub (percent : Nat) (dram : Bool)
  /-- MRAM_STATUS_POLL (R605): Every 1 s FLT reads the MRAM error status and acts on uncorrectable reads by region. -/
  | mramStatusPoll (ce : Nat) (ue : List Nat)
  /-- FLASH_CHECK (R606): Every 24 h FLT recomputes image digests and the identity CRC, flagging mismatches with 0x4107. -/
  | flashCheck (identBad : Bool)
  /-- FLT_WDKICK (R607): A keyed write kicks the core watchdog for the cores named. -/
  | fltWdkick (value : Word)
  /-- FLT_WD_WRITE (R607): A write to FLT_WD sets the watched cores and interval and restarts every core's count. -/
  | fltWdWrite (value : Word)
  /-- CORE_WDT_EXPIRY (R607): A watched core does not kick within FLT_WD.MS and a warm restart with CAUSE = 9 starts. -/
  | coreWdtExpiry
  /-- ENGINE_WDT_EXPIRY (R608): An engine makes no progress for its watchdog time, logs 0x4108 and expires the core watchdog. -/
  | engineWdtExpiry (source : Nat) (us : Nat)
  /-- AO_COMPLIANCE_CLEAR (R238): COMPLIANCE clears after 1 ms within 0.05 mA of the commanded current. -/
  | aoComplianceClear (m : ChanMeas)
  /-- AO_OPEN_CLEAR (R239): A current output's OPEN clears as soon as the measured current reaches 0.2 mA or the command falls below 1.0 mA. -/
  | aoOpenClear (m : ChanMeas)
  /-- AO_V_OVERLOAD_CLEAR (R241): An AO_V output's OVERLOAD clears after 2 ms below the current limit. -/
  | aoVOverloadClear (ch : Nat)
  /-- RESET_STUCK_CLEAR (R578): RESET_STUCK clears once RESET has been low for 1 s, after which resets are accepted again. -/
  | resetStuckClear
  /-- MSIX_ENABLE (R599): The host enables MSI-X again after link return, and FLT raises again the vector of every entry still presented. -/
  | msixEnable
  /-- GRANT_REPLY_RX (R521): A worker receives the manager's grant reply, and the waiting commit's pass 3 applies the granted and clamped publications. -/
  | grantReplyRx (pubs : List Nat) (subs : List Nat) (ints : List Nat) (bad : Option Nat)
  /-- CYCLE_FRAME_RX (R516): A module receives the manager's CYCLE frame, taking the joins, leaves, membership version and cycle period announced, logging 0x03C4 or 0x23C5 and raising Vertex source 138. -/
  | cycleFrameRx (n : Nat) (period : Nat) (version : Nat) (joins : List Nat) (leaves : List (Nat × Nat)) (ungranted : Nat)
  /-- JOIN_REPLY_RX (R529): A joining module receives the manager's refusal, sets JSTATE REFUSED and the reason, and logs 0x23C6. -/
  | joinReplyRx (reason : Nat)
  /-- QUERY_ANSWER_RX (R526): The originator receives a target's answer to its QUERY and completes the remote item with the recorded status or FAILED_TIMEOUT. -/
  | queryAnswerRx (ring : Nat) (seq : Word) (verdict : Nat) (status : Nat)
  /-- LEAVE_REQUEST_RX (R530): The manager receives a module's VXL_LEAVE request or removal leave notice and lists the leave in the CYCLE frame of the next mark. -/
  | leaveRequestRx (device : Nat) (cause : Nat)
  deriving DecidableEq, Repr

end Sys2Proof
end

