-- ==== Sys2Proof/Config.lean ====
section
/-! DEFINITION. The values the spec leaves open. Each is an opaque constant: nothing in Lean can evaluate it. -/

namespace Sys2Proof.Config

/-- A value the spec does not state: the `n`-th the model needs (notes/assumptions/3.md). -/
opaque freeWord : Nat → BitVec 32

/-- What SYS_CHKAGE shows while no checkpoint is valid, by the base counter (notes/assumptions/3.md). -/
opaque noAge : Nat → BitVec 32

/-- The layout of an exported configuration image, which the spec does not state (notes/assumptions/15.md): its length in
bytes (modulo one more than a full image slot holds, R166) and its bytes, for the values it holds by key. -/
opaque imageLen : List (Nat × BitVec 32) → Nat
opaque imageByte : List (Nat × BitVec 32) → Nat → BitVec 8

/-- The values by key that the bytes of an image not exported by this module hold, none where they are no image
(notes/assumptions/15.md). -/
opaque imageRead : List (BitVec 8) → Option (List (Nat × BitVec 32))

/-- KIND of a Vexlink frame (R507), by its type and the place of its name in the spec: the spec names the kinds of a type
and not their codes (notes/assumptions/8.md). -/
opaque vxlKind : Nat → Nat → Nat

/-- The age in ms of a checkpoint from before the base counter started at zero again, by the base counter: the spec does
not state it (notes/assumptions/3.md). -/
opaque oldAge : Nat → BitVec 32

/-- Where in the core region of DRAM a cold start puts the firmware image (R82): the spec does not state it
(notes/assumptions/122.md). -/
opaque imagePlace : Nat

/-- The device and vendor identifiers of the factory identity data, device in the upper half (R106): the spec does not
state them (notes/assumptions/127.md). -/
opaque pciId : BitVec 32

/-- A conversion of a converter slice corrected with the slice's offset, gain and skew (R213): the spec does not state the
formula (notes/assumptions/134.md). -/
opaque sliceFix : Int → Int × Int × Int → Int

end Sys2Proof.Config
end

