-- ==== Sys2Proof/Machine/FieldTable.lean ====
section
/-! DEFINITION. The configuration fields of every block that takes configuration through staging (R141, R142): the
field tables of R209, R249, R284, R319, R349, R371, R394, R425, R441, R460, R478, R498, R533 and R562, with their
instance and element ranges, their types and ranges, and their defaults. -/

namespace Sys2Proof.Machine

/-- The type and range of a field's value (R141, R151, R152). -/
inductive FieldKind where
  /-- A 32-bit integer from `lo` to `hi`, clamped to the nearer limit. -/
  | int (lo hi : Nat)
  /-- A two's complement integer from `lo` to `hi`. -/
  | sint (lo hi : Int)
  /-- An integer from `lo` to `hi`, or the one code `x` beyond them. -/
  | intOr (lo hi x : Nat)
  /-- An integer from `lo` to `hi` that is a multiple of `st`. -/
  | step (lo hi st : Nat)
  /-- One of the listed values, clamped to the nearest, a tie to the lower (R151). -/
  | set (vals : List Nat)
  /-- An enumeration: a code it does not list cannot be clamped (R152). -/
  | enum (codes : List Nat)
  /-- A binary32 within the two limits; NaN cannot be clamped, an infinity clamps to the limit of its sign. -/
  | f32 (lo hi : Word)
  /-- Any finite binary32. -/
  | f32any
  /-- Any word. -/
  | any
  /-- FB_SPSRC (R209): 0, or 256 + loop. -/
  | fbsp
  /-- ROUTE of VX0 and VX1 (R533): 0 ON, 2 OFF, 1 clamped to 0. -/
  | route01
  /-- DEADLINE (R284): 0, or 5 to 100,000. -/
  | deadline
  /-- BOOT (R394): the fields of ARC_BOOT. -/
  | arcBoot
  /-- TRG_SRC (R425): an enumeration in bits [31:28] with an operand. -/
  | trgSrc
  /-- A word of a table whose layout its block's chapter gives. -/
  | table
  deriving DecidableEq, Repr

/-- A field: its block ID and its field ID. -/
structure Cf where
  block : Nat
  fld   : Nat
  deriving DecidableEq, Repr

/-- One row of a block's field table: the instances it holds for, its element count, its range and its default. -/
structure FieldRow where
  block : Nat
  iLo   : Nat
  iHi   : Nat
  fld   : Nat
  nElem : Nat
  kind  : FieldKind
  dflt  : Nat
  deriving DecidableEq, Repr


/-! ### FCT fields (R209 and R249) -/

def Cf.FCT_CH_MODE : Cf := ⟨0x12, 0x0⟩
def Cf.FCT_OWNER : Cf := ⟨0x12, 0x1⟩
def Cf.FCT_SAFE_STATE : Cf := ⟨0x12, 0x2⟩
def Cf.FCT_SAFE_VALUE : Cf := ⟨0x12, 0x3⟩
def Cf.FCT_SHED_GROUP : Cf := ⟨0x12, 0x4⟩
def Cf.FCT_AUTO_RESTORE : Cf := ⟨0x12, 0x5⟩
def Cf.FCT_DI_THR : Cf := ⟨0x12, 0x6⟩
def Cf.FCT_DI_HYST : Cf := ⟨0x12, 0x7⟩
def Cf.FCT_DI_SINK : Cf := ⟨0x12, 0x8⟩
def Cf.FCT_DI_DEBOUNCE : Cf := ⟨0x12, 0x9⟩
def Cf.FCT_COS_EN : Cf := ⟨0x12, 0xA⟩
def Cf.FCT_DO_RETRY : Cf := ⟨0x12, 0xB⟩
def Cf.FCT_PI_EDGE : Cf := ⟨0x12, 0xC⟩
def Cf.FCT_PI_GATE : Cf := ⟨0x12, 0xD⟩
def Cf.FCT_PI_OUT : Cf := ⟨0x12, 0xE⟩
def Cf.FCT_AI_SLOTS : Cf := ⟨0x12, 0x10⟩
def Cf.FCT_AI_DECIM : Cf := ⟨0x12, 0x11⟩
def Cf.FCT_AI_OPENDET : Cf := ⟨0x12, 0x12⟩
def Cf.FCT_AI_OPENI : Cf := ⟨0x12, 0x13⟩
def Cf.FCT_HART_MULTIDROP : Cf := ⟨0x12, 0x14⟩
def Cf.FCT_WDT : Cf := ⟨0x12, 0x100⟩
def Cf.FCT_FBMAX : Cf := ⟨0x12, 0x101⟩
def Cf.FCT_HART_PREAMBLE : Cf := ⟨0x12, 0x102⟩
def Cf.FCT_HART_RTMO : Cf := ⟨0x12, 0x103⟩
def Cf.FCT_DIAG_TOL : Cf := ⟨0x12, 0x104⟩
def Cf.FCT_FB_OUT0 : Cf := ⟨0x12, 0x110⟩
def Cf.FCT_FB_IN0 : Cf := ⟨0x12, 0x111⟩
def Cf.FCT_FB_KP0 : Cf := ⟨0x12, 0x112⟩
def Cf.FCT_FB_KI0 : Cf := ⟨0x12, 0x113⟩
def Cf.FCT_FB_SPSRC0 : Cf := ⟨0x12, 0x114⟩
def Cf.FCT_FB_SP0 : Cf := ⟨0x12, 0x115⟩
def Cf.FCT_FB_OUTLO0 : Cf := ⟨0x12, 0x116⟩
def Cf.FCT_FB_OUTHI0 : Cf := ⟨0x12, 0x117⟩
def Cf.FCT_FB_OUT1 : Cf := ⟨0x12, 0x118⟩
def Cf.FCT_FB_IN1 : Cf := ⟨0x12, 0x119⟩
def Cf.FCT_FB_KP1 : Cf := ⟨0x12, 0x11A⟩
def Cf.FCT_FB_KI1 : Cf := ⟨0x12, 0x11B⟩
def Cf.FCT_FB_SPSRC1 : Cf := ⟨0x12, 0x11C⟩
def Cf.FCT_FB_SP1 : Cf := ⟨0x12, 0x11D⟩
def Cf.FCT_FB_OUTLO1 : Cf := ⟨0x12, 0x11E⟩
def Cf.FCT_FB_OUTHI1 : Cf := ⟨0x12, 0x11F⟩
def Cf.FCT_FB_OUT2 : Cf := ⟨0x12, 0x120⟩
def Cf.FCT_FB_IN2 : Cf := ⟨0x12, 0x121⟩
def Cf.FCT_FB_KP2 : Cf := ⟨0x12, 0x122⟩
def Cf.FCT_FB_KI2 : Cf := ⟨0x12, 0x123⟩
def Cf.FCT_FB_SPSRC2 : Cf := ⟨0x12, 0x124⟩
def Cf.FCT_FB_SP2 : Cf := ⟨0x12, 0x125⟩
def Cf.FCT_FB_OUTLO2 : Cf := ⟨0x12, 0x126⟩
def Cf.FCT_FB_OUTHI2 : Cf := ⟨0x12, 0x127⟩
def Cf.FCT_FB_OUT3 : Cf := ⟨0x12, 0x128⟩
def Cf.FCT_FB_IN3 : Cf := ⟨0x12, 0x129⟩
def Cf.FCT_FB_KP3 : Cf := ⟨0x12, 0x12A⟩
def Cf.FCT_FB_KI3 : Cf := ⟨0x12, 0x12B⟩
def Cf.FCT_FB_SPSRC3 : Cf := ⟨0x12, 0x12C⟩
def Cf.FCT_FB_SP3 : Cf := ⟨0x12, 0x12D⟩
def Cf.FCT_FB_OUTLO3 : Cf := ⟨0x12, 0x12E⟩
def Cf.FCT_FB_OUTHI3 : Cf := ⟨0x12, 0x12F⟩

/-! ### MER fields (R498) -/

def Cf.MER_KP : Cf := ⟨0x5, 0x0⟩
def Cf.MER_KI : Cf := ⟨0x5, 0x1⟩
def Cf.MER_STEP_THR : Cf := ⟨0x5, 0x2⟩
def Cf.MER_LOCK_THR : Cf := ⟨0x5, 0x3⟩
def Cf.MER_UNLOCK_THR : Cf := ⟨0x5, 0x4⟩
def Cf.MER_LOCK_N : Cf := ⟨0x5, 0x5⟩
def Cf.MER_HOLD_TMO : Cf := ⟨0x5, 0x6⟩
def Cf.MER_HOLD_MAX : Cf := ⟨0x5, 0x7⟩
def Cf.MER_SRC : Cf := ⟨0x5, 0x100⟩
def Cf.MER_SLEW : Cf := ⟨0x5, 0x101⟩
def Cf.MER_STEPMAX : Cf := ⟨0x5, 0x102⟩
def Cf.MER_STEP_ALLOW : Cf := ⟨0x5, 0x103⟩
def Cf.MER_AUTO_SWITCH : Cf := ⟨0x5, 0x104⟩
def Cf.MER_FREE_ROOT : Cf := ⟨0x5, 0x105⟩
def Cf.MER_RATEMAX : Cf := ⟨0x5, 0x106⟩

/-! ### VXL fields (R533) -/

def Cf.VXL_ROUTE : Cf := ⟨0xF, 0x0⟩
def Cf.VXL_ASYM : Cf := ⟨0xF, 0x1⟩
def Cf.VXL_DEVICE_ID : Cf := ⟨0xF, 0x100⟩
def Cf.VXL_CYCLE : Cf := ⟨0xF, 0x101⟩
def Cf.VXL_MISS_LEAVE : Cf := ⟨0xF, 0x102⟩
def Cf.VXL_CT_DEF : Cf := ⟨0xF, 0x200⟩
def Cf.VXL_PUB : Cf := ⟨0xF, 0x201⟩
def Cf.VXL_STALE : Cf := ⟨0xF, 0x202⟩
def Cf.VXL_SUBST_VAL : Cf := ⟨0xF, 0x203⟩

/-! ### ETH fields (R478) -/

def Cf.ETH_SPEED_MAX : Cf := ⟨0xD, 0x0⟩
def Cf.ETH_PROMISC : Cf := ⟨0xD, 0x1⟩
def Cf.ETH_RX_RING : Cf := ⟨0xD, 0x2⟩
def Cf.ETH_MCAST : Cf := ⟨0xD, 0x3⟩
def Cf.ETH_PRP : Cf := ⟨0xD, 0x100⟩
def Cf.ETH_PRP_SUP : Cf := ⟨0xD, 0x101⟩
def Cf.ETH_ENTRY_FORGET : Cf := ⟨0xD, 0x102⟩
def Cf.ETH_CYC_PERIOD : Cf := ⟨0xD, 0x103⟩
def Cf.ETH_CYC_LIST : Cf := ⟨0xD, 0x104⟩
def Cf.ETH_CYC_EN : Cf := ⟨0xD, 0x200⟩
def Cf.ETH_CYC_DIV : Cf := ⟨0xD, 0x201⟩
def Cf.ETH_CYC_PORT : Cf := ⟨0xD, 0x202⟩
def Cf.ETH_CYC_DST_LO : Cf := ⟨0xD, 0x203⟩
def Cf.ETH_CYC_DST_HI : Cf := ⟨0xD, 0x204⟩
def Cf.ETH_CYC_ETYPE : Cf := ⟨0xD, 0x205⟩
def Cf.ETH_CYC_VLAN : Cf := ⟨0xD, 0x206⟩

/-! ### CAN fields (R460) -/

def Cf.CAN_MODE : Cf := ⟨0xE, 0x0⟩
def Cf.CAN_TERM : Cf := ⟨0xE, 0x1⟩
def Cf.CAN_N_BRP : Cf := ⟨0xE, 0x2⟩
def Cf.CAN_N_TSEG1 : Cf := ⟨0xE, 0x3⟩
def Cf.CAN_N_TSEG2 : Cf := ⟨0xE, 0x4⟩
def Cf.CAN_N_SJW : Cf := ⟨0xE, 0x5⟩
def Cf.CAN_D_BRP : Cf := ⟨0xE, 0x6⟩
def Cf.CAN_D_TSEG1 : Cf := ⟨0xE, 0x7⟩
def Cf.CAN_D_TSEG2 : Cf := ⟨0xE, 0x8⟩
def Cf.CAN_D_SJW : Cf := ⟨0xE, 0x9⟩
def Cf.CAN_TDCO : Cf := ⟨0xE, 0xA⟩
def Cf.CAN_RETRY_MAX : Cf := ⟨0xE, 0xB⟩
def Cf.CAN_RX_RING : Cf := ⟨0xE, 0xC⟩
def Cf.CAN_RX_OWN : Cf := ⟨0xE, 0xD⟩
def Cf.CAN_MBX_ID : Cf := ⟨0xE, 0xE⟩
def Cf.CAN_MBX_MASK : Cf := ⟨0xE, 0xF⟩

/-! ### ARC fields (R394) -/

def Cf.ARC_EN : Cf := ⟨0xA, 0x0⟩
def Cf.ARC_AUTOSTART : Cf := ⟨0xA, 0x1⟩
def Cf.ARC_DUTY_SRC : Cf := ⟨0xA, 0x2⟩
def Cf.ARC_ALIGN : Cf := ⟨0xA, 0x3⟩
def Cf.ARC_MASTER : Cf := ⟨0xA, 0x4⟩
def Cf.ARC_PHASE : Cf := ⟨0xA, 0x5⟩
def Cf.ARC_PERIOD : Cf := ⟨0xA, 0x6⟩
def Cf.ARC_CMPA : Cf := ⟨0xA, 0x7⟩
def Cf.ARC_CMPB : Cf := ⟨0xA, 0x8⟩
def Cf.ARC_PAIRED : Cf := ⟨0xA, 0x9⟩
def Cf.ARC_COMP : Cf := ⟨0xA, 0xA⟩
def Cf.ARC_DTR : Cf := ⟨0xA, 0xB⟩
def Cf.ARC_DTF : Cf := ⟨0xA, 0xC⟩
def Cf.ARC_MINP : Cf := ⟨0xA, 0xD⟩
def Cf.ARC_CARRY : Cf := ⟨0xA, 0xE⟩
def Cf.ARC_FAULT_MASK : Cf := ⟨0xA, 0xF⟩
def Cf.ARC_LOC_USE : Cf := ⟨0xA, 0x10⟩
def Cf.ARC_IRQ_EN : Cf := ⟨0xA, 0x11⟩
def Cf.ARC_TRIG_SEL : Cf := ⟨0xA, 0x12⟩
def Cf.ARC_BOOT : Cf := ⟨0xA, 0x13⟩
def Cf.ARC_IRQDIV : Cf := ⟨0xA, 0x14⟩
def Cf.ARC_FILT : Cf := ⟨0xA, 0x100⟩

/-! ### TAN fields (R284) -/

def Cf.TAN_PV_SRC : Cf := ⟨0x7, 0x0⟩
def Cf.TAN_PERIOD : Cf := ⟨0x7, 0x1⟩
def Cf.TAN_ENABLE : Cf := ⟨0x7, 0x2⟩
def Cf.TAN_PRIO : Cf := ⟨0x7, 0x3⟩
def Cf.TAN_PHASE : Cf := ⟨0x7, 0x4⟩
def Cf.TAN_DEADLINE : Cf := ⟨0x7, 0x5⟩
def Cf.TAN_IN_SCALE : Cf := ⟨0x7, 0x6⟩
def Cf.TAN_IN_OFFSET : Cf := ⟨0x7, 0x7⟩
def Cf.TAN_ACTION : Cf := ⟨0x7, 0x8⟩
def Cf.TAN_SP_LO : Cf := ⟨0x7, 0x9⟩
def Cf.TAN_SP_HI : Cf := ⟨0x7, 0xA⟩
def Cf.TAN_SP_INIT : Cf := ⟨0x7, 0xB⟩
def Cf.TAN_INIT_MODE : Cf := ⟨0x7, 0xC⟩
def Cf.TAN_SP_TRACK : Cf := ⟨0x7, 0xD⟩
def Cf.TAN_OUT_DST : Cf := ⟨0x7, 0xE⟩
def Cf.TAN_OUT_LO : Cf := ⟨0x7, 0xF⟩
def Cf.TAN_OUT_HI : Cf := ⟨0x7, 0x10⟩
def Cf.TAN_RATE : Cf := ⟨0x7, 0x11⟩
def Cf.TAN_FF_SRC : Cf := ⟨0x7, 0x12⟩
def Cf.TAN_KFF : Cf := ⟨0x7, 0x13⟩
def Cf.TAN_DFILT : Cf := ⟨0x7, 0x14⟩
def Cf.TAN_GTAB_MODE : Cf := ⟨0x7, 0x15⟩
def Cf.TAN_BAD_ACTION : Cf := ⟨0x7, 0x16⟩
def Cf.TAN_NBP_KP : Cf := ⟨0x7, 0x17⟩
def Cf.TAN_NBP_KI : Cf := ⟨0x7, 0x18⟩
def Cf.TAN_NBP_KD : Cf := ⟨0x7, 0x19⟩
def Cf.TAN_GATE_BIT : Cf := ⟨0x7, 0x30⟩
def Cf.TAN_GATE_ACTION : Cf := ⟨0x7, 0x31⟩
def Cf.TAN_GATE_VALUE : Cf := ⟨0x7, 0x32⟩
def Cf.TAN_KP_X : Cf := ⟨0x7, 0x20⟩
def Cf.TAN_KP_G : Cf := ⟨0x7, 0x21⟩
def Cf.TAN_KI_X : Cf := ⟨0x7, 0x22⟩
def Cf.TAN_KI_G : Cf := ⟨0x7, 0x23⟩
def Cf.TAN_KD_X : Cf := ⟨0x7, 0x24⟩
def Cf.TAN_KD_G : Cf := ⟨0x7, 0x25⟩

/-! ### LAT fields (R349) -/

def Cf.LAT_SCAN_PERIOD : Cf := ⟨0x9, 0x0⟩
def Cf.LAT_PHASE : Cf := ⟨0x9, 0x1⟩
def Cf.LAT_PROGRAM : Cf := ⟨0x9, 0x100⟩
def Cf.LAT_CONST : Cf := ⟨0x9, 0x101⟩
def Cf.LAT_TPRE : Cf := ⟨0x9, 0x102⟩
def Cf.LAT_CPRE : Cf := ⟨0x9, 0x103⟩
def Cf.LAT_CMPDEF : Cf := ⟨0x9, 0x104⟩
def Cf.LAT_MINIT : Cf := ⟨0x9, 0x105⟩
def Cf.LAT_QINIT : Cf := ⟨0x9, 0x106⟩
def Cf.LAT_OGATE : Cf := ⟨0x9, 0x107⟩
def Cf.LAT_OGVAL : Cf := ⟨0x9, 0x108⟩
def Cf.LAT_AGATE : Cf := ⟨0x9, 0x109⟩
def Cf.LAT_CMPMASK : Cf := ⟨0x9, 0x10A⟩

/-! ### LOC fields (R319) -/

def Cf.LOC_TRK_ENABLE : Cf := ⟨0x8, 0x0⟩
def Cf.LOC_TIMING : Cf := ⟨0x8, 0x1⟩
def Cf.LOC_ABORT_STEP : Cf := ⟨0x8, 0x2⟩
def Cf.LOC_HOLD_BIT : Cf := ⟨0x8, 0x3⟩
def Cf.LOC_ABORT_BIT : Cf := ⟨0x8, 0x4⟩
def Cf.LOC_VTX_EN : Cf := ⟨0x8, 0x5⟩
def Cf.LOC_CNT_DEF : Cf := ⟨0x8, 0x100⟩
def Cf.LOC_ACTION : Cf := ⟨0x8, 0x101⟩
def Cf.LOC_STEP : Cf := ⟨0x8, 0x102⟩

/-! ### VTX fields (R371) -/

def Cf.VTX_Q_MODE : Cf := ⟨0x6, 0x0⟩
def Cf.VTX_Q_PRIO : Cf := ⟨0x6, 0x1⟩
def Cf.VTX_Q_CORES : Cf := ⟨0x6, 0x2⟩
def Cf.VTX_DEP_INIT : Cf := ⟨0x6, 0x3⟩
def Cf.VTX_DEP_REARM : Cf := ⟨0x6, 0x4⟩
def Cf.VTX_DEP_PRED_LO : Cf := ⟨0x6, 0x5⟩
def Cf.VTX_DEP_PRED_HI : Cf := ⟨0x6, 0x6⟩
def Cf.VTX_SRCMAP : Cf := ⟨0x6, 0x100⟩

/-! ### PRM fields (R425) -/

def Cf.PRM_HIST_EN : Cf := ⟨0xB, 0x0⟩
def Cf.PRM_TRG_SRC : Cf := ⟨0xB, 0x10⟩
def Cf.PRM_TRG_COND : Cf := ⟨0xB, 0x11⟩
def Cf.PRM_TRG_POL : Cf := ⟨0xB, 0x12⟩
def Cf.PRM_TRG_LEVEL : Cf := ⟨0xB, 0x13⟩
def Cf.PRM_TRG_HIGH : Cf := ⟨0xB, 0x14⟩
def Cf.PRM_TRG_HYST : Cf := ⟨0xB, 0x15⟩
def Cf.PRM_REC_CH : Cf := ⟨0xB, 0x16⟩
def Cf.PRM_PRE : Cf := ⟨0xB, 0x17⟩
def Cf.PRM_POST : Cf := ⟨0xB, 0x18⟩
def Cf.PRM_HO_KIND : Cf := ⟨0xB, 0x19⟩
def Cf.PRM_HO_VALUE : Cf := ⟨0xB, 0x1A⟩
def Cf.PRM_REARM : Cf := ⟨0xB, 0x1B⟩
def Cf.PRM_ARM_INIT : Cf := ⟨0xB, 0x1C⟩
def Cf.PRM_MEAS_EN : Cf := ⟨0xB, 0x1D⟩
def Cf.PRM_MEAS_LEVEL : Cf := ⟨0xB, 0x1E⟩
def Cf.PRM_MEAS_HYST : Cf := ⟨0xB, 0x1F⟩
def Cf.PRM_SUPP_EVT : Cf := ⟨0xB, 0x20⟩
def Cf.PRM_TIME_PERIOD : Cf := ⟨0xB, 0x21⟩
def Cf.PRM_STREAM_RING : Cf := ⟨0xB, 0x100⟩
def Cf.PRM_RED_IV0 : Cf := ⟨0xB, 0x101⟩
def Cf.PRM_RED_IV1 : Cf := ⟨0xB, 0x102⟩
def Cf.PRM_RED_IV2 : Cf := ⟨0xB, 0x103⟩
def Cf.PRM_RED_IV3 : Cf := ⟨0xB, 0x104⟩
def Cf.PRM_CO_CTRL : Cf := ⟨0xB, 0x200⟩
def Cf.PRM_DB_ABS : Cf := ⟨0xB, 0x201⟩
def Cf.PRM_DB_REL : Cf := ⟨0xB, 0x202⟩

/-! ### HLX fields (R441) -/

def Cf.HLX_NOTIFY_RING : Cf := ⟨0xC, 0x0⟩
def Cf.HLX_STREAM_CLASS : Cf := ⟨0xC, 0x1⟩
def Cf.HLX_VTX_CLASS : Cf := ⟨0xC, 0x2⟩
def Cf.HLX_FF_CLASS : Cf := ⟨0xC, 0x3⟩
def Cf.HLX_FF_PRE : Cf := ⟨0xC, 0x4⟩
def Cf.HLX_FRZ_MAX : Cf := ⟨0xC, 0x5⟩

/-! ### MIR fields (R562) -/

def Cf.MIR_HB_MISS : Cf := ⟨0x10, 0x0⟩
def Cf.MIR_LAG_MAX : Cf := ⟨0x10, 0x1⟩
def Cf.MIR_ARB_WAIT : Cf := ⟨0x10, 0x2⟩

/-- The FCT field table (R209 and R249). -/
def fieldsFCT : List FieldRow :=
  [⟨0x12, 0, 127, 0x0, 1, .enum [0, 1, 2, 3, 4, 5, 6, 7, 8, 9], 0⟩,
   ⟨0x12, 0, 127, 0x1, 1, .enum [0, 1, 2, 3], 0⟩,
   ⟨0x12, 0, 127, 0x2, 1, .int 0 3, 0⟩,
   ⟨0x12, 0, 127, 0x3, 1, .f32any, 0⟩,
   ⟨0x12, 0, 127, 0x4, 1, .int 0 3, 0⟩,
   ⟨0x12, 0, 127, 0x5, 1, .int 0 1, 0⟩] ++
  [⟨0x12, 0, 127, 0x6, 1, .int 10 250, 110⟩,
   ⟨0x12, 0, 127, 0x7, 1, .int 1 50, 20⟩,
   ⟨0x12, 0, 127, 0x8, 1, .int 0 3, 0⟩,
   ⟨0x12, 0, 127, 0x9, 1, .int 1 65535, 1000⟩,
   ⟨0x12, 0, 127, 0xA, 1, .int 0 7, 0⟩,
   ⟨0x12, 0, 127, 0xB, 1, .int 0 1, 0⟩] ++
  [⟨0x12, 0, 127, 0xC, 1, .int 0 1, 0⟩,
   ⟨0x12, 0, 127, 0xD, 1, .int 1 10000, 1000⟩,
   ⟨0x12, 0, 127, 0xE, 1, .enum [0, 1], 0⟩,
   ⟨0x12, 0, 127, 0x10, 1, .set [0, 1, 2, 4, 8, 16, 32], 4⟩,
   ⟨0x12, 0, 127, 0x11, 1, .int 1 65535, 25⟩,
   ⟨0x12, 0, 127, 0x12, 1, .int 0 1, 0⟩] ++
  [⟨0x12, 0, 127, 0x13, 1, .f32 0x00000000 0x40666666, 0x3f000000⟩,
   ⟨0x12, 0, 127, 0x14, 1, .int 0 1, 0⟩,
   ⟨0x12, 128, 143, 0x100, 1, .int 100 1000000, 1000⟩,
   ⟨0x12, 128, 143, 0x101, 1, .int 1 2000, 500⟩,
   ⟨0x12, 128, 143, 0x102, 1, .int 5 20, 5⟩,
   ⟨0x12, 128, 143, 0x103, 1, .int 20 1000, 256⟩] ++
  [⟨0x12, 128, 143, 0x104, 1, .int 100 100000, 1000⟩,
   ⟨0x12, 128, 143, 0x110, 1, .enum [0, 1, 2, 3, 4, 5, 6, 7, 255], 255⟩,
   ⟨0x12, 128, 143, 0x111, 1, .enum [0, 1, 2, 3, 4, 5, 6, 7], 0⟩,
   ⟨0x12, 128, 143, 0x112, 1, .f32 0x00000000 0x447A0000, 0⟩,
   ⟨0x12, 128, 143, 0x113, 1, .f32 0x00000000 0x461C4000, 0⟩,
   ⟨0x12, 128, 143, 0x114, 1, .fbsp, 0⟩] ++
  [⟨0x12, 128, 143, 0x115, 1, .f32 0xC1C00000 0x41C00000, 0⟩,
   ⟨0x12, 128, 143, 0x116, 1, .f32 0xC1200000 0x41C00000, 0⟩,
   ⟨0x12, 128, 143, 0x117, 1, .f32 0xC1200000 0x41C00000, 0⟩,
   ⟨0x12, 128, 143, 0x118, 1, .enum [0, 1, 2, 3, 4, 5, 6, 7, 255], 255⟩,
   ⟨0x12, 128, 143, 0x119, 1, .enum [0, 1, 2, 3, 4, 5, 6, 7], 0⟩,
   ⟨0x12, 128, 143, 0x11A, 1, .f32 0x00000000 0x447A0000, 0⟩] ++
  [⟨0x12, 128, 143, 0x11B, 1, .f32 0x00000000 0x461C4000, 0⟩,
   ⟨0x12, 128, 143, 0x11C, 1, .fbsp, 0⟩,
   ⟨0x12, 128, 143, 0x11D, 1, .f32 0xC1C00000 0x41C00000, 0⟩,
   ⟨0x12, 128, 143, 0x11E, 1, .f32 0xC1200000 0x41C00000, 0⟩,
   ⟨0x12, 128, 143, 0x11F, 1, .f32 0xC1200000 0x41C00000, 0⟩,
   ⟨0x12, 128, 143, 0x120, 1, .enum [0, 1, 2, 3, 4, 5, 6, 7, 255], 255⟩] ++
  [⟨0x12, 128, 143, 0x121, 1, .enum [0, 1, 2, 3, 4, 5, 6, 7], 0⟩,
   ⟨0x12, 128, 143, 0x122, 1, .f32 0x00000000 0x447A0000, 0⟩,
   ⟨0x12, 128, 143, 0x123, 1, .f32 0x00000000 0x461C4000, 0⟩,
   ⟨0x12, 128, 143, 0x124, 1, .fbsp, 0⟩,
   ⟨0x12, 128, 143, 0x125, 1, .f32 0xC1C00000 0x41C00000, 0⟩,
   ⟨0x12, 128, 143, 0x126, 1, .f32 0xC1200000 0x41C00000, 0⟩] ++
  [⟨0x12, 128, 143, 0x127, 1, .f32 0xC1200000 0x41C00000, 0⟩,
   ⟨0x12, 128, 143, 0x128, 1, .enum [0, 1, 2, 3, 4, 5, 6, 7, 255], 255⟩,
   ⟨0x12, 128, 143, 0x129, 1, .enum [0, 1, 2, 3, 4, 5, 6, 7], 0⟩,
   ⟨0x12, 128, 143, 0x12A, 1, .f32 0x00000000 0x447A0000, 0⟩,
   ⟨0x12, 128, 143, 0x12B, 1, .f32 0x00000000 0x461C4000, 0⟩,
   ⟨0x12, 128, 143, 0x12C, 1, .fbsp, 0⟩] ++
  [⟨0x12, 128, 143, 0x12D, 1, .f32 0xC1C00000 0x41C00000, 0⟩,
   ⟨0x12, 128, 143, 0x12E, 1, .f32 0xC1200000 0x41C00000, 0⟩,
   ⟨0x12, 128, 143, 0x12F, 1, .f32 0xC1200000 0x41C00000, 0⟩]

/-- The MER field table (R498). -/
def fieldsMER : List FieldRow :=
  [⟨0x5, 0, 0, 0x0, 1, .f32 0x00000000 0x3F800000, 0x3f000000⟩,
   ⟨0x5, 0, 0, 0x1, 1, .f32 0x00000000 0x447A0000, 0x41a00000⟩,
   ⟨0x5, 0, 0, 0x2, 1, .int 100 1000000000, 0xf4240⟩,
   ⟨0x5, 0, 0, 0x3, 1, .int 1 1000000, 20⟩,
   ⟨0x5, 0, 0, 0x4, 1, .int 1 10000000, 100⟩,
   ⟨0x5, 0, 0, 0x5, 1, .int 1 255, 8⟩] ++
  [⟨0x5, 0, 0, 0x6, 1, .int 10 60000, 10⟩,
   ⟨0x5, 0, 0, 0x7, 1, .int 0 86400, 1⟩,
   ⟨0x5, 1, 2, 0x0, 1, .f32 0x00000000 0x3F800000, 0x3f000000⟩,
   ⟨0x5, 1, 2, 0x1, 1, .f32 0x00000000 0x447A0000, 0x3dcccccd⟩,
   ⟨0x5, 1, 2, 0x2, 1, .int 100 1000000000, 0xf4240⟩,
   ⟨0x5, 1, 2, 0x3, 1, .int 1 1000000, 1000⟩] ++
  [⟨0x5, 1, 2, 0x4, 1, .int 1 10000000, 0x2710⟩,
   ⟨0x5, 1, 2, 0x5, 1, .int 1 255, 8⟩,
   ⟨0x5, 1, 2, 0x6, 1, .int 10 60000, 1000⟩,
   ⟨0x5, 1, 2, 0x7, 1, .int 0 86400, 600⟩,
   ⟨0x5, 3, 3, 0x100, 1, .enum [0, 1, 2, 3], 0⟩,
   ⟨0x5, 3, 3, 0x101, 1, .int 1 500, 10⟩] ++
  [⟨0x5, 3, 3, 0x102, 1, .int 1000 1000000000, 0xf4240⟩,
   ⟨0x5, 3, 3, 0x103, 1, .int 0 1, 0⟩,
   ⟨0x5, 3, 3, 0x104, 1, .int 0 1, 0⟩,
   ⟨0x5, 3, 3, 0x105, 1, .int 0 1, 0⟩,
   ⟨0x5, 3, 3, 0x106, 1, .int 1 500, 200⟩]

/-- The VXL field table (R533). -/
def fieldsVXL : List FieldRow :=
  [⟨0xF, 0, 1, 0x0, 1, .route01, 0⟩,
   ⟨0xF, 2, 3, 0x0, 1, .enum [0, 1, 2], 0⟩,
   ⟨0xF, 0, 3, 0x1, 1, .f32 0xC47A0000 0x447A0000, 0⟩,
   ⟨0xF, 4, 4, 0x100, 1, .int 0 1023, 0⟩,
   ⟨0xF, 4, 4, 0x101, 1, .step 100 1000000 100, 1000⟩,
   ⟨0xF, 4, 4, 0x102, 1, .int 2 255, 16⟩] ++
  [⟨0xF, 5, 5, 0x200, 4096, .table, 0⟩,
   ⟨0xF, 5, 5, 0x201, 4096, .table, 0⟩,
   ⟨0xF, 5, 5, 0x202, 4096, .table, 3⟩,
   ⟨0xF, 5, 5, 0x203, 4096, .table, 0⟩]

/-- The ETH field table (R478). -/
def fieldsETH : List FieldRow :=
  [⟨0xD, 0, 1, 0x0, 1, .set [10, 100, 1000], 1000⟩,
   ⟨0xD, 0, 1, 0x1, 1, .int 0 1, 0⟩,
   ⟨0xD, 0, 1, 0x2, 1, .intOr 0 63 255, 255⟩,
   ⟨0xD, 0, 1, 0x3, 32, .any, 0⟩,
   ⟨0xD, 2, 2, 0x100, 1, .int 0 1, 0⟩,
   ⟨0xD, 2, 2, 0x101, 1, .int 0 1, 1⟩] ++
  [⟨0xD, 2, 2, 0x102, 1, .int 10 10000, 400⟩,
   ⟨0xD, 2, 2, 0x103, 1, .int 1 1000, 100⟩,
   ⟨0xD, 2, 2, 0x104, 736, .table, 0⟩,
   ⟨0xD, 3, 10, 0x200, 1, .int 0 1, 0⟩,
   ⟨0xD, 3, 10, 0x201, 1, .int 1 255, 1⟩,
   ⟨0xD, 3, 10, 0x202, 1, .int 0 1, 0⟩] ++
  [⟨0xD, 3, 10, 0x203, 1, .any, 0⟩,
   ⟨0xD, 3, 10, 0x204, 1, .int 0 65535, 0⟩,
   ⟨0xD, 3, 10, 0x205, 1, .int 1536 65535, 0x88b5⟩,
   ⟨0xD, 3, 10, 0x206, 1, .int 0 65535, 0⟩]

/-- The CAN field table (R460). -/
def fieldsCAN : List FieldRow :=
  [⟨0xE, 0, 3, 0x0, 1, .enum [0, 1, 2], 0⟩,
   ⟨0xE, 0, 3, 0x1, 1, .int 0 1, 0⟩,
   ⟨0xE, 0, 3, 0x2, 1, .int 1 512, 2⟩,
   ⟨0xE, 0, 3, 0x3, 1, .int 2 256, 63⟩,
   ⟨0xE, 0, 3, 0x4, 1, .int 1 128, 16⟩,
   ⟨0xE, 0, 3, 0x5, 1, .int 1 128, 1⟩] ++
  [⟨0xE, 0, 3, 0x6, 1, .int 1 32, 1⟩,
   ⟨0xE, 0, 3, 0x7, 1, .int 1 32, 31⟩,
   ⟨0xE, 0, 3, 0x8, 1, .int 1 16, 8⟩,
   ⟨0xE, 0, 3, 0x9, 1, .int 1 16, 1⟩,
   ⟨0xE, 0, 3, 0xA, 1, .int 0 127, 0⟩,
   ⟨0xE, 0, 3, 0xB, 1, .int 0 15, 0⟩] ++
  [⟨0xE, 0, 3, 0xC, 1, .intOr 0 63 255, 255⟩,
   ⟨0xE, 0, 3, 0xD, 1, .int 0 1, 0⟩,
   ⟨0xE, 0, 3, 0xE, 1, .any, 0⟩,
   ⟨0xE, 0, 3, 0xF, 1, .any, 0⟩]

/-- The ARC field table (R394). -/
def fieldsARC : List FieldRow :=
  [⟨0xA, 0, 31, 0x0, 1, .int 0 1, 0⟩,
   ⟨0xA, 0, 31, 0x1, 1, .int 0 1, 0⟩,
   ⟨0xA, 0, 31, 0x2, 1, .enum [0, 1], 0⟩,
   ⟨0xA, 0, 31, 0x3, 1, .enum [0, 1], 0⟩,
   ⟨0xA, 0, 31, 0x4, 1, .intOr 0 31 255, 255⟩,
   ⟨0xA, 0, 31, 0x5, 1, .int 0 16777215, 0⟩] ++
  [⟨0xA, 0, 31, 0x6, 1, .int 40 16777215, 0x9c40⟩,
   ⟨0xA, 0, 31, 0x7, 1, .int 0 268435439, 0⟩,
   ⟨0xA, 0, 31, 0x8, 1, .int 0 268435440, 0⟩,
   ⟨0xA, 0, 31, 0x9, 1, .int 0 1, 1⟩,
   ⟨0xA, 0, 31, 0xA, 1, .int 0 1, 1⟩,
   ⟨0xA, 0, 31, 0xB, 1, .int 0 4095, 200⟩] ++
  [⟨0xA, 0, 31, 0xC, 1, .int 0 4095, 200⟩,
   ⟨0xA, 0, 31, 0xD, 1, .int 0 4095, 0⟩,
   ⟨0xA, 0, 31, 0xE, 1, .int 0 1, 0⟩,
   ⟨0xA, 0, 31, 0xF, 1, .int 0 255, 255⟩,
   ⟨0xA, 0, 31, 0x10, 1, .int 0 1, 0⟩,
   ⟨0xA, 0, 31, 0x11, 1, .int 0 15, 0⟩] ++
  [⟨0xA, 0, 31, 0x12, 1, .enum [0, 1, 2, 3, 4], 0⟩,
   ⟨0xA, 0, 31, 0x13, 1, .arcBoot, 0x190000⟩,
   ⟨0xA, 0, 31, 0x14, 1, .any, 0⟩,
   ⟨0xA, 32, 32, 0x100, 1, .int 0 255, 8⟩]

/-- The TAN field table (R284). -/
def fieldsTAN : List FieldRow :=
  [⟨0x7, 0, 255, 0x0, 1, .any, 0⟩,
   ⟨0x7, 0, 255, 0x1, 1, .step 5 100000 5, 1000⟩,
   ⟨0x7, 0, 255, 0x2, 1, .int 0 1, 0⟩,
   ⟨0x7, 0, 255, 0x3, 1, .int 0 7, 0⟩,
   ⟨0x7, 0, 255, 0x4, 1, .int 0 4294967295, 0⟩,
   ⟨0x7, 0, 255, 0x5, 1, .deadline, 0⟩] ++
  [⟨0x7, 0, 255, 0x6, 1, .f32 0x358637BD 0x49742400, 0x3f800000⟩,
   ⟨0x7, 0, 255, 0x7, 1, .f32 0xCE6E6B28 0x4E6E6B28, 0⟩,
   ⟨0x7, 0, 255, 0x8, 1, .enum [0, 1], 0⟩,
   ⟨0x7, 0, 255, 0x9, 1, .f32 0xCE6E6B28 0x4E6E6B28, 0xc9742400⟩,
   ⟨0x7, 0, 255, 0xA, 1, .f32 0xCE6E6B28 0x4E6E6B28, 0x49742400⟩,
   ⟨0x7, 0, 255, 0xB, 1, .f32any, 0⟩] ++
  [⟨0x7, 0, 255, 0xC, 1, .enum [1, 2, 3], 1⟩,
   ⟨0x7, 0, 255, 0xD, 1, .int 0 1, 0⟩,
   ⟨0x7, 0, 255, 0xE, 1, .any, 0⟩,
   ⟨0x7, 0, 255, 0xF, 1, .f32any, 0⟩,
   ⟨0x7, 0, 255, 0x10, 1, .f32any, 0⟩,
   ⟨0x7, 0, 255, 0x11, 1, .f32 0x00000000 0x4E6E6B28, 0⟩] ++
  [⟨0x7, 0, 255, 0x12, 1, .any, 0xffffffff⟩,
   ⟨0x7, 0, 255, 0x13, 1, .f32 0xC9742400 0x49742400, 0⟩,
   ⟨0x7, 0, 255, 0x14, 1, .f32 0x38D1B717 0x3F800000, 0x3f800000⟩,
   ⟨0x7, 0, 255, 0x15, 1, .enum [0, 1], 0⟩,
   ⟨0x7, 0, 255, 0x16, 1, .enum [0, 1], 0⟩,
   ⟨0x7, 0, 255, 0x17, 1, .int 1 64, 1⟩] ++
  [⟨0x7, 0, 255, 0x18, 1, .int 1 64, 1⟩,
   ⟨0x7, 0, 255, 0x19, 1, .int 1 64, 1⟩,
   ⟨0x7, 0, 255, 0x30, 1, .intOr 0 4095 65535, 0xffff⟩,
   ⟨0x7, 0, 255, 0x31, 1, .enum [0, 1], 0⟩,
   ⟨0x7, 0, 255, 0x32, 1, .f32any, 0⟩,
   ⟨0x7, 0, 255, 0x20, 64, .f32any, 0⟩] ++
  [⟨0x7, 0, 255, 0x21, 64, .f32 0x00000000 0x49742400, 0⟩,
   ⟨0x7, 0, 255, 0x22, 64, .f32any, 0⟩,
   ⟨0x7, 0, 255, 0x23, 64, .f32 0x00000000 0x49742400, 0⟩,
   ⟨0x7, 0, 255, 0x24, 64, .f32any, 0⟩,
   ⟨0x7, 0, 255, 0x25, 64, .f32 0x00000000 0x49742400, 0⟩]

/-- The LAT field table (R349). -/
def fieldsLAT : List FieldRow :=
  [⟨0x9, 0, 0, 0x0, 1, .step 50 100000 50, 1000⟩,
   ⟨0x9, 0, 0, 0x1, 1, .int 0 4294967295, 0⟩,
   ⟨0x9, 0, 0, 0x100, 16384, .table, 0⟩,
   ⟨0x9, 0, 0, 0x101, 2048, .any, 0⟩,
   ⟨0x9, 0, 0, 0x102, 1024, .int 0 2000000000, 0⟩,
   ⟨0x9, 0, 0, 0x103, 512, .any, 0⟩] ++
  [⟨0x9, 0, 0, 0x104, 4096, .table, 0⟩,
   ⟨0x9, 0, 0, 0x105, 128, .any, 0⟩,
   ⟨0x9, 0, 0, 0x106, 9, .table, 0⟩,
   ⟨0x9, 0, 0, 0x107, 128, .table, 0⟩,
   ⟨0x9, 0, 0, 0x108, 128, .table, 0⟩,
   ⟨0x9, 0, 0, 0x109, 32, .table, 0⟩] ++
  [⟨0x9, 0, 0, 0x10A, 128, .any, 0⟩]

/-- The LOC field table (R319). -/
def fieldsLOC : List FieldRow :=
  [⟨0x8, 0, 15, 0x0, 1, .int 0 1, 0⟩,
   ⟨0x8, 0, 15, 0x1, 1, .enum [0, 1], 0⟩,
   ⟨0x8, 0, 15, 0x2, 1, .intOr 0 4095 65535, 0xffff⟩,
   ⟨0x8, 0, 15, 0x3, 1, .intOr 0 4095 65535, 0xffff⟩,
   ⟨0x8, 0, 15, 0x4, 1, .intOr 0 4095 65535, 0xffff⟩,
   ⟨0x8, 0, 15, 0x5, 1, .int 0 3, 0⟩] ++
  [⟨0x8, 16, 16, 0x100, 1024, .table, 0⟩,
   ⟨0x8, 16, 16, 0x101, 65536, .table, 0⟩,
   ⟨0x8, 16, 16, 0x102, 16384, .table, 0⟩]

/-- The VTX field table (R371). -/
def fieldsVTX : List FieldRow :=
  [⟨0x6, 0, 63, 0x0, 1, .enum [0, 1], 0⟩,
   ⟨0x6, 0, 63, 0x1, 1, .int 0 7, 0⟩,
   ⟨0x6, 0, 63, 0x2, 1, .int 1 15, 15⟩,
   ⟨0x6, 0, 63, 0x3, 1, .sint (-32768) 32767, 0⟩,
   ⟨0x6, 0, 63, 0x4, 1, .int 1 32767, 1⟩,
   ⟨0x6, 0, 63, 0x5, 1, .any, 0⟩] ++
  [⟨0x6, 0, 63, 0x6, 1, .any, 0⟩,
   ⟨0x6, 64, 64, 0x100, 512, .table, 0⟩]

/-- The PRM field table (R425). -/
def fieldsPRM : List FieldRow :=
  [⟨0xB, 0, 127, 0x0, 1, .int 0 1, 1⟩,
   ⟨0xB, 128, 143, 0x10, 1, .trgSrc, 0⟩,
   ⟨0xB, 128, 143, 0x11, 1, .enum [0, 1, 2], 0⟩,
   ⟨0xB, 128, 143, 0x12, 1, .int 0 2, 0⟩,
   ⟨0xB, 128, 143, 0x13, 1, .f32any, 0⟩,
   ⟨0xB, 128, 143, 0x14, 1, .f32any, 0⟩] ++
  [⟨0xB, 128, 143, 0x15, 1, .f32 0x00000000 0x4E6E6B28, 0⟩,
   ⟨0xB, 128, 143, 0x16, 1, .intOr 0 127 255, 255⟩,
   ⟨0xB, 128, 143, 0x17, 1, .int 0 65536, 0⟩,
   ⟨0xB, 128, 143, 0x18, 1, .int 1 1048576, 1000⟩,
   ⟨0xB, 128, 143, 0x19, 1, .enum [0, 1], 0⟩,
   ⟨0xB, 128, 143, 0x1A, 1, .int 0 4000000000, 0⟩] ++
  [⟨0xB, 128, 143, 0x1B, 1, .enum [0, 1], 0⟩,
   ⟨0xB, 128, 143, 0x1C, 1, .int 0 1, 0⟩,
   ⟨0xB, 128, 143, 0x1D, 1, .int 0 1, 0⟩,
   ⟨0xB, 128, 143, 0x1E, 1, .f32any, 0⟩,
   ⟨0xB, 128, 143, 0x1F, 1, .f32 0x00000000 0x4E6E6B28, 0⟩,
   ⟨0xB, 128, 143, 0x20, 1, .int 0 1, 0⟩] ++
  [⟨0xB, 128, 143, 0x21, 1, .int 1 86400000, 1000⟩,
   ⟨0xB, 144, 144, 0x100, 1, .intOr 0 63 255, 255⟩,
   ⟨0xB, 144, 144, 0x101, 1, .int 1 3600000, 1⟩,
   ⟨0xB, 144, 144, 0x102, 1, .int 1 3600000, 10⟩,
   ⟨0xB, 144, 144, 0x103, 1, .int 1 3600000, 100⟩,
   ⟨0xB, 144, 144, 0x104, 1, .int 1 3600000, 1000⟩] ++
  [⟨0xB, 145, 145, 0x200, 4096, .table, 0⟩,
   ⟨0xB, 145, 145, 0x201, 4096, .f32 0x00000000 0x4E6E6B28, 0⟩,
   ⟨0xB, 145, 145, 0x202, 4096, .f32 0x00000000 0x3F800000, 0⟩]

/-- The HLX field table (R441). -/
def fieldsHLX : List FieldRow :=
  [⟨0xC, 0, 0, 0x0, 1, .intOr 0 63 255, 255⟩,
   ⟨0xC, 0, 0, 0x1, 1, .int 0 65535, 255⟩,
   ⟨0xC, 0, 0, 0x2, 1, .int 0 65535, 112⟩,
   ⟨0xC, 0, 0, 0x3, 1, .int 0 65535, 48⟩,
   ⟨0xC, 0, 0, 0x4, 1, .int 0 1023, 256⟩,
   ⟨0xC, 0, 0, 0x5, 1, .int 1 3600000, 0xea60⟩]

/-- The MIR field table (R562). -/
def fieldsMIR : List FieldRow :=
  [⟨0x10, 0, 0, 0x0, 1, .int 2 15, 3⟩,
   ⟨0x10, 0, 0, 0x1, 1, .int 50 10000, 500⟩,
   ⟨0x10, 0, 0, 0x2, 1, .int 10 10000, 100⟩]

/-- The field table of a block, by block ID; empty for a block that takes no configuration (R142). -/
def fieldsOf (block : Nat) : List FieldRow :=
  if block = 0x12 then fieldsFCT
  else if block = 0x5 then fieldsMER
  else if block = 0xF then fieldsVXL
  else if block = 0xD then fieldsETH
  else if block = 0xE then fieldsCAN
  else if block = 0xA then fieldsARC
  else if block = 0x7 then fieldsTAN
  else if block = 0x9 then fieldsLAT
  else if block = 0x8 then fieldsLOC
  else if block = 0x6 then fieldsVTX
  else if block = 0xB then fieldsPRM
  else if block = 0xC then fieldsHLX
  else if block = 0x10 then fieldsMIR
  else []

/-- The blocks in the order in which validation takes them (R148). -/
def cfgOrder : List Nat := [0x12, 0x5, 0xF, 0xD, 0xE, 0xA, 0x7, 0x9, 0x8, 0x6, 0xB, 0xC, 0x10]

/-- The row that defines a field for an instance (R143). -/
def fieldRow (block inst fld : Nat) : Option FieldRow :=
  (fieldsOf block).find? (fun r => r.fld == fld && r.iLo ≤ inst && inst ≤ r.iHi)

/-- The one key of a field or table element (R141). -/
def cfgKey (block inst fld elem : Nat) : Nat := ((block * 0x8000 + inst) * 0x10000 + fld) * 0x10000 + elem

/-- The element index of a key. -/
def keyElem (k : Nat) : Nat := k % 0x10000

/-- The field ID of a key. -/
def keyFld (k : Nat) : Nat := k / 0x10000 % 0x10000

/-- The instance of a key. -/
def keyInst (k : Nat) : Nat := k / 0x100000000 % 0x8000

/-- The block ID of a key. -/
def keyBlock (k : Nat) : Nat := k / 0x800000000000

/-- The default value of a field or element (the defaults of each block's field rule). -/
def cfgDefault (k : Nat) : Word :=
  match fieldRow (keyBlock k) (keyInst k) (keyFld k) with
  | some r => w32 r.dflt
  | none => 0

end Sys2Proof.Machine
end

