-- ==== Sys2Proof/Machine/RegTable.lean ====
section
/-! DEFINITION. The register table of BAR0: every register row of the register tables of spec/01 to spec/21, its
offset, its repetition, its reset value and the access code of its fields (R14), and one named constant per field.
A field whose reset the spec does not give counts as zero in `reset` (DESIGN CHOICE, notes/assumptions/2.md). -/

namespace Sys2Proof.Machine

/-- A register of BAR0 (R12, R17): its offset for index 0, its one or two repetitions (count, stride), the first
index the spec lists, its reset value, and for each access code of R14 the bits that carry it. -/
structure Reg where
  base  : Nat
  n1    : Nat
  s1    : Nat
  n2    : Nat
  s2    : Nat
  first : Nat
  reset : Word
  rw    : Word
  wo    : Word
  w1c   : Word
  rc    : Word
  deriving DecidableEq, Repr

/-- The BAR0 offset of the register's copy `i`, `j`. -/
def Reg.addr (r : Reg) (i j : Nat) : Nat := r.base + i * r.s1 + j * r.s2

/-- Whether the BAR0 offset `a` is a copy of the register that the spec lists. -/
def Reg.covers (r : Reg) (a : Nat) : Bool :=
  if a < r.base then false
  else
    let d := a - r.base
    let i := if r.n1 ≤ 1 then 0 else d / r.s1
    let e := d - i * r.s1
    let j := if r.n2 ≤ 1 then 0 else e / r.s2
    r.first ≤ i && i < r.n1 && j < r.n2 && e == j * r.s2

/-- A field of a register: its register, its lowest bit and its width. -/
structure Fld where
  reg : Reg
  lo  : Nat
  wd  : Nat
  deriving DecidableEq, Repr

/-! ### spec/01_architecture.md -/

/-- `CLK_STATUS, offset 0x000` (spec/01_architecture.md): reset not given for PRESENT. -/
def Reg.CLK_STATUS : Reg := ⟨0x10000, 1, 0x0, 1, 0x0, 0, 0x0, 0x0, 0x0, 0x0, 0x0⟩
def Fld.CLK_STATUS_PRESENT : Fld := ⟨Reg.CLK_STATUS, 0, 12⟩

/-- `CLK_LOSS, offset 0x004` (spec/01_architecture.md). -/
def Reg.CLK_LOSS : Reg := ⟨0x10004, 1, 0x0, 1, 0x0, 0, 0x0, 0x0, 0x0, 0xFFF, 0x0⟩
def Fld.CLK_LOSS_LOST : Fld := ⟨Reg.CLK_LOSS, 0, 12⟩

/-- `PWR_CTRL, offset 0x100` (spec/01_architecture.md). -/
def Reg.PWR_CTRL : Reg := ⟨0x10100, 1, 0x0, 1, 0x0, 0, 0xFC, 0xFC, 0x0, 0x0, 0x0⟩
def Fld.PWR_CTRL_ON_FLK : Fld := ⟨Reg.PWR_CTRL, 7, 1⟩
def Fld.PWR_CTRL_ON_VXL : Fld := ⟨Reg.PWR_CTRL, 6, 1⟩
def Fld.PWR_CTRL_ON_NET : Fld := ⟨Reg.PWR_CTRL, 5, 1⟩
def Fld.PWR_CTRL_ON_ACQ : Fld := ⟨Reg.PWR_CTRL, 4, 1⟩
def Fld.PWR_CTRL_ON_ENG : Fld := ⟨Reg.PWR_CTRL, 3, 1⟩
def Fld.PWR_CTRL_ON_CORE : Fld := ⟨Reg.PWR_CTRL, 2, 1⟩

/-- `PWR_UNLOCK, offset 0x104` (spec/01_architecture.md). -/
def Reg.PWR_UNLOCK : Reg := ⟨0x10104, 1, 0x0, 1, 0x0, 0, 0x0, 0x0, 0xFFFFFFFF, 0x0, 0x0⟩
def Fld.PWR_UNLOCK_KEY : Fld := ⟨Reg.PWR_UNLOCK, 0, 32⟩

/-- `PWR_STATUS, offset 0x108` (spec/01_architecture.md). -/
def Reg.PWR_STATUS : Reg := ⟨0x10108, 1, 0x0, 1, 0x0, 0, 0xFF, 0x0, 0x0, 0x0, 0x0⟩
def Fld.PWR_STATUS_BUSY : Fld := ⟨Reg.PWR_STATUS, 8, 1⟩
def Fld.PWR_STATUS_UP : Fld := ⟨Reg.PWR_STATUS, 0, 8⟩

/-- `PWR_DENY, offset 0x10C` (spec/01_architecture.md). -/
def Reg.PWR_DENY : Reg := ⟨0x1010C, 1, 0x0, 1, 0x0, 0, 0x0, 0x0, 0x0, 0x0, 0x80000707⟩
def Fld.PWR_DENY_VALID : Fld := ⟨Reg.PWR_DENY, 31, 1⟩
def Fld.PWR_DENY_DOMAIN : Fld := ⟨Reg.PWR_DENY, 8, 3⟩
def Fld.PWR_DENY_REASON : Fld := ⟨Reg.PWR_DENY, 0, 3⟩

/-- `PWR_OFFACC, offset 0x110` (spec/01_architecture.md). -/
def Reg.PWR_OFFACC : Reg := ⟨0x10110, 1, 0x0, 1, 0x0, 0, 0x0, 0x0, 0x0, 0x0, 0xC03FFFFF⟩
def Fld.PWR_OFFACC_VALID : Fld := ⟨Reg.PWR_OFFACC, 31, 1⟩
def Fld.PWR_OFFACC_MULTI : Fld := ⟨Reg.PWR_OFFACC, 30, 1⟩
def Fld.PWR_OFFACC_OFFSET : Fld := ⟨Reg.PWR_OFFACC, 0, 22⟩

/-! ### spec/02_module_hardware.md -/

/-- `SYS_HWSTAT, offset 0x040` (spec/02_module_hardware.md): reset not given for BASE_ID, LATCH, PRES_B, PRES_A, SFP_B, SFP_A, LS_OK. -/
def Reg.SYS_HWSTAT : Reg := ⟨0x40, 1, 0x0, 1, 0x0, 0, 0x0, 0x0, 0x0, 0x0, 0x0⟩
def Fld.SYS_HWSTAT_BASE_ID : Fld := ⟨Reg.SYS_HWSTAT, 8, 2⟩
def Fld.SYS_HWSTAT_LATCH : Fld := ⟨Reg.SYS_HWSTAT, 5, 1⟩
def Fld.SYS_HWSTAT_PRES_B : Fld := ⟨Reg.SYS_HWSTAT, 4, 1⟩
def Fld.SYS_HWSTAT_PRES_A : Fld := ⟨Reg.SYS_HWSTAT, 3, 1⟩
def Fld.SYS_HWSTAT_SFP_B : Fld := ⟨Reg.SYS_HWSTAT, 2, 1⟩
def Fld.SYS_HWSTAT_SFP_A : Fld := ⟨Reg.SYS_HWSTAT, 1, 1⟩
def Fld.SYS_HWSTAT_LS_OK : Fld := ⟨Reg.SYS_HWSTAT, 0, 1⟩

/-- `SYS_TEMP, offset 0x044` (spec/02_module_hardware.md): reset not given for PEAK, BOARD, JUNCTION. -/
def Reg.SYS_TEMP : Reg := ⟨0x44, 1, 0x0, 1, 0x0, 0, 0x64000000, 0xFF000000, 0x0, 0x0, 0xFF0000⟩
def Fld.SYS_TEMP_TEMP_WARN : Fld := ⟨Reg.SYS_TEMP, 24, 8⟩
def Fld.SYS_TEMP_PEAK : Fld := ⟨Reg.SYS_TEMP, 16, 8⟩
def Fld.SYS_TEMP_BOARD : Fld := ⟨Reg.SYS_TEMP, 8, 8⟩
def Fld.SYS_TEMP_JUNCTION : Fld := ⟨Reg.SYS_TEMP, 0, 8⟩

/-- `SYS_LSUP, offset 0x048` (spec/02_module_hardware.md): reset not given for MIN, VOLT. -/
def Reg.SYS_LSUP : Reg := ⟨0x48, 1, 0x0, 1, 0x0, 0, 0x0, 0x0, 0x0, 0x0, 0xFFFF0000⟩
def Fld.SYS_LSUP_MIN : Fld := ⟨Reg.SYS_LSUP, 16, 16⟩
def Fld.SYS_LSUP_VOLT : Fld := ⟨Reg.SYS_LSUP, 0, 16⟩

/-! ### spec/03_startup_restart.md -/

/-- `SYS_STRAP, offset 0x010` (spec/03_startup_restart.md): reset not given for ROLE, BOOT_SEL. -/
def Reg.SYS_STRAP : Reg := ⟨0x10, 1, 0x0, 1, 0x0, 0, 0x0, 0x0, 0x0, 0x0, 0x0⟩
def Fld.SYS_STRAP_ROLE : Fld := ⟨Reg.SYS_STRAP, 2, 2⟩
def Fld.SYS_STRAP_BOOT_SEL : Fld := ⟨Reg.SYS_STRAP, 0, 2⟩

/-- `SYS_BOOT, offset 0x014` (spec/03_startup_restart.md): reset not given for DURATION, LAST_START, RECOVERY, FALLBACK, TRIAL, IMAGE. -/
def Reg.SYS_BOOT : Reg := ⟨0x14, 1, 0x0, 1, 0x0, 0, 0x0, 0x0, 0x0, 0x0, 0x0⟩
def Fld.SYS_BOOT_DURATION : Fld := ⟨Reg.SYS_BOOT, 16, 16⟩
def Fld.SYS_BOOT_LAST_START : Fld := ⟨Reg.SYS_BOOT, 4, 2⟩
def Fld.SYS_BOOT_RECOVERY : Fld := ⟨Reg.SYS_BOOT, 3, 1⟩
def Fld.SYS_BOOT_FALLBACK : Fld := ⟨Reg.SYS_BOOT, 2, 1⟩
def Fld.SYS_BOOT_TRIAL : Fld := ⟨Reg.SYS_BOOT, 1, 1⟩
def Fld.SYS_BOOT_IMAGE : Fld := ⟨Reg.SYS_BOOT, 0, 1⟩

/-- `SYS_RESET, offset 0x018` (spec/03_startup_restart.md). -/
def Reg.SYS_RESET : Reg := ⟨0x18, 1, 0x0, 1, 0x0, 0, 0x0, 0x0, 0xFFFF0003, 0x0, 0x0⟩
def Fld.SYS_RESET_KEY : Fld := ⟨Reg.SYS_RESET, 16, 16⟩
def Fld.SYS_RESET_TYPE : Fld := ⟨Reg.SYS_RESET, 0, 2⟩

/-- `SYS_RESTART, offset 0x01C` (spec/03_startup_restart.md): reset not given for CAUSE. -/
def Reg.SYS_RESTART : Reg := ⟨0x1C, 1, 0x0, 1, 0x0, 0, 0x0, 0x0, 0x0, 0x0, 0x0⟩
def Fld.SYS_RESTART_WARM_COUNT : Fld := ⟨Reg.SYS_RESTART, 24, 8⟩
def Fld.SYS_RESTART_CAUSE : Fld := ⟨Reg.SYS_RESTART, 0, 8⟩

/-- `SYS_CHKCFG, offset 0x020` (spec/03_startup_restart.md). -/
def Reg.SYS_CHKCFG : Reg := ⟨0x20, 1, 0x0, 1, 0x0, 0, 0x80C8000A, 0x8FFFFFFF, 0x0, 0x0, 0x0⟩
def Fld.SYS_CHKCFG_RESUME_EN : Fld := ⟨Reg.SYS_CHKCFG, 31, 1⟩
def Fld.SYS_CHKCFG_MAXAGE : Fld := ⟨Reg.SYS_CHKCFG, 16, 12⟩
def Fld.SYS_CHKCFG_PERIOD : Fld := ⟨Reg.SYS_CHKCFG, 0, 16⟩

/-- `SYS_CHKSTAT, offset 0x024` (spec/03_startup_restart.md): reset not given for VALID, SLOT. -/
def Reg.SYS_CHKSTAT : Reg := ⟨0x24, 1, 0x0, 1, 0x0, 0, 0x0, 0x0, 0x0, 0x0, 0x0⟩
def Fld.SYS_CHKSTAT_VALID : Fld := ⟨Reg.SYS_CHKSTAT, 31, 1⟩
def Fld.SYS_CHKSTAT_SLOT : Fld := ⟨Reg.SYS_CHKSTAT, 30, 1⟩
def Fld.SYS_CHKSTAT_PENDING : Fld := ⟨Reg.SYS_CHKSTAT, 29, 1⟩
def Fld.SYS_CHKSTAT_RESUMED : Fld := ⟨Reg.SYS_CHKSTAT, 28, 1⟩

/-- `SYS_CHKAGE, offset 0x028` (spec/03_startup_restart.md): reset not given for AGE. -/
def Reg.SYS_CHKAGE : Reg := ⟨0x28, 1, 0x0, 1, 0x0, 0, 0x0, 0x0, 0x0, 0x0, 0x0⟩
def Fld.SYS_CHKAGE_AGE : Fld := ⟨Reg.SYS_CHKAGE, 0, 32⟩

/-! ### spec/04_host_rings.md -/

/-- `HIF_LINK, offset 0x000` (spec/04_host_rings.md). -/
def Reg.HIF_LINK : Reg := ⟨0x20000, 1, 0x0, 1, 0x0, 0, 0x0, 0x0, 0x0, 0x0, 0x0⟩
def Fld.HIF_LINK_UP : Fld := ⟨Reg.HIF_LINK, 15, 1⟩
def Fld.HIF_LINK_WIDTH : Fld := ⟨Reg.HIF_LINK, 8, 4⟩
def Fld.HIF_LINK_SPEED : Fld := ⟨Reg.HIF_LINK, 0, 4⟩

/-- `HIF_BADACC, offset 0x008` (spec/04_host_rings.md). -/
def Reg.HIF_BADACC : Reg := ⟨0x20008, 1, 0x0, 1, 0x0, 0, 0x0, 0x0, 0x0, 0x0, 0xC03FFFFF⟩
def Fld.HIF_BADACC_VALID : Fld := ⟨Reg.HIF_BADACC, 31, 1⟩
def Fld.HIF_BADACC_BAR : Fld := ⟨Reg.HIF_BADACC, 30, 1⟩
def Fld.HIF_BADACC_OFFSET : Fld := ⟨Reg.HIF_BADACC, 0, 22⟩

/-- `HIF_BADCNT, offset 0x00C` (spec/04_host_rings.md). -/
def Reg.HIF_BADCNT : Reg := ⟨0x2000C, 1, 0x0, 1, 0x0, 0, 0x0, 0x0, 0x0, 0x0, 0xFFFFFFFF⟩
def Fld.HIF_BADCNT_COUNT : Fld := ⟨Reg.HIF_BADCNT, 0, 32⟩

/-- `HIF_TMO, offset 0x010` (spec/04_host_rings.md). -/
def Reg.HIF_TMO : Reg := ⟨0x20010, 1, 0x0, 1, 0x0, 0, 0x64, 0xFFFF, 0x0, 0x0, 0x0⟩
def Fld.HIF_TMO_MS : Fld := ⟨Reg.HIF_TMO, 0, 16⟩

/-- `HIF_INTAKE, offset 0x014` (spec/04_host_rings.md). -/
def Reg.HIF_INTAKE : Reg := ⟨0x20014, 1, 0x0, 1, 0x0, 0, 0x0, 0x0, 0x0, 0x0, 0x0⟩
def Fld.HIF_INTAKE_INFLIGHT : Fld := ⟨Reg.HIF_INTAKE, 0, 13⟩

/-- `HIF_QERR, offset 0x018` (spec/04_host_rings.md). -/
def Reg.HIF_QERR : Reg := ⟨0x20018, 1, 0x0, 1, 0x0, 0, 0x0, 0x0, 0x0, 0x0, 0x8000007F⟩
def Fld.HIF_QERR_VALID : Fld := ⟨Reg.HIF_QERR, 31, 1⟩
def Fld.HIF_QERR_RING : Fld := ⟨Reg.HIF_QERR, 0, 7⟩

/-- `HIF_SQ_BASE_LO, offset 0x1000 + n × 0x20` (spec/04_host_rings.md). -/
def Reg.HIF_SQ_BASE_LO : Reg := ⟨0x21000, 64, 0x20, 1, 0x0, 0, 0x0, 0xFFFFF000, 0x0, 0x0, 0x0⟩
def Fld.HIF_SQ_BASE_LO_ADDR : Fld := ⟨Reg.HIF_SQ_BASE_LO, 12, 20⟩

/-- `HIF_CQ_BASE_LO, offset 0x2000 + m × 0x20` (spec/04_host_rings.md). -/
def Reg.HIF_CQ_BASE_LO : Reg := ⟨0x22000, 64, 0x20, 1, 0x0, 0, 0x0, 0xFFFFF000, 0x0, 0x0, 0x0⟩
def Fld.HIF_CQ_BASE_LO_ADDR : Fld := ⟨Reg.HIF_CQ_BASE_LO, 12, 20⟩

/-- `HIF_SQ_BASE_HI, offset 0x1004 + n × 0x20` (spec/04_host_rings.md). -/
def Reg.HIF_SQ_BASE_HI : Reg := ⟨0x21004, 64, 0x20, 1, 0x0, 0, 0x0, 0xFFFFFFFF, 0x0, 0x0, 0x0⟩
def Fld.HIF_SQ_BASE_HI_ADDR : Fld := ⟨Reg.HIF_SQ_BASE_HI, 0, 32⟩

/-- `HIF_CQ_BASE_HI, offset 0x2004 + m × 0x20` (spec/04_host_rings.md). -/
def Reg.HIF_CQ_BASE_HI : Reg := ⟨0x22004, 64, 0x20, 1, 0x0, 0, 0x0, 0xFFFFFFFF, 0x0, 0x0, 0x0⟩
def Fld.HIF_CQ_BASE_HI_ADDR : Fld := ⟨Reg.HIF_CQ_BASE_HI, 0, 32⟩

/-- `HIF_SQ_CTRL, offset 0x1008 + n × 0x20` (spec/04_host_rings.md). -/
def Reg.HIF_SQ_CTRL : Reg := ⟨0x21008, 64, 0x20, 1, 0x0, 0, 0x400, 0x3FFF0F03, 0x0, 0x0, 0x0⟩
def Fld.HIF_SQ_CTRL_CQ : Fld := ⟨Reg.HIF_SQ_CTRL, 24, 6⟩
def Fld.HIF_SQ_CTRL_RPT : Fld := ⟨Reg.HIF_SQ_CTRL, 18, 6⟩
def Fld.HIF_SQ_CTRL_PRIO : Fld := ⟨Reg.HIF_SQ_CTRL, 16, 2⟩
def Fld.HIF_SQ_CTRL_SIZE_LOG2 : Fld := ⟨Reg.HIF_SQ_CTRL, 8, 4⟩
def Fld.HIF_SQ_CTRL_OWNER : Fld := ⟨Reg.HIF_SQ_CTRL, 1, 1⟩
def Fld.HIF_SQ_CTRL_ENABLE : Fld := ⟨Reg.HIF_SQ_CTRL, 0, 1⟩

/-- `HIF_SQ_PI, offset 0x100C + n × 0x20` (spec/04_host_rings.md). -/
def Reg.HIF_SQ_PI : Reg := ⟨0x2100C, 64, 0x20, 1, 0x0, 0, 0x0, 0x0, 0x0, 0x0, 0x0⟩
def Fld.HIF_SQ_PI_PI : Fld := ⟨Reg.HIF_SQ_PI, 0, 32⟩

/-- `HIF_SQ_CI, offset 0x1010 + n × 0x20` (spec/04_host_rings.md). -/
def Reg.HIF_SQ_CI : Reg := ⟨0x21010, 64, 0x20, 1, 0x0, 0, 0x0, 0x0, 0x0, 0x0, 0x0⟩
def Fld.HIF_SQ_CI_CI : Fld := ⟨Reg.HIF_SQ_CI, 0, 32⟩

/-- `HIF_SQ_STAT, offset 0x1014 + n × 0x20` (spec/04_host_rings.md). -/
def Reg.HIF_SQ_STAT : Reg := ⟨0x21014, 64, 0x20, 1, 0x0, 0, 0x0, 0x0, 0x0, 0x0, 0xFF000000⟩
def Fld.HIF_SQ_STAT_BACKSTEP : Fld := ⟨Reg.HIF_SQ_STAT, 24, 8⟩
def Fld.HIF_SQ_STAT_ERR : Fld := ⟨Reg.HIF_SQ_STAT, 4, 4⟩
def Fld.HIF_SQ_STAT_STATE : Fld := ⟨Reg.HIF_SQ_STAT, 0, 2⟩

/-- `HIF_CQ_CTRL, offset 0x2008 + m × 0x20` (spec/04_host_rings.md). -/
def Reg.HIF_CQ_CTRL : Reg := ⟨0x22008, 64, 0x20, 1, 0x0, 0, 0x400, 0x3F8F0F, 0x0, 0x0, 0x0⟩
def Fld.HIF_CQ_CTRL_VECTOR : Fld := ⟨Reg.HIF_CQ_CTRL, 16, 6⟩
def Fld.HIF_CQ_CTRL_IRQ_EN : Fld := ⟨Reg.HIF_CQ_CTRL, 15, 1⟩
def Fld.HIF_CQ_CTRL_SIZE_LOG2 : Fld := ⟨Reg.HIF_CQ_CTRL, 8, 4⟩
def Fld.HIF_CQ_CTRL_TYPE : Fld := ⟨Reg.HIF_CQ_CTRL, 2, 2⟩
def Fld.HIF_CQ_CTRL_OWNER : Fld := ⟨Reg.HIF_CQ_CTRL, 1, 1⟩
def Fld.HIF_CQ_CTRL_ENABLE : Fld := ⟨Reg.HIF_CQ_CTRL, 0, 1⟩

/-- `HIF_CQ_PI, offset 0x200C + m × 0x20` (spec/04_host_rings.md). -/
def Reg.HIF_CQ_PI : Reg := ⟨0x2200C, 64, 0x20, 1, 0x0, 0, 0x0, 0x0, 0x0, 0x0, 0x0⟩
def Fld.HIF_CQ_PI_PI : Fld := ⟨Reg.HIF_CQ_PI, 0, 32⟩

/-- `HIF_CQ_CI, offset 0x2010 + m × 0x20` (spec/04_host_rings.md). -/
def Reg.HIF_CQ_CI : Reg := ⟨0x22010, 64, 0x20, 1, 0x0, 0, 0x0, 0x0, 0x0, 0x0, 0x0⟩
def Fld.HIF_CQ_CI_CI : Fld := ⟨Reg.HIF_CQ_CI, 0, 32⟩

/-- `HIF_CQ_COAL, offset 0x2014 + m × 0x20` (spec/04_host_rings.md). -/
def Reg.HIF_CQ_COAL : Reg := ⟨0x22014, 64, 0x20, 1, 0x0, 0, 0x1, 0xFFFFFFFF, 0x0, 0x0, 0x0⟩
def Fld.HIF_CQ_COAL_TIME : Fld := ⟨Reg.HIF_CQ_COAL, 16, 16⟩
def Fld.HIF_CQ_COAL_COUNT : Fld := ⟨Reg.HIF_CQ_COAL, 0, 16⟩

/-- `HIF_CQ_STAT, offset 0x2018 + m × 0x20` (spec/04_host_rings.md). -/
def Reg.HIF_CQ_STAT : Reg := ⟨0x22018, 64, 0x20, 1, 0x0, 0, 0x0, 0x0, 0x0, 0x0, 0xFFFFFF00⟩
def Fld.HIF_CQ_STAT_STALLS : Fld := ⟨Reg.HIF_CQ_STAT, 16, 16⟩
def Fld.HIF_CQ_STAT_BACKSTEP : Fld := ⟨Reg.HIF_CQ_STAT, 8, 8⟩
def Fld.HIF_CQ_STAT_ERR : Fld := ⟨Reg.HIF_CQ_STAT, 4, 4⟩
def Fld.HIF_CQ_STAT_STATE : Fld := ⟨Reg.HIF_CQ_STAT, 0, 2⟩

/-! ### spec/05_configuration.md -/

/-- `CFG_STATUS, offset 0x000` (spec/05_configuration.md): reset not given for SLOT. -/
def Reg.CFG_STATUS : Reg := ⟨0x30000, 1, 0x0, 1, 0x0, 0, 0x0, 0x0, 0x0, 0x40000000, 0x0⟩
def Fld.CFG_STATUS_BUSY : Fld := ⟨Reg.CFG_STATUS, 31, 1⟩
def Fld.CFG_STATUS_REGERR : Fld := ⟨Reg.CFG_STATUS, 30, 1⟩
def Fld.CFG_STATUS_SLOT : Fld := ⟨Reg.CFG_STATUS, 29, 1⟩
def Fld.CFG_STATUS_USED : Fld := ⟨Reg.CFG_STATUS, 0, 21⟩

/-- `CFG_IMAGE, offset 0x004` (spec/05_configuration.md): reset not given for ID. -/
def Reg.CFG_IMAGE : Reg := ⟨0x30004, 1, 0x0, 1, 0x0, 0, 0x0, 0x0, 0x0, 0x0, 0x0⟩
def Fld.CFG_IMAGE_ID : Fld := ⟨Reg.CFG_IMAGE, 0, 32⟩

/-- `CFG_IMAGE_HI, offset 0x00C` (spec/05_configuration.md): reset not given for ID. -/
def Reg.CFG_IMAGE_HI : Reg := ⟨0x3000C, 1, 0x0, 1, 0x0, 0, 0x0, 0x0, 0x0, 0x0, 0x0⟩
def Fld.CFG_IMAGE_HI_ID : Fld := ⟨Reg.CFG_IMAGE_HI, 0, 32⟩

/-- `CFG_JOURNAL, offset 0x008` (spec/05_configuration.md): reset not given for USED. -/
def Reg.CFG_JOURNAL : Reg := ⟨0x30008, 1, 0x0, 1, 0x0, 0, 0x0, 0x0, 0x0, 0x0, 0x0⟩
def Fld.CFG_JOURNAL_USED : Fld := ⟨Reg.CFG_JOURNAL, 0, 22⟩

/-- `CFG_SEL, offset 0x010` (spec/05_configuration.md). -/
def Reg.CFG_SEL : Reg := ⟨0x30010, 1, 0x0, 1, 0x0, 0, 0x0, 0x1FFFFF, 0x0, 0x0, 0x0⟩
def Fld.CFG_SEL_INSTANCE : Fld := ⟨Reg.CFG_SEL, 6, 15⟩
def Fld.CFG_SEL_BLOCK : Fld := ⟨Reg.CFG_SEL, 0, 6⟩

/-- `CFG_FIELD, offset 0x014` (spec/05_configuration.md). -/
def Reg.CFG_FIELD : Reg := ⟨0x30014, 1, 0x0, 1, 0x0, 0, 0x0, 0xFFFFFFFF, 0x0, 0x0, 0x0⟩
def Fld.CFG_FIELD_ELEMENT : Fld := ⟨Reg.CFG_FIELD, 16, 16⟩
def Fld.CFG_FIELD_FIELD : Fld := ⟨Reg.CFG_FIELD, 0, 16⟩

/-- `CFG_DATA, offset 0x018` (spec/05_configuration.md). -/
def Reg.CFG_DATA : Reg := ⟨0x30018, 1, 0x0, 1, 0x0, 0, 0x0, 0xFFFFFFFF, 0x0, 0x0, 0x0⟩
def Fld.CFG_DATA_VALUE : Fld := ⟨Reg.CFG_DATA, 0, 32⟩

/-- `CFG_DCLAMP, offset 0x020` (spec/05_configuration.md). -/
def Reg.CFG_DCLAMP : Reg := ⟨0x30020, 1, 0x0, 1, 0x0, 0, 0x0, 0x0, 0x0, 0x0, 0xFFFFFFFF⟩
def Fld.CFG_DCLAMP_COUNT : Fld := ⟨Reg.CFG_DCLAMP, 22, 10⟩
def Fld.CFG_DCLAMP_OFFSET : Fld := ⟨Reg.CFG_DCLAMP, 0, 22⟩

/-! ### spec/06_facet_digital.md -/

/-- `FCT_LINK, offset 0x000` (spec/06_facet_digital.md). -/
def Reg.FCT_LINK : Reg := ⟨0x200000, 16, 0x10000, 1, 0x0, 0, 0x0, 0x0, 0x0, 0x0, 0x0⟩
def Fld.FCT_LINK_DELAY : Fld := ⟨Reg.FCT_LINK, 16, 8⟩
def Fld.FCT_LINK_STATE : Fld := ⟨Reg.FCT_LINK, 0, 2⟩

/-- `FCT_LINKERR, offset 0x004` (spec/06_facet_digital.md). -/
def Reg.FCT_LINKERR : Reg := ⟨0x200004, 16, 0x10000, 1, 0x0, 0, 0x0, 0x0, 0x0, 0x0, 0xFFFFFFFF⟩
def Fld.FCT_LINKERR_CRCERR : Fld := ⟨Reg.FCT_LINKERR, 16, 16⟩
def Fld.FCT_LINKERR_CODEERR : Fld := ⟨Reg.FCT_LINKERR, 0, 16⟩

/-- `FCT_LINKDOWN, offset 0x008` (spec/06_facet_digital.md). -/
def Reg.FCT_LINKDOWN : Reg := ⟨0x200008, 16, 0x10000, 1, 0x0, 0, 0x0, 0x0, 0x0, 0x0, 0xFFFF⟩
def Fld.FCT_LINKDOWN_DOWNS : Fld := ⟨Reg.FCT_LINKDOWN, 0, 16⟩

/-- `FCT_STATUS, offset 0x00C` (spec/06_facet_digital.md). -/
def Reg.FCT_STATUS : Reg := ⟨0x20000C, 16, 0x10000, 1, 0x0, 0, 0x0, 0x0, 0x0, 0x0, 0x0⟩
def Fld.FCT_STATUS_RESTARTED : Fld := ⟨Reg.FCT_STATUS, 8, 1⟩
def Fld.FCT_STATUS_CAL_BUSY : Fld := ⟨Reg.FCT_STATUS, 7, 1⟩
def Fld.FCT_STATUS_SUP_LOW : Fld := ⟨Reg.FCT_STATUS, 6, 1⟩
def Fld.FCT_STATUS_SUP_WARN : Fld := ⟨Reg.FCT_STATUS, 5, 1⟩
def Fld.FCT_STATUS_PERIM_OFF : Fld := ⟨Reg.FCT_STATUS, 4, 1⟩
def Fld.FCT_STATUS_FALLBACK : Fld := ⟨Reg.FCT_STATUS, 3, 1⟩
def Fld.FCT_STATUS_SAFE : Fld := ⟨Reg.FCT_STATUS, 2, 1⟩
def Fld.FCT_STATUS_CFG_OK : Fld := ⟨Reg.FCT_STATUS, 1, 1⟩
def Fld.FCT_STATUS_COM_LINK : Fld := ⟨Reg.FCT_STATUS, 0, 1⟩

/-- `FCT_SUPPLY, offset 0x010` (spec/06_facet_digital.md): reset not given for MIN, VOLT. -/
def Reg.FCT_SUPPLY : Reg := ⟨0x200010, 16, 0x10000, 1, 0x0, 0, 0x0, 0x0, 0x0, 0x0, 0xFFFF0000⟩
def Fld.FCT_SUPPLY_MIN : Fld := ⟨Reg.FCT_SUPPLY, 16, 16⟩
def Fld.FCT_SUPPLY_VOLT : Fld := ⟨Reg.FCT_SUPPLY, 0, 16⟩

/-- `FCT_TEMP, offset 0x014` (spec/06_facet_digital.md): reset not given for PEAK, TEMP. -/
def Reg.FCT_TEMP : Reg := ⟨0x200014, 16, 0x10000, 1, 0x0, 0, 0x0, 0x0, 0x0, 0x0, 0xFF00⟩
def Fld.FCT_TEMP_PEAK : Fld := ⟨Reg.FCT_TEMP, 8, 8⟩
def Fld.FCT_TEMP_TEMP : Fld := ⟨Reg.FCT_TEMP, 0, 8⟩

/-- `FCT_OUTSTAT, offset 0x018` (spec/06_facet_digital.md). -/
def Reg.FCT_OUTSTAT : Reg := ⟨0x200018, 16, 0x10000, 1, 0x0, 0, 0x0, 0x0, 0x0, 0x0, 0x0⟩
def Fld.FCT_OUTSTAT_OVERLOAD : Fld := ⟨Reg.FCT_OUTSTAT, 24, 8⟩
def Fld.FCT_OUTSTAT_MISMATCH : Fld := ⟨Reg.FCT_OUTSTAT, 16, 8⟩
def Fld.FCT_OUTSTAT_SHED : Fld := ⟨Reg.FCT_OUTSTAT, 8, 8⟩
def Fld.FCT_OUTSTAT_SAFE : Fld := ⟨Reg.FCT_OUTSTAT, 0, 8⟩

/-- `FCT_ACTIVE, offset 0x01C` (spec/06_facet_digital.md). -/
def Reg.FCT_ACTIVE : Reg := ⟨0x20001C, 16, 0x10000, 1, 0x0, 0, 0x0, 0x0, 0x0, 0x0, 0x0⟩
def Fld.FCT_ACTIVE_FBMAX : Fld := ⟨Reg.FCT_ACTIVE, 20, 12⟩
def Fld.FCT_ACTIVE_WDT : Fld := ⟨Reg.FCT_ACTIVE, 0, 20⟩

/-- `FCT_FBSTAT, offset 0x020` (spec/06_facet_digital.md). -/
def Reg.FCT_FBSTAT : Reg := ⟨0x200020, 16, 0x10000, 1, 0x0, 0, 0x0, 0x0, 0x0, 0x0, 0x0⟩

/-- `FCT_DICUR, offset 0x024` (spec/06_facet_digital.md). -/
def Reg.FCT_DICUR : Reg := ⟨0x200024, 16, 0x10000, 1, 0x0, 0, 0x0, 0x0, 0x0, 0x0, 0x0⟩
def Fld.FCT_DICUR_DORB : Fld := ⟨Reg.FCT_DICUR, 8, 8⟩
def Fld.FCT_DICUR_DI : Fld := ⟨Reg.FCT_DICUR, 0, 8⟩

/-- `FCT_CHSTAT, offset 0x100 + k × 0x20` (spec/06_facet_digital.md). -/
def Reg.FCT_CHSTAT : Reg := ⟨0x200100, 16, 0x10000, 8, 0x20, 0, 0xF0000000, 0x0, 0x0, 0x0, 0x0⟩
def Fld.FCT_CHSTAT_QUALITY : Fld := ⟨Reg.FCT_CHSTAT, 28, 4⟩
def Fld.FCT_CHSTAT_MODE : Fld := ⟨Reg.FCT_CHSTAT, 24, 4⟩
def Fld.FCT_CHSTAT_FLAGS : Fld := ⟨Reg.FCT_CHSTAT, 0, 8⟩

/-- `FCT_DITHR, offset 0x104 + k × 0x20` (spec/06_facet_digital.md). -/
def Reg.FCT_DITHR : Reg := ⟨0x200104, 16, 0x10000, 8, 0x20, 0, 0x146E, 0xFFFF, 0x0, 0x0, 0x0⟩
def Fld.FCT_DITHR_HYST : Fld := ⟨Reg.FCT_DITHR, 8, 8⟩
def Fld.FCT_DITHR_THR : Fld := ⟨Reg.FCT_DITHR, 0, 8⟩

/-- `FCT_DEBOUNCE, offset 0x108 + k × 0x20` (spec/06_facet_digital.md). -/
def Reg.FCT_DEBOUNCE : Reg := ⟨0x200108, 16, 0x10000, 8, 0x20, 0, 0x3E8, 0xFFFF, 0x0, 0x0, 0x0⟩
def Fld.FCT_DEBOUNCE_TIME : Fld := ⟨Reg.FCT_DEBOUNCE, 0, 16⟩

/-- `FCT_PICOUNT, offset 0x10C + k × 0x20` (spec/06_facet_digital.md). -/
def Reg.FCT_PICOUNT : Reg := ⟨0x20010C, 16, 0x10000, 8, 0x20, 0, 0x0, 0x0, 0x0, 0x0, 0x0⟩
def Fld.FCT_PICOUNT_COUNT : Fld := ⟨Reg.FCT_PICOUNT, 0, 32⟩

/-- `FCT_PIFREQ, offset 0x110 + k × 0x20` (spec/06_facet_digital.md). -/
def Reg.FCT_PIFREQ : Reg := ⟨0x200110, 16, 0x10000, 8, 0x20, 0, 0x0, 0x0, 0x0, 0x0, 0x0⟩
def Fld.FCT_PIFREQ_FREQ : Fld := ⟨Reg.FCT_PIFREQ, 0, 32⟩

/-! ### spec/07_facet_analog.md -/

/-- `FCT_CALSTAT, offset 0x040` (spec/07_facet_analog.md). -/
def Reg.FCT_CALSTAT : Reg := ⟨0x200040, 16, 0x10000, 1, 0x0, 0, 0x0, 0x0, 0x0, 0x0, 0x0⟩
def Fld.FCT_CALSTAT_LIMIT : Fld := ⟨Reg.FCT_CALSTAT, 31, 1⟩
def Fld.FCT_CALSTAT_FAIL : Fld := ⟨Reg.FCT_CALSTAT, 30, 1⟩
def Fld.FCT_CALSTAT_BUSY : Fld := ⟨Reg.FCT_CALSTAT, 29, 1⟩
def Fld.FCT_CALSTAT_RUNS : Fld := ⟨Reg.FCT_CALSTAT, 0, 16⟩

/-- `FCT_DIAGSTAT, offset 0x044` (spec/07_facet_analog.md). -/
def Reg.FCT_DIAGSTAT : Reg := ⟨0x200044, 16, 0x10000, 1, 0x0, 0, 0x0, 0x0, 0x0, 0x0, 0x0⟩
def Fld.FCT_DIAGSTAT_BUSY : Fld := ⟨Reg.FCT_DIAGSTAT, 31, 1⟩
def Fld.FCT_DIAGSTAT_CH : Fld := ⟨Reg.FCT_DIAGSTAT, 16, 3⟩
def Fld.FCT_DIAGSTAT_VERDICT : Fld := ⟨Reg.FCT_DIAGSTAT, 0, 4⟩

/-- `FCT_HARTSTAT, offset 0x048` (spec/07_facet_analog.md). -/
def Reg.FCT_HARTSTAT : Reg := ⟨0x200048, 16, 0x10000, 1, 0x0, 0, 0x0, 0x0, 0x0, 0x0, 0xFFFFFF⟩
def Fld.FCT_HARTSTAT_BUSY : Fld := ⟨Reg.FCT_HARTSTAT, 31, 1⟩
def Fld.FCT_HARTSTAT_CH : Fld := ⟨Reg.FCT_HARTSTAT, 28, 3⟩
def Fld.FCT_HARTSTAT_NOREPLY : Fld := ⟨Reg.FCT_HARTSTAT, 16, 8⟩
def Fld.FCT_HARTSTAT_CHKERR : Fld := ⟨Reg.FCT_HARTSTAT, 8, 8⟩
def Fld.FCT_HARTSTAT_UNSOL : Fld := ⟨Reg.FCT_HARTSTAT, 0, 8⟩

/-- `FCT_SLICEn, offset 0x050 + n × 4, n = 0–3` (spec/07_facet_analog.md). -/
def Reg.FCT_SLICE : Reg := ⟨0x200050, 16, 0x10000, 4, 0x4, 0, 0x0, 0x0, 0x0, 0x0, 0x0⟩
def Fld.FCT_SLICE_SKEW : Fld := ⟨Reg.FCT_SLICE, 22, 10⟩
def Fld.FCT_SLICE_GAIN : Fld := ⟨Reg.FCT_SLICE, 11, 11⟩
def Fld.FCT_SLICE_OFFSET : Fld := ⟨Reg.FCT_SLICE, 0, 11⟩

/-- `FCT_SCANn, offset 0x060 + n × 4, n = 0–3` (spec/07_facet_analog.md). -/
def Reg.FCT_SCAN : Reg := ⟨0x200060, 16, 0x10000, 4, 0x4, 0, 0x0, 0x0, 0x0, 0x0, 0x0⟩

/-- `FCT_SPOT_SEL, offset 0x070` (spec/07_facet_analog.md). -/
def Reg.FCT_SPOT_SEL : Reg := ⟨0x200070, 16, 0x10000, 1, 0x0, 0, 0x0, 0x7, 0x0, 0x0, 0x0⟩
def Fld.FCT_SPOT_SEL_CH : Fld := ⟨Reg.FCT_SPOT_SEL, 0, 3⟩

/-- `FCT_SPOT, offset 0x074` (spec/07_facet_analog.md). -/
def Reg.FCT_SPOT : Reg := ⟨0x200074, 16, 0x10000, 1, 0x0, 0, 0x0, 0x0, 0x0, 0x0, 0xC0000000⟩
def Fld.FCT_SPOT_NEW : Fld := ⟨Reg.FCT_SPOT, 31, 1⟩
def Fld.FCT_SPOT_OVR : Fld := ⟨Reg.FCT_SPOT, 30, 1⟩
def Fld.FCT_SPOT_CH : Fld := ⟨Reg.FCT_SPOT, 20, 3⟩
def Fld.FCT_SPOT_FLAGS : Fld := ⟨Reg.FCT_SPOT, 18, 2⟩
def Fld.FCT_SPOT_CODE : Fld := ⟨Reg.FCT_SPOT, 0, 18⟩

/-- `FCT_VALUE, offset 0x114 + k × 0x20` (spec/07_facet_analog.md). -/
def Reg.FCT_VALUE : Reg := ⟨0x200114, 16, 0x10000, 8, 0x20, 0, 0x0, 0x0, 0x0, 0x0, 0x0⟩
def Fld.FCT_VALUE_VALUE : Fld := ⟨Reg.FCT_VALUE, 0, 32⟩

/-- `FCT_AOSTAT, offset 0x118 + k × 0x20` (spec/07_facet_analog.md). -/
def Reg.FCT_AOSTAT : Reg := ⟨0x200118, 16, 0x10000, 8, 0x20, 0, 0x0, 0x0, 0x0, 0x0, 0x0⟩
def Fld.FCT_AOSTAT_ILIM : Fld := ⟨Reg.FCT_AOSTAT, 24, 8⟩
def Fld.FCT_AOSTAT_STAGE_TEMP : Fld := ⟨Reg.FCT_AOSTAT, 16, 8⟩
def Fld.FCT_AOSTAT_VSUP : Fld := ⟨Reg.FCT_AOSTAT, 0, 16⟩

/-- `FCT_CALINFO, offset 0x11C + k × 0x20` (spec/07_facet_analog.md). -/
def Reg.FCT_CALINFO : Reg := ⟨0x20011C, 16, 0x10000, 8, 0x20, 0, 0x0, 0x0, 0x0, 0x0, 0x0⟩
def Fld.FCT_CALINFO_ORIGIN : Fld := ⟨Reg.FCT_CALINFO, 0, 8⟩

/-! ### spec/08_tangent_loops.md -/

/-- `TAN_STATUS, offset 0x000` (spec/08_tangent_loops.md). -/
def Reg.TAN_STATUS : Reg := ⟨0x80000, 1, 0x0, 1, 0x0, 0, 0x0, 0x0, 0x0, 0x0, 0x0⟩
def Fld.TAN_STATUS_FASTN : Fld := ⟨Reg.TAN_STATUS, 24, 8⟩
def Fld.TAN_STATUS_ENABLED : Fld := ⟨Reg.TAN_STATUS, 0, 9⟩

/-- `TAN_LOAD, offset 0x004` (spec/08_tangent_loops.md). -/
def Reg.TAN_LOAD : Reg := ⟨0x80004, 1, 0x0, 1, 0x0, 0, 0x0, 0x0, 0x0, 0x0, 0x0⟩
def Fld.TAN_LOAD_EVALS : Fld := ⟨Reg.TAN_LOAD, 0, 26⟩

/-- `TAN_MISSALL, offset 0x008` (spec/08_tangent_loops.md). -/
def Reg.TAN_MISSALL : Reg := ⟨0x80008, 1, 0x0, 1, 0x0, 0, 0x0, 0x0, 0x0, 0x0, 0xFFFFFFFF⟩
def Fld.TAN_MISSALL_COUNT : Fld := ⟨Reg.TAN_MISSALL, 0, 32⟩

/-- `TAN_TSTEP, offset 0x00C` (spec/08_tangent_loops.md). -/
def Reg.TAN_TSTEP : Reg := ⟨0x8000C, 1, 0x0, 1, 0x0, 0, 0x0, 0x0, 0x0, 0x0, 0xFFFF⟩
def Fld.TAN_TSTEP_COUNT : Fld := ⟨Reg.TAN_TSTEP, 0, 16⟩

/-- `TAN_GSEL, offset 0x010` (spec/08_tangent_loops.md). -/
def Reg.TAN_GSEL : Reg := ⟨0x80010, 1, 0x0, 1, 0x0, 0, 0x0, 0xFF, 0x0, 0x0, 0x0⟩
def Fld.TAN_GSEL_LOOP : Fld := ⟨Reg.TAN_GSEL, 0, 8⟩

/-- `TAN_GAIN, offset 0x1000 + t × 0x100 + i × 4` (spec/08_tangent_loops.md). -/
def Reg.TAN_GAIN : Reg := ⟨0x81000, 6, 0x100, 64, 0x4, 0, 0x0, 0xFFFFFFFF, 0x0, 0x0, 0x0⟩
def Fld.TAN_GAIN_VALUE : Fld := ⟨Reg.TAN_GAIN, 0, 32⟩

/-- `TAN_LSTAT, offset 0x4000 + l × 0x40` (spec/08_tangent_loops.md). -/
def Reg.TAN_LSTAT : Reg := ⟨0x84000, 256, 0x40, 1, 0x0, 0, 0xF0000000, 0x0, 0x0, 0x0, 0x0⟩
def Fld.TAN_LSTAT_PVQ : Fld := ⟨Reg.TAN_LSTAT, 28, 4⟩
def Fld.TAN_LSTAT_STATE : Fld := ⟨Reg.TAN_LSTAT, 24, 4⟩
def Fld.TAN_LSTAT_CMD : Fld := ⟨Reg.TAN_LSTAT, 22, 2⟩
def Fld.TAN_LSTAT_INJ : Fld := ⟨Reg.TAN_LSTAT, 15, 1⟩
def Fld.TAN_LSTAT_RAMP : Fld := ⟨Reg.TAN_LSTAT, 14, 1⟩
def Fld.TAN_LSTAT_SP_LIM : Fld := ⟨Reg.TAN_LSTAT, 13, 1⟩
def Fld.TAN_LSTAT_OUT_HI_LIM : Fld := ⟨Reg.TAN_LSTAT, 12, 1⟩
def Fld.TAN_LSTAT_OUT_LO_LIM : Fld := ⟨Reg.TAN_LSTAT, 11, 1⟩
def Fld.TAN_LSTAT_RATE_LIM : Fld := ⟨Reg.TAN_LSTAT, 10, 1⟩
def Fld.TAN_LSTAT_MISS : Fld := ⟨Reg.TAN_LSTAT, 9, 1⟩
def Fld.TAN_LSTAT_NUMERR : Fld := ⟨Reg.TAN_LSTAT, 8, 1⟩

/-- `TAN_SP` (spec/08_tangent_loops.md). -/
def Reg.TAN_SP : Reg := ⟨0x84004, 256, 0x40, 1, 0x0, 0, 0x0, 0x0, 0x0, 0x0, 0x0⟩
def Fld.TAN_SP_VALUE : Fld := ⟨Reg.TAN_SP, 0, 32⟩

/-- `TAN_PV` (spec/08_tangent_loops.md). -/
def Reg.TAN_PV : Reg := ⟨0x84008, 256, 0x40, 1, 0x0, 0, 0x0, 0x0, 0x0, 0x0, 0x0⟩
def Fld.TAN_PV_VALUE : Fld := ⟨Reg.TAN_PV, 0, 32⟩

/-- `TAN_OUT` (spec/08_tangent_loops.md). -/
def Reg.TAN_OUT : Reg := ⟨0x8400C, 256, 0x40, 1, 0x0, 0, 0x0, 0x0, 0x0, 0x0, 0x0⟩
def Fld.TAN_OUT_VALUE : Fld := ⟨Reg.TAN_OUT, 0, 32⟩

/-- `TAN_MANOUT` (spec/08_tangent_loops.md). -/
def Reg.TAN_MANOUT : Reg := ⟨0x84028, 256, 0x40, 1, 0x0, 0, 0x0, 0x0, 0x0, 0x0, 0x0⟩
def Fld.TAN_MANOUT_VALUE : Fld := ⟨Reg.TAN_MANOUT, 0, 32⟩

/-- `TAN_KFF, offset 0x4010 + l × 0x40` (spec/08_tangent_loops.md). -/
def Reg.TAN_KFF : Reg := ⟨0x84010, 256, 0x40, 1, 0x0, 0, 0x0, 0xFFFFFFFF, 0x0, 0x0, 0x0⟩
def Fld.TAN_KFF_KFF : Fld := ⟨Reg.TAN_KFF, 0, 32⟩

/-- `TAN_DFILT, offset 0x4014 + l × 0x40` (spec/08_tangent_loops.md). -/
def Reg.TAN_DFILT : Reg := ⟨0x84014, 256, 0x40, 1, 0x0, 0, 0x3F800000, 0xFFFFFFFF, 0x0, 0x0, 0x0⟩
def Fld.TAN_DFILT_DFILT : Fld := ⟨Reg.TAN_DFILT, 0, 32⟩

/-- `TAN_MISS, offset 0x4018 + l × 0x40` (spec/08_tangent_loops.md). -/
def Reg.TAN_MISS : Reg := ⟨0x84018, 256, 0x40, 1, 0x0, 0, 0x0, 0x0, 0x0, 0x0, 0xFFFFFFFF⟩
def Fld.TAN_MISS_LATE : Fld := ⟨Reg.TAN_MISS, 16, 16⟩
def Fld.TAN_MISS_NOSAMPLE : Fld := ⟨Reg.TAN_MISS, 0, 16⟩

/-- `TAN_HOLDS, offset 0x401C + l × 0x40` (spec/08_tangent_loops.md). -/
def Reg.TAN_HOLDS : Reg := ⟨0x8401C, 256, 0x40, 1, 0x0, 0, 0x0, 0x0, 0x0, 0x0, 0xFFFFFFFF⟩
def Fld.TAN_HOLDS_NUMERR : Fld := ⟨Reg.TAN_HOLDS, 16, 16⟩
def Fld.TAN_HOLDS_INPUT : Fld := ⟨Reg.TAN_HOLDS, 0, 16⟩

/-- `TAN_LATMAX, offset 0x4020 + l × 0x40` (spec/08_tangent_loops.md). -/
def Reg.TAN_LATMAX : Reg := ⟨0x84020, 256, 0x40, 1, 0x0, 0, 0x0, 0x0, 0x0, 0x0, 0xFFFF⟩
def Fld.TAN_LATMAX_NS : Fld := ⟨Reg.TAN_LATMAX, 0, 16⟩

/-- `TAN_INJSTAT, offset 0x4024 + l × 0x40` (spec/08_tangent_loops.md). -/
def Reg.TAN_INJSTAT : Reg := ⟨0x84024, 256, 0x40, 1, 0x0, 0, 0x0, 0x0, 0x0, 0x0, 0x0⟩
def Fld.TAN_INJSTAT_ACTIVE : Fld := ⟨Reg.TAN_INJSTAT, 31, 1⟩
def Fld.TAN_INJSTAT_REASON : Fld := ⟨Reg.TAN_INJSTAT, 28, 3⟩
def Fld.TAN_INJSTAT_SAMPLES : Fld := ⟨Reg.TAN_INJSTAT, 0, 28⟩

/-! ### spec/09_locus_recipes.md -/

/-- `LOC_STATUS, offset 0x000` (spec/09_locus_recipes.md). -/
def Reg.LOC_STATUS : Reg := ⟨0xA0000, 1, 0x0, 1, 0x0, 0, 0x0, 0x0, 0x0, 0x0, 0x0⟩
def Fld.LOC_STATUS_HELD : Fld := ⟨Reg.LOC_STATUS, 16, 16⟩
def Fld.LOC_STATUS_ACTIVE : Fld := ⟨Reg.LOC_STATUS, 0, 16⟩

/-- `LOC_TICK, offset 0x004` (spec/09_locus_recipes.md). -/
def Reg.LOC_TICK : Reg := ⟨0xA0004, 1, 0x0, 1, 0x0, 0, 0x0, 0x0, 0x0, 0x0, 0x0⟩
def Fld.LOC_TICK_N : Fld := ⟨Reg.LOC_TICK, 0, 32⟩

/-- `LOC_TSTEP, offset 0x008` (spec/09_locus_recipes.md). -/
def Reg.LOC_TSTEP : Reg := ⟨0xA0008, 1, 0x0, 1, 0x0, 0, 0x0, 0x0, 0x0, 0x0, 0xFFFF⟩
def Fld.LOC_TSTEP_COUNT : Fld := ⟨Reg.LOC_TSTEP, 0, 16⟩

/-- `LOC_ACTERR, offset 0x00C` (spec/09_locus_recipes.md). -/
def Reg.LOC_ACTERR : Reg := ⟨0xA000C, 1, 0x0, 1, 0x0, 0, 0x0, 0x0, 0x0, 0x0, 0xFFFF⟩
def Fld.LOC_ACTERR_COUNT : Fld := ⟨Reg.LOC_ACTERR, 0, 16⟩

/-- `LOC_RAMPS, offset 0x010` (spec/09_locus_recipes.md). -/
def Reg.LOC_RAMPS : Reg := ⟨0xA0010, 1, 0x0, 1, 0x0, 0, 0x0, 0x0, 0x0, 0x0, 0x0⟩
def Fld.LOC_RAMPS_RUNNING : Fld := ⟨Reg.LOC_RAMPS, 0, 9⟩

/-- `LOC_TSTAT, offset 0x100 + t × 0x20` (spec/09_locus_recipes.md). -/
def Reg.LOC_TSTAT : Reg := ⟨0xA0100, 16, 0x20, 1, 0x0, 0, 0x0, 0x0, 0x0, 0x0, 0x0⟩
def Fld.LOC_TSTAT_STATE : Fld := ⟨Reg.LOC_TSTAT, 28, 4⟩
def Fld.LOC_TSTAT_HOLD_CAUSE : Fld := ⟨Reg.LOC_TSTAT, 24, 4⟩
def Fld.LOC_TSTAT_ABORTING : Fld := ⟨Reg.LOC_TSTAT, 23, 1⟩
def Fld.LOC_TSTAT_ARMED : Fld := ⟨Reg.LOC_TSTAT, 22, 1⟩
def Fld.LOC_TSTAT_STEP : Fld := ⟨Reg.LOC_TSTAT, 0, 12⟩

/-- `LOC_ELAPSED, offset 0x104 + t × 0x20` (spec/09_locus_recipes.md). -/
def Reg.LOC_ELAPSED : Reg := ⟨0xA0104, 16, 0x20, 1, 0x0, 0, 0x0, 0x0, 0x0, 0x0, 0x0⟩
def Fld.LOC_ELAPSED_TICKS : Fld := ⟨Reg.LOC_ELAPSED, 0, 32⟩

/-- `LOC_TRANS, offset 0x108 + t × 0x20` (spec/09_locus_recipes.md). -/
def Reg.LOC_TRANS : Reg := ⟨0xA0108, 16, 0x20, 1, 0x0, 0, 0x0, 0x0, 0x0, 0x0, 0x0⟩
def Fld.LOC_TRANS_COUNT : Fld := ⟨Reg.LOC_TRANS, 0, 32⟩

/-- `LOC_SCHED_CTRL, offset 0x400 + s × 0x20` (spec/09_locus_recipes.md). -/
def Reg.LOC_SCHED_CTRL : Reg := ⟨0xA0400, 8, 0x20, 1, 0x0, 0, 0x0, 0x0, 0x0, 0x0, 0x0⟩
def Fld.LOC_SCHED_CTRL_STATE : Fld := ⟨Reg.LOC_SCHED_CTRL, 29, 3⟩
def Fld.LOC_SCHED_CTRL_SELF : Fld := ⟨Reg.LOC_SCHED_CTRL, 24, 5⟩
def Fld.LOC_SCHED_CTRL_TRACK : Fld := ⟨Reg.LOC_SCHED_CTRL, 20, 4⟩
def Fld.LOC_SCHED_CTRL_GROUP : Fld := ⟨Reg.LOC_SCHED_CTRL, 0, 16⟩

/-- `LOC_SCHED_STEP, offset 0x404 + s × 0x20` (spec/09_locus_recipes.md). -/
def Reg.LOC_SCHED_STEP : Reg := ⟨0xA0404, 8, 0x20, 1, 0x0, 0, 0x0, 0x0, 0x0, 0x0, 0x0⟩
def Fld.LOC_SCHED_STEP_LEAD : Fld := ⟨Reg.LOC_SCHED_STEP, 16, 16⟩
def Fld.LOC_SCHED_STEP_STEP : Fld := ⟨Reg.LOC_SCHED_STEP, 0, 12⟩

/-- `LOC_SCHED_TNS, LOC_SCHED_TSEC, offsets 0x408, 0x40C + s × 0x20` (spec/09_locus_recipes.md). -/
def Reg.LOC_SCHED_TNS : Reg := ⟨0xA0408, 8, 0x20, 1, 0x0, 0, 0x0, 0x0, 0x0, 0x0, 0x0⟩
def Fld.LOC_SCHED_TNS_VALUE : Fld := ⟨Reg.LOC_SCHED_TNS, 0, 32⟩

/-- `LOC_SCHED_TNS, LOC_SCHED_TSEC, offsets 0x408, 0x40C + s × 0x20` (spec/09_locus_recipes.md). -/
def Reg.LOC_SCHED_TSEC : Reg := ⟨0xA040C, 8, 0x20, 1, 0x0, 0, 0x0, 0x0, 0x0, 0x0, 0x0⟩
def Fld.LOC_SCHED_TSEC_VALUE : Fld := ⟨Reg.LOC_SCHED_TSEC, 0, 32⟩

/-- `LOC_SCHED_MASK, offset 0x410 + s × 0x20` (spec/09_locus_recipes.md). -/
def Reg.LOC_SCHED_MASK : Reg := ⟨0xA0410, 8, 0x20, 1, 0x0, 0, 0x0, 0x0, 0x0, 0x0, 0x0⟩
def Fld.LOC_SCHED_MASK_RECV : Fld := ⟨Reg.LOC_SCHED_MASK, 16, 16⟩
def Fld.LOC_SCHED_MASK_EXPECT : Fld := ⟨Reg.LOC_SCHED_MASK, 0, 16⟩

/-- `LOC_CNT, offset 0x1000 + c × 4` (spec/09_locus_recipes.md). -/
def Reg.LOC_CNT : Reg := ⟨0xA1000, 1024, 0x4, 1, 0x0, 0, 0x0, 0x0, 0x0, 0x0, 0x0⟩
def Fld.LOC_CNT_DEF : Fld := ⟨Reg.LOC_CNT, 31, 1⟩
def Fld.LOC_CNT_VALUE : Fld := ⟨Reg.LOC_CNT, 0, 16⟩

/-- `LOC_RAMP_CTRL, offset 0x2000 + g × 0x10` (spec/09_locus_recipes.md). -/
def Reg.LOC_RAMP_CTRL : Reg := ⟨0xA2000, 256, 0x10, 1, 0x0, 0, 0x0, 0x0, 0x0, 0x0, 0x0⟩
def Fld.LOC_RAMP_CTRL_STATE : Fld := ⟨Reg.LOC_RAMP_CTRL, 30, 2⟩
def Fld.LOC_RAMP_CTRL_TRACK : Fld := ⟨Reg.LOC_RAMP_CTRL, 16, 4⟩
def Fld.LOC_RAMP_CTRL_LOOP : Fld := ⟨Reg.LOC_RAMP_CTRL, 0, 8⟩

/-- `LOC_RAMP_POS` (spec/09_locus_recipes.md). -/
def Reg.LOC_RAMP_POS : Reg := ⟨0xA2004, 256, 0x10, 1, 0x0, 0, 0x0, 0x0, 0x0, 0x0, 0x0⟩
def Fld.LOC_RAMP_POS_VALUE : Fld := ⟨Reg.LOC_RAMP_POS, 0, 32⟩

/-- `LOC_RAMP_TGT` (spec/09_locus_recipes.md). -/
def Reg.LOC_RAMP_TGT : Reg := ⟨0xA2008, 256, 0x10, 1, 0x0, 0, 0x0, 0x0, 0x0, 0x0, 0x0⟩
def Fld.LOC_RAMP_TGT_VALUE : Fld := ⟨Reg.LOC_RAMP_TGT, 0, 32⟩

/-- `LOC_RAMP_RATE` (spec/09_locus_recipes.md). -/
def Reg.LOC_RAMP_RATE : Reg := ⟨0xA200C, 256, 0x10, 1, 0x0, 0, 0x0, 0x0, 0x0, 0x0, 0x0⟩
def Fld.LOC_RAMP_RATE_VALUE : Fld := ⟨Reg.LOC_RAMP_RATE, 0, 32⟩

/-! ### spec/10_lattice_logic.md -/

/-- `LAT_STATUS, offset 0x000` (spec/10_lattice_logic.md). -/
def Reg.LAT_STATUS : Reg := ⟨0xC0000, 1, 0x0, 1, 0x0, 0, 0x0, 0x0, 0x0, 0x0, 0x0⟩
def Fld.LAT_STATUS_STATE : Fld := ⟨Reg.LAT_STATUS, 28, 4⟩
def Fld.LAT_STATUS_STOPSAFE : Fld := ⟨Reg.LAT_STATUS, 27, 1⟩
def Fld.LAT_STATUS_PROG_DIFF : Fld := ⟨Reg.LAT_STATUS, 26, 1⟩
def Fld.LAT_STATUS_PROGLEN : Fld := ⟨Reg.LAT_STATUS, 0, 15⟩

/-- `LAT_SCANTIME, offset 0x004` (spec/10_lattice_logic.md). -/
def Reg.LAT_SCANTIME : Reg := ⟨0xC0004, 1, 0x0, 1, 0x0, 0, 0x0, 0x0, 0x0, 0x0, 0xFFFF0000⟩
def Fld.LAT_SCANTIME_MAX : Fld := ⟨Reg.LAT_SCANTIME, 16, 16⟩
def Fld.LAT_SCANTIME_LAST : Fld := ⟨Reg.LAT_SCANTIME, 0, 16⟩

/-- `LAT_SCANCNT, offset 0x008` (spec/10_lattice_logic.md). -/
def Reg.LAT_SCANCNT : Reg := ⟨0xC0008, 1, 0x0, 1, 0x0, 0, 0x0, 0x0, 0x0, 0x0, 0x0⟩
def Fld.LAT_SCANCNT_COUNT : Fld := ⟨Reg.LAT_SCANCNT, 0, 32⟩

/-- `LAT_TSTEP, offset 0x00C` (spec/10_lattice_logic.md). -/
def Reg.LAT_TSTEP : Reg := ⟨0xC000C, 1, 0x0, 1, 0x0, 0, 0x0, 0x0, 0x0, 0x0, 0xFFFF⟩
def Fld.LAT_TSTEP_COUNT : Fld := ⟨Reg.LAT_TSTEP, 0, 16⟩

/-- `LAT_PATCHQ, offset 0x010` (spec/10_lattice_logic.md). -/
def Reg.LAT_PATCHQ : Reg := ⟨0xC0010, 1, 0x0, 1, 0x0, 0, 0x0, 0x0, 0x0, 0x0, 0x0⟩
def Fld.LAT_PATCHQ_PENDING : Fld := ⟨Reg.LAT_PATCHQ, 0, 7⟩

/-- `LAT_CMP_SCANS, LAT_CMP_DIFFS, offsets 0x020, 0x024` (spec/10_lattice_logic.md). -/
def Reg.LAT_CMP_SCANS : Reg := ⟨0xC0020, 1, 0x0, 1, 0x0, 0, 0x0, 0x0, 0x0, 0x0, 0x0⟩
def Fld.LAT_CMP_SCANS_COUNT : Fld := ⟨Reg.LAT_CMP_SCANS, 0, 32⟩

/-- `LAT_CMP_SCANS, LAT_CMP_DIFFS, offsets 0x020, 0x024` (spec/10_lattice_logic.md). -/
def Reg.LAT_CMP_DIFFS : Reg := ⟨0xC0024, 1, 0x0, 1, 0x0, 0, 0x0, 0x0, 0x0, 0x0, 0x0⟩
def Fld.LAT_CMP_DIFFS_COUNT : Fld := ⟨Reg.LAT_CMP_DIFFS, 0, 32⟩

/-- `LAT_CMP_FIRST, offset 0x028` (spec/10_lattice_logic.md). -/
def Reg.LAT_CMP_FIRST : Reg := ⟨0xC0028, 1, 0x0, 1, 0x0, 0, 0x0, 0x0, 0x0, 0x0, 0x0⟩
def Fld.LAT_CMP_FIRST_VALID : Fld := ⟨Reg.LAT_CMP_FIRST, 31, 1⟩
def Fld.LAT_CMP_FIRST_SPACE : Fld := ⟨Reg.LAT_CMP_FIRST, 16, 4⟩
def Fld.LAT_CMP_FIRST_ADDR : Fld := ⟨Reg.LAT_CMP_FIRST, 0, 16⟩

/-- `LAT_CMP_FNS, LAT_CMP_FSEC, offsets 0x02C, 0x030` (spec/10_lattice_logic.md). -/
def Reg.LAT_CMP_FNS : Reg := ⟨0xC002C, 1, 0x0, 1, 0x0, 0, 0x0, 0x0, 0x0, 0x0, 0x0⟩
def Fld.LAT_CMP_FNS_VALUE : Fld := ⟨Reg.LAT_CMP_FNS, 0, 32⟩

/-- `LAT_CMP_FNS, LAT_CMP_FSEC, offsets 0x02C, 0x030` (spec/10_lattice_logic.md). -/
def Reg.LAT_CMP_FSEC : Reg := ⟨0xC0030, 1, 0x0, 1, 0x0, 0, 0x0, 0x0, 0x0, 0x0, 0x0⟩
def Fld.LAT_CMP_FSEC_VALUE : Fld := ⟨Reg.LAT_CMP_FSEC, 0, 32⟩

/-- `LAT_MARKi, offset 0x1000 + i × 4, i = 0–127` (spec/10_lattice_logic.md). -/
def Reg.LAT_MARK : Reg := ⟨0xC1000, 128, 0x4, 1, 0x0, 0, 0x0, 0x0, 0x0, 0x0, 0x0⟩
def Fld.LAT_MARK_BITS : Fld := ⟨Reg.LAT_MARK, 0, 32⟩

/-- `LAT_QIMGi, offset 0x1200 + i × 4, i = 0–8` (spec/10_lattice_logic.md). -/
def Reg.LAT_QIMG : Reg := ⟨0xC1200, 9, 0x4, 1, 0x0, 0, 0x0, 0x0, 0x0, 0x0, 0x0⟩
def Fld.LAT_QIMG_BITS : Fld := ⟨Reg.LAT_QIMG, 0, 32⟩

/-- `LAT_KIMGi, offset 0x1300 + i × 4, i = 0–31` (spec/10_lattice_logic.md). -/
def Reg.LAT_KIMG : Reg := ⟨0xC1300, 32, 0x4, 1, 0x0, 0, 0x0, 0x0, 0x0, 0x0, 0x0⟩
def Fld.LAT_KIMG_BITS : Fld := ⟨Reg.LAT_KIMG, 0, 32⟩

/-- `LAT_TETn, offset 0x2000 + n × 4, n = 0–1,023` (spec/10_lattice_logic.md). -/
def Reg.LAT_TET : Reg := ⟨0xC2000, 1024, 0x4, 1, 0x0, 0, 0x0, 0x0, 0x0, 0x0, 0x0⟩
def Fld.LAT_TET_Q : Fld := ⟨Reg.LAT_TET, 31, 1⟩
def Fld.LAT_TET_ET : Fld := ⟨Reg.LAT_TET, 0, 31⟩

/-- `LAT_CVn, offset 0x3000 + n × 4, n = 0–511` (spec/10_lattice_logic.md). -/
def Reg.LAT_CV : Reg := ⟨0xC3000, 512, 0x4, 1, 0x0, 0, 0x0, 0x0, 0x0, 0x0, 0x0⟩
def Fld.LAT_CV_CV : Fld := ⟨Reg.LAT_CV, 0, 32⟩

/-! ### spec/11_vertex_dispatch.md -/

/-- `VTX_STATUS, offset 0x000` (spec/11_vertex_dispatch.md). -/
def Reg.VTX_STATUS : Reg := ⟨0x60000, 1, 0x0, 1, 0x0, 0, 0x0, 0x0, 0x0, 0x0, 0x0⟩
def Fld.VTX_STATUS_INSERV : Fld := ⟨Reg.VTX_STATUS, 16, 9⟩
def Fld.VTX_STATUS_STORED : Fld := ⟨Reg.VTX_STATUS, 0, 14⟩

/-- `VTX_LOSTALL, offset 0x004` (spec/11_vertex_dispatch.md). -/
def Reg.VTX_LOSTALL : Reg := ⟨0x60004, 1, 0x0, 1, 0x0, 0, 0x0, 0x0, 0x0, 0x0, 0xFFFFFFFF⟩
def Fld.VTX_LOSTALL_COUNT : Fld := ⟨Reg.VTX_LOSTALL, 0, 32⟩

/-- `VTX_UNMAPPED, offset 0x008` (spec/11_vertex_dispatch.md). -/
def Reg.VTX_UNMAPPED : Reg := ⟨0x60008, 1, 0x0, 1, 0x0, 0, 0x0, 0x0, 0x0, 0x0, 0xFFFFFF⟩
def Fld.VTX_UNMAPPED_SOURCE : Fld := ⟨Reg.VTX_UNMAPPED, 16, 8⟩
def Fld.VTX_UNMAPPED_COUNT : Fld := ⟨Reg.VTX_UNMAPPED, 0, 16⟩

/-- `VTX_BADDONE, offset 0x00C` (spec/11_vertex_dispatch.md). -/
def Reg.VTX_BADDONE : Reg := ⟨0x6000C, 1, 0x0, 1, 0x0, 0, 0x0, 0x0, 0x0, 0x0, 0xFFFFFFFF⟩
def Fld.VTX_BADDONE_COUNT : Fld := ⟨Reg.VTX_BADDONE, 16, 16⟩
def Fld.VTX_BADDONE_HANDLE : Fld := ⟨Reg.VTX_BADDONE, 0, 16⟩

/-- `VTX_CORE_BASE_LO, offset 0x100 + c × 0x40` (spec/11_vertex_dispatch.md). -/
def Reg.VTX_CORE_BASE_LO : Reg := ⟨0x60100, 4, 0x40, 1, 0x0, 0, 0x0, 0xFFFFF000, 0x0, 0x0, 0x0⟩
def Fld.VTX_CORE_BASE_LO_ADDR : Fld := ⟨Reg.VTX_CORE_BASE_LO, 12, 20⟩

/-- `VTX_CORE_BASE_HI, offset 0x104 + c × 0x40` (spec/11_vertex_dispatch.md). -/
def Reg.VTX_CORE_BASE_HI : Reg := ⟨0x60104, 4, 0x40, 1, 0x0, 0, 0x0, 0xFFFFFFFF, 0x0, 0x0, 0x0⟩
def Fld.VTX_CORE_BASE_HI_ADDR : Fld := ⟨Reg.VTX_CORE_BASE_HI, 0, 32⟩

/-- `VTX_CORE_CTRL, offset 0x108 + c × 0x40` (spec/11_vertex_dispatch.md). -/
def Reg.VTX_CORE_CTRL : Reg := ⟨0x60108, 4, 0x40, 1, 0x0, 0, 0x1700400, 0xFF700F01, 0x2, 0x0, 0x0⟩
def Fld.VTX_CORE_CTRL_MAXSERV : Fld := ⟨Reg.VTX_CORE_CTRL, 24, 8⟩
def Fld.VTX_CORE_CTRL_URGENT : Fld := ⟨Reg.VTX_CORE_CTRL, 20, 3⟩
def Fld.VTX_CORE_CTRL_SIZE_LOG2 : Fld := ⟨Reg.VTX_CORE_CTRL, 8, 4⟩
def Fld.VTX_CORE_CTRL_FLUSH : Fld := ⟨Reg.VTX_CORE_CTRL, 1, 1⟩
def Fld.VTX_CORE_CTRL_ENABLE : Fld := ⟨Reg.VTX_CORE_CTRL, 0, 1⟩

/-- `VTX_CORE_PI, offset 0x10C + c × 0x40` (spec/11_vertex_dispatch.md). -/
def Reg.VTX_CORE_PI : Reg := ⟨0x6010C, 4, 0x40, 1, 0x0, 0, 0x0, 0x0, 0x0, 0x0, 0x0⟩
def Fld.VTX_CORE_PI_PI : Fld := ⟨Reg.VTX_CORE_PI, 0, 32⟩

/-- `VTX_CORE_CI, offset 0x110 + c × 0x40` (spec/11_vertex_dispatch.md). -/
def Reg.VTX_CORE_CI : Reg := ⟨0x60110, 4, 0x40, 1, 0x0, 0, 0x0, 0xFFFFFFFF, 0x0, 0x0, 0x0⟩
def Fld.VTX_CORE_CI_CI : Fld := ⟨Reg.VTX_CORE_CI, 0, 32⟩

/-- `VTX_CORE_COAL, offset 0x114 + c × 0x40` (spec/11_vertex_dispatch.md). -/
def Reg.VTX_CORE_COAL : Reg := ⟨0x60114, 4, 0x40, 1, 0x0, 0, 0x1, 0xFFFFFFFF, 0x0, 0x0, 0x0⟩
def Fld.VTX_CORE_COAL_TIME : Fld := ⟨Reg.VTX_CORE_COAL, 16, 16⟩
def Fld.VTX_CORE_COAL_COUNT : Fld := ⟨Reg.VTX_CORE_COAL, 0, 16⟩

/-- `VTX_CORE_DONE, offset 0x118 + c × 0x40` (spec/11_vertex_dispatch.md). -/
def Reg.VTX_CORE_DONE : Reg := ⟨0x60118, 4, 0x40, 1, 0x0, 0, 0x0, 0x0, 0x1FFFF, 0x0, 0x0⟩
def Fld.VTX_CORE_DONE_DEC : Fld := ⟨Reg.VTX_CORE_DONE, 16, 1⟩
def Fld.VTX_CORE_DONE_HANDLE : Fld := ⟨Reg.VTX_CORE_DONE, 0, 16⟩

/-- `VTX_CORE_STAT, offset 0x11C + c × 0x40` (spec/11_vertex_dispatch.md). -/
def Reg.VTX_CORE_STAT : Reg := ⟨0x6011C, 4, 0x40, 1, 0x0, 0, 0x0, 0x0, 0x0, 0x0, 0xFF00⟩
def Fld.VTX_CORE_STAT_INSERV : Fld := ⟨Reg.VTX_CORE_STAT, 16, 7⟩
def Fld.VTX_CORE_STAT_BACKSTEP : Fld := ⟨Reg.VTX_CORE_STAT, 8, 8⟩
def Fld.VTX_CORE_STAT_ERR : Fld := ⟨Reg.VTX_CORE_STAT, 4, 4⟩
def Fld.VTX_CORE_STAT_LINE : Fld := ⟨Reg.VTX_CORE_STAT, 0, 1⟩

/-- `VTX_CORE_RPARAM, VTX_CORE_RCODE, offsets 0x120, 0x124 + c × 0x40` (spec/11_vertex_dispatch.md). -/
def Reg.VTX_CORE_RPARAM : Reg := ⟨0x60120, 4, 0x40, 1, 0x0, 0, 0x0, 0xFFFFFFFF, 0x0, 0x0, 0x0⟩
def Fld.VTX_CORE_RPARAM_VALUE : Fld := ⟨Reg.VTX_CORE_RPARAM, 0, 32⟩

/-- `VTX_CORE_RPARAM, VTX_CORE_RCODE, offsets 0x120, 0x124 + c × 0x40` (spec/11_vertex_dispatch.md). -/
def Reg.VTX_CORE_RCODE : Reg := ⟨0x60124, 4, 0x40, 1, 0x0, 0, 0x0, 0xFFFFFFFF, 0x0, 0x0, 0x0⟩
def Fld.VTX_CORE_RCODE_VALUE : Fld := ⟨Reg.VTX_CORE_RCODE, 0, 32⟩

/-- `VTX_CORE_RAISE, offset 0x128 + c × 0x40` (spec/11_vertex_dispatch.md). -/
def Reg.VTX_CORE_RAISE : Reg := ⟨0x60128, 4, 0x40, 1, 0x0, 0, 0x0, 0x0, 0xFF, 0x0, 0x0⟩
def Fld.VTX_CORE_RAISE_SOURCE : Fld := ⟨Reg.VTX_CORE_RAISE, 0, 8⟩

/-- `VTX_Q_STAT, offset 0x1000 + q × 0x10` (spec/11_vertex_dispatch.md). -/
def Reg.VTX_Q_STAT : Reg := ⟨0x61000, 64, 0x10, 1, 0x0, 0, 0x0, 0x0, 0x0, 0x0, 0x0⟩
def Fld.VTX_Q_STAT_DEPTH : Fld := ⟨Reg.VTX_Q_STAT, 16, 14⟩
def Fld.VTX_Q_STAT_CNT : Fld := ⟨Reg.VTX_Q_STAT, 0, 16⟩

/-- `VTX_Q_DISP, offset 0x1004 + q × 0x10` (spec/11_vertex_dispatch.md). -/
def Reg.VTX_Q_DISP : Reg := ⟨0x61004, 64, 0x10, 1, 0x0, 0, 0x0, 0x0, 0x0, 0x0, 0x0⟩
def Fld.VTX_Q_DISP_COUNT : Fld := ⟨Reg.VTX_Q_DISP, 0, 32⟩

/-- `VTX_SRC_SEQ, offset 0x2000 + s × 8` (spec/11_vertex_dispatch.md). -/
def Reg.VTX_SRC_SEQ : Reg := ⟨0x62000, 256, 0x8, 1, 0x0, 0, 0x0, 0x0, 0x0, 0x0, 0x0⟩
def Fld.VTX_SRC_SEQ_SEQ : Fld := ⟨Reg.VTX_SRC_SEQ, 0, 32⟩

/-- `VTX_SRC_LOST, offset 0x2004 + s × 8` (spec/11_vertex_dispatch.md). -/
def Reg.VTX_SRC_LOST : Reg := ⟨0x62004, 256, 0x8, 1, 0x0, 0, 0x0, 0x0, 0x0, 0x0, 0x0⟩
def Fld.VTX_SRC_LOST_HELD : Fld := ⟨Reg.VTX_SRC_LOST, 0, 14⟩

/-- `VTX_FLOW, offset 0x4000 + f × 4` (spec/11_vertex_dispatch.md). -/
def Reg.VTX_FLOW : Reg := ⟨0x64000, 1024, 0x4, 1, 0x0, 0, 0x0, 0x0, 0x0, 0x0, 0x0⟩
def Fld.VTX_FLOW_BUSY : Fld := ⟨Reg.VTX_FLOW, 31, 1⟩
def Fld.VTX_FLOW_WAITING : Fld := ⟨Reg.VTX_FLOW, 16, 14⟩
def Fld.VTX_FLOW_HANDLE : Fld := ⟨Reg.VTX_FLOW, 0, 16⟩

/-! ### spec/12_arc_pwm.md -/

/-- `ARC_STATUS, offset 0x000` (spec/12_arc_pwm.md). -/
def Reg.ARC_STATUS : Reg := ⟨0xE0000, 1, 0x0, 1, 0x0, 0, 0x0, 0x0, 0x0, 0x0, 0x0⟩
def Fld.ARC_STATUS_RUN : Fld := ⟨Reg.ARC_STATUS, 0, 32⟩

/-- `ARC_TRIP, offset 0x004` (spec/12_arc_pwm.md): reset not given for INPUT. -/
def Reg.ARC_TRIP : Reg := ⟨0xE0004, 1, 0x0, 1, 0x0, 0, 0x0, 0x0, 0x0, 0x0, 0x0⟩
def Fld.ARC_TRIP_INPUT : Fld := ⟨Reg.ARC_TRIP, 16, 10⟩
def Fld.ARC_TRIP_LATCH : Fld := ⟨Reg.ARC_TRIP, 0, 10⟩

/-- `ARC_CTRL, offset 0x100 + g × 0x40` (spec/12_arc_pwm.md). -/
def Reg.ARC_CTRL : Reg := ⟨0xE0100, 32, 0x40, 1, 0x0, 0, 0xCFFFF00, 0x0, 0x0, 0x0, 0x0⟩
def Fld.ARC_CTRL_EN : Fld := ⟨Reg.ARC_CTRL, 31, 1⟩
def Fld.ARC_CTRL_AUTOSTART : Fld := ⟨Reg.ARC_CTRL, 30, 1⟩
def Fld.ARC_CTRL_DUTY_SRC : Fld := ⟨Reg.ARC_CTRL, 29, 1⟩
def Fld.ARC_CTRL_ALIGN : Fld := ⟨Reg.ARC_CTRL, 28, 1⟩
def Fld.ARC_CTRL_PAIRED : Fld := ⟨Reg.ARC_CTRL, 27, 1⟩
def Fld.ARC_CTRL_COMP : Fld := ⟨Reg.ARC_CTRL, 26, 1⟩
def Fld.ARC_CTRL_CARRY : Fld := ⟨Reg.ARC_CTRL, 25, 1⟩
def Fld.ARC_CTRL_LOC_USE : Fld := ⟨Reg.ARC_CTRL, 24, 1⟩
def Fld.ARC_CTRL_MASTER : Fld := ⟨Reg.ARC_CTRL, 16, 8⟩
def Fld.ARC_CTRL_FAULT_MASK : Fld := ⟨Reg.ARC_CTRL, 8, 8⟩
def Fld.ARC_CTRL_IRQ_EN : Fld := ⟨Reg.ARC_CTRL, 4, 4⟩
def Fld.ARC_CTRL_TRIG_SEL : Fld := ⟨Reg.ARC_CTRL, 0, 3⟩

/-- `ARC_GSTAT, offset 0x104 + g × 0x40` (spec/12_arc_pwm.md). -/
def Reg.ARC_GSTAT : Reg := ⟨0xE0104, 32, 0x40, 1, 0x0, 0, 0x0, 0x0, 0x0, 0x0, 0x0⟩
def Fld.ARC_GSTAT_STATE : Fld := ⟨Reg.ARC_GSTAT, 30, 2⟩
def Fld.ARC_GSTAT_ACTIVE : Fld := ⟨Reg.ARC_GSTAT, 29, 1⟩
def Fld.ARC_GSTAT_LOC_EN : Fld := ⟨Reg.ARC_GSTAT, 28, 1⟩
def Fld.ARC_GSTAT_LAT_EN : Fld := ⟨Reg.ARC_GSTAT, 27, 1⟩
def Fld.ARC_GSTAT_TRIPPED : Fld := ⟨Reg.ARC_GSTAT, 26, 1⟩
def Fld.ARC_GSTAT_SH_PER : Fld := ⟨Reg.ARC_GSTAT, 25, 1⟩
def Fld.ARC_GSTAT_SH_CMP : Fld := ⟨Reg.ARC_GSTAT, 24, 1⟩
def Fld.ARC_GSTAT_FULLRUN : Fld := ⟨Reg.ARC_GSTAT, 0, 8⟩

/-- `ARC_PER, ARC_CMPA, ARC_CMPB, offsets 0x108, 0x10C, 0x110 + g × 0x40` (spec/12_arc_pwm.md). -/
def Reg.ARC_PER : Reg := ⟨0xE0108, 32, 0x40, 1, 0x0, 0, 0x0, 0x0, 0x0, 0x0, 0x0⟩
def Fld.ARC_PER_VALUE : Fld := ⟨Reg.ARC_PER, 0, 32⟩

/-- `ARC_PER, ARC_CMPA, ARC_CMPB, offsets 0x108, 0x10C, 0x110 + g × 0x40` (spec/12_arc_pwm.md). -/
def Reg.ARC_CMPA : Reg := ⟨0xE010C, 32, 0x40, 1, 0x0, 0, 0x0, 0x0, 0x0, 0x0, 0x0⟩
def Fld.ARC_CMPA_VALUE : Fld := ⟨Reg.ARC_CMPA, 0, 32⟩

/-- `ARC_PER, ARC_CMPA, ARC_CMPB, offsets 0x108, 0x10C, 0x110 + g × 0x40` (spec/12_arc_pwm.md). -/
def Reg.ARC_CMPB : Reg := ⟨0xE0110, 32, 0x40, 1, 0x0, 0, 0x0, 0x0, 0x0, 0x0, 0x0⟩
def Fld.ARC_CMPB_VALUE : Fld := ⟨Reg.ARC_CMPB, 0, 32⟩

/-- `ARC_BOOT, offset 0x114 + g × 0x40` (spec/12_arc_pwm.md). -/
def Reg.ARC_BOOT : Reg := ⟨0xE0114, 32, 0x40, 1, 0x0, 0, 0x190000, 0xFF00FF, 0x0, 0x0, 0x0⟩
def Fld.ARC_BOOT_BSW : Fld := ⟨Reg.ARC_BOOT, 16, 8⟩
def Fld.ARC_BOOT_BSN : Fld := ⟨Reg.ARC_BOOT, 0, 8⟩

/-- `ARC_IRQDIV, offset 0x118 + g × 0x40` (spec/12_arc_pwm.md). -/
def Reg.ARC_IRQDIV : Reg := ⟨0xE0118, 32, 0x40, 1, 0x0, 0, 0x0, 0xFFFFFFFF, 0x0, 0x0, 0x0⟩
def Fld.ARC_IRQDIV_CMPB : Fld := ⟨Reg.ARC_IRQDIV, 24, 8⟩
def Fld.ARC_IRQDIV_CMPA : Fld := ⟨Reg.ARC_IRQDIV, 16, 8⟩
def Fld.ARC_IRQDIV_PERIOD : Fld := ⟨Reg.ARC_IRQDIV, 8, 8⟩
def Fld.ARC_IRQDIV_ZERO : Fld := ⟨Reg.ARC_IRQDIV, 0, 8⟩

/-- `ARC_PCOUNT, offset 0x11C + g × 0x40` (spec/12_arc_pwm.md). -/
def Reg.ARC_PCOUNT : Reg := ⟨0xE011C, 32, 0x40, 1, 0x0, 0, 0x0, 0x0, 0x0, 0x0, 0x0⟩
def Fld.ARC_PCOUNT_COUNT : Fld := ⟨Reg.ARC_PCOUNT, 0, 32⟩

/-- `ARC_CNT, offset 0x120 + g × 0x40` (spec/12_arc_pwm.md). -/
def Reg.ARC_CNT : Reg := ⟨0xE0120, 32, 0x40, 1, 0x0, 0, 0x0, 0x0, 0x0, 0x0, 0xFFFFFFFF⟩
def Fld.ARC_CNT_SKIP : Fld := ⟨Reg.ARC_CNT, 16, 16⟩
def Fld.ARC_CNT_PAIR_SPLIT : Fld := ⟨Reg.ARC_CNT, 0, 16⟩

/-- `ARC_CARRY, offset 0x124 + g × 0x40` (spec/12_arc_pwm.md). -/
def Reg.ARC_CARRY : Reg := ⟨0xE0124, 32, 0x40, 1, 0x0, 0, 0x0, 0x0, 0x0, 0x0, 0x0⟩
def Fld.ARC_CARRY_CARRY : Fld := ⟨Reg.ARC_CARRY, 0, 32⟩

/-- `ARC_DUTY, offset 0x128 + g × 0x40` (spec/12_arc_pwm.md). -/
def Reg.ARC_DUTY : Reg := ⟨0xE0128, 32, 0x40, 1, 0x0, 0, 0x0, 0x0, 0x0, 0x0, 0x0⟩
def Fld.ARC_DUTY_DUTY : Fld := ⟨Reg.ARC_DUTY, 0, 32⟩

/-! ### spec/13_prism_capture.md -/

/-- `PRM_STATUS, offset 0x000` (spec/13_prism_capture.md). -/
def Reg.PRM_STATUS : Reg := ⟨0xF0000, 1, 0x0, 1, 0x0, 0, 0x0, 0x0, 0x0, 0x0, 0x0⟩
def Fld.PRM_STATUS_COLLECT : Fld := ⟨Reg.PRM_STATUS, 16, 16⟩
def Fld.PRM_STATUS_ARMED : Fld := ⟨Reg.PRM_STATUS, 0, 16⟩

/-- `PRM_HISTDEPTH, offset 0x004` (spec/13_prism_capture.md). -/
def Reg.PRM_HISTDEPTH : Reg := ⟨0xF0004, 1, 0x0, 1, 0x0, 0, 0x0, 0x0, 0x0, 0x0, 0x0⟩
def Fld.PRM_HISTDEPTH_MS : Fld := ⟨Reg.PRM_HISTDEPTH, 0, 32⟩

/-- `PRM_BACKLOG, offset 0x008` (spec/13_prism_capture.md). -/
def Reg.PRM_BACKLOG : Reg := ⟨0xF0008, 1, 0x0, 1, 0x0, 0, 0x0, 0x0, 0x0, 0x0, 0x0⟩
def Fld.PRM_BACKLOG_ENTRIES : Fld := ⟨Reg.PRM_BACKLOG, 0, 25⟩

/-- `PRM_BKPEAK, offset 0x00C` (spec/13_prism_capture.md). -/
def Reg.PRM_BKPEAK : Reg := ⟨0xF000C, 1, 0x0, 1, 0x0, 0, 0x0, 0x0, 0x0, 0x0, 0x1FFFFFF⟩
def Fld.PRM_BKPEAK_PEAK : Fld := ⟨Reg.PRM_BKPEAK, 0, 25⟩

/-- `PRM_DISCARD, offset 0x010` (spec/13_prism_capture.md). -/
def Reg.PRM_DISCARD : Reg := ⟨0xF0010, 1, 0x0, 1, 0x0, 0, 0x0, 0x0, 0x0, 0x0, 0xFFFFFFFF⟩
def Fld.PRM_DISCARD_COUNT : Fld := ⟨Reg.PRM_DISCARD, 0, 32⟩

/-- `PRM_GAPCNT, offset 0x014` (spec/13_prism_capture.md). -/
def Reg.PRM_GAPCNT : Reg := ⟨0xF0014, 1, 0x0, 1, 0x0, 0, 0x0, 0x0, 0x0, 0x0, 0xFFFFFFFF⟩
def Fld.PRM_GAPCNT_BACKLOG : Fld := ⟨Reg.PRM_GAPCNT, 16, 16⟩
def Fld.PRM_GAPCNT_LINK : Fld := ⟨Reg.PRM_GAPCNT, 0, 16⟩

/-- `PRM_NEXTREC, offset 0x018` (spec/13_prism_capture.md). -/
def Reg.PRM_NEXTREC : Reg := ⟨0xF0018, 1, 0x0, 1, 0x0, 0, 0x0, 0x0, 0x0, 0x0, 0x0⟩
def Fld.PRM_NEXTREC_RECNO : Fld := ⟨Reg.PRM_NEXTREC, 0, 32⟩

/-- `PRM_SEQ, offset 0x01C` (spec/13_prism_capture.md). -/
def Reg.PRM_SEQ : Reg := ⟨0xF001C, 1, 0x0, 1, 0x0, 0, 0x0, 0x0, 0x0, 0x0, 0x0⟩
def Fld.PRM_SEQ_SEQ : Fld := ⟨Reg.PRM_SEQ, 0, 16⟩

/-- `PRM_USTAT, offset 0x100 + u × 0x20` (spec/13_prism_capture.md). -/
def Reg.PRM_USTAT : Reg := ⟨0xF0100, 16, 0x20, 1, 0x0, 0, 0x0, 0x0, 0x0, 0x0, 0x0⟩
def Fld.PRM_USTAT_STATE : Fld := ⟨Reg.PRM_USTAT, 30, 2⟩

/-- `PRM_USUPP, offset 0x104 + u × 0x20` (spec/13_prism_capture.md). -/
def Reg.PRM_USUPP : Reg := ⟨0xF0104, 16, 0x20, 1, 0x0, 0, 0x0, 0x0, 0x0, 0x0, 0xFFFFFFFF⟩
def Fld.PRM_USUPP_COUNT : Fld := ⟨Reg.PRM_USUPP, 0, 32⟩

/-- `PRM_UFIRED, offset 0x108 + u × 0x20` (spec/13_prism_capture.md). -/
def Reg.PRM_UFIRED : Reg := ⟨0xF0108, 16, 0x20, 1, 0x0, 0, 0x0, 0x0, 0x0, 0x0, 0x0⟩
def Fld.PRM_UFIRED_COUNT : Fld := ⟨Reg.PRM_UFIRED, 0, 32⟩

/-- `PRM_ULASTREC, offset 0x10C + u × 0x20` (spec/13_prism_capture.md). -/
def Reg.PRM_ULASTREC : Reg := ⟨0xF010C, 16, 0x20, 1, 0x0, 0, 0x0, 0x0, 0x0, 0x0, 0x0⟩
def Fld.PRM_ULASTREC_RECNO : Fld := ⟨Reg.PRM_ULASTREC, 0, 32⟩

/-- `PRM_UTNS, PRM_UTSEC, offsets 0x110, 0x114 + u × 0x20` (spec/13_prism_capture.md). -/
def Reg.PRM_UTNS : Reg := ⟨0xF0110, 16, 0x20, 1, 0x0, 0, 0x0, 0x0, 0x0, 0x0, 0x0⟩
def Fld.PRM_UTNS_VALUE : Fld := ⟨Reg.PRM_UTNS, 0, 32⟩

/-- `PRM_UTNS, PRM_UTSEC, offsets 0x110, 0x114 + u × 0x20` (spec/13_prism_capture.md). -/
def Reg.PRM_UTSEC : Reg := ⟨0xF0114, 16, 0x20, 1, 0x0, 0, 0x0, 0x0, 0x0, 0x0, 0x0⟩
def Fld.PRM_UTSEC_VALUE : Fld := ⟨Reg.PRM_UTSEC, 0, 32⟩

/-! ### spec/14_helix_recorder.md -/

/-- `HLX_STATUS, offset 0x000` (spec/14_helix_recorder.md). -/
def Reg.HLX_STATUS : Reg := ⟨0x100000, 1, 0x0, 1, 0x0, 0, 0x0, 0x0, 0x0, 0x0, 0x0⟩
def Fld.HLX_STATUS_FROZEN : Fld := ⟨Reg.HLX_STATUS, 31, 1⟩
def Fld.HLX_STATUS_FF_STATE : Fld := ⟨Reg.HLX_STATUS, 26, 2⟩
def Fld.HLX_STATUS_FF_COUNT : Fld := ⟨Reg.HLX_STATUS, 15, 11⟩
def Fld.HLX_STATUS_LOGCNT : Fld := ⟨Reg.HLX_STATUS, 0, 15⟩

/-- `HLX_SEQ, offset 0x004` (spec/14_helix_recorder.md). -/
def Reg.HLX_SEQ : Reg := ⟨0x100004, 1, 0x0, 1, 0x0, 0, 0x0, 0x0, 0x0, 0x0, 0x0⟩
def Fld.HLX_SEQ_NEXT : Fld := ⟨Reg.HLX_SEQ, 0, 32⟩

/-- `HLX_OLDEST, offset 0x008` (spec/14_helix_recorder.md). -/
def Reg.HLX_OLDEST : Reg := ⟨0x100008, 1, 0x0, 1, 0x0, 0, 0x0, 0x0, 0x0, 0x0, 0x0⟩
def Fld.HLX_OLDEST_SEQ : Fld := ⟨Reg.HLX_OLDEST, 0, 32⟩

/-- `HLX_OVWR, offset 0x00C` (spec/14_helix_recorder.md). -/
def Reg.HLX_OVWR : Reg := ⟨0x10000C, 1, 0x0, 1, 0x0, 0, 0x0, 0x0, 0x0, 0x0, 0xFFFFFFFF⟩
def Fld.HLX_OVWR_COUNT : Fld := ⟨Reg.HLX_OVWR, 0, 32⟩

/-- `HLX_DROP, offset 0x010` (spec/14_helix_recorder.md). -/
def Reg.HLX_DROP : Reg := ⟨0x100010, 1, 0x0, 1, 0x0, 0, 0x0, 0x0, 0x0, 0x0, 0xFFFFFFFF⟩
def Fld.HLX_DROP_INTAKE : Fld := ⟨Reg.HLX_DROP, 16, 16⟩
def Fld.HLX_DROP_STREAM : Fld := ⟨Reg.HLX_DROP, 0, 16⟩

/-- `HLX_FF_TRIG, offset 0x014` (spec/14_helix_recorder.md). -/
def Reg.HLX_FF_TRIG : Reg := ⟨0x100014, 1, 0x0, 1, 0x0, 0, 0x0, 0x0, 0x0, 0x0, 0x0⟩
def Fld.HLX_FF_TRIG_SEQ : Fld := ⟨Reg.HLX_FF_TRIG, 0, 32⟩

/-- `HLX_FF_TNS, HLX_FF_TSEC, offsets 0x018, 0x01C` (spec/14_helix_recorder.md). -/
def Reg.HLX_FF_TNS : Reg := ⟨0x100018, 1, 0x0, 1, 0x0, 0, 0x0, 0x0, 0x0, 0x0, 0x0⟩
def Fld.HLX_FF_TNS_VALUE : Fld := ⟨Reg.HLX_FF_TNS, 0, 32⟩

/-- `HLX_FF_TNS, HLX_FF_TSEC, offsets 0x018, 0x01C` (spec/14_helix_recorder.md). -/
def Reg.HLX_FF_TSEC : Reg := ⟨0x10001C, 1, 0x0, 1, 0x0, 0, 0x0, 0x0, 0x0, 0x0, 0x0⟩
def Fld.HLX_FF_TSEC_VALUE : Fld := ⟨Reg.HLX_FF_TSEC, 0, 32⟩

/-! ### spec/15_canfd.md -/

/-- `CAN_STAT, offset 0x100 + c × 0x100` (spec/15_canfd.md). -/
def Reg.CAN_STAT : Reg := ⟨0x120100, 4, 0x100, 1, 0x0, 0, 0x0, 0x0, 0x0, 0x0, 0x0⟩
def Fld.CAN_STAT_MODE : Fld := ⟨Reg.CAN_STAT, 30, 2⟩
def Fld.CAN_STAT_ERRSTATE : Fld := ⟨Reg.CAN_STAT, 28, 2⟩

/-- `CAN_ERRCNT, offset 0x104 + c × 0x100` (spec/15_canfd.md). -/
def Reg.CAN_ERRCNT : Reg := ⟨0x120104, 4, 0x100, 1, 0x0, 0, 0x0, 0x0, 0x0, 0x0, 0x0⟩
def Fld.CAN_ERRCNT_REC : Fld := ⟨Reg.CAN_ERRCNT, 16, 8⟩
def Fld.CAN_ERRCNT_TEC : Fld := ⟨Reg.CAN_ERRCNT, 0, 9⟩

/-- `CAN_QSTAT, offset 0x108 + c × 0x100` (spec/15_canfd.md). -/
def Reg.CAN_QSTAT : Reg := ⟨0x120108, 4, 0x100, 1, 0x0, 0, 0x0, 0x0, 0x0, 0x0, 0x0⟩
def Fld.CAN_QSTAT_QUEUED : Fld := ⟨Reg.CAN_QSTAT, 16, 7⟩
def Fld.CAN_QSTAT_EXP : Fld := ⟨Reg.CAN_QSTAT, 8, 8⟩
def Fld.CAN_QSTAT_ATTEMPT : Fld := ⟨Reg.CAN_QSTAT, 7, 1⟩
def Fld.CAN_QSTAT_ENTRY : Fld := ⟨Reg.CAN_QSTAT, 0, 7⟩

/-- `CAN_BUSOFF, offset 0x10C + c × 0x100` (spec/15_canfd.md). -/
def Reg.CAN_BUSOFF : Reg := ⟨0x12010C, 4, 0x100, 1, 0x0, 0, 0x0, 0x1, 0x0, 0x0, 0xFFFF0000⟩
def Fld.CAN_BUSOFF_COUNT : Fld := ⟨Reg.CAN_BUSOFF, 16, 16⟩
def Fld.CAN_BUSOFF_RECOVER : Fld := ⟨Reg.CAN_BUSOFF, 1, 1⟩
def Fld.CAN_BUSOFF_HOLD : Fld := ⟨Reg.CAN_BUSOFF, 0, 1⟩

/-- `CAN_TXCNT, CAN_RXCNT, offsets 0x110, 0x114 + c × 0x100` (spec/15_canfd.md). -/
def Reg.CAN_TXCNT : Reg := ⟨0x120110, 4, 0x100, 1, 0x0, 0, 0x0, 0x0, 0x0, 0x0, 0x0⟩
def Fld.CAN_TXCNT_COUNT : Fld := ⟨Reg.CAN_TXCNT, 0, 32⟩

/-- `CAN_TXCNT, CAN_RXCNT, offsets 0x110, 0x114 + c × 0x100` (spec/15_canfd.md). -/
def Reg.CAN_RXCNT : Reg := ⟨0x120114, 4, 0x100, 1, 0x0, 0, 0x0, 0x0, 0x0, 0x0, 0x0⟩
def Fld.CAN_RXCNT_COUNT : Fld := ⟨Reg.CAN_RXCNT, 0, 32⟩

/-- `CAN_RXLOST, offset 0x118 + c × 0x100` (spec/15_canfd.md). -/
def Reg.CAN_RXLOST : Reg := ⟨0x120118, 4, 0x100, 1, 0x0, 0, 0x0, 0x0, 0x0, 0x0, 0xFFFFFFFF⟩
def Fld.CAN_RXLOST_COUNT : Fld := ⟨Reg.CAN_RXLOST, 0, 32⟩

/-- `CAN_MBX_STAT, offset 0x140 + c × 0x100` (spec/15_canfd.md). -/
def Reg.CAN_MBX_STAT : Reg := ⟨0x120140, 4, 0x100, 1, 0x0, 0, 0x0, 0x0, 0x0, 0x0, 0xC0000000⟩
def Fld.CAN_MBX_STAT_NEW : Fld := ⟨Reg.CAN_MBX_STAT, 31, 1⟩
def Fld.CAN_MBX_STAT_OVR : Fld := ⟨Reg.CAN_MBX_STAT, 30, 1⟩
def Fld.CAN_MBX_STAT_XTD : Fld := ⟨Reg.CAN_MBX_STAT, 29, 1⟩
def Fld.CAN_MBX_STAT_ID : Fld := ⟨Reg.CAN_MBX_STAT, 0, 29⟩

/-- `CAN_MBX_INFO, offset 0x144 + c × 0x100` (spec/15_canfd.md). -/
def Reg.CAN_MBX_INFO : Reg := ⟨0x120144, 4, 0x100, 1, 0x0, 0, 0x0, 0x0, 0x0, 0x0, 0x0⟩
def Fld.CAN_MBX_INFO_LENGTH : Fld := ⟨Reg.CAN_MBX_INFO, 8, 8⟩
def Fld.CAN_MBX_INFO_RTR : Fld := ⟨Reg.CAN_MBX_INFO, 7, 1⟩
def Fld.CAN_MBX_INFO_ESI : Fld := ⟨Reg.CAN_MBX_INFO, 6, 1⟩
def Fld.CAN_MBX_INFO_BRS : Fld := ⟨Reg.CAN_MBX_INFO, 5, 1⟩
def Fld.CAN_MBX_INFO_FDF : Fld := ⟨Reg.CAN_MBX_INFO, 4, 1⟩
def Fld.CAN_MBX_INFO_DLC : Fld := ⟨Reg.CAN_MBX_INFO, 0, 4⟩

/-- `CAN_MBX_NS, CAN_MBX_SEC, offsets 0x148, 0x14C + c × 0x100` (spec/15_canfd.md). -/
def Reg.CAN_MBX_NS : Reg := ⟨0x120148, 4, 0x100, 1, 0x0, 0, 0x0, 0x0, 0x0, 0x0, 0x0⟩
def Fld.CAN_MBX_NS_VALUE : Fld := ⟨Reg.CAN_MBX_NS, 0, 32⟩

/-- `CAN_MBX_NS, CAN_MBX_SEC, offsets 0x148, 0x14C + c × 0x100` (spec/15_canfd.md). -/
def Reg.CAN_MBX_SEC : Reg := ⟨0x12014C, 4, 0x100, 1, 0x0, 0, 0x0, 0x0, 0x0, 0x0, 0x0⟩
def Fld.CAN_MBX_SEC_VALUE : Fld := ⟨Reg.CAN_MBX_SEC, 0, 32⟩

/-- `CAN_MBX_DATAi, offset 0x180 + i × 4 + c × 0x100, i = 0–15` (spec/15_canfd.md). -/
def Reg.CAN_MBX_DATA : Reg := ⟨0x120180, 4, 0x100, 16, 0x4, 0, 0x0, 0x0, 0x0, 0x0, 0x0⟩
def Fld.CAN_MBX_DATA_DATA : Fld := ⟨Reg.CAN_MBX_DATA, 0, 32⟩

/-! ### spec/16_ethernet_prp.md -/

/-- `ETH_CYCSTAT, offset 0x000` (spec/16_ethernet_prp.md). -/
def Reg.ETH_CYCSTAT : Reg := ⟨0x110000, 1, 0x0, 1, 0x0, 0, 0x0, 0x0, 0x0, 0x0, 0xFFFF0000⟩
def Fld.ETH_CYCSTAT_LATE : Fld := ⟨Reg.ETH_CYCSTAT, 16, 16⟩
def Fld.ETH_CYCSTAT_ACTIVE : Fld := ⟨Reg.ETH_CYCSTAT, 0, 8⟩

/-- `ETH_PRPCNT, offset 0x004` (spec/16_ethernet_prp.md). -/
def Reg.ETH_PRPCNT : Reg := ⟨0x110004, 1, 0x0, 1, 0x0, 0, 0x0, 0x0, 0x0, 0x0, 0xFFFFFFFF⟩
def Fld.ETH_PRPCNT_DUP : Fld := ⟨Reg.ETH_PRPCNT, 16, 16⟩
def Fld.ETH_PRPCNT_WRONGLAN : Fld := ⟨Reg.ETH_PRPCNT, 8, 8⟩
def Fld.ETH_PRPCNT_REPL : Fld := ⟨Reg.ETH_PRPCNT, 0, 8⟩

/-- `ETH_PSTAT, offset 0x100 + n × 0x100` (spec/16_ethernet_prp.md). -/
def Reg.ETH_PSTAT : Reg := ⟨0x110100, 2, 0x100, 1, 0x0, 0, 0x0, 0x0, 0x0, 0x0, 0x0⟩
def Fld.ETH_PSTAT_LINK : Fld := ⟨Reg.ETH_PSTAT, 31, 1⟩
def Fld.ETH_PSTAT_SPEED : Fld := ⟨Reg.ETH_PSTAT, 26, 2⟩
def Fld.ETH_PSTAT_TXQ : Fld := ⟨Reg.ETH_PSTAT, 0, 9⟩

/-- `ETH_MACLO, ETH_MACHI, offsets 0x104, 0x108 + n × 0x100` (spec/16_ethernet_prp.md): reset not given for ADDR. -/
def Reg.ETH_MACLO : Reg := ⟨0x110104, 2, 0x100, 1, 0x0, 0, 0x0, 0x0, 0x0, 0x0, 0x0⟩
def Fld.ETH_MACLO_ADDR : Fld := ⟨Reg.ETH_MACLO, 0, 32⟩

/-- `ETH_MACLO, ETH_MACHI, offsets 0x104, 0x108 + n × 0x100` (spec/16_ethernet_prp.md): reset not given for ADDR. -/
def Reg.ETH_MACHI : Reg := ⟨0x110108, 2, 0x100, 1, 0x0, 0, 0x0, 0x0, 0x0, 0x0, 0x0⟩
def Fld.ETH_MACHI_ADDR : Fld := ⟨Reg.ETH_MACHI, 0, 32⟩

/-- `ETH_TXCNT, ETH_RXCNT, offsets 0x10C, 0x110 + n × 0x100` (spec/16_ethernet_prp.md). -/
def Reg.ETH_TXCNT : Reg := ⟨0x11010C, 2, 0x100, 1, 0x0, 0, 0x0, 0x0, 0x0, 0x0, 0x0⟩
def Fld.ETH_TXCNT_COUNT : Fld := ⟨Reg.ETH_TXCNT, 0, 32⟩

/-- `ETH_TXCNT, ETH_RXCNT, offsets 0x10C, 0x110 + n × 0x100` (spec/16_ethernet_prp.md). -/
def Reg.ETH_RXCNT : Reg := ⟨0x110110, 2, 0x100, 1, 0x0, 0, 0x0, 0x0, 0x0, 0x0, 0x0⟩
def Fld.ETH_RXCNT_COUNT : Fld := ⟨Reg.ETH_RXCNT, 0, 32⟩

/-- `ETH_RXLOST, offset 0x114 + n × 0x100` (spec/16_ethernet_prp.md). -/
def Reg.ETH_RXLOST : Reg := ⟨0x110114, 2, 0x100, 1, 0x0, 0, 0x0, 0x0, 0x0, 0x0, 0xFFFFFFFF⟩
def Fld.ETH_RXLOST_COUNT : Fld := ⟨Reg.ETH_RXLOST, 0, 32⟩

/-- `ETH_RXERR, offset 0x118 + n × 0x100` (spec/16_ethernet_prp.md). -/
def Reg.ETH_RXERR : Reg := ⟨0x110118, 2, 0x100, 1, 0x0, 0, 0x0, 0x0, 0x0, 0x0, 0xFFFFFFFF⟩
def Fld.ETH_RXERR_FCS : Fld := ⟨Reg.ETH_RXERR, 16, 16⟩
def Fld.ETH_RXERR_LONG : Fld := ⟨Reg.ETH_RXERR, 0, 16⟩

/-! ### spec/17_meridian_time.md -/

/-- `MER_STATUS, offset 0x000` (spec/17_meridian_time.md). -/
def Reg.MER_STATUS : Reg := ⟨0x50000, 1, 0x0, 1, 0x0, 0, 0x0, 0x0, 0x0, 0x0, 0x0⟩
def Fld.MER_STATUS_TSTATE : Fld := ⟨Reg.MER_STATUS, 28, 4⟩
def Fld.MER_STATUS_LOCKED : Fld := ⟨Reg.MER_STATUS, 27, 1⟩
def Fld.MER_STATUS_SWITCHING : Fld := ⟨Reg.MER_STATUS, 26, 1⟩
def Fld.MER_STATUS_STAMP_BAD : Fld := ⟨Reg.MER_STATUS, 25, 1⟩
def Fld.MER_STATUS_SET : Fld := ⟨Reg.MER_STATUS, 24, 1⟩
def Fld.MER_STATUS_ACTIVE : Fld := ⟨Reg.MER_STATUS, 0, 2⟩

/-- `MER_DIFF, offset 0x004` (spec/17_meridian_time.md). -/
def Reg.MER_DIFF : Reg := ⟨0x50004, 1, 0x0, 1, 0x0, 0, 0x0, 0x0, 0x0, 0x0, 0x0⟩
def Fld.MER_DIFF_NS : Fld := ⟨Reg.MER_DIFF, 0, 32⟩

/-- `MER_RATE, offset 0x008` (spec/17_meridian_time.md). -/
def Reg.MER_RATE : Reg := ⟨0x50008, 1, 0x0, 1, 0x0, 0, 0x0, 0x0, 0x0, 0x0, 0x0⟩
def Fld.MER_RATE_RATE : Fld := ⟨Reg.MER_RATE, 0, 32⟩

/-- `MER_STEPS, offset 0x00C` (spec/17_meridian_time.md). -/
def Reg.MER_STEPS : Reg := ⟨0x5000C, 1, 0x0, 1, 0x0, 0, 0x0, 0x0, 0x0, 0x0, 0xFFFF0000⟩
def Fld.MER_STEPS_STEPS : Fld := ⟨Reg.MER_STEPS, 16, 16⟩

/-- `MER_SNAP, offset 0x010` (spec/17_meridian_time.md). -/
def Reg.MER_SNAP : Reg := ⟨0x50010, 1, 0x0, 1, 0x0, 0, 0x0, 0x0, 0x1, 0x0, 0x0⟩
def Fld.MER_SNAP_GO : Fld := ⟨Reg.MER_SNAP, 0, 1⟩

/-- `MER_SNAP_HI_T` (spec/17_meridian_time.md). -/
def Reg.MER_SNAP_HI_T : Reg := ⟨0x50014, 1, 0x0, 1, 0x0, 0, 0x0, 0x0, 0x0, 0x0, 0x0⟩
def Fld.MER_SNAP_HI_T_VALUE : Fld := ⟨Reg.MER_SNAP_HI_T, 0, 32⟩

/-- `MER_SNAP_SEC_T` (spec/17_meridian_time.md). -/
def Reg.MER_SNAP_SEC_T : Reg := ⟨0x50018, 1, 0x0, 1, 0x0, 0, 0x0, 0x0, 0x0, 0x0, 0x0⟩
def Fld.MER_SNAP_SEC_T_VALUE : Fld := ⟨Reg.MER_SNAP_SEC_T, 0, 32⟩

/-- `MER_SNAP_NS_T` (spec/17_meridian_time.md). -/
def Reg.MER_SNAP_NS_T : Reg := ⟨0x5001C, 1, 0x0, 1, 0x0, 0, 0x0, 0x0, 0x0, 0x0, 0x0⟩
def Fld.MER_SNAP_NS_T_VALUE : Fld := ⟨Reg.MER_SNAP_NS_T, 0, 32⟩

/-- `MER_SNAP_HI_VA` (spec/17_meridian_time.md). -/
def Reg.MER_SNAP_HI_VA : Reg := ⟨0x50020, 1, 0x0, 1, 0x0, 0, 0x0, 0x0, 0x0, 0x0, 0x0⟩
def Fld.MER_SNAP_HI_VA_VALUE : Fld := ⟨Reg.MER_SNAP_HI_VA, 0, 32⟩

/-- `MER_SNAP_SEC_VA` (spec/17_meridian_time.md). -/
def Reg.MER_SNAP_SEC_VA : Reg := ⟨0x50024, 1, 0x0, 1, 0x0, 0, 0x0, 0x0, 0x0, 0x0, 0x0⟩
def Fld.MER_SNAP_SEC_VA_VALUE : Fld := ⟨Reg.MER_SNAP_SEC_VA, 0, 32⟩

/-- `MER_SNAP_NS_VA` (spec/17_meridian_time.md). -/
def Reg.MER_SNAP_NS_VA : Reg := ⟨0x50028, 1, 0x0, 1, 0x0, 0, 0x0, 0x0, 0x0, 0x0, 0x0⟩
def Fld.MER_SNAP_NS_VA_VALUE : Fld := ⟨Reg.MER_SNAP_NS_VA, 0, 32⟩

/-- `MER_SNAP_HI_VB` (spec/17_meridian_time.md). -/
def Reg.MER_SNAP_HI_VB : Reg := ⟨0x5002C, 1, 0x0, 1, 0x0, 0, 0x0, 0x0, 0x0, 0x0, 0x0⟩
def Fld.MER_SNAP_HI_VB_VALUE : Fld := ⟨Reg.MER_SNAP_HI_VB, 0, 32⟩

/-- `MER_SNAP_SEC_VB` (spec/17_meridian_time.md). -/
def Reg.MER_SNAP_SEC_VB : Reg := ⟨0x50030, 1, 0x0, 1, 0x0, 0, 0x0, 0x0, 0x0, 0x0, 0x0⟩
def Fld.MER_SNAP_SEC_VB_VALUE : Fld := ⟨Reg.MER_SNAP_SEC_VB, 0, 32⟩

/-- `MER_SNAP_NS_VB` (spec/17_meridian_time.md). -/
def Reg.MER_SNAP_NS_VB : Reg := ⟨0x50034, 1, 0x0, 1, 0x0, 0, 0x0, 0x0, 0x0, 0x0, 0x0⟩
def Fld.MER_SNAP_NS_VB_VALUE : Fld := ⟨Reg.MER_SNAP_NS_VB, 0, 32⟩

/-- `MER_SV_STAT, offset 0x100 + n × 0x40` (spec/17_meridian_time.md). -/
def Reg.MER_SV_STAT : Reg := ⟨0x50100, 3, 0x40, 1, 0x0, 0, 0x0, 0x0, 0x0, 0x0, 0x0⟩
def Fld.MER_SV_STAT_STATE : Fld := ⟨Reg.MER_SV_STAT, 28, 4⟩
def Fld.MER_SV_STAT_INCOUNT : Fld := ⟨Reg.MER_SV_STAT, 0, 8⟩

/-- `MER_SV_RATE` (spec/17_meridian_time.md). -/
def Reg.MER_SV_RATE : Reg := ⟨0x50104, 3, 0x40, 1, 0x0, 0, 0x0, 0x0, 0x0, 0x0, 0x0⟩
def Fld.MER_SV_RATE_VALUE : Fld := ⟨Reg.MER_SV_RATE, 0, 32⟩

/-- `MER_SV_LAST` (spec/17_meridian_time.md). -/
def Reg.MER_SV_LAST : Reg := ⟨0x50108, 3, 0x40, 1, 0x0, 0, 0x0, 0x0, 0x0, 0x0, 0x0⟩
def Fld.MER_SV_LAST_VALUE : Fld := ⟨Reg.MER_SV_LAST, 0, 32⟩

/-- `MER_SV_AGE` (spec/17_meridian_time.md). -/
def Reg.MER_SV_AGE : Reg := ⟨0x5010C, 3, 0x40, 1, 0x0, 0, 0x0, 0x0, 0x0, 0x0, 0x0⟩
def Fld.MER_SV_AGE_VALUE : Fld := ⟨Reg.MER_SV_AGE, 0, 32⟩

/-- `MER_OFS_LO` (spec/17_meridian_time.md). -/
def Reg.MER_OFS_LO : Reg := ⟨0x50110, 3, 0x40, 1, 0x0, 1, 0x0, 0xFFFFFFFF, 0x0, 0x0, 0x0⟩
def Fld.MER_OFS_LO_VALUE : Fld := ⟨Reg.MER_OFS_LO, 0, 32⟩

/-- `MER_OFS_HI` (spec/17_meridian_time.md). -/
def Reg.MER_OFS_HI : Reg := ⟨0x50114, 3, 0x40, 1, 0x0, 1, 0x0, 0xFFFFFFFF, 0x0, 0x0, 0x0⟩
def Fld.MER_OFS_HI_VALUE : Fld := ⟨Reg.MER_OFS_HI, 0, 32⟩

/-- `MER_OFS_TNS` (spec/17_meridian_time.md). -/
def Reg.MER_OFS_TNS : Reg := ⟨0x50118, 3, 0x40, 1, 0x0, 1, 0x0, 0xFFFFFFFF, 0x0, 0x0, 0x0⟩
def Fld.MER_OFS_TNS_VALUE : Fld := ⟨Reg.MER_OFS_TNS, 0, 32⟩

/-- `MER_OFS_TSEC` (spec/17_meridian_time.md). -/
def Reg.MER_OFS_TSEC : Reg := ⟨0x5011C, 3, 0x40, 1, 0x0, 1, 0x0, 0xFFFFFFFF, 0x0, 0x0, 0x0⟩
def Fld.MER_OFS_TSEC_VALUE : Fld := ⟨Reg.MER_OFS_TSEC, 0, 32⟩

/-- `MER_OFS_GO, offset 0x120 + n × 0x40, n = 1–2` (spec/17_meridian_time.md). -/
def Reg.MER_OFS_GO : Reg := ⟨0x50120, 3, 0x40, 1, 0x0, 1, 0x0, 0x0, 0xFFFF, 0x0, 0x0⟩
def Fld.MER_OFS_GO_FRAC : Fld := ⟨Reg.MER_OFS_GO, 0, 16⟩

/-- `MER_OFS_REJ, offset 0x124 + n × 0x40, n = 1–2` (spec/17_meridian_time.md). -/
def Reg.MER_OFS_REJ : Reg := ⟨0x50124, 3, 0x40, 1, 0x0, 1, 0x0, 0x0, 0x0, 0x0, 0xFFFF0000⟩
def Fld.MER_OFS_REJ_COUNT : Fld := ⟨Reg.MER_OFS_REJ, 16, 16⟩
def Fld.MER_OFS_REJ_REASON : Fld := ⟨Reg.MER_OFS_REJ, 0, 2⟩

/-- `MER_TXTS_STAT, offset 0x200 + p × 0x20` (spec/17_meridian_time.md). -/
def Reg.MER_TXTS_STAT : Reg := ⟨0x50200, 2, 0x20, 1, 0x0, 0, 0x0, 0x0, 0x0, 0x0, 0xFFFF0000⟩
def Fld.MER_TXTS_STAT_OVF : Fld := ⟨Reg.MER_TXTS_STAT, 16, 16⟩
def Fld.MER_TXTS_STAT_COUNT : Fld := ⟨Reg.MER_TXTS_STAT, 0, 5⟩

/-- `MER_TXTS_ID, offset 0x204 + p × 0x20` (spec/17_meridian_time.md). -/
def Reg.MER_TXTS_ID : Reg := ⟨0x50204, 2, 0x20, 1, 0x0, 0, 0x0, 0x0, 0x0, 0x0, 0x0⟩
def Fld.MER_TXTS_ID_DOMAIN : Fld := ⟨Reg.MER_TXTS_ID, 24, 8⟩
def Fld.MER_TXTS_ID_MSGTYPE : Fld := ⟨Reg.MER_TXTS_ID, 16, 4⟩
def Fld.MER_TXTS_ID_SEQID : Fld := ⟨Reg.MER_TXTS_ID, 0, 16⟩

/-- `MER_TXTS_NS, MER_TXTS_SEC, offsets 0x208, 0x20C + p × 0x20` (spec/17_meridian_time.md). -/
def Reg.MER_TXTS_NS : Reg := ⟨0x50208, 2, 0x20, 1, 0x0, 0, 0x0, 0x0, 0x0, 0x0, 0x0⟩
def Fld.MER_TXTS_NS_VALUE : Fld := ⟨Reg.MER_TXTS_NS, 0, 32⟩

/-- `MER_TXTS_NS, MER_TXTS_SEC, offsets 0x208, 0x20C + p × 0x20` (spec/17_meridian_time.md). -/
def Reg.MER_TXTS_SEC : Reg := ⟨0x5020C, 2, 0x20, 1, 0x0, 0, 0x0, 0x0, 0x0, 0x0, 0x0⟩
def Fld.MER_TXTS_SEC_VALUE : Fld := ⟨Reg.MER_TXTS_SEC, 0, 32⟩

/-- `MER_TXTS_POP, offset 0x210 + p × 0x20` (spec/17_meridian_time.md). -/
def Reg.MER_TXTS_POP : Reg := ⟨0x50210, 2, 0x20, 1, 0x0, 0, 0x0, 0x0, 0x1, 0x0, 0x0⟩
def Fld.MER_TXTS_POP_POP : Fld := ⟨Reg.MER_TXTS_POP, 0, 1⟩

/-! ### spec/18_vexlink_hierarchy.md -/

/-- `VXL_STATUS, offset 0x000` (spec/18_vexlink_hierarchy.md): reset not given for ROLE. -/
def Reg.VXL_STATUS : Reg := ⟨0x130000, 1, 0x0, 1, 0x0, 0, 0x0, 0x0, 0x0, 0x0, 0x0⟩
def Fld.VXL_STATUS_ROLE : Fld := ⟨Reg.VXL_STATUS, 30, 2⟩
def Fld.VXL_STATUS_JSTATE : Fld := ⟨Reg.VXL_STATUS, 27, 3⟩
def Fld.VXL_STATUS_REASON : Fld := ⟨Reg.VXL_STATUS, 24, 3⟩
def Fld.VXL_STATUS_UPLINK : Fld := ⟨Reg.VXL_STATUS, 23, 1⟩
def Fld.VXL_STATUS_RING_OPEN : Fld := ⟨Reg.VXL_STATUS, 22, 1⟩
def Fld.VXL_STATUS_MGR_SEEN : Fld := ⟨Reg.VXL_STATUS, 21, 1⟩
def Fld.VXL_STATUS_RING : Fld := ⟨Reg.VXL_STATUS, 10, 5⟩
def Fld.VXL_STATUS_DEVICE : Fld := ⟨Reg.VXL_STATUS, 0, 10⟩

/-- `VXL_PORTn, offset 0x010 + n × 4` (spec/18_vexlink_hierarchy.md). -/
def Reg.VXL_PORT : Reg := ⟨0x130010, 4, 0x4, 1, 0x0, 0, 0x0, 0x0, 0x0, 0x0, 0xFFFF⟩
def Fld.VXL_PORT_STATE : Fld := ⟨Reg.VXL_PORT, 30, 2⟩
def Fld.VXL_PORT_ROUTE : Fld := ⟨Reg.VXL_PORT, 28, 2⟩
def Fld.VXL_PORT_NEIGHBOUR : Fld := ⟨Reg.VXL_PORT, 16, 10⟩
def Fld.VXL_PORT_CRCERR : Fld := ⟨Reg.VXL_PORT, 0, 16⟩

/-- `VXL_PDELAYn, offset 0x020 + n × 4` (spec/18_vexlink_hierarchy.md). -/
def Reg.VXL_PDELAY : Reg := ⟨0x130020, 4, 0x4, 1, 0x0, 0, 0x0, 0x0, 0x0, 0x0, 0x0⟩
def Fld.VXL_PDELAY_DELAY : Fld := ⟨Reg.VXL_PDELAY, 0, 32⟩

/-- `VXL_CYCLE, offset 0x040` (spec/18_vexlink_hierarchy.md). -/
def Reg.VXL_CYCLE : Reg := ⟨0x130040, 1, 0x0, 1, 0x0, 0, 0x0, 0x0, 0x0, 0x0, 0x0⟩
def Fld.VXL_CYCLE_N : Fld := ⟨Reg.VXL_CYCLE, 0, 32⟩

/-- `VXL_CYCPER, offset 0x044` (spec/18_vexlink_hierarchy.md). -/
def Reg.VXL_CYCPER : Reg := ⟨0x130044, 1, 0x0, 1, 0x0, 0, 0x0, 0x0, 0x0, 0x0, 0x0⟩
def Fld.VXL_CYCPER_US : Fld := ⟨Reg.VXL_CYCPER, 0, 20⟩

/-- `VXL_MEMBERS, offset 0x048` (spec/18_vexlink_hierarchy.md). -/
def Reg.VXL_MEMBERS : Reg := ⟨0x130048, 1, 0x0, 1, 0x0, 0, 0x0, 0x0, 0x0, 0x0, 0x0⟩
def Fld.VXL_MEMBERS_VERSION : Fld := ⟨Reg.VXL_MEMBERS, 16, 16⟩
def Fld.VXL_MEMBERS_COUNT : Fld := ⟨Reg.VXL_MEMBERS, 0, 11⟩

/-- `VXL_RINGLOAD, VXL_RINGBUDGET, offsets 0x04C, 0x050` (spec/18_vexlink_hierarchy.md). -/
def Reg.VXL_RINGLOAD : Reg := ⟨0x13004C, 1, 0x0, 1, 0x0, 0, 0x0, 0x0, 0x0, 0x0, 0x0⟩
def Fld.VXL_RINGLOAD_BYTES : Fld := ⟨Reg.VXL_RINGLOAD, 0, 32⟩

/-- `VXL_RINGLOAD, VXL_RINGBUDGET, offsets 0x04C, 0x050` (spec/18_vexlink_hierarchy.md). -/
def Reg.VXL_RINGBUDGET : Reg := ⟨0x130050, 1, 0x0, 1, 0x0, 0, 0x0, 0x0, 0x0, 0x0, 0x0⟩
def Fld.VXL_RINGBUDGET_BYTES : Fld := ⟨Reg.VXL_RINGBUDGET, 0, 32⟩

/-- `VXL_TDIFF, offset 0x054` (spec/18_vexlink_hierarchy.md). -/
def Reg.VXL_TDIFF : Reg := ⟨0x130054, 1, 0x0, 1, 0x0, 0, 0x0, 0x0, 0x0, 0x0, 0x0⟩
def Fld.VXL_TDIFF_NS : Fld := ⟨Reg.VXL_TDIFF, 0, 32⟩

/-- `VXL_STALE, offset 0x058` (spec/18_vexlink_hierarchy.md). -/
def Reg.VXL_STALE : Reg := ⟨0x130058, 1, 0x0, 1, 0x0, 0, 0x0, 0x0, 0x0, 0x0, 0x0⟩
def Fld.VXL_STALE_COUNT : Fld := ⟨Reg.VXL_STALE, 0, 12⟩

/-- `VXL_OPEN, offset 0x05C` (spec/18_vexlink_hierarchy.md). -/
def Reg.VXL_OPEN : Reg := ⟨0x13005C, 1, 0x0, 1, 0x0, 0, 0x0, 0x0, 0x0, 0x0, 0x0⟩
def Fld.VXL_OPEN_COUNT : Fld := ⟨Reg.VXL_OPEN, 0, 13⟩

/-- `VXL_CTVALe, offset 0x4000 + e × 4, e = 0–4,095` (spec/18_vexlink_hierarchy.md). -/
def Reg.VXL_CTVAL : Reg := ⟨0x134000, 4096, 0x4, 1, 0x0, 0, 0x0, 0x0, 0x0, 0x0, 0x0⟩
def Fld.VXL_CTVAL_VALUE : Fld := ⟨Reg.VXL_CTVAL, 0, 32⟩

/-- `VXL_CTSTATe, offset 0x8000 + e × 4, e = 0–4,095` (spec/18_vexlink_hierarchy.md). -/
def Reg.VXL_CTSTAT : Reg := ⟨0x138000, 4096, 0x4, 1, 0x0, 0, 0xF0000000, 0x0, 0x0, 0x0, 0x0⟩
def Fld.VXL_CTSTAT_QUALITY : Fld := ⟨Reg.VXL_CTSTAT, 28, 4⟩
def Fld.VXL_CTSTAT_FLOAT : Fld := ⟨Reg.VXL_CTSTAT, 27, 1⟩
def Fld.VXL_CTSTAT_PUB : Fld := ⟨Reg.VXL_CTSTAT, 26, 1⟩
def Fld.VXL_CTSTAT_MISSES : Fld := ⟨Reg.VXL_CTSTAT, 22, 4⟩
def Fld.VXL_CTSTAT_COORD : Fld := ⟨Reg.VXL_CTSTAT, 0, 22⟩

/-! ### spec/19_mirror_pairs.md -/

/-- `MIR_STATUS, offset 0x000` (spec/19_mirror_pairs.md): reset not given for SLOT. -/
def Reg.MIR_STATUS : Reg := ⟨0x140000, 1, 0x0, 1, 0x0, 0, 0x0, 0x0, 0x0, 0x0, 0x0⟩
def Fld.MIR_STATUS_STATE : Fld := ⟨Reg.MIR_STATUS, 29, 3⟩
def Fld.MIR_STATUS_PARTNER : Fld := ⟨Reg.MIR_STATUS, 28, 1⟩
def Fld.MIR_STATUS_DEGRADED : Fld := ⟨Reg.MIR_STATUS, 27, 1⟩
def Fld.MIR_STATUS_VXL_UP : Fld := ⟨Reg.MIR_STATUS, 26, 1⟩
def Fld.MIR_STATUS_PL_UP : Fld := ⟨Reg.MIR_STATUS, 25, 1⟩
def Fld.MIR_STATUS_PAIRVAR : Fld := ⟨Reg.MIR_STATUS, 24, 1⟩
def Fld.MIR_STATUS_SLOT : Fld := ⟨Reg.MIR_STATUS, 23, 1⟩
def Fld.MIR_STATUS_PARTNER_ID : Fld := ⟨Reg.MIR_STATUS, 0, 10⟩

/-- `MIR_EPOCH, offset 0x004` (spec/19_mirror_pairs.md). -/
def Reg.MIR_EPOCH : Reg := ⟨0x140004, 1, 0x0, 1, 0x0, 0, 0x0, 0x0, 0x0, 0x0, 0x0⟩
def Fld.MIR_EPOCH_N : Fld := ⟨Reg.MIR_EPOCH, 0, 32⟩

/-- `MIR_ACK, offset 0x008` (spec/19_mirror_pairs.md). -/
def Reg.MIR_ACK : Reg := ⟨0x140008, 1, 0x0, 1, 0x0, 0, 0x0, 0x0, 0x0, 0x0, 0x0⟩
def Fld.MIR_ACK_N : Fld := ⟨Reg.MIR_ACK, 0, 32⟩

/-- `MIR_LAG, offset 0x00C` (spec/19_mirror_pairs.md). -/
def Reg.MIR_LAG : Reg := ⟨0x14000C, 1, 0x0, 1, 0x0, 0, 0x0, 0x0, 0x0, 0x0, 0xFFFF0000⟩
def Fld.MIR_LAG_MAX : Fld := ⟨Reg.MIR_LAG, 16, 16⟩
def Fld.MIR_LAG_LAG : Fld := ⟨Reg.MIR_LAG, 0, 16⟩

/-- `MIR_TOKEN, offset 0x010` (spec/19_mirror_pairs.md). -/
def Reg.MIR_TOKEN : Reg := ⟨0x140010, 1, 0x0, 1, 0x0, 0, 0x0, 0x0, 0x0, 0x0, 0x0⟩
def Fld.MIR_TOKEN_TOKEN : Fld := ⟨Reg.MIR_TOKEN, 0, 16⟩

/-- `MIR_PATHCNT, offset 0x014` (spec/19_mirror_pairs.md). -/
def Reg.MIR_PATHCNT : Reg := ⟨0x140014, 1, 0x0, 1, 0x0, 0, 0x0, 0x0, 0x0, 0x0, 0xFFFFFFFF⟩
def Fld.MIR_PATHCNT_VXL_LOSS : Fld := ⟨Reg.MIR_PATHCNT, 16, 16⟩
def Fld.MIR_PATHCNT_PL_LOSS : Fld := ⟨Reg.MIR_PATHCNT, 0, 16⟩

/-- `MIR_TAKE, offset 0x018` (spec/19_mirror_pairs.md). -/
def Reg.MIR_TAKE : Reg := ⟨0x140018, 1, 0x0, 1, 0x0, 0, 0x0, 0x0, 0x0, 0x0, 0x0⟩
def Fld.MIR_TAKE_COUNT : Fld := ⟨Reg.MIR_TAKE, 16, 16⟩
def Fld.MIR_TAKE_CAUSE : Fld := ⟨Reg.MIR_TAKE, 0, 2⟩

/-- `MIR_LOCAL_LO, MIR_LOCAL_HI, offsets 0x020, 0x024` (spec/19_mirror_pairs.md). -/
def Reg.MIR_LOCAL_LO : Reg := ⟨0x140020, 1, 0x0, 1, 0x0, 0, 0x0, 0xFFFFFFFF, 0x0, 0x0, 0x0⟩
def Fld.MIR_LOCAL_LO_LOCAL : Fld := ⟨Reg.MIR_LOCAL_LO, 0, 32⟩

/-- `MIR_LOCAL_LO, MIR_LOCAL_HI, offsets 0x020, 0x024` (spec/19_mirror_pairs.md). -/
def Reg.MIR_LOCAL_HI : Reg := ⟨0x140024, 1, 0x0, 1, 0x0, 0, 0x0, 0xFFFFFFFF, 0x0, 0x0, 0x0⟩
def Fld.MIR_LOCAL_HI_LOCAL : Fld := ⟨Reg.MIR_LOCAL_HI, 0, 32⟩

/-- `MIR_SYNCTIME, offset 0x028` (spec/19_mirror_pairs.md). -/
def Reg.MIR_SYNCTIME : Reg := ⟨0x140028, 1, 0x0, 1, 0x0, 0, 0x0, 0x0, 0x0, 0x0, 0x0⟩
def Fld.MIR_SYNCTIME_MS : Fld := ⟨Reg.MIR_SYNCTIME, 0, 32⟩

/-! ### spec/20_perimeter_safety.md -/

/-- `PER_VIEW, offset 0x000` (spec/20_perimeter_safety.md). -/
def Reg.PER_VIEW : Reg := ⟨0x150000, 1, 0x0, 1, 0x0, 0, 0x0, 0x0, 0x0, 0x0, 0x0⟩
def Fld.PER_VIEW_VIEW : Fld := ⟨Reg.PER_VIEW, 0, 32⟩

/-- `PER_STATE, offset 0x004` (spec/20_perimeter_safety.md). -/
def Reg.PER_STATE : Reg := ⟨0x150004, 1, 0x0, 1, 0x0, 0, 0x0, 0x0, 0x0, 0x0, 0x0⟩
def Fld.PER_STATE_STATE : Fld := ⟨Reg.PER_STATE, 28, 4⟩
def Fld.PER_STATE_PFW : Fld := ⟨Reg.PER_STATE, 16, 8⟩
def Fld.PER_STATE_RUNS : Fld := ⟨Reg.PER_STATE, 0, 16⟩

/-- `PER_PATTERN, offset 0x008` (spec/20_perimeter_safety.md). -/
def Reg.PER_PATTERN : Reg := ⟨0x150008, 1, 0x0, 1, 0x0, 0, 0x0, 0x0, 0x0, 0x0, 0x0⟩
def Fld.PER_PATTERN_STORED : Fld := ⟨Reg.PER_PATTERN, 16, 16⟩
def Fld.PER_PATTERN_READ : Fld := ⟨Reg.PER_PATTERN, 0, 16⟩

/-- `PER_SLOTk, offset 0x010 + k × 4, k = 0–3` (spec/20_perimeter_safety.md). -/
def Reg.PER_SLOT : Reg := ⟨0x150010, 4, 0x4, 1, 0x0, 0, 0x0, 0x0, 0x0, 0x0, 0x0⟩
def Fld.PER_SLOT_FUNC : Fld := ⟨Reg.PER_SLOT, 28, 4⟩
def Fld.PER_SLOT_STATE : Fld := ⟨Reg.PER_SLOT, 24, 4⟩
def Fld.PER_SLOT_PAIR : Fld := ⟨Reg.PER_SLOT, 16, 4⟩
def Fld.PER_SLOT_WIDTH : Fld := ⟨Reg.PER_SLOT, 8, 8⟩
def Fld.PER_SLOT_CAUSE : Fld := ⟨Reg.PER_SLOT, 0, 8⟩

/-- `PER_FAULT, offset 0x020` (spec/20_perimeter_safety.md). -/
def Reg.PER_FAULT : Reg := ⟨0x150020, 1, 0x0, 1, 0x0, 0, 0x0, 0x0, 0x0, 0x0, 0x0⟩
def Fld.PER_FAULT_VALID : Fld := ⟨Reg.PER_FAULT, 31, 1⟩
def Fld.PER_FAULT_DIE : Fld := ⟨Reg.PER_FAULT, 30, 1⟩
def Fld.PER_FAULT_CAUSE : Fld := ⟨Reg.PER_FAULT, 8, 8⟩
def Fld.PER_FAULT_SOURCE : Fld := ⟨Reg.PER_FAULT, 4, 4⟩
def Fld.PER_FAULT_CHANNEL : Fld := ⟨Reg.PER_FAULT, 0, 2⟩

/-- `PER_STOP, offset 0x030` (spec/20_perimeter_safety.md). -/
def Reg.PER_STOP : Reg := ⟨0x150030, 1, 0x0, 1, 0x0, 0, 0x0, 0x1F, 0x0, 0x0, 0x0⟩
def Fld.PER_STOP_REQ : Fld := ⟨Reg.PER_STOP, 0, 5⟩

/-- `PER_CNT, offset 0x034` (spec/20_perimeter_safety.md). -/
def Reg.PER_CNT : Reg := ⟨0x150034, 1, 0x0, 1, 0x0, 0, 0x0, 0x0, 0x0, 0x0, 0xFFFFFFFF⟩
def Fld.PER_CNT_RESET_REJ : Fld := ⟨Reg.PER_CNT, 16, 16⟩
def Fld.PER_CNT_TP_ERR : Fld := ⟨Reg.PER_CNT, 0, 16⟩

/-- `PER_LINK, offset 0x038` (spec/20_perimeter_safety.md). -/
def Reg.PER_LINK : Reg := ⟨0x150038, 1, 0x0, 1, 0x0, 0, 0x0, 0x0, 0x0, 0x0, 0xFFFF⟩
def Fld.PER_LINK_UP : Fld := ⟨Reg.PER_LINK, 31, 1⟩
def Fld.PER_LINK_CRCERR : Fld := ⟨Reg.PER_LINK, 0, 16⟩

/-! ### spec/21_faults_ecc.md -/

/-- `FLT_STATUS, offset 0x000` (spec/21_faults_ecc.md). -/
def Reg.FLT_STATUS : Reg := ⟨0x40000, 1, 0x0, 1, 0x0, 0, 0x0, 0x0, 0x0, 0x80000000, 0x0⟩
def Fld.FLT_STATUS_OVF : Fld := ⟨Reg.FLT_STATUS, 31, 1⟩
def Fld.FLT_STATUS_SEV3 : Fld := ⟨Reg.FLT_STATUS, 30, 1⟩
def Fld.FLT_STATUS_LEVEL : Fld := ⟨Reg.FLT_STATUS, 26, 2⟩
def Fld.FLT_STATUS_WAITMAX : Fld := ⟨Reg.FLT_STATUS, 24, 2⟩
def Fld.FLT_STATUS_DEPTH : Fld := ⟨Reg.FLT_STATUS, 0, 7⟩

/-- `FLT_OVFCNT, offset 0x004` (spec/21_faults_ecc.md). -/
def Reg.FLT_OVFCNT : Reg := ⟨0x40004, 1, 0x0, 1, 0x0, 0, 0x0, 0x0, 0x0, 0x0, 0xFFFFFFFF⟩
def Fld.FLT_OVFCNT_COUNT : Fld := ⟨Reg.FLT_OVFCNT, 0, 32⟩

/-- `FLT_CTRL, offset 0x008` (spec/21_faults_ecc.md). -/
def Reg.FLT_CTRL : Reg := ⟨0x40008, 1, 0x0, 1, 0x0, 0, 0x78000000, 0xFC3F3F3F, 0x0, 0x0, 0x0⟩
def Fld.FLT_CTRL_FP_STOP : Fld := ⟨Reg.FLT_CTRL, 27, 5⟩
def Fld.FLT_CTRL_IRQ_EN : Fld := ⟨Reg.FLT_CTRL, 26, 1⟩
def Fld.FLT_CTRL_VEC3 : Fld := ⟨Reg.FLT_CTRL, 16, 6⟩
def Fld.FLT_CTRL_VEC2 : Fld := ⟨Reg.FLT_CTRL, 8, 6⟩
def Fld.FLT_CTRL_VEC1 : Fld := ⟨Reg.FLT_CTRL, 0, 6⟩

/-- `FLT_HINFO, offset 0x010 + (n − 1) × 0x20` (spec/21_faults_ecc.md). -/
def Reg.FLT_HINFO : Reg := ⟨0x40010, 3, 0x20, 1, 0x0, 0, 0x0, 0x0, 0x0, 0x0, 0x0⟩
def Fld.FLT_HINFO_VALID : Fld := ⟨Reg.FLT_HINFO, 31, 1⟩
def Fld.FLT_HINFO_INSTANCE : Fld := ⟨Reg.FLT_HINFO, 16, 10⟩
def Fld.FLT_HINFO_CODE : Fld := ⟨Reg.FLT_HINFO, 0, 16⟩

/-- `FLT_HSEQ` (spec/21_faults_ecc.md). -/
def Reg.FLT_HSEQ : Reg := ⟨0x40014, 3, 0x20, 1, 0x0, 0, 0x0, 0x0, 0x0, 0x0, 0x0⟩
def Fld.FLT_HSEQ_VALUE : Fld := ⟨Reg.FLT_HSEQ, 0, 32⟩

/-- `FLT_HNS` (spec/21_faults_ecc.md). -/
def Reg.FLT_HNS : Reg := ⟨0x40018, 3, 0x20, 1, 0x0, 0, 0x0, 0x0, 0x0, 0x0, 0x0⟩
def Fld.FLT_HNS_VALUE : Fld := ⟨Reg.FLT_HNS, 0, 32⟩

/-- `FLT_HSEC` (spec/21_faults_ecc.md). -/
def Reg.FLT_HSEC : Reg := ⟨0x4001C, 3, 0x20, 1, 0x0, 0, 0x0, 0x0, 0x0, 0x0, 0x0⟩
def Fld.FLT_HSEC_VALUE : Fld := ⟨Reg.FLT_HSEC, 0, 32⟩

/-- `FLT_HP0` (spec/21_faults_ecc.md). -/
def Reg.FLT_HP0 : Reg := ⟨0x40020, 3, 0x20, 1, 0x0, 0, 0x0, 0x0, 0x0, 0x0, 0x0⟩
def Fld.FLT_HP0_VALUE : Fld := ⟨Reg.FLT_HP0, 0, 32⟩

/-- `FLT_HP1` (spec/21_faults_ecc.md). -/
def Reg.FLT_HP1 : Reg := ⟨0x40024, 3, 0x20, 1, 0x0, 0, 0x0, 0x0, 0x0, 0x0, 0x0⟩
def Fld.FLT_HP1_VALUE : Fld := ⟨Reg.FLT_HP1, 0, 32⟩

/-- `FLT_HACK, offset 0x028 + (n − 1) × 0x20` (spec/21_faults_ecc.md). -/
def Reg.FLT_HACK : Reg := ⟨0x40028, 3, 0x20, 1, 0x0, 0, 0x0, 0x0, 0x1, 0x0, 0x0⟩
def Fld.FLT_HACK_ACK : Fld := ⟨Reg.FLT_HACK, 0, 1⟩

/-- `FLT_WD, offset 0x070` (spec/21_faults_ecc.md). -/
def Reg.FLT_WD : Reg := ⟨0x40070, 1, 0x0, 1, 0x0, 0, 0x10000064, 0xF000FFFF, 0x0, 0x0, 0x0⟩
def Fld.FLT_WD_CORES : Fld := ⟨Reg.FLT_WD, 28, 4⟩
def Fld.FLT_WD_MS : Fld := ⟨Reg.FLT_WD, 0, 16⟩

/-- `FLT_WDKICK, offset 0x074` (spec/21_faults_ecc.md). -/
def Reg.FLT_WDKICK : Reg := ⟨0x40074, 1, 0x0, 1, 0x0, 0, 0x0, 0x0, 0xFFFF000F, 0x0, 0x0⟩
def Fld.FLT_WDKICK_KEY : Fld := ⟨Reg.FLT_WDKICK, 16, 16⟩
def Fld.FLT_WDKICK_CORE : Fld := ⟨Reg.FLT_WDKICK, 0, 4⟩

/-- `FLT_WDSTAT, offset 0x078` (spec/21_faults_ecc.md). -/
def Reg.FLT_WDSTAT : Reg := ⟨0x40078, 1, 0x0, 1, 0x0, 0, 0x0, 0x0, 0x0, 0x0, 0x0⟩
def Fld.FLT_WDSTAT_SOURCE : Fld := ⟨Reg.FLT_WDSTAT, 28, 4⟩
def Fld.FLT_WDSTAT_LATE : Fld := ⟨Reg.FLT_WDSTAT, 24, 4⟩
def Fld.FLT_WDSTAT_COUNT : Fld := ⟨Reg.FLT_WDSTAT, 0, 16⟩

/-- `FLT_ECC_CE, offset 0x080` (spec/21_faults_ecc.md). -/
def Reg.FLT_ECC_CE : Reg := ⟨0x40080, 1, 0x0, 1, 0x0, 0, 0x0, 0x0, 0x0, 0x0, 0xFFFFFFFF⟩
def Fld.FLT_ECC_CE_COUNT : Fld := ⟨Reg.FLT_ECC_CE, 0, 32⟩

/-- `FLT_ECC_UE, offset 0x084` (spec/21_faults_ecc.md). -/
def Reg.FLT_ECC_UE : Reg := ⟨0x40084, 1, 0x0, 1, 0x0, 0, 0x0, 0x0, 0x0, 0x0, 0xFFFFFFFF⟩
def Fld.FLT_ECC_UE_REBUILT : Fld := ⟨Reg.FLT_ECC_UE, 16, 16⟩
def Fld.FLT_ECC_UE_NOT_REBUILT : Fld := ⟨Reg.FLT_ECC_UE, 0, 16⟩

/-- `FLT_ECC_LAST, offset 0x088` (spec/21_faults_ecc.md). -/
def Reg.FLT_ECC_LAST : Reg := ⟨0x40088, 1, 0x0, 1, 0x0, 0, 0x0, 0x0, 0x0, 0x0, 0xC0F00000⟩
def Fld.FLT_ECC_LAST_VALID : Fld := ⟨Reg.FLT_ECC_LAST, 31, 1⟩
def Fld.FLT_ECC_LAST_UE : Fld := ⟨Reg.FLT_ECC_LAST, 30, 1⟩
def Fld.FLT_ECC_LAST_REGION : Fld := ⟨Reg.FLT_ECC_LAST, 20, 4⟩

/-- `FLT_ECC_ADDR, offset 0x08C` (spec/21_faults_ecc.md). -/
def Reg.FLT_ECC_ADDR : Reg := ⟨0x4008C, 1, 0x0, 1, 0x0, 0, 0x0, 0x0, 0x0, 0x0, 0xFFFFFFFF⟩
def Fld.FLT_ECC_ADDR_ADDR : Fld := ⟨Reg.FLT_ECC_ADDR, 0, 32⟩

/-- `FLT_SCRUB, offset 0x090` (spec/21_faults_ecc.md). -/
def Reg.FLT_SCRUB : Reg := ⟨0x40090, 1, 0x0, 1, 0x0, 0, 0x100018, 0xFF00FF, 0x0, 0x0, 0x0⟩
def Fld.FLT_SCRUB_CE_THR : Fld := ⟨Reg.FLT_SCRUB, 16, 8⟩
def Fld.FLT_SCRUB_HOURS : Fld := ⟨Reg.FLT_SCRUB, 0, 8⟩

/-- `FLT_SCRUBST, offset 0x094` (spec/21_faults_ecc.md). -/
def Reg.FLT_SCRUBST : Reg := ⟨0x40094, 1, 0x0, 1, 0x0, 0, 0x0, 0x0, 0x0, 0x0, 0x0⟩
def Fld.FLT_SCRUBST_PASSES : Fld := ⟨Reg.FLT_SCRUBST, 16, 16⟩
def Fld.FLT_SCRUBST_PERCENT : Fld := ⟨Reg.FLT_SCRUBST, 0, 7⟩

/-- `FLT_MRAM, offset 0x0A0` (spec/21_faults_ecc.md). -/
def Reg.FLT_MRAM : Reg := ⟨0x400A0, 1, 0x0, 1, 0x0, 0, 0x0, 0x0, 0x0, 0x0, 0xFFFFFFFF⟩
def Fld.FLT_MRAM_CE : Fld := ⟨Reg.FLT_MRAM, 16, 16⟩
def Fld.FLT_MRAM_UE : Fld := ⟨Reg.FLT_MRAM, 0, 16⟩

/-- `FLT_FLASH, offset 0x0A4` (spec/21_faults_ecc.md). -/
def Reg.FLT_FLASH : Reg := ⟨0x400A4, 1, 0x0, 1, 0x0, 0, 0x0, 0x0, 0x0, 0x0, 0x0⟩
def Fld.FLT_FLASH_CHECKING : Fld := ⟨Reg.FLT_FLASH, 31, 1⟩
def Fld.FLT_FLASH_IDENT_BAD : Fld := ⟨Reg.FLT_FLASH, 2, 1⟩
def Fld.FLT_FLASH_B_BAD : Fld := ⟨Reg.FLT_FLASH, 1, 1⟩
def Fld.FLT_FLASH_A_BAD : Fld := ⟨Reg.FLT_FLASH, 0, 1⟩

/-- The registers of block CLK. -/
def regsCLK : List Reg :=
  [Reg.CLK_STATUS, Reg.CLK_LOSS]

/-- The registers of block PWR. -/
def regsPWR : List Reg :=
  [Reg.PWR_CTRL, Reg.PWR_UNLOCK, Reg.PWR_STATUS, Reg.PWR_DENY, Reg.PWR_OFFACC]

/-- The registers of block SYS. -/
def regsSYS : List Reg :=
  [Reg.SYS_HWSTAT, Reg.SYS_TEMP, Reg.SYS_LSUP, Reg.SYS_STRAP, Reg.SYS_BOOT, Reg.SYS_RESET, Reg.SYS_RESTART, Reg.SYS_CHKCFG, Reg.SYS_CHKSTAT, Reg.SYS_CHKAGE]

/-- The registers of block HIF. -/
def regsHIF : List Reg :=
  [Reg.HIF_LINK, Reg.HIF_BADACC, Reg.HIF_BADCNT, Reg.HIF_TMO, Reg.HIF_INTAKE, Reg.HIF_QERR, Reg.HIF_SQ_BASE_LO, Reg.HIF_CQ_BASE_LO, Reg.HIF_SQ_BASE_HI, Reg.HIF_CQ_BASE_HI, Reg.HIF_SQ_CTRL, Reg.HIF_SQ_PI] ++
  [Reg.HIF_SQ_CI, Reg.HIF_SQ_STAT, Reg.HIF_CQ_CTRL, Reg.HIF_CQ_PI, Reg.HIF_CQ_CI, Reg.HIF_CQ_COAL, Reg.HIF_CQ_STAT]

/-- The registers of block CFG. -/
def regsCFG : List Reg :=
  [Reg.CFG_STATUS, Reg.CFG_IMAGE, Reg.CFG_IMAGE_HI, Reg.CFG_JOURNAL, Reg.CFG_SEL, Reg.CFG_FIELD, Reg.CFG_DATA, Reg.CFG_DCLAMP]

/-- The registers of block FCT. -/
def regsFCT : List Reg :=
  [Reg.FCT_LINK, Reg.FCT_LINKERR, Reg.FCT_LINKDOWN, Reg.FCT_STATUS, Reg.FCT_SUPPLY, Reg.FCT_TEMP, Reg.FCT_OUTSTAT, Reg.FCT_ACTIVE, Reg.FCT_FBSTAT, Reg.FCT_DICUR, Reg.FCT_CHSTAT, Reg.FCT_DITHR] ++
  [Reg.FCT_DEBOUNCE, Reg.FCT_PICOUNT, Reg.FCT_PIFREQ, Reg.FCT_CALSTAT, Reg.FCT_DIAGSTAT, Reg.FCT_HARTSTAT, Reg.FCT_SLICE, Reg.FCT_SCAN, Reg.FCT_SPOT_SEL, Reg.FCT_SPOT, Reg.FCT_VALUE, Reg.FCT_AOSTAT] ++
  [Reg.FCT_CALINFO]

/-- The registers of block TAN. -/
def regsTAN : List Reg :=
  [Reg.TAN_STATUS, Reg.TAN_LOAD, Reg.TAN_MISSALL, Reg.TAN_TSTEP, Reg.TAN_GSEL, Reg.TAN_GAIN, Reg.TAN_LSTAT, Reg.TAN_SP, Reg.TAN_PV, Reg.TAN_OUT, Reg.TAN_MANOUT, Reg.TAN_KFF] ++
  [Reg.TAN_DFILT, Reg.TAN_MISS, Reg.TAN_HOLDS, Reg.TAN_LATMAX, Reg.TAN_INJSTAT]

/-- The registers of block LOC. -/
def regsLOC : List Reg :=
  [Reg.LOC_STATUS, Reg.LOC_TICK, Reg.LOC_TSTEP, Reg.LOC_ACTERR, Reg.LOC_RAMPS, Reg.LOC_TSTAT, Reg.LOC_ELAPSED, Reg.LOC_TRANS, Reg.LOC_SCHED_CTRL, Reg.LOC_SCHED_STEP, Reg.LOC_SCHED_TNS, Reg.LOC_SCHED_TSEC] ++
  [Reg.LOC_SCHED_MASK, Reg.LOC_CNT, Reg.LOC_RAMP_CTRL, Reg.LOC_RAMP_POS, Reg.LOC_RAMP_TGT, Reg.LOC_RAMP_RATE]

/-- The registers of block LAT. -/
def regsLAT : List Reg :=
  [Reg.LAT_STATUS, Reg.LAT_SCANTIME, Reg.LAT_SCANCNT, Reg.LAT_TSTEP, Reg.LAT_PATCHQ, Reg.LAT_CMP_SCANS, Reg.LAT_CMP_DIFFS, Reg.LAT_CMP_FIRST, Reg.LAT_CMP_FNS, Reg.LAT_CMP_FSEC, Reg.LAT_MARK, Reg.LAT_QIMG] ++
  [Reg.LAT_KIMG, Reg.LAT_TET, Reg.LAT_CV]

/-- The registers of block VTX. -/
def regsVTX : List Reg :=
  [Reg.VTX_STATUS, Reg.VTX_LOSTALL, Reg.VTX_UNMAPPED, Reg.VTX_BADDONE, Reg.VTX_CORE_BASE_LO, Reg.VTX_CORE_BASE_HI, Reg.VTX_CORE_CTRL, Reg.VTX_CORE_PI, Reg.VTX_CORE_CI, Reg.VTX_CORE_COAL, Reg.VTX_CORE_DONE, Reg.VTX_CORE_STAT] ++
  [Reg.VTX_CORE_RPARAM, Reg.VTX_CORE_RCODE, Reg.VTX_CORE_RAISE, Reg.VTX_Q_STAT, Reg.VTX_Q_DISP, Reg.VTX_SRC_SEQ, Reg.VTX_SRC_LOST, Reg.VTX_FLOW]

/-- The registers of block ARC. -/
def regsARC : List Reg :=
  [Reg.ARC_STATUS, Reg.ARC_TRIP, Reg.ARC_CTRL, Reg.ARC_GSTAT, Reg.ARC_PER, Reg.ARC_CMPA, Reg.ARC_CMPB, Reg.ARC_BOOT, Reg.ARC_IRQDIV, Reg.ARC_PCOUNT, Reg.ARC_CNT, Reg.ARC_CARRY] ++
  [Reg.ARC_DUTY]

/-- The registers of block PRM. -/
def regsPRM : List Reg :=
  [Reg.PRM_STATUS, Reg.PRM_HISTDEPTH, Reg.PRM_BACKLOG, Reg.PRM_BKPEAK, Reg.PRM_DISCARD, Reg.PRM_GAPCNT, Reg.PRM_NEXTREC, Reg.PRM_SEQ, Reg.PRM_USTAT, Reg.PRM_USUPP, Reg.PRM_UFIRED, Reg.PRM_ULASTREC] ++
  [Reg.PRM_UTNS, Reg.PRM_UTSEC]

/-- The registers of block HLX. -/
def regsHLX : List Reg :=
  [Reg.HLX_STATUS, Reg.HLX_SEQ, Reg.HLX_OLDEST, Reg.HLX_OVWR, Reg.HLX_DROP, Reg.HLX_FF_TRIG, Reg.HLX_FF_TNS, Reg.HLX_FF_TSEC]

/-- The registers of block CAN. -/
def regsCAN : List Reg :=
  [Reg.CAN_STAT, Reg.CAN_ERRCNT, Reg.CAN_QSTAT, Reg.CAN_BUSOFF, Reg.CAN_TXCNT, Reg.CAN_RXCNT, Reg.CAN_RXLOST, Reg.CAN_MBX_STAT, Reg.CAN_MBX_INFO, Reg.CAN_MBX_NS, Reg.CAN_MBX_SEC, Reg.CAN_MBX_DATA]

/-- The registers of block ETH. -/
def regsETH : List Reg :=
  [Reg.ETH_CYCSTAT, Reg.ETH_PRPCNT, Reg.ETH_PSTAT, Reg.ETH_MACLO, Reg.ETH_MACHI, Reg.ETH_TXCNT, Reg.ETH_RXCNT, Reg.ETH_RXLOST, Reg.ETH_RXERR]

/-- The registers of block MER. -/
def regsMER : List Reg :=
  [Reg.MER_STATUS, Reg.MER_DIFF, Reg.MER_RATE, Reg.MER_STEPS, Reg.MER_SNAP, Reg.MER_SNAP_HI_T, Reg.MER_SNAP_SEC_T, Reg.MER_SNAP_NS_T, Reg.MER_SNAP_HI_VA, Reg.MER_SNAP_SEC_VA, Reg.MER_SNAP_NS_VA, Reg.MER_SNAP_HI_VB] ++
  [Reg.MER_SNAP_SEC_VB, Reg.MER_SNAP_NS_VB, Reg.MER_SV_STAT, Reg.MER_SV_RATE, Reg.MER_SV_LAST, Reg.MER_SV_AGE, Reg.MER_OFS_LO, Reg.MER_OFS_HI, Reg.MER_OFS_TNS, Reg.MER_OFS_TSEC, Reg.MER_OFS_GO, Reg.MER_OFS_REJ] ++
  [Reg.MER_TXTS_STAT, Reg.MER_TXTS_ID, Reg.MER_TXTS_NS, Reg.MER_TXTS_SEC, Reg.MER_TXTS_POP]

/-- The registers of block VXL. -/
def regsVXL : List Reg :=
  [Reg.VXL_STATUS, Reg.VXL_PORT, Reg.VXL_PDELAY, Reg.VXL_CYCLE, Reg.VXL_CYCPER, Reg.VXL_MEMBERS, Reg.VXL_RINGLOAD, Reg.VXL_RINGBUDGET, Reg.VXL_TDIFF, Reg.VXL_STALE, Reg.VXL_OPEN, Reg.VXL_CTVAL] ++
  [Reg.VXL_CTSTAT]

/-- The registers of block MIR. -/
def regsMIR : List Reg :=
  [Reg.MIR_STATUS, Reg.MIR_EPOCH, Reg.MIR_ACK, Reg.MIR_LAG, Reg.MIR_TOKEN, Reg.MIR_PATHCNT, Reg.MIR_TAKE, Reg.MIR_LOCAL_LO, Reg.MIR_LOCAL_HI, Reg.MIR_SYNCTIME]

/-- The registers of block PER. -/
def regsPER : List Reg :=
  [Reg.PER_VIEW, Reg.PER_STATE, Reg.PER_PATTERN, Reg.PER_SLOT, Reg.PER_FAULT, Reg.PER_STOP, Reg.PER_CNT, Reg.PER_LINK]

/-- The registers of block FLT. -/
def regsFLT : List Reg :=
  [Reg.FLT_STATUS, Reg.FLT_OVFCNT, Reg.FLT_CTRL, Reg.FLT_HINFO, Reg.FLT_HSEQ, Reg.FLT_HNS, Reg.FLT_HSEC, Reg.FLT_HP0, Reg.FLT_HP1, Reg.FLT_HACK, Reg.FLT_WD, Reg.FLT_WDKICK] ++
  [Reg.FLT_WDSTAT, Reg.FLT_ECC_CE, Reg.FLT_ECC_UE, Reg.FLT_ECC_LAST, Reg.FLT_ECC_ADDR, Reg.FLT_SCRUB, Reg.FLT_SCRUBST, Reg.FLT_MRAM, Reg.FLT_FLASH]

/-- The registers of the block whose window holds the BAR0 offset `a` (R17). -/
def regsAt (a : Nat) : List Reg :=
  if a < 0x10000 then regsSYS
  else if a < 0x20000 then regsCLK ++ regsPWR
  else if a < 0x30000 then regsHIF
  else if a < 0x40000 then regsCFG
  else if a < 0x50000 then regsFLT
  else if a < 0x60000 then regsMER
  else if a < 0x80000 then regsVTX
  else if a < 0xA0000 then regsTAN
  else if a < 0xC0000 then regsLOC
  else if a < 0xE0000 then regsLAT
  else if a < 0xF0000 then regsARC
  else if a < 0x100000 then regsPRM
  else if a < 0x110000 then regsHLX
  else if a < 0x120000 then regsETH
  else if a < 0x130000 then regsCAN
  else if a < 0x140000 then regsVXL
  else if a < 0x150000 then regsMIR
  else if a < 0x200000 then regsPER
  else if a < 0x300000 then regsFCT
  else []

/-- The register that owns the BAR0 offset `a`, if the spec lists one there. -/
def regAt (a : Nat) : Option Reg := (regsAt a).find? (fun r => r.covers a)

/-- The reset value of the register at BAR0 offset `a`; a reserved offset reads zero (R13). -/
def regReset (a : Nat) : Word :=
  match regAt a with
  | some r => r.reset
  | none => 0

end Sys2Proof.Machine
end

