-- ==== Sys2Proof/Machine/State.lean ====
section
/-! DEFINITION. The state of the module as plain data, its faults and refusals, and the state after reset. -/

namespace Sys2Proof.Machine

/-! ### The whole -/

/-- Why the machine stops with a fault. No command of the spec does: every one has an effect. -/
inductive Fault where
  /-- Raised by no command. It is here so that the type names the case a fault of the model would fall under (safe). -/
  | noSuchCase
  deriving DecidableEq, Repr

/-- Why a command has no meaning. -/
inductive Refusal where
  /-- Raised by `exec` for a command that has no meaning yet, with its mnemonic (safe). -/
  | notModelled (mnemonic : String)
  deriving DecidableEq, Repr

/-- The state of the module. -/
structure State where
  pending : List Instr
  regs : Tab Word           -- registers of BAR0 by offset, but for those a block's own structure holds
  mer : MerSt
  tr : Trace
  hif : HifSt
  cfg : CfgSt
  dram : Mem
  mram : Mem
  flash : Mem
  host : Mem
  sys : SysSt
  vxl : VxlSt
  mir : MirSt
  fct : FctSt
  tan : TanSt
  lat : LatSt
  arc : ArcSt
  prm : PrmSt
  loc : LocSt
  can : Tab CanCtl
  eth : EthSt
  per : PerSt
  out : List Out            -- newest first
  free : Nat                -- the model's own count of values the spec leaves open
  deriving DecidableEq, Repr

/-! ### The state after reset (R14, R46, R80, R168) -/

/-- A servo in FREE_RUN (R491). -/
def servoReset : Servo :=
  { state := 0, integ := 0, rate := 0, rem := 0, last := 0, lastBase := none, hasIn := false, inCount := 0,
    capped := false }

/-- Meridian with T at zero, FREE and not set (R491, R498). -/
def merReset : MerSt :=
  { base := 0, offT := 0, offA := 0, offB := 0, xPrev := 0, rateT := 0, sv0 := servoReset, sv1 := servoReset,
    sv2 := servoReset, set := false, switching := false, stampBad := false, active := 0, tstate := 0, hist1 := [],
    hist2 := [], txts0 := [], txts1 := [], txtsOvf := [], txtsEpisode := [] }

/-- Helix with nothing recorded, ARMED with FF_PRE at its default (R437, R441). -/
def hlxReset : HlxSt :=
  { running := true, lostOff := 0, seq := 0, drop := none, dropIntake := 0, dropStream := 0, ovwr := 0, log := [],
    frozen := none, frozenAt := 0, ff := .armed, ffPre := [], ffRegion := [], ffTrigSeq := 0, ffTrigCode := 0, ffTrigNs := 0,
    ffTrigSec := 0, ffPreLen := 256, stream := [], streamLoss := none }

/-- Vertex with no item (R370). -/
def vtxReset : VtxSt :=
  { running := true, items := [], srcSeq := [], srcSeen := [], srcLost := [], srcEpisode := [], slotGen := [],
    cnt := [], qDisp := [], lostAll := 0, unmapSrc := 0, unmapCnt := 0, badCnt := 0, badHandle := 0, unsig := [] }

/-- The host interface with nothing fetched, MSI-X off. -/
def hifReset : HifSt :=
  { msixOn := false, d3hot := false, inflight := [], intake := [], fetchIdx := [], held := [], stalled := [], lastDone := [],
    unsig := [], msixTab := [], turn := [] }

/-- CFG as delivered: every field at its default, image ID 0, nothing staged (R168). -/
def cfgReset : CfgSt :=
  { active := [], image := [], staged := [], jobs := [], waits := [], grant := none, slots := [], journal := [],
    imageId := 0, imageHiLatch := 0, journalUsed := 0, slot := 0, writingImage := false, imageBad := false,
    regErr := false, regErrAt := none, exports := [] }

/-- SYS, CLK and PWR of a module that runs, in an LX-TB1. -/
def sysReset : SysSt :=
  { mode := .running, warmBegun := [], selfRefresh := false, unlocked := false, rising := [], falling := [],
    domCode := [], domSeq := [], baseCode := 2, prevStrap := 7, gone := none, trialNext := none,
    trialBack := none,
    restartCause := 0, startBase := 0, chkPeriodDue := false, chkWriting := false, ckpt0 := none, ckpt1 := none,
    ckptNew := none, redo := [], redoNew := 0, selector := 0,
    chkCfg := 0x80C8000A, poison := [], fpErr := none, lossAt := [], hot := false, hotEv := false, oscLost := false,
    wasStopped := false, peakSeen := false, sfp := [], rmtIntake := [], imgLen := 0 }

/-- The fault queue empty. -/
def fltReset : FltSt :=
  { waiting := [], pres1 := none, pres2 := none, pres3 := none, ovf := false, ovfAt := none, ovfCnt := 0, ceTimes := [],
    kickAt := [] }

/-- Vexlink with no member. -/
def vxlReset : VxlSt :=
  { coords := [], granted := [], subInt := [], members := [], win := [], inj := [], badRun := [], fseq := 0,
    cycle := 0, judged := none, got := [], joinedAt := none,
    silent := 0, stalePub := [], mark := none, refused := [], grants := [], turned := [], twins := [], fwd := [], upl := [], joinPend := [], leavePend := [],
    presence := [], newCycle := none, ringKnown := false }

/-- A Facet with power, no configuration, and its Perimeter line active. -/
def facetReset : FacetSt :=
  let slot : FbSlot := ⟨false, 0, 0, false, false, false⟩
  { fseq := 0, upSeq := none, invalid := 0, delivered := false, updates := [], abort := false, cfgIdx := 0, need := [],
    sent := [], cmds := [], diag := none, hart := none, spot := 0, tempSeen := false, cfgOk := false, variant := false,
    perimOff := true, lastFrame := 0, released := false, rampNs := 0, safeAt := 0, supWarn := false, supLow := false, shedSeq := none,
    shedNext := 0, autoRest := none, total := none, restarted := false, unfed := false, calBusy := false, ffseq := 0,
    dack := 0, perimRel := false, shadow := [], slices := [], dac := (0, 0), queue := [], fdiag := none, lastCmd := (0, 0),
    ack := 0, modem := none, slot0 := slot, slot1 := slot, slot2 := slot, slot3 := slot, fbsp := [] }

/-- The Perimeter die without its supply: every off line and the TRIP line active. -/
def perReset : PerSt :=
  { state := 0, read := 0, stored := 0, pfw := 0, runs := 0, closed := 0, slots := [], req := 0, act := 0,
    lost := none, stuck := false, changed := false, flt := none, cycleAt := 0, reqAt := none,
    oddAt := [], frameAt := 0, viewAt := 0, tested := [] }

/-- Lattice in RESET, without a program. -/
def latReset : LatSt :=
  { mem := ⟨[], [], [], [], [], [], []⟩, shadow := none, ran := ⟨[], []⟩, partner := ⟨[], []⟩, first := true,
    carry := false, lastN := 0, patches := [], stopReq := none, startReq := none, shadowReq := none, cmpM := [],
    cmpQ := [], cmpEp := false, snapN := 0, shImg := none }

/-- Prism with nothing recorded. -/
def prmReset : PrmSt :=
  { hist := [], realloc := false, chg := [], opn := none, red := [], bkHead := 0, bkTail := 0, bkRecs := [],
    bkBad := [], gap := none, units := [], fires := [], recs := [], caps := [], kept := [], rbNext := 0, runs := [], lostRecs := 0,
    offAt := 0, gapOn := false }

/-- Mirror without a partner. -/
def mirReset : MirSt :=
  { partnerState := 0, vxlRun := 0, plRun := 0, lastVxl := 0, lastPl := 0, image := none, complete := false, resend := 0, resync := false,
    token := none, switchAt := 0, hold := false, final := false, leave := false, goAt := none, waiting := false,
    lostAt := 0, transfer := none, sent := 0, rampDown := none, rampUp := none, frameStart := 0, ownFrame := 0,
    ackIdx := [], idxSent := [], captureAt := 0, lagFrom := 0, arbAt := 0 }

/-- Registers that stand for the pins and the environment, or show a unit that is not powered: every clock present
(R611), base LX-TB1 with both presence contacts and the LS supply (R46), straps STANDALONE and the image selector (R79,
R80), and the Perimeter TRIP line active and latched (R390). Every other register stands at its reset value
(notes/assumptions/2.md). -/
def regsReset : Tab Word :=
  [(0x10, 7), (0x40, 0x219), (0x10000, 0xFFF), (0xE0004, 0x02000200)]

/-- The module right after reset: running, nothing committed, no host, no field supply event, no partner. -/
def State.reset : State :=
  { pending := [], regs := regsReset, mer := merReset,
    tr := { hlx := hlxReset, flt := fltReset, vtx := vtxReset, msix := [], pba := [],
            lastLog := [], sinceLog := [] },
    hif := hifReset, cfg := cfgReset, dram := [], mram := [], flash := [], host := [], sys := sysReset, vxl := vxlReset,
    mir := mirReset,
    fct := { facets := (List.range 16).map (fun n => (n, facetReset)), chans := [], own := [], cals := [],
             linkCfg := true, toPrm := [], lostEng := [], engBad := [] },
    tan := ⟨[], []⟩, lat := latReset, arc := ⟨[], []⟩, prm := prmReset,
    loc := { tracks := [], cq := [], born := [], slotT := [], slotPart := [], slotDead := [], pend := [], tokens := [], tokNo := 0,
             lastN := 0 },
    can := [], eth := ⟨[], [], [], 0, [], false, 0⟩, per := perReset, out := [], free := 0 }

end Sys2Proof.Machine
end

