-- ==== Sys2Proof/Machine/Ops.lean ====
section
/-! DEFINITION. The named operations over the sparse stores, the registers, the configuration, the memories and the
clock. -/

namespace Sys2Proof.Machine

/-! ### Sparse stores -/

/-- The value at a key; `d` gives an unlisted key's value. -/
def tabGet {α : Type} (d : Nat → α) : Tab α → Nat → α
  | [], k => d k
  | (k', v) :: t, k => if k = k' then v else tabGet d t k

/-- The store without the key. -/
def tabDel {α : Type} : Tab α → Nat → Tab α
  | [], _ => []
  | (k', v) :: t, k => if k = k' then tabDel t k else (k', v) :: tabDel t k

/-- The store with a key that it does not list put in its place. -/
def tabIns {α : Type} : Tab α → Nat → α → Tab α
  | [], k, v => [(k, v)]
  | (k', v') :: t, k, v =>
    if k < k' then (k, v) :: (k', v') :: t else (k', v') :: tabIns t k v

/-- The store with the key at a value; the default value is never listed. -/
def tabSet {α : Type} [DecidableEq α] (d : Nat → α) (t : Tab α) (k : Nat) (v : α) : Tab α :=
  if v = d k then tabDel t k else tabIns (tabDel t k) k v

/-- A store whose unlisted keys all read `x`. -/
def tget {α : Type} (x : α) (t : Tab α) (k : Nat) : α := tabGet (fun _ => x) t k

/-- The store with the key at a value, for a store whose unlisted keys all read `x`. -/
def tset {α : Type} [DecidableEq α] (x : α) (t : Tab α) (k : Nat) (v : α) : Tab α := tabSet (fun _ => x) t k v

/-- Every key of the store is above `k` and no value is its key's default. -/
def tabWfFrom {α : Type} [DecidableEq α] (d : Nat → α) : Nat → Tab α → Bool
  | _, [] => true
  | k, (k', v) :: t => k < k' && v ≠ d k' && tabWfFrom d k' t

/-- The canonical form: keys strictly rising, no entry equal to its key's default. -/
def tabWf {α : Type} [DecidableEq α] (d : Nat → α) : Tab α → Bool
  | [] => true
  | (k, v) :: t => v ≠ d k && tabWfFrom d k t

/-- A count that stops at its limit. -/
def satAdd (limit n k : Nat) : Nat := if limit < n + k then limit else n + k

/-! ### Registers -/

/-- The stored value at a BAR0 offset. -/
def State.rdA (s : State) (a : Nat) : Word := tabGet regReset s.regs a

/-- The state with a stored register value replaced. -/
def State.wrA (s : State) (a : Nat) (w : Word) : State := { s with regs := tabSet regReset s.regs a w }

/-- The stored value of copy `i`, `j` of a register. -/
def State.rd (s : State) (r : Reg) (i j : Nat) : Word := s.rdA (r.addr i j)

/-- The state with copy `i`, `j` of a register replaced. -/
def State.wr (s : State) (r : Reg) (i j : Nat) (w : Word) : State := s.wrA (r.addr i j) w

/-- A field of copy `i`, `j` of its register. -/
def State.fld (s : State) (f : Fld) (i j : Nat) : Nat := bitsOf (s.rd f.reg i j) f.lo f.wd

/-- The state with a field of copy `i`, `j` of its register replaced. -/
def State.setF (s : State) (f : Fld) (i j v : Nat) : State :=
  s.wr f.reg i j (putBits (s.rd f.reg i j) f.lo f.wd v)

/-- Whether a one-bit field reads 1. -/
def State.bit (s : State) (f : Fld) (i j : Nat) : Bool := s.fld f i j = 1

/-- The state with a counting field advanced, up to the largest value it holds. -/
def State.incF (s : State) (f : Fld) (i j k : Nat) : State := s.setF f i j (satAdd (2 ^ f.wd - 1) (s.fld f i j) k)

/-- The state with a counting field advanced modulo its width. -/
def State.wrapF (s : State) (f : Fld) (i j k : Nat) : State := s.setF f i j (s.fld f i j + k)

/-! ### Configuration -/

/-- The active value of a field of an instance, element `e` (R141). -/
def State.cf (s : State) (c : Cf) (i e : Nat) : Word := tabGet cfgDefault s.cfg.active (cfgKey c.block i c.fld e)

/-- The active value as a number. -/
def State.cfN (s : State) (c : Cf) (i : Nat) : Nat := (s.cf c i 0).toNat

/-- The state with one active value replaced. -/
def State.setCf (s : State) (c : Cf) (i e : Nat) (v : Word) : State :=
  { s with cfg := { s.cfg with active := tabSet cfgDefault s.cfg.active (cfgKey c.block i c.fld e) v } }

/-- The MSI-X table word at reset: PCI Express masks every vector (PRESUMED, notes/assumptions/4.md). -/
def msixReset (k : Nat) : Word := if k % 4 = 3 then 1 else 0

/-! ### Memories -/

/-- The byte at an address. -/
def memGet (m : Mem) (a : Nat) : Byte := tget 0 m a

/-- The memory with one byte written. -/
def memSet (m : Mem) (a : Nat) (b : Byte) : Mem := tset 0 m a b

/-- Bytes written from an address on. -/
def memPut : Mem → Nat → List Byte → Mem
  | m, _, [] => m
  | m, a, b :: bs => memPut (memSet m a b) (a + 1) bs

/-- `n` bytes from an address on. -/
def memTake (m : Mem) (a : Nat) : Nat → List Byte
  | 0 => []
  | n + 1 => memGet m a :: memTake m (a + 1) n

/-- The four bytes of a word, low byte first (R117). -/
def bytesOf (w : Word) : List Byte :=
  [w.extractLsb' 0 8, w.extractLsb' 8 8, w.extractLsb' 16 8, w.extractLsb' 24 8]

/-- The word at an address, low byte first. -/
def memWord (m : Mem) (a : Nat) : Word :=
  w32 ((memGet m a).toNat + 256 * (memGet m (a + 1)).toNat + 65536 * (memGet m (a + 2)).toNat +
    16777216 * (memGet m (a + 3)).toNat)

/-- Words written from an address on. -/
def memPutWords (m : Mem) (a : Nat) (ws : List Word) : Mem := memPut m a (ws.flatMap bytesOf)

/-- `n` words from an address on. -/
def memWords (m : Mem) (a : Nat) : Nat → List Word
  | 0 => []
  | n + 1 => memWord m a :: memWords m (a + 4) n

/-- The memory a ring's entries and an item's buffers lie in (R111, R124, R138): module DRAM for OWNER = CORES, host
memory otherwise. -/
def State.ringMem (s : State) (cores : Bool) : Mem := if cores then s.dram else s.host

/-- The first byte of the firmware image in DRAM, within the core region (R41, R82). -/
def imageAt : Nat := Config.imagePlace % 0x80000000

/-- The state with module DRAM rewritten, but for the write-protected region of the firmware image (R82). -/
def State.setDram (s : State) (m : Mem) : State :=
  if s.sys.imgLen = 0 then { s with dram := m }
  else
    let hi := imageAt + s.sys.imgLen
    { s with dram := m.filter (fun c => decide (c.1 < imageAt)) ++
        s.dram.filter (fun c => decide (imageAt ≤ c.1) && decide (c.1 < hi)) ++ m.filter (fun c => decide (hi ≤ c.1)) }

/-- The state with that memory replaced. -/
def State.setRingMem (s : State) (cores : Bool) (m : Mem) : State :=
  if cores then s.setDram m else { s with host := m }

/-! ### Clock and power domains, time -/

/-- The power domain of each block's registers (R17): the domain of BAR0 offset `a`. An offset that the rule does not list
belongs to no switched domain. -/
def domainOf (a : Nat) : Nat :=
  if a < 0x20000 then 0
  else if a < 0x30000 then 5
  else if a < 0x40000 then 3
  else if a < 0x60000 then 0
  else if a < 0xE0000 then 3
  else if a < 0xF0000 then 7
  else if a < 0x110000 then 4
  else if a < 0x130000 then 5
  else if a < 0x140000 then (if 0x130010 ≤ a ∧ a < 0x130030 then 6 else 3)
  else if a < 0x150000 then 3
  else if 0x200000 ≤ a ∧ a < 0x300000 then 7
  else 0

/-- The power domain of a block by its ID (R17, R609). -/
def blockDomain (b : Nat) : Nat :=
  if b = 1 ∨ b = 4 ∨ b = 5 ∨ b = 0x11 ∨ b = 0x13 ∨ b = 0x14 then 0
  else if b = 2 ∨ b = 0xD ∨ b = 0xE then 5
  else if b = 0xB ∨ b = 0xC then 4
  else if b = 0xA ∨ b = 0x12 then 7
  else 3

/-- Whether the module is neither held in reset nor switched off nor unpowered (R26, R60, R66, R68): the register network
answers. -/
def State.alive (s : State) : Bool :=
  s.sys.mode != .powerFail && s.sys.mode != .thermalOff && s.sys.mode != .noTcxo && s.sys.mode != .unpowered

/-- Whether power domain `n` counts as on for register access (R35): never switched, or on in PWR_CTRL and up, in a module
that is not held in reset. -/
def State.domOn (s : State) (n : Nat) : Bool :=
  if n < 2 then true
  else s.alive && bitOf (s.rd Reg.PWR_CTRL 0 0) n && bitOf (s.rd Reg.PWR_STATUS 0 0) n

/-- CLK_STATUS.PRESENT of a clock domain (R611). -/
def State.clkOn (s : State) (n : Nat) : Bool := bitOf (s.rd Reg.CLK_STATUS 0 0) n

/-- Meridian time T in 2^-32 ns (R485). -/
def State.timeT (s : State) : Int := (s.mer.base : Int) * 4294967296 + s.mer.offT

/-- A time in 2^-32 ns as a stamp (R481, R482). -/
def stampOf (t : Int) : Stamp :=
  let ns := t / 4294967296
  { sec := (ns / 1000000000 % 281474976710656).toNat, ns := (ns % 1000000000).toNat }

/-- The stamp of this instant. -/
def State.now (s : State) : Stamp := stampOf s.timeT

/-- A stamp as a time in 2^-32 ns. -/
def stTime (t : Stamp) : Int := ((t.sec : Int) * 1000000000 + t.ns) * 4294967296

/-- The nanoseconds word of a stamp. -/
def stNs (t : Stamp) : Word := w32 t.ns

/-- The compact seconds of a stamp: the low 32 bits (R481). -/
def stSec (t : Stamp) : Word := w32 t.sec

/-- Whether Meridian is time-locked: TSTATE 2, 3 or 4 (R491). -/
def State.locked (s : State) : Bool := 2 ≤ s.mer.tstate && s.mer.tstate ≤ 4

/-- The full time of a compact stamp: the seconds that agree modulo 2^32 and lie nearest to the present (R483). -/
def State.fullTime (s : State) (sec ns : Word) : Int :=
  let now := (s.now.sec : Int)
  let k := (now - (sec.toNat : Int) + 2147483648) / 4294967296
  (((sec.toNat : Int) + k * 4294967296) * 1000000000 + ns.toNat) * 4294967296

/-! ### Roles (R80) and what leaves the module -/

/-- The ROLE strap (R80): 3 WORKER, 2 MANAGER, 1 STANDALONE. -/
def State.role (s : State) : Nat := s.fld Fld.SYS_STRAP_ROLE 0 0

/-- Strapped MANAGER. -/
def State.isManager (s : State) : Bool := s.role = 2

/-- Strapped STANDALONE. -/
def State.isAlone (s : State) : Bool := s.role = 1

/-- Whether the module is admitted to the system. -/
def State.admitted (s : State) : Bool := !s.isAlone && s.fld Fld.VXL_STATUS_JSTATE 0 0 == 2

/-- A signal leaves the module. -/
def State.emit (s : State) (o : Out) : State := { s with out := o :: s.out }

/-! ### The pair (R539, R542) -/

/-- Mirror's state (R539): 0 SINGLE, 1 STARTING, 2 ACTIVE, 3 STANDBY, 4 SYNCED. -/
def State.mirState (s : State) : Nat := s.fld Fld.MIR_STATUS_STATE 0 0

/-- The module is a member of a pair that does not run the process: the standby, or one that has not taken its role
(R540, R541). -/
def State.standby (s : State) : Bool := s.mirState = 1 || s.mirState = 3 || s.mirState = 4

/-- The partner is SYNCED (R549). -/
def State.partnerSynced (s : State) : Bool := s.bit Fld.MIR_STATUS_PARTNER 0 0 && s.mir.partnerState == 4

/-- Whether a ring is marked local in MIR_LOCAL (R542). -/
def State.ringLocal (s : State) (n : Nat) : Bool :=
  if n < 32 then bitOf (s.rd Reg.MIR_LOCAL_LO 0 0) n else bitOf (s.rd Reg.MIR_LOCAL_HI 0 0) (n - 32)

/-! ### Free values -/

/-- A value the spec does not state, and the state whose next such value is another one. -/
def State.fresh (s : State) : Word × State := (Config.freeWord s.free, { s with free := s.free + 1 })

end Sys2Proof.Machine
end

