-- ==== Sys2Proof/Machine/Flags.lean ====
section
/-! DEFINITION. The flag computations: the severity of an event code (R594), the FLAGS byte of a Helix record (R428) and
the FLAGS of a completion record (R127). -/

namespace Sys2Proof.Machine

/-- The severity of an event code (R594). -/
def severity (code : Nat) : Nat :=
  if code ∈ [0x4041, 0x4044, 0x44C0, 0x4500, 0x4501, 0x4502, 0x4504, 0x4509, 0x450B, 0x5446, 0x4103, 0x4104, 0x4108]
  then 3
  else if code / 4096 = 3 then 1
  else if code / 4096 = 4 ∨ code / 4096 = 5 then 2
  else 0

/-- The FLAGS byte of a record (R428). -/
def recFlags (s0 : State) (inst : Nat) (synth trig : Bool) : Nat :=
  (if synth then 128 else 0) + (if s0.mer.stampBad then 64 else 0) + (if s0.locked then 0 else 32) +
    (if trig then 16 else 0) + inst / 256 % 4 * 4

/-- The FLAGS of a completion record (R127): TAKEN_OVER, and REMOTE. -/
def complFlags (it : Item) (status : Nat) : Nat :=
  (if status = 0x0002 ∨ status = 0x0201 then 1 else 0) + (if it.remote then 2 else 0)

end Sys2Proof.Machine
end

