-- ==== Sys2Proof/Machine/Trace.lean ====
section
/-! DEFINITION. Reporting an event: the Helix intake, log, first-fault region and stream (R428 to R440), the fault
queue (R594 to R599), the entry of a Vertex work item (R352 to R362), and the MSI-X messages (R106, R107). -/

namespace Sys2Proof.Machine

/-- What an event still has to do: reach the Helix intake, enter the fault queue, or raise a Vertex source. -/
inductive Work where
  | ev (e : Event) (st : Stamp) (synth : Bool)
  | flt (e : Event) (st : Stamp) (seq : Word)
  | src (n inst code : Nat) (param : Word) (st : Stamp)
  deriving DecidableEq, Repr

/-- A message of MSI-X vector `v` that falls due (R107): dropped while the link is down or MSI-X is off, held pending
while the vector is masked, sent otherwise. -/
def Trace.send (s0 : State) (v : Nat) (t : Trace) : Trace :=
  if s0.bit Fld.HIF_LINK_UP 0 0 && s0.hif.msixOn then
    if bitOf (tabGet msixReset s0.hif.msixTab (4 * v + 3)) 0 then { t with pba := tset false t.pba v true }
    else { t with msix := v :: t.msix }
  else t

/-- A run of lost events with one more. -/
def LossRun.add (r : Option LossRun) (seq : Word) : LossRun :=
  match r with
  | none => ⟨1, seq, seq⟩
  | some x => ⟨x.count + 1, x.first, seq⟩

/-- The record of an event (R428). -/
def recOf (s0 : State) (e : Event) (st : Stamp) (seq : Word) (synth trig : Bool) : HlxRec :=
  { code := e.code, flags := recFlags s0 e.inst synth trig, inst := e.inst, ns := stNs st, sec := stSec st, seq := seq,
    p0 := e.p0, p1 := e.p1, p2 := e.p2, p3 := e.p3 }

/-- The log takes a record, unless it is frozen (R434, R436). -/
def HlxSt.logRec (h : HlxSt) (r : HlxRec) : HlxSt :=
  match h.frozen with
  | some f => { h with frozen := some (if f.count = 0 then ⟨1, r.seq, r.seq⟩ else ⟨f.count + 1, f.first, r.seq⟩) }
  | none =>
    if h.log.length < 16384 then { h with log := h.log ++ [r] }
    else { h with log := h.log.drop 1 ++ [r], ovwr := satAdd 0xFFFFFFFF h.ovwr 1 }

/-- The first-fault region takes an accepted record (R437). The answer says whether it has just latched. -/
def HlxSt.ffRec (h : HlxSt) (ffClass ffPre : Nat) (r : HlxRec) : HlxSt × Bool :=
  match h.ff with
  | .latched => (h, false)
  | .filling =>
    let g := h.ffRegion ++ [r]
    if 1024 ≤ g.length then ({ h with ffRegion := g, ff := .latched }, true) else ({ h with ffRegion := g }, false)
  | .armed =>
    if (ffClass / 2 ^ (r.code / 4096)) % 2 = 1 then
      let r' := { r with flags := r.flags + (if r.flags / 16 % 2 = 1 then 0 else 16) }
      let pre := h.ffPre.drop (h.ffPre.length - ffPre)
      let g := pre ++ [r']
      let h' := { h with ffRegion := g, ffPre := [], ffPreLen := ffPre, ffTrigSeq := r.seq, ffTrigCode := r.code,
                         ffTrigNs := r.ns, ffTrigSec := r.sec }
      if 1024 ≤ g.length then ({ h' with ff := .latched }, true) else ({ h' with ff := .filling }, false)
    else
      let p := h.ffPre ++ [r]
      ({ h with ffPre := p.drop (p.length - ffPre) }, false)

/-- The stream FIFO takes a record of a streamed class (R439). -/
def HlxSt.streamRec (h : HlxSt) (cls ring : Nat) (r : HlxRec) : HlxSt :=
  if ring = 255 then h
  else if (cls / 2 ^ (r.code / 4096)) % 2 = 1 then
    if h.stream.length < 256 then { h with stream := h.stream ++ [r] }
    else { h with dropStream := satAdd 65535 h.dropStream 1, streamLoss := some (LossRun.add h.streamLoss r.seq) }
  else h

/-- Whether the record is the one that starts the first-fault region, and so carries TRIG (R437). -/
def HlxSt.isTrig (h : HlxSt) (ffClass : Nat) (code : Nat) : Bool :=
  h.ff = .armed && (ffClass / 2 ^ (code / 4096)) % 2 = 1

/-- Helix accepts an event: the log, the first-fault region, the stream and Vertex source 133 (R434 to R440). -/
def Trace.accept (s0 : State) (e : Event) (st : Stamp) (synth : Bool) (seq : Word) (t : Trace) : Trace × List Work :=
  let ffc := s0.cfN Cf.HLX_FF_CLASS 0
  let r := recOf s0 e st seq synth (t.hlx.isTrig ffc e.code)
  let h1 := t.hlx.logRec r
  let (h2, latched) := h1.ffRec ffc (s0.cfN Cf.HLX_FF_PRE 0) r
  let h3 := h2.streamRec (s0.cfN Cf.HLX_STREAM_CLASS 0) (s0.cfN Cf.HLX_NOTIFY_RING 0) r
  let w1 := if latched then
      [Work.ev ⟨0x2304, 0, h3.ffTrigSeq, w32 h3.ffTrigCode, w32 h3.ffPreLen, 0⟩ st true] else []
  let w2 := if (s0.cfN Cf.HLX_VTX_CLASS 0 / 2 ^ (e.code / 4096)) % 2 = 1 then
      [Work.src 133 e.inst e.code seq st] else []
  ({ t with hlx := h3 }, w1 ++ w2)

/-- The Helix intake is offered an event: it takes the next sequence number, and it is lost while Helix does not run
(R433), discarded while the intake FIFO is full (R432), or accepted. -/
def Trace.intake (s0 : State) (e : Event) (st : Stamp) (synth : Bool) (t : Trace) : Trace × List Work :=
  let seq := t.hlx.seq
  let t1 := { t with hlx := { t.hlx with seq := seq + 1 } }
  if t.hlx.running then
    match t.hlx.drop with
    | some _ =>
      ({ t1 with hlx := { t1.hlx with drop := some (LossRun.add t.hlx.drop seq),
                                      dropIntake := satAdd 65535 t.hlx.dropIntake 1 } }, [])
    | none => t1.accept s0 e st synth seq
  else ({ t1 with hlx := { t1.hlx with lostOff := t.hlx.lostOff + 1 } }, [])

/-! ### Fault queue -/

/-- The presented entry of a severity. -/
def FltSt.pres (f : FltSt) (n : Nat) : Option FltEntry :=
  if n = 1 then f.pres1 else if n = 2 then f.pres2 else if n = 3 then f.pres3 else none

/-- The fault queue with the presented entry of a severity replaced. -/
def FltSt.setPres (f : FltSt) (n : Nat) (e : Option FltEntry) : FltSt :=
  if n = 1 then { f with pres1 := e } else if n = 2 then { f with pres2 := e }
  else if n = 3 then { f with pres3 := e } else f

/-- The handling level L (R596). -/
def FltSt.level (f : FltSt) : Nat :=
  if f.pres3.isSome then 3 else if f.pres2.isSome then 2 else if f.pres1.isSome then 1 else 0

/-- The highest severity that waits (FLT_STATUS.WAITMAX). -/
def FltSt.waitMax (f : FltSt) : Nat := f.waiting.foldl (fun m e => Nat.max m e.sev) 0

/-- The entries the queue holds, presented ones included (FLT_STATUS.DEPTH). -/
def FltSt.depth (f : FltSt) : Nat :=
  f.waiting.length + f.pres1.toList.length + f.pres2.toList.length + f.pres3.toList.length

/-- Every entry held. -/
def FltSt.all (f : FltSt) : List FltEntry := f.waiting ++ f.pres1.toList ++ f.pres2.toList ++ f.pres3.toList

/-- The first waiting entry of a severity, and the others. -/
def takeSev (n : Nat) : List FltEntry → Option (FltEntry × List FltEntry)
  | [] => none
  | e :: es =>
    if e.sev = n then some (e, es)
    else match takeSev n es with
      | some (x, r) => some (x, e :: r)
      | none => none

/-- The MSI-X vector of a severity (FLT_CTRL). -/
def fltVec (s0 : State) (n : Nat) : Nat :=
  if n = 1 then s0.fld Fld.FLT_CTRL_VEC1 0 0 else if n = 2 then s0.fld Fld.FLT_CTRL_VEC2 0 0
  else s0.fld Fld.FLT_CTRL_VEC3 0 0

/-- The vector of a presented entry is raised (R596). -/
def Trace.raiseVec (s0 : State) (n : Nat) (t : Trace) : Trace :=
  if s0.bit Fld.FLT_CTRL_IRQ_EN 0 0 then t.send s0 (fltVec s0 n) else t

/-- The oldest waiting entry of the highest waiting severity is presented when that severity exceeds L (R596). -/
def Trace.present (s0 : State) (t : Trace) : Trace :=
  let n := t.flt.waitMax
  if t.flt.level < n then
    match takeSev n t.flt.waiting with
    | some (e, r) => Trace.raiseVec s0 n { t with flt := ({ t.flt with waiting := r }).setPres n (some e) }
    | none => t
  else t

/-- The entry an event makes (R595). -/
def fltEntryOf (e : Event) (st : Stamp) (seq : Word) : FltEntry :=
  ⟨severity e.code, e.code, e.inst, stNs st, stSec st, e.p0, e.p1, seq⟩

/-- Entries other than the overflow entry of the reserved slot (R598). -/
def FltSt.normal (f : FltSt) : Nat := (f.all.filter (fun e => e.code != 0x4103)).length

/-- Whether the reserved slot can take a new overflow entry (R598). -/
def FltSt.slotFree (f : FltSt) : Bool := !f.ovf && !(f.all.any (fun e => e.code == 0x4103))

/-- The fault queue takes an event of severity 1 to 3 with its Helix sequence number (R595, R596, R598). -/
def Trace.fault (s0 : State) (e : Event) (st : Stamp) (seq : Word) (t : Trace) : Trace × List Work :=
  if severity e.code = 0 then (t, [])
  else if e.code = 0x4103 then
    let t1 := { t with flt := { t.flt with waiting := t.flt.waiting ++ [fltEntryOf e st seq], ovf := true,
                                           ovfAt := some s0.mer.base } }
    (Trace.present s0 t1, [Work.src 136 3 e.code (w32 t1.flt.depth) st])
  else if t.flt.normal < 63 then
    let t1 := { t with flt := { t.flt with waiting := t.flt.waiting ++ [fltEntryOf e st seq] } }
    (Trace.present s0 t1, [Work.src (133 + severity e.code) (severity e.code) e.code (w32 t1.flt.depth) st])
  else
    let cnt := satAdd 0xFFFFFFFF t.flt.ovfCnt 1
    let t1 := { t with flt := { t.flt with ovfCnt := cnt } }
    if t.flt.slotFree then ({ t1 with flt := { t1.flt with ovf := true, ovfAt := some s0.mer.base } },
      [Work.ev ⟨0x4103, 0, w32 cnt, 0, 0, 0⟩ st false])
    else (t1, [])

/-! ### Vertex items -/

/-- Word `w` (0 or 1) of the source map entry of a source (R371). -/
def srcMap (s0 : State) (n w : Nat) : Word := s0.cf Cf.VTX_SRCMAP 64 (2 * n + w)

/-- The lowest handle slot that no item holds. -/
def freeSlot (items : List VtxItem) : Nat :=
  ((List.range 8192).find? (fun k => !(items.any (fun i => i.slot == k)))).getD 0

/-- The flow of an item of a source (R361). -/
def flowOf (w1 : Word) (inst : Nat) (param : Word) : Option Nat :=
  let base := bitsOf w1 20 10
  let span := Nat.max 1 (bitsOf w1 0 11)
  let mode := bitsOf w1 30 2
  if mode = 0 then none else if mode = 1 then some base
  else if mode = 2 then some (base + inst % span)
  else some (base + param.toNat % span)

/-- Whether a report limited to one per `per` ns is due (key: code and instance). -/
def Trace.due (s0 : State) (t : Trace) (key per : Nat) : Bool :=
  let l := tget 0 t.lastLog key
  l = 0 || l - 1 + per ≤ s0.mer.base

/-- Vertex takes an event of a source: unmapped, lost for lack of room, or entered as an item (R353 to R356). -/
def Trace.source (s0 : State) (n inst code : Nat) (param : Word) (st : Stamp) (t : Trace) : Trace × List Work :=
  if !t.vtx.running then (t, [])
  else
    let v := t.vtx
    let seq := tget 0 v.srcSeq n
    let v1 := { v with srcSeq := tset 0 v.srcSeq n (seq + 1) }
    let w0 := srcMap s0 n 0
    if !(bitOf w0 31) then
      let cnt := satAdd 65535 v.unmapCnt 1
      let t1 := { t with vtx := { v1 with unmapCnt := cnt, unmapSrc := n } }
      let key := 0x186 * 65536 + n
      if t.due s0 key 1000000000 then
        ({ t1 with lastLog := tset 0 t.lastLog key (s0.mer.base + 1) },
          [Work.ev ⟨0x0186, n, w32 cnt, 0, 0, 0⟩ st false])
      else (t1, [])
    else
      let held := (v.items.filter (fun i => i.source == n)).length
      if 8192 ≤ v.items.length ∨ bitsOf w0 0 14 ≤ held then
        ({ t with vtx := { v1 with srcLost := tset 0 v.srcLost n (satAdd 65535 (tget 0 v.srcLost n) 1),
                                   srcEpisode := tset false v.srcEpisode n true,
                                   lostAll := satAdd 0xFFFFFFFF v.lostAll 1 } }, [])
      else
        let slot := freeSlot v.items
        let lost := tget 0 v.srcLost n
        let it : VtxItem :=
          { queue := bitsOf w0 16 6, source := n, flow := flowOf (srcMap s0 n 1) inst param,
            gen := tget 0 v.slotGen slot, slot := slot, inst := inst, code := code, param := param, ns := stNs st,
            sec := stSec st, seq := seq, first := !(tget false v.srcSeen n), lost := lost, phase := .waiting }
        let t1 := { t with vtx := { v1 with items := v.items ++ [it], srcSeen := tset false v.srcSeen n true,
                                            srcLost := tset 0 v.srcLost n 0,
                                            srcEpisode := tset false v.srcEpisode n false } }
        (t1, if tget false v.srcEpisode n then [Work.ev ⟨0x2181, n, w32 lost, 0, 0, 0⟩ st false] else [])

/-! ### The whole of reporting -/

/-- One piece of work, and what follows from it. -/
def Trace.one (s0 : State) (w : Work) (t : Trace) : Trace × List Work :=
  match w with
  | .ev e st synth =>
    let seq := t.hlx.seq
    let (t1, ws) := t.intake s0 e st synth
    (t1, if severity e.code = 0 then ws else Work.flt e st seq :: ws)
  | .flt e st seq => t.fault s0 e st seq
  | .src n inst code param st => t.source s0 n inst code param st

/-- The work done in order, with what follows from it, at most `fuel` pieces. -/
def Trace.run (s0 : State) : Nat → List Work → Trace → Trace
  | 0, _, t => t
  | _ + 1, [], t => t
  | n + 1, w :: ws, t =>
    let (t1, more) := t.one s0 w
    Trace.run s0 n (ws ++ more) t1

/-- The most pieces of work one event can give rise to: each report of a loss closes its episode, so the chain ends. -/
def traceFuel : Nat := 24

/-- The state after the work. -/
def State.report (s : State) (ws : List Work) : State := { s with tr := Trace.run s traceFuel ws s.tr }

/-- An event is logged: Helix, the fault queue and Vertex take it, stamped with a given instant. -/
def State.logAt (s : State) (st : Stamp) (code inst : Nat) (p0 p1 p2 p3 : Word) : State :=
  s.report [Work.ev ⟨code, inst, p0, p1, p2, p3⟩ st false]

/-- An event is logged, stamped with this instant. -/
def State.log (s : State) (code inst : Nat) (p0 : Word := 0) (p1 : Word := 0) (p2 : Word := 0) (p3 : Word := 0) :
    State := s.logAt s.now code inst p0 p1 p2 p3

/-- A record that Helix writes itself (R430, R443). -/
def State.logSynth (s : State) (code : Nat) (p0 p1 p2 p3 : Word) : State :=
  s.report [Work.ev ⟨code, 0, p0, p1, p2, p3⟩ s.now true]

/-- A Vertex source is raised. -/
def State.raise (s : State) (n inst code : Nat) (param : Word) : State := s.report [Work.src n inst code param s.now]

/-- An event logged at most once per `per` ns for its code and instance: `mk` makes its parameters from the count of
occurrences since the previous report, this one included. -/
def State.logLim (s : State) (per code inst : Nat) (mk : Nat → Word × Word) : State :=
  let key := code * 65536 + inst
  let n := tget 0 s.tr.sinceLog key + 1
  if s.tr.due s key per then
    let s1 := { s with tr := { s.tr with lastLog := tset 0 s.tr.lastLog key (s.mer.base + 1),
                                         sinceLog := tset 0 s.tr.sinceLog key 0 } }
    s1.log code inst (mk n).1 (mk n).2
  else { s with tr := { s.tr with sinceLog := tset 0 s.tr.sinceLog key n } }

end Sys2Proof.Machine
end

