-- ==== Sys2Proof/Machine/Rings.lean ====
section
/-! DEFINITION. Rings and completions: writing an entry to a module-to-host ring, its interrupt, the completion of an
item, and the intake log (R114 to R136). -/

namespace Sys2Proof.Machine

/-! ### Status codes (R128) -/

/-- DONE. -/
def stDone : Nat := 0x0000
/-- DONE_CLAMPED. -/
def stClamped : Nat := 0x0001
/-- DONE_BY_PARTNER. -/
def stByPartner : Nat := 0x0002
/-- REJECTED_FORMAT. -/
def stFormat : Nat := 0x0100
/-- REJECTED_RANGE. -/
def stRange : Nat := 0x0101
/-- REJECTED_STATE. -/
def stState : Nat := 0x0102
/-- FAILED_TARGET_ABSENT. -/
def stAbsent : Nat := 0x0200
/-- FAILED_SWITCHOVER. -/
def stSwitchover : Nat := 0x0201
/-- FAILED_TIMEOUT. -/
def stTimeout : Nat := 0x0202
/-- FAILED_FAULT. -/
def stFault : Nat := 0x0203
/-- ABORTED_BY_HOST. -/
def stAborted : Nat := 0x0300

/-! ### Module-to-host rings -/

/-- Whether a submission ring's OWNER is CORES. -/
def State.sqCores (s : State) (n : Nat) : Bool := s.bit Fld.HIF_SQ_CTRL_OWNER (n % redoRing) 0

/-- Whether a module-to-host ring's OWNER is CORES. -/
def State.cqCores (s : State) (m : Nat) : Bool := s.bit Fld.HIF_CQ_CTRL_OWNER m 0

/-- The size of a ring in entries. -/
def State.cqSize (s : State) (m : Nat) : Nat := 2 ^ s.fld Fld.HIF_CQ_CTRL_SIZE_LOG2 m 0

/-- The base address of a module-to-host ring. -/
def State.cqBase (s : State) (m : Nat) : Nat :=
  (s.rd Reg.HIF_CQ_BASE_HI m 0).toNat * 4294967296 + (s.rd Reg.HIF_CQ_BASE_LO m 0).toNat

/-- The free space of a module-to-host ring (R116). -/
def State.cqFree (s : State) (m : Nat) : Nat :=
  s.cqSize m - (s.rd Reg.HIF_CQ_PI m 0 - s.rd Reg.HIF_CQ_CI m 0).toNat

/-- Whether the module may write to a ring: enabled, not in ERROR, and its memory within reach (R107). -/
def State.cqUp (s : State) (m : Nat) : Bool :=
  s.bit Fld.HIF_CQ_CTRL_ENABLE m 0 && s.fld Fld.HIF_CQ_STAT_STATE m 0 != 3 &&
    (s.cqCores m || s.bit Fld.HIF_LINK_UP 0 0)

/-- The interrupt of a module-to-host ring (R131, R138), and its counter restarts. -/
def State.cqIrq (s : State) (m : Nat) : State :=
  let s1 := { s with hif := { s.hif with unsig := tset 0 s.hif.unsig m 0 } }
  let v := s.fld Fld.HIF_CQ_CTRL_VECTOR m 0
  if s.cqCores m then s1.raise v (64 + m) 0 (s.rd Reg.HIF_CQ_PI m 0)
  else { s1 with tr := s1.tr.send s1 v }

/-- The number of entries per interrupt: COUNT, 0 acts as 1 (R131). -/
def State.cqCount (s : State) (m : Nat) : Nat := Nat.max 1 (s.fld Fld.HIF_CQ_COAL_COUNT m 0)

/-- One entry is written to a ring with free space, then its shadow producer index, then the interrupt if one is due
(R129, R131). -/
def State.cqWrite (s : State) (m : Nat) (words : List Word) (irq : Bool) : State :=
  let pi := s.rd Reg.HIF_CQ_PI m 0
  let size := s.cqSize m
  let cores := s.cqCores m
  let mem := memPutWords (s.ringMem cores) (s.cqBase m + pi.toNat % size * 32) words
  let mem := memPutWords mem (s.cqBase m + size * 32) [pi + 1]
  let s1 := (s.setRingMem cores mem).wr Reg.HIF_CQ_PI m 0 (pi + 1)
  let n := tget 0 s.hif.unsig m + 1
  let s2 := { s1 with hif := { s1.hif with unsig := tset 0 s1.hif.unsig m n } }
  let s3 := if s2.cqFree m = 0 then s2.setF Fld.HIF_CQ_STAT_STATE m 0 2 else s2
  if s.bit Fld.HIF_CQ_CTRL_IRQ_EN m 0 && (irq || s.cqCount m ≤ n) then s3.cqIrq m else s3

/-- Whether an entry waits behind one that is held: behind those of its own submission ring (R130), and within a ring
behind those of its kind, but that a completion waits for no other submission ring's. -/
def heldBefore (h : HeldEntry) (m : Nat) (sq : Option Nat) (record : Bool) : Bool :=
  (h.sq == sq && sq.isSome) || (h.cq == m && !record)

/-- One entry goes to a ring: written if there is room and nothing waits before it, held otherwise and counted as a
stall (R130). An entry for a ring that cannot be written is discarded (R107). -/
def State.cqPost (s : State) (m : Nat) (words : List Word) (sq : Option Nat) (irq : Bool) (record : Bool := false) :
    State :=
  if !(s.cqUp m) then s
  else if s.cqFree m = 0 ∨ s.hif.held.any (fun h => heldBefore h m sq record) then
    let s1 := if s.cqFree m = 0 then s.incF Fld.HIF_CQ_STAT_STALLS m 0 1 else s
    { s1 with hif := { s1.hif with held := s1.hif.held ++ [⟨m, words, sq, irq, record⟩] } }
  else s.cqWrite m words irq

/-! ### Intake log (R132) -/

/-- Whether an entry is that of an item. -/
def IntakeEntry.is (e : IntakeEntry) (ring : Nat) (seq : Word) : Bool := e.ring == ring && e.seq == seq

/-- The newest entry of an item. -/
def State.intakeOf (s : State) (ring : Nat) (seq : Word) : Option IntakeEntry :=
  s.hif.intake.find? (fun e => e.is ring seq)

/-- The intake log with the newest entry of an item replaced. -/
def intakeUpd (ring : Nat) (seq : Word) (f : IntakeEntry → IntakeEntry) : List IntakeEntry → List IntakeEntry
  | [] => []
  | e :: es => if e.is ring seq then f e :: es else e :: intakeUpd ring seq f es

/-- Whether an item has not completed: it is in flight, or its completion record waits for room (R121, R130). -/
def State.uncompleted (s : State) (ring : Nat) (seq : Word) : Bool :=
  s.hif.inflight.any (fun f => f.item.ring == ring && f.item.seq == seq) ||
    s.hif.held.any (fun h => h.record && h.sq == some ring && h.words.headD 0 == seq)

/-- The intake log with a new entry: it keeps the 65,536 newest, and every uncompleted item besides (R132). -/
def State.intakePush (s : State) (e : IntakeEntry) : List IntakeEntry :=
  let l := e :: s.hif.intake
  l.take 65536 ++ (l.drop 65536).filter (fun x => s.uncompleted x.ring x.seq)

/-- A fetched item enters the intake log. -/
def State.intakeAdd (s : State) (ring : Nat) (seq : Word) (v : Verdict) : State :=
  { s with hif := { s.hif with intake := s.intakePush ⟨ring, seq, v, false⟩ } }

/-- The verdict that a status stands for (R132). -/
def verdictOf (status : Nat) : Verdict := if status < 0x100 then .applied status else .notApplied status

/-- The intake log records a verdict for an item; an item it does not hold enters it. -/
def State.intakeSet (s : State) (ring : Nat) (seq : Word) (v : Verdict) (written : Bool) : State :=
  match s.intakeOf ring seq with
  | some _ =>
    { s with hif := { s.hif with
        intake := intakeUpd ring seq (fun e => { e with verdict := v, written := written }) s.hif.intake } }
  | none => { s with hif := { s.hif with intake := s.intakePush ⟨ring, seq, v, written⟩ } }

/-! ### Items -/

/-- Whether a fetched, uncompleted item is the one named. -/
def Inflight.is (f : Inflight) (ring : Nat) (seq : Word) : Bool := f.item.ring == ring && f.item.seq == seq

/-- The fetched, uncompleted item of a ring and SEQ. -/
def State.flight (s : State) (ring : Nat) (seq : Word) : Option Inflight :=
  s.hif.inflight.find? (fun f => f.is ring seq)

/-- Whether two items address the same block and instance of the same module (R120). -/
def sameTarget (a b : Item) : Bool :=
  a.block == b.block && a.inst == b.inst && a.remote == b.remote && a.device == b.device

/-- Whether an earlier fetched item stands before `it`: any earlier item of its ring when it is fenced, one of the
same block and target otherwise (R117, R120). A frame that waits in a transmit queue of CAN or ETH has started, and
holds up no later one (R448, R474), and so has a remote item that has been sent; DEDUCED, notes/assumptions/13.md. -/
def blockedBy (it : Item) : List Inflight → Bool
  | [] => false
  | f :: fs =>
    if f.is it.ring it.seq then false
    else (f.item.ring == it.ring && (it.fence || (sameTarget f.item it &&
      f.phase != .committed && !(f.phase == .waiting &&
        (f.item.block == 0xD || f.item.block == 0xE || (f.item.remote && f.item.origin.isNone)))))) ||
      blockedBy it fs

/-- Whether an item was fetched before another of its ring, as the intake log has them. -/
def State.fetchedBefore (s : State) (ring : Nat) (a b : Word) : Bool :=
  ((s.hif.intake.dropWhile (fun e => !(e.is ring b))).drop 1).any (fun e => e.is ring a)

/-- Whether the completion record of an item fetched before `it` on its ring still waits for room (R117, R130). -/
def State.recordBefore (s : State) (it : Item) : Bool :=
  s.hif.held.any (fun h => h.record && h.sq == some it.ring && s.fetchedBefore it.ring (h.words.headD 0) it.seq)

/-- Whether an item's turn has come (R120, FENCE of R117). An item the intake does not hold stands alone. -/
def State.itemTurn (s : State) (it : Item) : Bool :=
  match s.flight it.ring it.seq with
  | some _ => !(blockedBy it s.hif.inflight) && !(it.fence && s.recordBefore it)
  | none => true

/-- The fetched item with what `f` makes of it. -/
def flightUpd (ring : Nat) (seq : Word) (f : Inflight → Inflight) : List Inflight → List Inflight
  | [] => []
  | x :: xs => if x.is ring seq then f x :: xs else x :: flightUpd ring seq f xs

/-- An item its block has decided and that completes later: it stays among the fetched items, with its opcode and the
words its block keeps for it. -/
def State.holdItem (s : State) (opcode : Nat) (it : Item) (note : List Word) : State :=
  match s.flight it.ring it.seq with
  | some _ =>
    { s with hif := { s.hif with
        inflight := flightUpd it.ring it.seq (fun x => { x with phase := .waiting, note := note }) s.hif.inflight } }
  | none =>
    { s with hif := { s.hif with
        inflight := s.hif.inflight ++ [⟨opcode, it, .waiting, true, 0, note, none, none⟩] } }

/-- Whether an item belongs on the redo list (R90). One for another module has its effect there. -/
def redoOp (op : Nat) (it : Item) : Bool :=
  !(it.remote && it.origin.isNone) && (op == 0x0700 || op == 0x0701 || op == 0x0702 || op == 0x1200 || (0x0800 ≤ op && op ≤ 0x0807) ||
    (op == 0x0900 && (bitsOf (it.w 3) 0 3 == 6 || bitsOf (it.w 3) 0 3 == 7)))

/-- An item that reaches its commit point joins the redo list if it belongs there; a list that it fills asks for a
checkpoint (R90). -/
def State.redoAdd (s : State) (it : Item) : State :=
  match s.flight it.ring it.seq with
  | none => s
  | some f =>
    if redoOp f.opcode it ∧ f.phase ≠ .committed then
      let redo := s.sys.redo ++ [(f.opcode, it)]
      { s with sys := { s.sys with redo := redo, chkPeriodDue := s.sys.chkPeriodDue || 1024 ≤ redo.length } }
    else s

/-- Whether an item must wait at its commit point, because the redo list it would join is full (R90). -/
def State.redoFull (s : State) (ring : Nat) (seq : Word) : Bool :=
  match s.flight ring seq with
  | none => false
  | some f => f.phase != .committed && redoOp f.opcode f.item && decide (1024 ≤ s.sys.redo.length)

/-- An item reaches its commit point: the intake log records it as applied with the status its completion will carry
(R126, R132). -/
def State.commitItem (s : State) (it : Item) (status : Nat) : State :=
  let s0 := if it.isAgain then s else s.redoAdd it
  let s1 := { s0 with hif := { s0.hif with
    inflight := flightUpd it.ring it.seq (fun x => { x with phase := .committed, doneAt := some s.now })
      s0.hif.inflight } }
  if it.isAgain then s1 else s1.intakeSet it.ring it.seq (.applied status) false

/-- The words that an item's block keeps for its completion. -/
def State.noteItem (s : State) (it : Item) (note : List Word) : State :=
  { s with hif := { s.hif with inflight := flightUpd it.ring it.seq (fun x => { x with note := note }) s.hif.inflight } }

/-- The eight words of a completion record (R127). -/
def complWords (it : Item) (status : Nat) (st : Stamp) (d0 d1 d2 d3 : Word) : List Word :=
  [it.seq, w32 (status + complFlags it status * 65536), stNs st, stSec st, d0, d1, d2, d3]

/-- Whether a submission ring has an item that has not completed (R112). -/
def State.sqBusy (s : State) (n : Nat) : Bool :=
  s.hif.inflight.any (fun f => f.item.ring == n) || s.hif.held.any (fun h => h.record && h.sq == some n)

/-- A submission ring that drains becomes IDLE when its last item has completed (R112). -/
def State.sqSettle (s : State) (n : Nat) : State :=
  if s.fld Fld.HIF_SQ_STAT_STATE n 0 = 2 ∧ !(s.sqBusy n) then s.setF Fld.HIF_SQ_STAT_STATE n 0 0 else s

/-- The item leaves the fetched items. -/
def State.dropItem (s : State) (it : Item) : State :=
  { s with hif := { s.hif with inflight := s.hif.inflight.filter (fun f => !(f.is it.ring it.seq)) } }

/-- A completion record goes to the completion ring of its submission ring, and the intake log records the outcome and
whether the record has been written (R130, R132). -/
def State.postRecord (s : State) (it : Item) (st : Stamp) (status : Nat) (d0 d1 d2 d3 : Word) : State :=
  let m := s.fld Fld.HIF_SQ_CTRL_CQ it.ring 0
  let s1 := s.cqPost m (complWords it status st d0 d1 d2 d3) (some it.ring) it.irq true
  (s1.intakeSet it.ring it.seq (verdictOf status)
    (s.cqUp m && s1.hif.held.length == s.hif.held.length)).sqSettle it.ring

/-- An item completes at a given instant (R126 to R131): its record goes to its completion ring, the intake log
records the outcome. An item of another module completes by the RESULT it is answered with (R525). -/
def State.completeAt (s : State) (it : Item) (st : Stamp) (status : Nat) (d0 d1 d2 d3 : Word) : State :=
  if it.isAgain then
    let s1 := s.dropItem it
    { s1 with hif := { s1.hif with lastDone := [w32 status, d0, d1, d2, d3] } }
  else
  let s1 := (if status < 0x100 then s.redoAdd it else s).dropItem it
  match it.origin with
  | some dev =>
    (s1.intakeSet it.ring it.seq (verdictOf status) true).emit
      (.result dev it.ring it.seq status [stNs st, stSec st, d0, d1, d2, d3] [])
  | none => s1.postRecord it st status d0 d1 d2 d3

/-- An item completes at this instant. -/
def State.complete (s : State) (it : Item) (status : Nat) (d0 : Word := 0) (d1 : Word := 0) (d2 : Word := 0)
    (d3 : Word := 0) : State := s.completeAt it s.now status d0 d1 d2 d3

/-- An item completes after an event stands behind its outcome: DETAIL0 is the event's code, DETAIL1 its Helix
sequence number (R128). `code`, `inst` and the parameters are those of the event. -/
def State.completeEv (s : State) (it : Item) (status code inst : Nat) (p0 : Word := 0) (p1 : Word := 0)
    (p2 : Word := 0) (p3 : Word := 0) : State :=
  let seq := s.tr.hlx.seq
  (s.log code inst p0 p1 p2 p3).complete it status (w32 code) seq

/-- Whether the power domain of a block is off (R36). -/
def State.blockOff (s : State) (b : Nat) : Bool := !(s.domOn (blockDomain b))

/-- An item whose block is switched off completes with the event that recorded the switch-off (R36). -/
def State.absent (s : State) (it : Item) : State :=
  let n := blockDomain it.block
  s.complete it stAbsent (tget 0 s.sys.domCode n) (tget 0 s.sys.domSeq n)

/-! ### Buffers (R124) -/

/-- Words written to an item's buffer, in host memory or module DRAM by the OWNER of its ring. -/
def State.bufPut (s : State) (it : Item) (a : Nat) (ws : List Word) : State :=
  let c := s.sqCores it.ring
  s.setRingMem c (memPutWords (s.ringMem c) a ws)

/-- Bytes written to an item's buffer. -/
def State.bufPutBytes (s : State) (it : Item) (a : Nat) (bs : List Byte) : State :=
  let c := s.sqCores it.ring
  s.setRingMem c (memPut (s.ringMem c) a bs)

/-- Bytes of an item's buffer. -/
def State.bufTake (s : State) (it : Item) (a n : Nat) : List Byte := memTake (s.ringMem (s.sqCores it.ring)) a n

/-- Words of an item's buffer. -/
def State.bufWords (s : State) (it : Item) (a n : Nat) : List Word := memWords (s.ringMem (s.sqCores it.ring)) a n

/-- The buffer address of payload words `n` and `n` + 1. -/
def bufAddr (it : Item) (n : Nat) : Nat := (it.w n).toNat + (it.w (n + 1)).toNat * 4294967296

/-! ### Clamp reports (R156) -/

/-- The REPORT ring of a submission ring. -/
def State.rptRing (s : State) (ring : Nat) : Nat := s.fld Fld.HIF_SQ_CTRL_RPT (ring % redoRing) 0

/-- The index that the next entry of a ring takes, behind those that wait for room. -/
def State.nextIndex (s : State) (m : Nat) : Word :=
  s.rd Reg.HIF_CQ_PI m 0 + w32 ((s.hif.held.filter (fun h => h.cq == m)).length)

/-- Words 1 to 4 of the entry. -/
def Clamp.words (c : Clamp) : List Word :=
  [w32 ((if c.flt then 268435456 else 0) + c.reason * 16777216 + c.block * 65536 + c.fld),
   w32 (c.elem * 65536 + c.inst), c.req, c.app]

/-- The entry goes to the REPORT ring of the item. -/
def State.postClamp (s : State) (it : Item) (st : Stamp) (c : Clamp) : State :=
  if it.isAgain then s else
  s.cqPost (s.rptRing it.ring) (it.seq :: c.words ++ [c.cause, stNs st, stSec st]) (some it.ring) false

/-- An item of another module completes DONE_CLAMPED: its clamps go with the RESULT, since its REPORT ring lies there
(R210). -/
def State.clampedAway (s : State) (it : Item) (dev : Nat) (st : Stamp) (cs : List Clamp) : State :=
  (((s.redoAdd it).dropItem it).intakeSet it.ring it.seq (verdictOf stClamped) true).emit
    (.result dev it.ring it.seq stClamped [stNs st, stSec st, 0, 0, w32 cs.length, 0] cs)

/-- An item completes DONE, or DONE_CLAMPED behind its entries (R128, R156), at a given instant. -/
def State.completeClampedAt (s : State) (it : Item) (st : Stamp) (cs : List Clamp) : State :=
  if cs = [] ∨ it.isAgain then s.completeAt it st stDone 0 0 0 0
  else match it.origin with
  | some dev => s.clampedAway it dev st cs
  | none =>
    let m := s.rptRing it.ring
    let first := s.nextIndex m
    (cs.foldl (fun s c => s.postClamp it s.now c) s).completeAt it st stClamped (w32 m) first (w32 cs.length) 0

/-- The same at this instant. -/
def State.completeClamped (s : State) (it : Item) (cs : List Clamp) : State := s.completeClampedAt it s.now cs

/-- The answer of a meaning that always goes on. -/
def go (s : State) : Host.Outcome State Fault Refusal := .next s

/-- Whether an item waits for the standby to hold its intent: an item of a shared ring on the active member of a pair
whose partner is SYNCED, or has just been lost on both paths (R549). -/
def State.mirWait (s : State) (it : Item) : Bool :=
  match s.flight it.ring it.seq with
  | none => false
  | some f => it.origin.isNone && !(s.ringLocal it.ring) && !f.mirrored && s.mirState == 2 &&
      (s.partnerSynced || s.mir.waiting)

/-- The intent of an item is stated: the next epoch carries it (R549). -/
def State.intend (s : State) (it : Item) : State :=
  { s with hif := { s.hif with
      inflight := flightUpd it.ring it.seq (fun x => { x with intent := some (x.intent.getD 0) }) s.hif.inflight } }

/-- Whether an item begins before its wait for the mirror: FCT_HART waits before its CLOSE (R244), and
CFG_VALIDATE_COMMIT at its commit point (R157). -/
def State.lateIntent (s : State) (it : Item) : Bool :=
  match s.flight it.ring it.seq with
  | some f => f.opcode == 0x1215 || f.opcode == 0x0302
  | none => false

/-- An item that its block has not decided yet; one the intake does not hold stands alone. -/
def State.undecided (s : State) (it : Item) : Bool :=
  match s.flight it.ring it.seq with
  | some f => f.phase == .fetched
  | none => true

/-- Whether an item stays as the final epoch of a handover holds it (R558). -/
def State.frozen (s : State) (it : Item) : Bool :=
  s.mir.hold && it.origin.isNone && !it.isAgain && !(s.ringLocal it.ring)

/-- Whether a remote item has not reached its commit point before its deadline (R136). -/
def Inflight.late (f : Inflight) (now : Nat) : Bool :=
  f.item.origin.isSome && f.phase != .committed && f.deadline != 0 && decide (f.deadline ≤ now)

/-- Remote items that have not reached their commit points before their deadlines complete FAILED_TIMEOUT (R136). -/
def State.expireRemote (s : State) : State :=
  (s.hif.inflight.filter (fun f => f.late s.mer.base)).foldl (fun s f => s.complete f.item stTimeout) s

/-- A remote item is sent, or completes at once when its target, or this module, is not admitted (R526). -/
def State.sendRemote (s : State) (op : Nat) (it : Item) : State :=
  if s.admitted && s.vxl.members.contains it.device then
    { s.emit (.remote it.device op it) with hif := { s.hif with
      inflight := flightUpd it.ring it.seq (fun x => { x with phase := .waiting }) s.hif.inflight } }
  else s.complete it stAbsent

/-- A remote item of this module is sent when its turn has come and its intent is mirrored (R117, R120, R549). -/
def State.tryRemote (s : State) (it : Item) : State :=
  match s.flight it.ring it.seq with
  | none => s
  | some f =>
    if !(s.itemTurn it) ∨ f.phase ≠ .fetched ∨ s.frozen it ∨ s.sys.mode ≠ .running then s
    else if s.mirWait it then s.intend it
    else s.sendRemote f.opcode it

/-- Whether items of a block are served: the module runs, or the boot ROM serves the firmware opcodes (R87). -/
def State.serving (s : State) (b : Nat) : Bool := s.sys.mode == .running || (s.sys.mode == .recovery && b == 1)

/-- An item is served once, while the module runs: it waits until its turn has come (R120), no handover holds it (R558) and its intent is mirrored (R549), completes FAILED_TARGET_ABSENT while its block is off
(R36), and has the effect `k` otherwise. One for another module is sent; one of another module is not applied after its
deadline (R136). -/
def serve (it : Item) (s : State) (k : State → State) : Host.Outcome State Fault Refusal :=
  if it.remote ∧ it.origin = none then go (s.tryRemote it)
  else if (s.flight it.ring it.seq).any (fun f => f.late s.mer.base) then go (s.complete it stTimeout)
  else if !(s.itemTurn it) ∨ !(s.undecided it) ∨ s.frozen it ∨ !(s.serving it.block) then
    go s
  else if s.mirWait it && !(s.lateIntent it) then go (s.intend it)
  else if s.blockOff it.block then go (s.absent it) else go (k s)

end Sys2Proof.Machine
end

