-- ==== Sys2Proof/Machine/Journal.lean ====
section
/-! DEFINITION. The committed image and its journal in MRAM (R157, R165 to R168, R341). -/

namespace Sys2Proof.Machine

/-- A store of configuration values with some changes made. -/
def cfgPut (t : Tab Word) (cs : List Change) : Tab Word := cs.foldl (fun t c => tabSet cfgDefault t c.key c.val) t

/-- The journal grows by the bytes of one entry, a number the spec does not state; beyond 1 MiB a new full image is
written (R167). -/
def State.journalGrow (s : State) : State :=
  let (w, s1) := s.fresh
  let used := s1.cfg.journalUsed + w.toNat % 65536
  { s1 with cfg := { s1.cfg with journalUsed := used, writingImage := s1.cfg.writingImage || 1048576 < used } }

/-- Changes enter the committed image as one journal entry, under the next image ID (R157, R168). -/
def State.commitChanges (s : State) (cs : List Change) : State :=
  let id := (s.cfg.imageId + 1) % 18446744073709551616
  let s1 := { s with cfg := { s.cfg with image := cfgPut s.cfg.image cs, imageId := id,
                                         journal := s.cfg.journal ++ [(id, cs)] } }
  s1.journalGrow

/-- Active values taken by their blocks. -/
def State.takeChanges (s : State) (cs : List Change) : State :=
  { s with cfg := { s.cfg with active := cfgPut s.cfg.active cs } }

/-! ### Blocks that take an item's values (R158, R159) -/

/-- Whether a job is that of an item. -/
def CfgJob.is (j : CfgJob) (ring : Nat) (seq : Word) : Bool := j.item.ring == ring && j.item.seq == seq

/-- A job whose last block has taken its values completes: DONE, or DONE_CLAMPED behind its reports. -/
def State.jobDone (s : State) (j : CfgJob) : State :=
  let s1 := { s with cfg := { s.cfg with jobs := s.cfg.jobs.filter (fun x => !(x.is j.item.ring j.item.seq)) } }
  if j.rptCount = 0 then s1.complete j.item stDone
  else s1.complete j.item stClamped (w32 j.rptRing) j.rptFirst (w32 j.rptCount)

/-- A block has taken the values of an item. -/
def State.blockTaken (s : State) (ring : Nat) (seq : Word) (b : Nat) : State :=
  match s.cfg.jobs.find? (fun j => j.is ring seq) with
  | none => s
  | some j =>
    let j1 := { j with blocks := j.blocks.filter (fun x => x != b) }
    if j1.blocks = [] then s.jobDone j1
    else { s with cfg := { s.cfg with jobs := s.cfg.jobs.map (fun x => if x.is ring seq then j1 else x) } }

/-- An object of a block reaches its commit point: every item that waited for it alone has been taken by the block. -/
def State.blockStep (s : State) (b inst : Nat) : State :=
  let ws := s.cfg.waits.map (fun w => if w.2.2.1 = b then (w.1, w.2.1, w.2.2.1, w.2.2.2.filter (fun i => i != inst)) else w)
  let done := ws.filter (fun w => w.2.2.2 == [])
  let s1 := { s with cfg := { s.cfg with waits := ws.filter (fun w => w.2.2.2 != []) } }
  done.foldl (fun s w => s.blockTaken w.1 w.2.1 w.2.2.1) s1

/-- A block takes an item's values once the objects listed have reached their commit points; at once when there are
none. -/
def State.blockWait (s : State) (ring : Nat) (seq : Word) (b : Nat) (insts : List Nat) : State :=
  if insts = [] then s.blockTaken ring seq b
  else { s with cfg := { s.cfg with waits := s.cfg.waits ++ [(ring, seq, b, insts)] } }

end Sys2Proof.Machine
end

