-- ==== Sys2Proof/Machine/Crc.lean ====
section
/-! DEFINITION. The two cyclic redundancy codes of the spec: CRC-16 of the Facet link (R177) and CRC-32 of the
calibration record and the factory data (R227). -/

namespace Sys2Proof.Machine

/-- One bit of the CRC-16 with polynomial 0x1021, most significant bit first. -/
def crc16Bit (c : Nat) : Nat := if 32768 ≤ c then (c * 2 % 65536) ^^^ 0x1021 else c * 2 % 65536

/-- `n` bits of it. -/
def crc16Bits : Nat → Nat → Nat
  | 0, c => c
  | n + 1, c => crc16Bits n (crc16Bit c)

/-- The CRC-16 over bytes, from a running value. -/
def crc16From : Nat → List Byte → Nat
  | c, [] => c
  | c, b :: bs => crc16From (crc16Bits 8 (c ^^^ (b.toNat * 256))) bs

/-- The CRC-16 of R177: initial value 0xFFFF, no reflection, no final inversion. -/
def crc16 (bs : List Byte) : Nat := crc16From 0xFFFF bs

/-- One bit of the reflected CRC-32 with polynomial 0x04C1_1DB7. -/
def crc32Bit (c : Nat) : Nat := if c % 2 = 1 then (c / 2) ^^^ 0xEDB88320 else c / 2

/-- `n` bits of it. -/
def crc32Bits : Nat → Nat → Nat
  | 0, c => c
  | n + 1, c => crc32Bits n (crc32Bit c)

/-- The CRC-32 over bytes, from a running value. -/
def crc32From : Nat → List Byte → Nat
  | c, [] => c
  | c, b :: bs => crc32From (crc32Bits 8 (c ^^^ b.toNat)) bs

/-- The CRC-32 of R227: initial value and final XOR 0xFFFF_FFFF. -/
def crc32 (bs : List Byte) : Nat := crc32From 0xFFFFFFFF bs ^^^ 0xFFFFFFFF

end Sys2Proof.Machine
end

