-- ==== Sys2Proof/Machine/Mer.lean ====
section
/-! DEFINITION. Meridian: the base counter and its three clocks, the servos, the time state, steps and switches of
source, and the MER commands (spec/17_meridian_time.md). Offsets and errors are in units of 2^-32 ns. -/

namespace Sys2Proof.Machine

/-- One nanosecond in units of 2^-32 ns. -/
def oneNs : Int := 4294967296

/-- A value held between `-m` and `m`. -/
def clampAbs (m x : Int) : Int := if x < -m then -m else if m < x then m else x

/-- The nearest integer to `a / b` for `b` above zero, ties to even. -/
def divEven (a : Int) (b : Nat) : Int :=
  let q := a / (b : Int)
  let r := a % (b : Int)
  if (b : Int) < 2 * r ∨ ((b : Int) = 2 * r ∧ q % 2 ≠ 0) then q + 1 else q

/-- `smax` of R486 per tick: MER_SLEW parts per million of 8 ns. -/
def State.smax (s : State) : Int := ((s.cfN Cf.MER_SLEW 3 * 34359738368 / 1000000 : Nat) : Int)

/-- The servo with index `x` (R487). -/
def MerSt.sv (m : MerSt) (x : Nat) : Servo := if x = 0 then m.sv0 else if x = 1 then m.sv1 else m.sv2

/-- Meridian with one servo replaced. -/
def MerSt.setSv (m : MerSt) (x : Nat) (v : Servo) : MerSt :=
  if x = 0 then { m with sv0 := v } else if x = 1 then { m with sv1 := v } else { m with sv2 := v }

/-- The offset of the PTP domain that an ACTIVE code names: 2 PTP_A, 3 PTP_B. -/
def MerSt.offOf (m : MerSt) (active : Nat) : Int := if active = 2 then m.offA else m.offB

/-- Whether an ACTIVE code names a PTP domain. -/
def isPtp (active : Nat) : Bool := active = 2 || active = 3

/-- The index of the active servo, if a servo steers T. -/
def activeServo (active : Nat) : Option Nat :=
  if active = 1 then some 0 else if active = 2 then some 1 else if active = 3 then some 2 else none

/-! ### The record of D_n (R489) -/

/-- The newest 64 nodes, with one more in front. -/
def pushNode (n : DNode) (h : List DNode) : List DNode := (n :: h).take 64

/-- The record of one domain after its D has moved to `d` at time `t` with `slope` per tick: a new node where the slope
has changed, which takes the place of one of the same instant. -/
def trackD (t d slope : Int) (h : List DNode) : List DNode :=
  match h with
  | [] => [⟨t, d, slope, none⟩]
  | n :: ns =>
    if n.slope = slope then h
    else if n.t = t then { n with slope := slope } :: ns
    else pushNode ⟨t, d, slope, none⟩ h

/-- The record of one domain after a step that moved T from `t` to `t'` and its D from `d` to `d'`. -/
def stepD (t d t' d' : Int) (h : List DNode) : List DNode :=
  match h with
  | [] => [⟨t', d', 0, none⟩]
  | n :: ns => if d = d' then h else pushNode ⟨t', d', n.slope, none⟩ ({ n with stop := some (t, d) } :: ns)

/-- The records after the offsets of `was` have stepped to those of `m`. -/
def MerSt.stepped (was m : MerSt) : MerSt :=
  let b := (m.base : Int) * oneNs
  { m with hist1 := stepD (b + was.offT) (was.offA - was.offT) (b + m.offT) (m.offA - m.offT) m.hist1,
           hist2 := stepD (b + was.offT) (was.offB - was.offT) (b + m.offT) (m.offB - m.offT) m.hist2 }

/-- D at time `t` from the record, newest node first, with the present time and value as its end: between two instants
of the record D moves evenly; none before the oldest. -/
def dAt (t tEnd dEnd : Int) : List DNode → Option Int
  | [] => none
  | n :: ns =>
    if n.t ≤ t then
      let e := n.stop.getD (tEnd, dEnd)
      some (if e.1 ≤ t then e.2 else n.d + (e.2 - n.d) * (t - n.t) / (e.1 - n.t))
    else dAt t n.t n.d ns

/-! ### One tick (R486) -/

/-- One tick of CK_TIME: 8 ns, and the three offsets move as R486 states. -/
def MerSt.tick (m : MerSt) (smax : Int) : MerSt :=
  let t0 := (m.base : Int) * oneNs + m.offT
  let ma := clampAbs smax m.sv1.rem
  let mb := clampAbs smax m.sv2.rem
  let offA := m.offA + m.sv1.rate + ma
  let offB := m.offB + m.sv2.rate + mb
  let x := if m.active = 2 then offA else offB
  let dx := x - m.xPrev
  let mt := clampAbs smax m.sv0.rem
  let offT := if isPtp m.active then m.offT + dx + clampAbs smax (x - (m.offT + dx)) else m.offT + m.rateT + mt
  let rateT := if m.active = 2 then m.sv1.rate else if m.active = 3 then m.sv2.rate else m.rateT
  let sv0 := if isPtp m.active then m.sv0 else { m.sv0 with rem := m.sv0.rem - mt }
  let dA := offA - offT
  let dB := offB - offT
  { m with base := m.base + 8, offA := offA, offB := offB, offT := offT, rateT := rateT, sv0 := sv0,
           sv1 := { m.sv1 with rem := m.sv1.rem - ma }, sv2 := { m.sv2 with rem := m.sv2.rem - mb },
           xPrev := if isPtp m.active then x else m.xPrev,
           hist1 := trackD t0 (m.offA - m.offT) (dA - (m.offA - m.offT)) m.hist1,
           hist2 := trackD t0 (m.offB - m.offT) (dB - (m.offB - m.offT)) m.hist2 }

/-! ### Time state (R491) -/

/-- The row of the time-state table that applies while SET = 1. -/
def State.rawTstate (s : State) : Nat :=
  let m := s.mer
  let st := match activeServo m.active with
    | some x => (m.sv x).state
    | none => 2
  if (m.active ≠ 0 ∧ st < 2) ∨ (m.active = 0 ∧ s.cfN Cf.MER_FREE_ROOT 3 = 0) then 1
  else if m.switching then 4
  else if m.active ≠ 0 ∧ st = 3 then 3
  else 2

/-- TSTATE is formed again; a change logs event 0x7140 and raises Vertex source 132 (R491). -/
def State.restate (s : State) : State :=
  let raw := s.rawTstate
  let set := s.mer.set || raw == 2
  let new := if set then raw else 0
  let old := s.mer.tstate
  let s1 := { s with mer := { s.mer with set := set, tstate := new } }
  if new = old then s1
  else (s1.log 0x7140 0 (w32 old) (w32 new) (w32 s.mer.active)).raise 132 0 new (w32 old)

/-- The low and high word of a step in ns. -/
def nsLo (d : Int) : Word := wInt (d / oneNs)
/-- The high word of a step in ns. -/
def nsHi (d : Int) : Word := wInt (d / oneNs / 4294967296)

/-- T steps by `d`: MER_STEPS, event 0x7141, and the counts of the engines that follow T (R492, R254, R288, R322). -/
def State.stepT (s : State) (cause : Nat) (d : Int) : State :=
  let m := { s.mer with offT := s.mer.offT + d, set := true }
  let s1 := { s with mer := s.mer.stepped m }
  let s2 := (((s1.incF Fld.MER_STEPS_STEPS 0 0 1).incF Fld.TAN_TSTEP_COUNT 0 0 1).incF Fld.LOC_TSTEP_COUNT 0 0 1).incF
    Fld.LAT_TSTEP_COUNT 0 0 1
  s2.log 0x7141 cause (nsLo d) (nsHi d)

/-- While T follows a PTP domain, a difference above STEPMAX is stepped in the cases 1 and 3 of R492. -/
def State.followStep (s : State) : State :=
  if isPtp s.mer.active then
    let d := s.mer.offOf s.mer.active - s.mer.offT
    if (s.cfN Cf.MER_STEPMAX 3 : Int) * oneNs < d.natAbs ∧ (!s.mer.set ∨ s.cfN Cf.MER_STEP_ALLOW 3 = 1) then
      let s1 := s.stepT (if s.mer.set then 3 else 1) d
      ({ s1 with mer := { s1.mer with switching := false } }).restate
    else s
  else s

/-- ACTIVE changes (R493): event 0x7142 with the difference in ns, and SWITCHING while a difference is left. -/
def State.switchTo (s : State) (new cause : Nat) : State :=
  if new = s.mer.active then s
  else
    let d := if isPtp new then s.mer.offT - s.mer.offOf new else 0
    let m := { s.mer with active := new, switching := d != 0, xPrev := if isPtp new then s.mer.offOf new else s.mer.xPrev }
    let s1 := ({ s with mer := m }).log 0x7142 new (w32 s.mer.active) (w32 cause) (nsLo d)
    s1.followStep

/-- With AUTO_SWITCH, T follows the other PTP domain when the active one's servo has just left LOCKED and the other's is
LOCKED (R493). `was` is Meridian before. -/
def State.autoSwitch (s : State) (was : MerSt) : State :=
  if s.cfN Cf.MER_AUTO_SWITCH 3 = 1 ∧ isPtp s.mer.active then
    let here := if s.mer.active = 2 then 1 else 2
    if (was.sv here).state = 2 ∧ (s.mer.sv here).state ≠ 2 ∧ (s.mer.sv (3 - here)).state = 2 then
      s.switchTo (5 - s.mer.active) 1
    else s
  else s

/-- The servo takes a state: event 0x7145 on a change (R491); INCOUNT starts again on entry to FREE_RUN. -/
def State.svState (s : State) (x new : Nat) : State :=
  let v := s.mer.sv x
  if v.state = new then s
  else
    let v' := { v with state := new, hasIn := if new = 0 then false else v.hasIn,
                       inCount := if new = 0 then 0 else v.inCount }
    ({ s with mer := s.mer.setSv x v' }).log 0x7145 x (w32 v.state) (w32 new)

/-! ### Servo inputs (R487) -/

/-- The exact scale of the integrator: units of ppb. -/
def integUnit : Nat := 1000000000 * 2 ^ 181

/-- The product of a binary32 gain, an error in 2^-32 ns and a time in ns, in units of ppb / (10^9 * 2^181). -/
def gainTerm (k : Fl) (e : Int) (dt : Int) : Int :=
  match k with
  | .fin n m ex => sgn n m * e * dt * 2 ^ (ex + 149).toNat
  | _ => 0

/-- The state an input takes a servo to (R491), from its state, the count of inputs within LOCK_THR with this one, and
whether the input is within UNLOCK_THR. -/
def nextServoState (state inCount lockN : Nat) (inUnlock : Bool) : Nat :=
  if state = 0 then 1
  else if state = 1 then (if lockN ≤ inCount then 2 else 1)
  else if !inUnlock then 1
  else 2

/-- Whether an input of servo `x` may step its clock (R487, R492). -/
def State.mayStep (s : State) (x : Nat) (e : Int) : Bool :=
  x != 0 || !s.mer.set ||
    (s.cfN Cf.MER_STEP_ALLOW 3 == 1 && (s.cfN Cf.MER_STEPMAX 3 : Int) * oneNs < e.natAbs)

/-- The clock of servo `x` steps by `-e`. -/
def State.stepClock (s : State) (x : Nat) (e : Int) : State :=
  if x = 0 then s.stepT (if s.mer.set then 2 else 1) (-e)
  else
    let m := if x = 1 then { s.mer with offA := s.mer.offA - e } else { s.mer with offB := s.mer.offB - e }
    ({ s with mer := s.mer.stepped m }).log 0x7146 x (nsLo (-e)) (nsHi (-e))

/-- MER_RATEMAX in the integrator's units. -/
def State.svLimit (s : State) : Int := ((s.cfN Cf.MER_RATEMAX 3 * 1000 * integUnit : Nat) : Int)

/-- The time in ns since the last input of servo `x`, 0 at its first (R487). -/
def State.svGap (s : State) (x : Nat) : Int :=
  let v := s.mer.sv x
  match v.lastBase with
  | some b => if v.hasIn then (s.mer.base : Int) - b else 0
  | none => 0

/-- The integrator after an input within STEP_THR, held within MER_RATEMAX (R487). -/
def State.svInteg (s : State) (x : Nat) (e : Int) : Int :=
  clampAbs s.svLimit ((s.mer.sv x).integ + gainTerm (f32 (s.cf Cf.MER_KI x 0)) e (s.svGap x))

/-- The rate word of an integrator. -/
def rateOf (integ : Int) : Int := divEven (integ * 34359738368) (integUnit * 1000000000)

/-- The remainder that an input leaves to the proportional part: KP times the error, negated (R487). -/
def State.svRem (s : State) (x : Nat) (e : Int) : Int :=
  -(match f32 (s.cf Cf.MER_KP x 0) with
    | .fin n m ex => divEven (sgn n m * e * 2 ^ (ex + 149).toNat) (2 ^ 149)
    | _ => 0)

/-- Whether an integrator stands at either limit. -/
def State.svCapped (s : State) (integ : Int) : Bool := integ == s.svLimit || integ == -s.svLimit

/-- The integrator, rate word and remainder of a servo after an input within STEP_THR (R487). -/
def State.svSteer (s : State) (x : Nat) (e : Int) : Servo × Bool :=
  let integ := s.svInteg x e
  ({ s.mer.sv x with integ := integ, rate := rateOf integ, rem := s.svRem x e, capped := s.svCapped integ },
    s.svCapped integ && !(s.mer.sv x).capped)

/-- A servo takes an accepted input `e` (R487, R491). -/
def State.servoIn (s : State) (x : Nat) (e : Int) : State :=
  let thr := (s.cfN Cf.MER_STEP_THR x : Int) * oneNs
  let s1 :=
    if thr < e.natAbs then
      if s.mayStep x e then
        let s' := s.stepClock x e
        { s' with mer := s'.mer.setSv x { s'.mer.sv x with rem := 0 } }
      else { s with mer := s.mer.setSv x { s.mer.sv x with rem := -e } }
    else
      let (v, hit) := s.svSteer x e
      let m := s.mer.setSv x v
      let s' := { s with mer := if x = 0 then { m with rateT := v.rate } else m }
      if hit then s'.log 0x7147 x (wInt (v.integ / (integUnit : Int))) else s'
  let v := s1.mer.sv x
  let inL := (e.natAbs : Int) ≤ (s.cfN Cf.MER_LOCK_THR x : Int) * oneNs
  let cnt := if inL then satAdd 255 v.inCount 1 else 0
  let inU := decide ((e.natAbs : Int) ≤ (s.cfN Cf.MER_UNLOCK_THR x : Int) * oneNs)
  let v2 := { v with last := e, lastBase := some s.mer.base, hasIn := true, inCount := cnt }
  let s2 := { s1 with mer := s1.mer.setSv x v2 }
  ((s2.svState x (nextServoState v.state cnt (s.cfN Cf.MER_LOCK_N x) inU)).autoSwitch s.mer).restate

/-! ### Commands -/

/-- MER_OFS_GO (R489, R490): `n` is the domain, 1 or 2, `frac` the fraction of theta. -/
def execMerOfsGo (n frac : Nat) (s : State) : Host.Outcome State Fault Refusal :=
  if !s.alive then go s else
  let hi := (s.rd Reg.MER_OFS_HI n 0)
  let th := ((sInt hi) * 4294967296 + ((s.rd Reg.MER_OFS_LO n 0).toNat : Int)) * oneNs + ((frac % 65536 * 65536 : Nat) : Int)
  let tm := s.fullTime (s.rd Reg.MER_OFS_TSEC n 0) (s.rd Reg.MER_OFS_TNS n 0)
  let off := if n = 1 then s.mer.offA else s.mer.offB
  let hist := if n = 1 then s.mer.hist1 else s.mer.hist2
  let reject (r : Nat) : State :=
    ((s.incF Fld.MER_OFS_REJ_COUNT n 0 1).setF Fld.MER_OFS_REJ_REASON n 0 r).logLim 1000000000 0x7143 n
      (fun k => (w32 r, w32 k))
  if s.timeT < tm then go (reject 1)
  else if tm < s.timeT - 2000000000 * oneNs then go (reject 2)
  else match dAt tm s.timeT (off - s.mer.offT) hist with
    | none => go (reject 2)
    | some d => go (s.servoIn n (th + d))

/-- SERVO_HOLDOVER (R491): a LOCKED servo has had no accepted input for HOLD_TMO. -/
def execServoHoldover (x : Nat) (s : State) : Host.Outcome State Fault Refusal :=
  let v := s.mer.sv x
  let age := s.mer.base - v.lastBase.getD 0
  if x < 3 ∧ v.state = 2 ∧ s.cfN Cf.MER_HOLD_TMO x * 1000000 ≤ age then go ((s.svState x 3).autoSwitch s.mer).restate
  else go s

/-- SERVO_FREE_RUN (R491): no accepted input for HOLD_TMO in ACQUIRING, or for HOLD_MAX in HOLDOVER. -/
def execServoFreeRun (x : Nat) (s : State) : Host.Outcome State Fault Refusal :=
  let v := s.mer.sv x
  let age := s.mer.base - v.lastBase.getD 0
  if x < 3 ∧ ((v.state = 1 ∧ s.cfN Cf.MER_HOLD_TMO x * 1000000 ≤ age) ∨
      (v.state = 3 ∧ s.cfN Cf.MER_HOLD_MAX x * 1000000000 ≤ age)) then go ((s.svState x 0).autoSwitch s.mer).restate
  else go s

/-- SLEW_COMPLETE (R491): OFF_T equals the new domain's offset. -/
def execSlewComplete (s : State) : Host.Outcome State Fault Refusal :=
  if s.mer.switching ∧ isPtp s.mer.active ∧ s.mer.offT = s.mer.offOf s.mer.active then
    go ({ s with mer := { s.mer with switching := false } }).restate
  else go s

/-- MER_SET (R499): T takes the value at the decision instant, as a step of cause 0. -/
def execMerSet (it : Item) (s : State) : Host.Outcome State Fault Refusal :=
  serve it s (fun s =>
    if 1000000000 ≤ (it.w 3).toNat then s.complete it stFormat 12
    else if s.mer.active ≠ 0 then s.complete it stState 1
    else
      let t : Int := ((((it.w 5).toNat % 65536 * 4294967296 + (it.w 4).toNat) * 1000000000 + (it.w 3).toNat : Nat) : Int)
        * oneNs
      ((s.stepT 0 (t - s.timeT)).restate).complete it stDone)

/-- The three snapshot words of a clock: HI, SEC, NS (R498's register table). -/
def snapWords (t : Int) : Word × Word × Word :=
  let st := stampOf t
  let frac := (t % oneNs / 65536).toNat
  (w32 (frac * 65536 + st.sec / 4294967296), w32 st.sec, w32 st.ns)

/-- MER_SNAP: GO captures T, VA and VB at one tick. -/
def execMerSnap (s : State) : Host.Outcome State Fault Refusal :=
  if !s.alive then go s else
  let b : Int := (s.mer.base : Int) * oneNs
  let (h0, c0, n0) := snapWords (b + s.mer.offT)
  let (h1, c1, n1) := snapWords (b + s.mer.offA)
  let (h2, c2, n2) := snapWords (b + s.mer.offB)
  let s1 := ((s.wr Reg.MER_SNAP_HI_T 0 0 h0).wr Reg.MER_SNAP_SEC_T 0 0 c0).wr Reg.MER_SNAP_NS_T 0 0 n0
  let s2 := ((s1.wr Reg.MER_SNAP_HI_VA 0 0 h1).wr Reg.MER_SNAP_SEC_VA 0 0 c1).wr Reg.MER_SNAP_NS_VA 0 0 n1
  go (((s2.wr Reg.MER_SNAP_HI_VB 0 0 h2).wr Reg.MER_SNAP_SEC_VB 0 0 c2).wr Reg.MER_SNAP_NS_VB 0 0 n2)

/-- The transmit timestamp queue of a port. -/
def MerSt.txts (m : MerSt) (p : Nat) : List TxTs := if p = 0 then m.txts0 else m.txts1

/-- Meridian with the queue of a port replaced. -/
def MerSt.setTxts (m : MerSt) (p : Nat) (q : List TxTs) : MerSt :=
  if p = 0 then { m with txts0 := q } else { m with txts1 := q }

/-- MER_TXTS_POP (R497): the oldest entry is removed. -/
def execMerTxtsPop (p : Nat) (s : State) : Host.Outcome State Fault Refusal :=
  if s.alive then go { s with mer := s.mer.setTxts p ((s.mer.txts p).drop 1) } else go s

/-- A PTP event message's stamp enters the queue of its port, or is dropped when the queue is full (R496). -/
def State.txtsAdd (s : State) (p : Nat) (x : TxTs) : State :=
  let q := s.mer.txts p
  if q.length < 16 then
    let m := s.mer.setTxts p (q ++ [x])
    ({ s with mer := { m with txtsEpisode := tset false m.txtsEpisode p false } }).raise (130 + p) p x.msgType
      (w32 x.seqId)
  else
    let n := satAdd 65535 (tget 0 s.mer.txtsOvf p) 1
    let first := !(tget false s.mer.txtsEpisode p)
    let s1 := { s with mer := { s.mer with txtsOvf := tset 0 s.mer.txtsOvf p n,
                                           txtsEpisode := tset false s.mer.txtsEpisode p true } }
    if first then s1.log 0x7144 p (w32 n) else s1

/-- One tick of CK_TIME for the whole module: Meridian moves (R485, R486). -/
def State.timeTick (s : State) : State := ({ s with mer := s.mer.tick s.smax }).followStep

end Sys2Proof.Machine
end

