-- ==== Sys2Proof/Machine/Coord.lean ====
section
/-! DEFINITION. The roles of the module and the coordinate table (R80, R503, R513 to R515, R539). -/

namespace Sys2Proof.Machine

/-- The base coding as read at the cold start (R46): 0 LX-TB2 slot A, 1 LX-TB2 slot B, 2 LX-TB1, 3 none. -/
def State.baseId (s : State) : Nat := s.fld Fld.SYS_HWSTAT_BASE_ID 0 0

/-- The module sits in a twin base, and so in a pair (R46, R536). -/
def State.inPair (s : State) : Bool := s.baseId < 2

/-- The device ID (R503). -/
def State.device (s : State) : Nat :=
  if s.isManager then (if s.baseId = 1 then 1 else 0)
  else if s.isAlone then 0 else s.cfN Cf.VXL_DEVICE_ID 4

/-- The device number of the module's own coordinates (R513): the pair's even ID for a member of a pair. -/
def State.coordDevice (s : State) : Nat := if s.inPair then s.device / 2 * 2 else s.device

/-- The mode of a global channel (R192). -/
def State.chMode (s : State) (ch : Nat) : Nat := s.cfN Cf.FCT_CH_MODE ch

/-- Analog input modes: AI_V, AI_I, AI_I_HART. -/
def isAI (m : Nat) : Bool := 1 ≤ m && m ≤ 3
/-- Analog output modes: AO_I, AO_I_HART, AO_V. -/
def isAO (m : Nat) : Bool := 4 ≤ m && m ≤ 6
/-- Current output modes. -/
def isAOI (m : Nat) : Bool := m = 4 || m = 5
/-- Output modes. -/
def isOut (m : Nat) : Bool := isAO m || m = 8
/-- Input modes. -/
def isIn (m : Nat) : Bool := isAI m || m = 7 || m = 9

/-- The definition of entry `e` (R533). -/
def State.ctDef (s : State) (e : Nat) : Word := s.cf Cf.VXL_CT_DEF 5 e

/-- KIND of entry `e`: 0 NONE, 1 SUB, 2 SOFT, 3 LOOP. -/
def State.ctKind (s : State) (e : Nat) : Nat := bitsOf (s.ctDef e) 28 4

/-- What an entry without a value holds (R513). -/
def coNone : CoEntry := ⟨0, 15, 0, 0, 0⟩

/-- Entry `e` of the coordinate table. -/
def State.co (s : State) (e : Nat) : CoEntry := tget coNone s.vxl.coords e

/-- The state with entry `e` replaced. -/
def State.setCo (s : State) (e : Nat) (c : CoEntry) : State :=
  { s with vxl := { s.vxl with coords := tset coNone s.vxl.coords e c } }

/-- A value of this module reaches its entry, with its stamp. -/
def State.coPut (s : State) (e : Nat) (v : Word) (q : Nat) (t : Int) : State := s.setCo e ⟨v, q, t, 0, 0⟩

/-- Whether entry `e` holds binary32 (R513, R514). -/
def State.coFloat (s : State) (e : Nat) : Bool :=
  if e < 128 then
    let m := s.chMode e
    !(m = 7 || m = 8 || (m = 9 && s.cfN Cf.FCT_PI_OUT e == 0))
  else
    let k := s.ctKind e
    if k = 1 then !(tget false s.vxl.subInt e) else if k = 2 then bitOf (s.ctDef e) 27 else k == 3

/-- The SUB entries with the coordinates they name, in ascending order. -/
def State.subs (s : State) : List (Nat × Nat) :=
  s.cfg.active.filterMap (fun kv =>
    if keyBlock kv.1 = 0xF ∧ keyInst kv.1 = 5 ∧ keyFld kv.1 = 0x200 ∧ bitsOf kv.2 28 4 = 1 ∧ keyElem kv.1 < 4096 then
      some (keyElem kv.1, bitsOf kv.2 0 22) else none)

/-- The coordinate that entry `e` holds (VXL_CTSTAT.COORD). -/
def State.coordOf (s : State) (e : Nat) : Nat :=
  if s.ctKind e = 1 ∧ 128 ≤ e then bitsOf (s.ctDef e) 0 22 else s.coordDevice * 4096 + e

/-- The entry that holds a coordinate, if one does (R513). -/
def State.entryOf (s : State) (coord : Nat) : Option Nat :=
  let e := coord % 4096
  if coord / 4096 = s.coordDevice ∧ (e < 128 ∨ s.ctKind e = 2 ∨ s.ctKind e = 3) then some e
  else (s.subs.find? (fun p => p.2 == coord)).map (fun p => p.1)

/-- The value and quality of a coordinate; BAD when the table does not hold it. -/
def State.coordVal (s : State) (coord : Nat) : CoEntry :=
  match s.entryOf coord with
  | some e => s.co e
  | none => coNone

/-- The quality codes that R515 defines. -/
def qualityOk (q : Nat) : Bool := q ≤ 5 || q = 8 || q = 15

/-- The entries with PUB = 1 whose publication is granted or needs no grant, in ascending order (R516, R529). -/
def State.pubs (s : State) : List Nat :=
  (s.cfg.active.filterMap (fun kv =>
    if keyBlock kv.1 = 0xF ∧ keyInst kv.1 = 5 ∧ keyFld kv.1 = 0x201 ∧ bitOf kv.2 31 ∧ keyElem kv.1 < 4096 then
      some (keyElem kv.1) else none)).filter (fun e => s.isManager || tget false s.vxl.granted e)

end Sys2Proof.Machine
end

