-- ==== Sys2Proof/Machine/Operands.lean ====
section
/-! DEFINITION. The operands of an item: the sixteen words of a descriptor, the checks it passes, and the item it spells
(R117, R118, R123, R137). -/

namespace Sys2Proof.Machine

/-- The opcodes the spec lists (R123), each with the payload words it uses (3 up to the given word; 2 none). -/
def opcodes : List (Nat × Nat) :=
  [(0x0200, 2), (0x0201, 4), (0x0202, 4), (0x0110, 6), (0x0111, 2), (0x0112, 2), (0x0113, 2)] ++
  [(0x0300, 13), (0x0301, 8), (0x0302, 4), (0x0303, 3), (0x0304, 5), (0x0305, 2), (0x0306, 5), (0x0307, 5)] ++
  [(0x0500, 5), (0x0600, 4), (0x0601, 3)] ++
  [(0x0700, 3), (0x0701, 3), (0x0702, 3), (0x0703, 8), (0x0704, 2)] ++
  [(0x0800, 3), (0x0801, 2), (0x0802, 2), (0x0803, 2), (0x0804, 3), (0x0805, 2), (0x0806, 3), (0x0807, 4), (0x0808, 12),
   (0x0809, 2)] ++
  [(0x0900, 5), (0x0901, 3), (0x0902, 2), (0x0903, 3), (0x0904, 4)] ++
  [(0x0A00, 6), (0x0A01, 5), (0x0A02, 3), (0x0A03, 3)] ++
  [(0x0B00, 4), (0x0B01, 2), (0x0B02, 2), (0x0B03, 4), (0x0B04, 6), (0x0B05, 8)] ++
  [(0x0C00, 8), (0x0C01, 2), (0x0C02, 2), (0x0C03, 2)] ++
  [(0x0D00, 6), (0x0D01, 3), (0x0E00, 12), (0x0E01, 3)] ++
  [(0x0F00, 4), (0x0F01, 2), (0x0F02, 4), (0x1000, 3), (0x1001, 2), (0x1100, 3)] ++
  [(0x1200, 3), (0x1201, 3), (0x1202, 2), (0x1210, 2), (0x1211, 5), (0x1212, 5), (0x1213, 6), (0x1214, 3), (0x1215, 9)]

/-- The opcodes that travel with REMOTE = 1 (R137). -/
def travels (op : Nat) : Bool :=
  op = 0x0600 || (0x0700 ≤ op && op ≤ 0x0702) || (0x0800 ≤ op && op ≤ 0x0809) || op = 0x0900 || op = 0x0F00 ||
    op = 0x1200 || op = 0x1201

/-- The first word of the payload, from word `n` on, that is not zero. -/
def firstNonzero : Nat → List Word → Option Nat
  | _, [] => none
  | n, w :: ws => if w = 0 then firstNonzero (n + 1) ws else some n

/-- The checks of R118 in order: the byte offset of the first field that fails. `ws` is the whole descriptor. -/
def descriptorError (ws : List Word) : Option Nat :=
  let w0 := ws.getD 0 0
  let w2 := ws.getD 2 0
  let op := bitsOf w0 0 16
  if bitsOf w0 18 14 ≠ 0 then some 2
  else if ws.getD 15 0 ≠ 0 then some 60
  else match opcodes.find? (fun o => o.1 == op) with
    | none => some 0
    | some (_, last) =>
      if bitsOf w2 15 6 ≠ op / 256 then some 8
      else if !(bitOf w2 31) ∧ bitsOf w2 21 10 ≠ 0 then some 8
      else if bitOf w2 31 ∧ !(travels op) then some 8
      else match firstNonzero (last + 1) ((ws.drop (last + 1)).take (14 - last)) with
        | some n => some (4 * n)
        | none => none

/-- The item that a descriptor of a ring spells (R117). -/
def itemOf (ring : Nat) (ws : List Word) : Item :=
  let w0 := ws.getD 0 0
  let w2 := ws.getD 2 0
  { ring := ring, seq := ws.getD 1 0, flags := bitsOf w0 16 16, remote := bitOf w2 31, device := bitsOf w2 21 10,
    block := bitsOf w2 15 6, inst := bitsOf w2 0 15, payload := (ws.drop 3).take 12, origin := none }

end Sys2Proof.Machine
end

