-- ==== Sys2Proof/Machine/Vxl.lean ====
section
/-! DEFINITION. Vexlink: ports, frames, time marks, the system scan cycle, grants, remote items, joining and leaving,
and the VXL opcodes (spec/18_vexlink_hierarchy.md). -/

namespace Sys2Proof.Machine

/-! ### Frames (R507, R508). The spec names the kinds of a frame and not their codes, which are free
(notes/assumptions/8.md). -/

/-- The code of a kind: 12 bits (R507). -/
def kindOf (ty n : Nat) : Nat := Config.vxlKind ty n % 4096

/-- KIND MARK and KIND CYCLE of a TIME frame (R510, R516). -/
def kMark : Nat := kindOf 3 0
def kCycle : Nat := kindOf 3 1
/-- The kinds of an MGMT frame: HELLO, ALIVE, a request or reply of a grant, a forwarding table. -/
def kHello : Nat := kindOf 5 0
def kAlive : Nat := kindOf 5 1
def kGrant : Nat := kindOf 5 2
def kTable : Nat := kindOf 5 3
/-- The MGMT frame by which a gateway tells which uplink of its ring is in use. The spec lets every module show it
(VXL_STATUS.UPLINK) and names no frame for it (DESIGN CHOICE, notes/assumptions/141.md). -/
def kUplink : Nat := kindOf 5 4
/-- The kinds of a JOIN frame: a request, a reply, a leave. -/
def kJoin : Nat := kindOf 6 0
def kReply : Nat := kindOf 6 1
def kLeave : Nat := kindOf 6 2

/-- Whether a port drives and receives its route: PD_VXL and CK_VXL are there, the module is not strapped STANDALONE
(R80), and the committed ROUTE is not OFF (R49, R501). -/
def State.portOn (s : State) (p : Nat) : Bool :=
  s.domOn 6 && s.clkOn 6 && !s.isAlone && s.cfN Cf.VXL_ROUTE p != 2

/-- Whether a port is UP. -/
def State.portUp (s : State) (p : Nat) : Bool := s.fld Fld.VXL_PORT_STATE p 0 = 2

/-- A frame goes out on a port that is UP. -/
def State.sendOn (s : State) (p : Nat) (f : Frame) : State := if s.portUp p then s.emit (.vxl p f) else s

/-- A frame of this module, with the next sequence number, on the given ports (R508). -/
def State.sendFrame (s : State) (ports : List Nat) (ty : Nat) (scope : Bool) (dst kind : Nat) (aux : Word)
    (payload : List Word) : State :=
  let f : Frame := ⟨ty, scope, 0, s.device, dst, kind, s.vxl.fseq, aux, payload⟩
  let s1 := { s with vxl := { s.vxl with fseq := s.vxl.fseq + 1 } }
  ports.foldl (fun st p => st.sendOn p f) s1

/-- A frame of this module to another module: on VX0 and VX1 (R508). -/
def State.sendTo (s : State) (ty dst kind : Nat) (payload : List Word) : State :=
  s.sendFrame [0, 1] ty true dst kind 0 payload

/-- The window takes a sequence number: whether it is the first copy, and the window after it (R508). -/
def SeqWin.take (w : SeqWin) (q : Word) : Bool × SeqWin :=
  if !w.seen then (true, ⟨true, q, 0⟩)
  else
    let d := (q - w.high).toNat
    if d = 0 then (false, w)
    else if d < 2147483648 then
      (true, ⟨true, q, if 65 ≤ d then 0 else (w.mask * 2 ^ d + 2 ^ (d - 1)) % 2 ^ 64⟩)
    else
      let b := 4294967296 - d
      if 64 < b then (false, w)
      else if (w.mask / 2 ^ (b - 1)) % 2 = 1 then (false, w)
      else (true, { w with mask := w.mask + 2 ^ (b - 1) })

/-- Whether a window holds a sequence number as taken. -/
def SeqWin.has (w : SeqWin) (q : Word) : Bool :=
  let b := (w.high - q).toNat
  w.seen && (b = 0 || (decide (b ≤ 64) && w.mask / 2 ^ (b - 1) % 2 == 1))

/-- The window of a source before any frame of it. -/
def winNone : SeqWin := ⟨false, 0, 0⟩

/-- The ring of this module. -/
def State.ring (s : State) : Nat := s.fld Fld.VXL_STATUS_RING 0 0

/-- The uplink in use: VX2 of a gateway, whose neighbour at VX2 is the primary end (position = ring) or the alternate
end (R504, R506). -/
def State.carriesUplink (s : State) : Bool :=
  s.ring != 0 && s.portUp 2 &&
    ((s.fld Fld.VXL_PORT_NEIGHBOUR 2 0 % 32 == s.ring) == (s.fld Fld.VXL_STATUS_UPLINK 0 0 == 0))

/-- A frame that goes to every module: a TIME frame, or a forwarding table (R507, R510, R521). -/
def floods (f : Frame) : Bool := f.ty == 3 || (f.ty == 5 && f.kind == kTable)

/-- The coordinates of the entries in a SCAN payload, two words each, low word first (R517). -/
def scanCoords (src : Nat) : List Word → List Nat
  | _ :: h :: r => (src * 4096 + h.toNat / 1048576) :: scanCoords src r
  | _ => []

/-- Whether a frame goes down to ring `k`: its destination or the forwarding table names the ring (R508). -/
def State.goesDown (s : State) (f : Frame) (k : Nat) : Bool :=
  k != 0 && (floods f ||
    (if f.ty = 1 then
      let cs := scanCoords f.src f.payload
      s.vxl.fwd.any (fun p => p.2 == k && cs.contains p.1)
    else f.dst / 32 == k))

/-- The ring that a downlink of this root-ring module serves: VX3 its own position's, VX2 that of the position beside it
(R504). -/
def State.downRing (s : State) (p : Nat) : Nat :=
  let j := s.device % 32
  if p = 3 then j else if j % 2 = 0 then j + 1 else j - 1

/-- The ports on which a frame of system scope leaves for another ring (R508): a gateway's uplink, or the downlinks of a
root-ring module. An uplink that is not in use carries TIME frames only (R506). -/
def State.crossPorts (s : State) (port : Nat) (f : Frame) : List Nat :=
  if !f.scope then []
  else if s.ring ≠ 0 then
    if port = 2 then [0, 1] else if f.ty = 3 ∨ s.carriesUplink then [2] else []
  else if 2 ≤ port then [0, 1]
  else [3, 2].filter (fun p =>
    let k := s.downRing p
    s.goesDown f k && (f.ty == 3 || tget 0 s.vxl.upl k == 3 - p))

/-- Whether this module is the origin of a copy that comes back on its ring: of its own frames, and of those it has sent
into the ring from another (R508). -/
def State.returned (s : State) (port : Nat) (f : Frame) : Bool :=
  f.src == s.device || (decide (port < 2) && (tget winNone s.vxl.inj f.src).has f.fseq)

/-- A copy `g` of a frame goes onward in its direction. -/
def State.onward (s : State) (port : Nat) (g : Frame) : State :=
  if port = 0 then s.sendOn 1 { g with hops := g.hops + 1 }
  else if port = 1 then s.sendOn 0 { g with hops := g.hops + 1 } else s

/-- The window of a frame's source after the frame. -/
def State.winTaken (s : State) (f : Frame) : State :=
  { s with vxl := { s.vxl with win := tset winNone s.vxl.win f.src ((tget winNone s.vxl.win f.src).take f.fseq).2 } }

/-- The first copy goes on into the other rings with HOPS = 0. What it sends into its own ring it removes on return. -/
def State.cross (s : State) (port : Nat) (g : Frame) : State :=
  let ps := s.crossPorts port g
  let s1 := if ps.contains 0 then
      let w := ((tget winNone s.vxl.inj g.src).take g.fseq).2
      { s with vxl := { s.vxl with inj := tset winNone s.vxl.inj g.src w } }
    else s
  ps.foldl (fun st p => st.sendOn p { g with hops := 0 }) s1

/-- This module learns which uplink of a ring is in use: of its own ring it shows it, with event 0x23CA on a switch; of
another, its downlinks follow it (R506). -/
def State.uplinkNote (s : State) (k u : Nat) : State :=
  if k ≠ s.ring then { s with vxl := { s.vxl with upl := tset 0 s.vxl.upl k u } }
  else if s.fld Fld.VXL_STATUS_UPLINK 0 0 = u then s
  else (s.setF Fld.VXL_STATUS_UPLINK 0 0 u).log 0x23CA k (w32 u)

/-- The uplink of the ring switches at its primary gateway, which tells the others: 0 primary, 1 alternate (R506). -/
def State.setUplink (s : State) (u : Nat) : State :=
  if s.fld Fld.VXL_STATUS_UPLINK 0 0 = u then s
  else (s.uplinkNote s.ring u).sendFrame [0, 1, 2] 5 true 0 kUplink 0 [w32 s.ring, w32 u]

/-- A port that is UP goes DOWN (R502): a ring segment that opens logs 0x23C2 (R508), and a primary uplink that goes down
gives way to the alternate (R506). -/
def State.portFall (s : State) (port : Nat) : State :=
  let nb := s.fld Fld.VXL_PORT_NEIGHBOUR port 0
  let s1 := (s.setF Fld.VXL_PORT_STATE port 0 0).log 0x23C1 port (w32 (s.fld Fld.VXL_PORT_CRCERR port 0))
  if port < 2 then (s1.setF Fld.VXL_STATUS_RING_OPEN 0 0 1).log 0x23C2 port (w32 nb)
  else if port = 2 ∧ s.ring ≠ 0 ∧ nb % 32 = s.ring then s1.setUplink 1
  else s1

/-- A frame fails its CRC: the fourth in a row takes the port DOWN (R502). -/
def State.crcBad (s : State) (port : Nat) : State :=
  let k := tget 0 s.vxl.badRun port + 1
  let s1 := (s.incF Fld.VXL_PORT_CRCERR port 0 1)
  let s2 := { s1 with vxl := { s1.vxl with badRun := tset 0 s1.vxl.badRun port (if 4 ≤ k then 0 else k) } }
  if 4 ≤ k ∧ s2.portUp port then s2.portFall port else s2

/-- The next frame on a port is sound. -/
def State.crcGood (s : State) (port : Nat) : State :=
  { s with vxl := { s.vxl with badRun := tset 0 s.vxl.badRun port 0 } }

/-- The payloads that carry a forwarding table: a word that is 0 in the first frame of a table and 1 in the others, and
up to 1,023 words with a coordinate in [21:0] and a ring in [26:22] each (DESIGN CHOICE, notes/assumptions/141.md). -/
def tableFrames : Nat → Bool → List (Nat × Nat) → List (List Word)
  | 0, _, _ => []
  | n + 1, first, t =>
    let ws := w32 (if first then 0 else 1) :: (t.take 1023).map (fun p => w32 (p.2 * 4194304 + p.1))
    if t.length ≤ 1023 then [ws] else ws :: tableFrames n false (t.drop 1023)

/-- The forwarding table that a payload adds to the one taken so far. -/
def tableTake (t : List (Nat × Nat)) (ws : List Word) : List (Nat × Nat) :=
  (if ws.headD 0 = 0 then [] else t) ++ (ws.drop 1).map (fun w => (bitsOf w 0 22, bitsOf w 22 5))

/-- The active manager sends a forwarding table to the modules. -/
def State.sendTable (s : State) (t : List (Nat × Nat)) : State :=
  (tableFrames (t.length + 1) true t).foldl (fun st ws => st.sendTo 5 0 kTable ws) s

/-- What the module itself takes from the first copy of a frame: the presence of its source (R516), the forwarding table
(R521), and the uplink in use (R506). -/
def State.takeFrame (s : State) (f : Frame) : State :=
  if f.ty = 1 ∨ (f.ty = 5 ∧ f.kind = kAlive) then
    { s with vxl := { s.vxl with presence := tset 0 s.vxl.presence f.src 0 } }
  else if f.ty = 5 ∧ f.kind = kTable then { s with vxl := { s.vxl with fwd := tableTake s.vxl.fwd f.payload } }
  else if f.ty = 5 ∧ f.kind = kUplink then
    s.uplinkNote (f.payload.getD 0 0).toNat (f.payload.getD 1 0).toNat
  else s

/-- VXL_FRAME_RX (R502, R507, R508): a copy is dropped on a bad CRC, removed when it returns to its origin, discarded at
HOPS = 63, and otherwise forwarded onward; the first copy also goes on into another ring. HELLO and MIRROR frames stay on
their link; a mark is forwarded by TIME_MARK_RX, which adds to its CORR. -/
def execVxlFrameRx (port : Nat) (f : Frame) (crcOk : Bool) (s : State) : Host.Outcome State Fault Refusal :=
  if !(s.portOn port) ∨ 4 ≤ port then go s
  else if !crcOk then go (s.crcBad port)
  else
    let s0 := s.crcGood port
    if s0.returned port f ∨ 63 ≤ f.hops ∨ (f.ty = 3 ∧ f.kind = kMark) then go s0
    else
      let s1 := if f.ty = 4 ∨ (f.ty = 5 ∧ f.kind = kHello) then s0 else s0.onward port f
      let first := ((tget winNone s.vxl.win f.src).take f.fseq).1
      go (if first then ((s1.winTaken f).takeFrame f).cross port f else s1.winTaken f)

/-! ### Ports (R502, R505, R506, R511) -/

/-- VXL_PORT_UP (R502): the repair of a ring segment logs 0x03C3 (R508). -/
def execVxlPortUp (port neighbour : Nat) (s : State) : Host.Outcome State Fault Refusal :=
  if 4 ≤ port ∨ s.portUp port ∨ !(s.portOn port) then go s
  else
    let s1 := ((s.setF Fld.VXL_PORT_STATE port 0 2).setF Fld.VXL_PORT_NEIGHBOUR port 0 neighbour).log 0x03C0 port
      (w32 neighbour)
    if port < 2 then
      let s2 := if s.bit Fld.VXL_STATUS_RING_OPEN 0 0 then s1.log 0x03C3 port else s1
      go (s2.setF Fld.VXL_STATUS_RING_OPEN 0 0 (if s2.portUp 0 && s2.portUp 1 then 0 else 1))
    else if port = 2 ∧ s.ring ≠ 0 ∧ neighbour % 32 = s.ring then go (s1.setUplink 0)
    else go s1

/-- VXL_PORT_DOWN (R502). -/
def execVxlPortDown (port : Nat) (s : State) : Host.Outcome State Fault Refusal :=
  if 4 ≤ port ∨ !(s.portUp port) then go s else go (s.portFall port)

/-- HELLO_SEND (R502): device ID, ring, role, base slot and port number on each port. A port that is not UP yet sends it
too, since its neighbour is UP only by it. -/
def execHelloSend (s : State) : Host.Outcome State Fault Refusal :=
  go ([0, 1, 2, 3].foldl (fun st p =>
    if st.portOn p then
      let f : Frame := ⟨5, false, 0, st.device, 0, kHello, st.vxl.fseq, 0,
        [w32 st.device, w32 st.ring, w32 st.role, w32 st.baseId, w32 p]⟩
      { st with vxl := { st.vxl with fseq := st.vxl.fseq + 1 } }.emit (.vxl p f)
    else st) s)

/-- HELLO_RX (R502, R505): the neighbour, and the ring number: a gateway learns it at VX2 from the root-ring module
there, every other module from its ring neighbours. -/
def execHelloRx (port device : Nat) (ring : Option Nat) (peerPort : Nat) (s : State) :
    Host.Outcome State Fault Refusal :=
  if !(s.portOn port) ∨ 4 ≤ port then go s else
  let s1 := s.setF Fld.VXL_PORT_NEIGHBOUR port 0 device
  let pos := device % 32
  let learnt : Option Nat :=
    if s.isManager then some 0
    else if port = 2 ∧ device / 32 = 0 then some (if peerPort = 3 then pos else if pos % 2 = 0 then pos + 1 else pos - 1)
    else if port < 2 then ring else none
  match learnt with
  | none => go s1
  | some k =>
    let s2 := { s1.setF Fld.VXL_STATUS_RING 0 0 k with vxl := { s1.vxl with ringKnown := true } }
    if s.isAlone ∨ s.fld Fld.VXL_STATUS_JSTATE 0 0 ≠ 0 then go s2
    else go (s2.setF Fld.VXL_STATUS_JSTATE 0 0 (if s.isManager then 2 else if s.device = 0 then 4 else 1))

/-- RING_NUMBER_TIMEOUT (R505): no ring number within 100 ms. -/
def execRingNumberTimeout (s : State) : Host.Outcome State Fault Refusal :=
  if s.vxl.ringKnown ∨ s.isManager then go s else go (s.setF Fld.VXL_STATUS_JSTATE 0 0 0)

/-- LINK_DELAY_MEASURE (R511): half the round trip plus ASYM, in units of 2^-8 ns. -/
def execLinkDelayMeasure (port : Nat) (roundTrip : Int) (s : State) : Host.Outcome State Fault Refusal :=
  if 4 ≤ port ∨ !(s.portOn port) then go s
  else go (s.wr Reg.VXL_PDELAY port 0 (wInt (roundTrip / 2 + (f32 (s.cf Cf.VXL_ASYM port 0)).scaleInt 1 8)))

/-! ### Time marks (R510) -/

/-- The words of a full stamp in a payload (R481): fraction and high seconds, seconds, nanoseconds. -/
def stampWords (t : Int) : List Word :=
  let w := snapWords t
  [w.1, w.2.1, w.2.2]

/-- TIME_MARK_SEND (R510): the active manager floods a mark with CORR = 0. -/
def execTimeMarkSend (s : State) : Host.Outcome State Fault Refusal :=
  if s.isManager ∧ !s.standby then
    go (s.sendFrame [0, 1, 2, 3] 3 true 0 kMark 0 (stampWords s.timeT ++ [0, 0]))
  else go s

/-- TIME_MARK_RX (R508, R510): a copy `f` of a mark with emission stamp `em` and ingress stamp `ing` in 2^-32 ns, `corr`
and `residence` in 2^-16 ns. The first copy gives servo 0 its input, which it acts on only while ACTIVE = VXL (R488); the
second shows in VXL_TDIFF. The copy goes on with its residence time and the link delay added. -/
def execTimeMarkRx (port : Nat) (f : Frame) (em corr ing : Int) (residence : Nat) (s : State) :
    Host.Outcome State Fault Refusal :=
  if !(s.portOn port) ∨ 4 ≤ port ∨ s.returned port f ∨ 63 ≤ f.hops then go s
  else
    let delay := sInt (s.rd Reg.VXL_PDELAY port 0)
    let e := ing - (em + corr * 65536 + delay * 16777216)
    let corr' := corr + residence + delay * 256
    let f' := { f with payload := f.payload.take 3 ++ [wInt corr', wInt (corr' / 4294967296)] }
    let s2 := ((s.crcGood port).onward port f').winTaken f
    if ((tget winNone s.vxl.win f.src).take f.fseq).1 then
      let s3 := s2.cross port f'
      let s4 := { s3 with vxl := { s3.vxl with mark := some (em, e) } }
      go (if s.mer.active = 1 then s4.servoIn 0 e else s4)
    else match s.vxl.mark with
      | some (em0, e0) => if em0 = em then go (s2.wr Reg.VXL_TDIFF 0 0 (wInt ((e - e0) / 16777216))) else go s2
      | none => go s2

/-! ### Remote items (R525 to R527) -/

/-- The key that the intake of a target gives a ring of another module. -/
def remoteRing (device ring : Nat) : Nat := 128 + device * 64 + ring

/-- REMOTE_ITEM_RX (R525, R526, R543): the target refuses an item whose opcode does not travel (R6, R137), that is
recorded as refused, that finds PD_ENG in reset, that comes after the module's presence was lost (R527), or that arrives
after its deadline; otherwise it enters its intake log with its deadline and is accepted. -/
def execRemoteItemRx (opcode : Nat) (it : Item) (deadline : Stamp) (s : State) : Host.Outcome State Fault Refusal :=
  let dev := it.origin.getD 0
  let ring := remoteRing dev it.ring
  let refuse (st : Nat) (d0 : List Word) : State := s.emit (.result dev ring it.seq st d0 [])
  let left := stTime deadline - s.timeT
  if s.standby ∨ !s.alive then go s
  else if !(travels opcode) ∨ it.block ≠ opcode / 256 then
    go (refuse stFormat [stNs s.now, stSec s.now, if travels opcode then 8 else 0, 0, 0, 0])
  else if s.vxl.refused.contains (dev, it.ring, it.seq) then go (refuse stTimeout [])
  else if s.sys.mode ≠ .running ∨ !(s.domOn 3) ∨ s.sys.gone.isSome then go (refuse stAbsent [])
  else if left < 0 then go (refuse stTimeout [])
  else
    let it' := { it with ring := ring, origin := some dev }
    let s1 := (s.intakeAdd ring it.seq .inFlight).emit (.accept dev ring it.seq)
    let due := s.mer.base + (left / oneNs).toNat
    go { s1 with hif := { s1.hif with inflight := s1.hif.inflight ++ [⟨opcode, it', .fetched, true, due, [], none, none⟩] } }

/-- A module that leaves on a leave notice answers every remote item it holds (R527): DONE where its commit point is
past, and as one that has left otherwise (R526; DEDUCED, notes/assumptions/125.md). -/
def State.remoteLeave (s : State) : State :=
  (s.hif.inflight.filter (fun x => x.item.origin.isSome)).foldl (fun s x =>
    s.complete x.item (if x.phase == .committed then stDone else stAbsent)) s

/-- REMOTE_RESULT_RX (R526): the originator completes the item with the target's status and stamp. Clamps go to the
REPORT ring of the item's submission ring, which lies here (R210). -/
def execRemoteResultRx (ring : Nat) (seq : Word) (status : Nat) (res : ResultAt) (d0 d1 d2 d3 : Word) (s : State) : Host.Outcome State Fault Refusal :=
  match s.flight ring seq with
  | none => go s
  | some f => go (if status = stClamped then s.completeClampedAt f.item res.st res.clamps else s.completeAt f.item res.st status d0 d1 d2 d3)

/-- REMOTE_QUERY_TIMER (R526): from 2 ms after the deadline on, a query every 10 ms. The first logs event 0x23CD, whose
sequence number stands behind the outcome. -/
def execRemoteQueryTimer (ring : Nat) (seq : Word) (s : State) : Host.Outcome State Fault Refusal :=
  match s.flight ring seq with
  | none => go s
  | some f =>
    if f.item.remote ∧ f.phase = .waiting ∧ f.deadline + 2000000 ≤ s.mer.base then
      let s1 := s.emit (.query f.item.device ring seq)
      match f.note with
      | [] =>
        let n := (s.hif.inflight.filter (fun g => g.item.device == f.item.device && g.item.remote)).length
        let s2 := { s1 with hif := { s1.hif with
          inflight := flightUpd ring seq (fun x => { x with note := [s.tr.hlx.seq] }) s1.hif.inflight } }
        go (s2.log 0x23CD f.item.device (w32 n))
      | _ :: _ => go s1
    else go s

/-- REMOTE_QUERY_RX (R526): the target answers from its intake log; an item it has not entered is recorded as refused. -/
def execRemoteQueryRx (device ring : Nat) (seq : Word) (s : State) : Host.Outcome State Fault Refusal :=
  let k := remoteRing device ring
  if s.standby then go s
  else match s.intakeOf k seq with
    | none =>
      go ({ s with vxl := { s.vxl with refused := (device, ring, seq) :: s.vxl.refused } }.emit
        (.answer device k seq 0 0))
    | some e =>
      match e.verdict with
      | .applied st => go (s.emit (.answer device k seq 1 st))
      | .notApplied st => go (s.emit (.answer device k seq 2 st))
      | .inFlight => go (s.emit (.answer device k seq 3 0))

/-- QUERY_ANSWER_RX (R526): 1 APPLIED gives the recorded status, NOT_FOUND and NOT_APPLIED give FAILED_TIMEOUT with the
event behind it; an item still in flight at its target stays so. -/
def execQueryAnswerRx (ring : Nat) (seq : Word) (verdict status : Nat) (s : State) : Host.Outcome State Fault Refusal :=
  match s.flight ring seq with
  | none => go s
  | some f =>
    if verdict = 1 then go (s.complete f.item status)
    else if verdict = 3 then go s
    else go (s.complete f.item stTimeout 0x23CD (f.note.headD 0))

/-! ### The system scan cycle (R516 to R519) -/

/-- AGE of a value (R517): the smallest exponent whose mantissa fits in 12 bits, of an age in ns. -/
def ageCode : Nat → Nat → Nat → Nat
  | 0, _, _ => 0xFFFF
  | n + 1, e, k => if k ≤ 4095 then e * 4096 + k else ageCode n (e + 1) (k / 2)

/-- AGE of an age in ns; 1,073,479,680 ns and more reads 0xFFFF. -/
def ageOf (ns : Int) : Nat := if ns < 0 then 0 else if 1073479680 ≤ ns then 0xFFFF else ageCode 16 0 (ns / 8).toNat

/-- The age in ns that a code stands for. -/
def ageNs (a : Nat) : Int := ((a % 4096 * 2 ^ (a / 4096) * 8 : Nat) : Int)

/-- The two words of a SCAN entry (R517), low word first. -/
def scanWords (e : ScanEntry) : List Word :=
  let n := e.coord * 2 ^ 52 + e.quality % 16 * 2 ^ 48 + e.value.toNat * 2 ^ 16 + e.age
  [w32 n, w32 (n / 4294967296)]

/-- SCAN frames of at most 512 entries; one empty frame when there is nothing to send (R516). -/
def scanFrames : Nat → List ScanEntry → List (List ScanEntry)
  | 0, _ => []
  | n + 1, es => if es.length ≤ 512 then [es] else es.take 512 :: scanFrames n (es.drop 512)

/-- The instant of mark `n` in ns of T (R516). -/
def markNs (s : State) (n : Nat) : Int := ((n * (s.fld Fld.VXL_CYCPER_US 0 0 * 1000) : Nat) : Int)

/-- A module joined: event 0x03C4 and Vertex source 138, CODE 0 (R529). -/
def State.joined (s : State) (n d : Nat) : State :=
  let s1 := { s with vxl := { s.vxl with members := if s.vxl.members.contains d then s.vxl.members
                                         else d :: s.vxl.members } }
  let s2 := if d = s.device then
      { s1.setF Fld.VXL_STATUS_JSTATE 0 0 2 with vxl := { s1.vxl with joinedAt := some n } } else s1
  (s2.log 0x03C4 d (w32 (d / 32)) (w32 n)).raise 138 d 0 (w32 (d / 32))

/-- A module left: event 0x23C5 and Vertex source 138, CODE 1; its grants are released, and its own VXL_LEAVE completes
(R530). -/
def State.left (s : State) (d cause : Nat) : State :=
  let s1 := { s with vxl := { s.vxl with members := s.vxl.members.filter (· != d),
                                         grants := s.vxl.grants.filter (fun g => g.device != d),
                                         twins := s.vxl.twins.filter (· != d) } }
  let s2 := (s1.log 0x23C5 d (w32 cause)).raise 138 d 1 (w32 (d / 32))
  if d = s.device then
    let s3 := s2.setF Fld.VXL_STATUS_JSTATE 0 0 1
    match s.hif.inflight.find? (fun f => f.opcode == 0x0F01 && f.phase == .waiting) with
    | some f => s3.complete f.item stDone
    | none => s3
  else s2

/-- VXL_MEMBERS shows the members and their version. -/
def State.showMembers (s : State) (version : Nat) : State :=
  (s.setF Fld.VXL_MEMBERS_VERSION 0 0 version).setF Fld.VXL_MEMBERS_COUNT 0 0 s.vxl.members.length

/-- The active manager's part of a mark: joins and leaves take effect, a new CYCLE begins, the CYCLE frame goes out, and
a cycle without presence is counted for each member (R516, R523, R529, R530). -/
def State.managerMark (s : State) (n : Nat) : State :=
  let joins := s.vxl.joinPend
  let leaves := s.vxl.leavePend
  let s1 := { s with vxl := { s.vxl with joinPend := [], leavePend := [] } }
  let s2 := joins.foldl (fun st d => st.joined n d) s1
  let s3 := leaves.foldl (fun st d => st.left d.1 d.2) s2
  let v := s.fld Fld.VXL_MEMBERS_VERSION 0 0
  let s4 := s3.showMembers (if joins = [] ∧ leaves = [] then v else v + 1)
  let s5 := match s.vxl.newCycle with
    | some (us, first) =>
      if first ≤ n then
        let old := s.fld Fld.VXL_CYCPER_US 0 0
        let t := { s4.setF Fld.VXL_CYCPER_US 0 0 us with vxl := { s4.vxl with newCycle := none } }
        t.log 0x13CC 0 (w32 old) (w32 us)
      else s4
    | none => s4
  let s6 := { s5 with vxl := { s5.vxl with
    presence := s5.vxl.members.foldl (fun t d => if d = s5.device then t else tset 0 t d (tget 0 t d + 1)) s5.vxl.presence
    silent := 0 } }
  let s7 := s6.setF Fld.VXL_STATUS_MGR_SEEN 0 0 1
  s7.sendFrame [0, 1, 2, 3] 3 true 0 kCycle (w32 n)
    ([w32 n, w32 (s7.fld Fld.VXL_CYCPER_US 0 0), w32 (s7.fld Fld.VXL_MEMBERS_VERSION 0 0)] ++ joins.map w32 ++
      leaves.map (fun d => w32 (d.1 + d.2 * 1024)))

/-- The presence of a cycle (R516): SCAN frames with the published values as they stand, of system scope those that the
forwarding table names (R507), or ALIVE from a standby and while
a warm restart holds PD_ENG in reset (R94). -/
def State.sendScan (s : State) (n : Nat) : State :=
  if s.standby ∨ s.sys.mode ≠ .running then s.sendTo 5 0 kAlive [w32 n]
  else
    let m := markNs s n * oneNs
    let es := s.pubs.map (fun e =>
      let c := s.co e
      ⟨e, c.q, c.val, ageOf ((m - c.t) / oneNs)⟩)
    let out := es.filter (fun e => s.vxl.fwd.any (fun p => p.1 == s.coordDevice * 4096 + e.coord))
    let own := es.filter (fun e => !(out.contains e))
    let put := fun (sys : Bool) (xs : List ScanEntry) (s : State) => (scanFrames (xs.length + 1) xs).foldl (fun st fr =>
      st.sendFrame [0, 1] 1 sys 0 0 (w32 n) (fr.flatMap scanWords)) s
    let s1 := if own = [] ∧ out ≠ [] then s else put false own s
    if out = [] then s1 else put true out s1

/-- CYCLE_MARK (R516, R524): mark `n` of the module's own time. -/
def execCycleMark (n : Nat) (s : State) : Host.Outcome State Fault Refusal :=
  if s.isAlone ∨ !(s.domOn 3) then go s
  else
    let s1 := { s.wr Reg.VXL_CYCLE 0 0 (w32 n) with vxl := { s.vxl with cycle := n, silent := s.vxl.silent + 1 } }
    let s2 := if s.isManager ∧ !s.standby then s1.managerMark n else s1
    if s2.admitted then go (s2.sendScan n) else go s2

/-- The publications that an admission grants: all but the `ungranted` highest entries (R521, R529). -/
def State.admitPubs (s : State) (ungranted : Nat) : State :=
  let es := s.cfg.active.filterMap (fun kv =>
    if keyBlock kv.1 = 0xF ∧ keyInst kv.1 = 5 ∧ keyFld kv.1 = 0x201 ∧ bitOf kv.2 31 ∧ keyElem kv.1 < 4096 then
      some (keyElem kv.1) else none)
  { s with vxl := { s.vxl with
      granted := (es.take (es.length - ungranted)).foldl (fun t e => tset false t e true) [] } }

/-- CYCLE_FRAME_RX (R516, R524, R529, R530). `ungranted` counts this module's publications that the admission did not
grant. -/
def execCycleFrameRx (n period version : Nat) (joins : List Nat) (leaves : List (Nat × Nat)) (ungranted : Nat)
    (s : State) : Host.Outcome State Fault Refusal :=
  let s1 := { (s.setF Fld.VXL_STATUS_MGR_SEEN 0 0 1).setF Fld.VXL_CYCPER_US 0 0 period with
    vxl := { s.vxl with silent := 0 } }
  let s2 := joins.foldl (fun st d => st.joined n d) s1
  let s3 := leaves.foldl (fun st d => st.left d.1 d.2) s2
  let s4 := if joins.contains s.device then (s3.showMembers version).admitPubs ungranted else s3.showMembers version
  if joins.contains s.device ∧ ungranted ≠ 0 then go (s4.log 0x23C9 0 (w32 ungranted)) else go s4

/-- MANAGER_LOST (R524): 16 marks without a CYCLE frame. -/
def execManagerLost (s : State) : Host.Outcome State Fault Refusal :=
  if 16 ≤ s.vxl.silent then go (s.setF Fld.VXL_STATUS_MGR_SEEN 0 0 0) else go s

/-- One received value reaches the SUB entry that names its coordinate (R518). -/
def State.scanEntry (s : State) (src n : Nat) (x : ScanEntry) : State :=
  match s.subs.find? (fun p => p.2 == src * 4096 + x.coord) with
  | none => s
  | some (e, _) =>
    let c := s.co e
    let late : Bool := match s.vxl.judged with
      | some j => decide (n ≤ j)
      | none => false
    let seen := tget [] s.vxl.got e
    let s := if late || seen.contains n then s
      else { s with vxl := { s.vxl with got := tset [] s.vxl.got e (n :: seen) } }
    if n < c.cyc then s
    else
      let t := markNs s n * oneNs
      let t' := if x.age = 0xFFFF then
          (if c.val = x.value ∧ c.q = x.quality then c.t else t - 1073479680 * oneNs)
        else t - ageNs x.age * oneNs
      { s with vxl := { s.vxl with turned := tset false s.vxl.turned e false } }.setCo e ⟨x.value, x.quality, t', n, c.misses⟩

/-- Whether the SUB entries take values of cycle `n`: of the cycles behind this module's admission (R529). -/
def State.takesScan (s : State) (n : Nat) : Bool :=
  s.admitted && s.domOn 3 && (match s.vxl.joinedAt with
    | some a => decide (a < n)
    | none => true)

/-- A SCAN frame is its source's presence (R516). That of a pair comes under the pair's even ID, whichever member sent it
(R513), and VXL_FRAME_RX notes who did. -/
def State.scanSeen (s : State) (src : Nat) : State :=
  if s.vxl.twins.contains src then s else { s with vxl := { s.vxl with presence := tset 0 s.vxl.presence src 0 } }

/-- SCAN_RX (R518, R519, R530): the values of a SCAN frame of cycle `n` from device `src`. A value of a cycle already
judged is applied and logs 0x23CB; the first after a stale subscription logs 0x03C8. -/
def execScanRx (src n : Nat) (es : List ScanEntry) (s : State) : Host.Outcome State Fault Refusal :=
  let s0 := s.scanSeen src
  if !(s.takesScan n) then go s0 else
  let mine := es.filter (fun x => s.subs.any (fun p => p.2 == src * 4096 + x.coord))
  let s1 := es.foldl (fun st x => st.scanEntry src n x) s0
  let late : Bool := match s.vxl.judged with
    | some j => decide (n ≤ j)
    | none => false
  let s2 := if late = true ∧ mine ≠ [] then s1.logLim 1000000000 0x23CB src (fun k => (w32 k, 0)) else s1
  if tget false s.vxl.stalePub src ∧ mine ≠ [] then
    go (({ s2 with vxl := { s2.vxl with stalePub := tset false s2.vxl.stalePub src false } }).log 0x03C8 src
      (w32 mine.length))
  else go s2

/-- One SUB entry is judged for cycle `n` (R519). -/
def State.judge (s : State) (n e : Nat) : State :=
  let c := s.co e
  let seen := tget [] s.vxl.got e
  let was := tget false s.vxl.turned e
  let s := { s with vxl := { s.vxl with got := tset [] s.vxl.got e (seen.filter (fun m => decide (n < m))) } }
  if seen.contains n then s.setCo e { c with misses := 0 }
  else
    let k := satAdd 15 c.misses 1
    let st := s.cf Cf.VXL_STALE 5 e
    if was ∨ Nat.max 1 (bitsOf st 0 4) ≤ k then
      let s1 := { s with vxl := { s.vxl with turned := tset false s.vxl.turned e true } }
      if bitOf st 4 then s1.setCo e ⟨s.cf Cf.VXL_SUBST_VAL 5 e, 2, if was && c.q == 2 then c.t else s.timeT, c.cyc, k⟩
      else s1.setCo e ⟨c.val, 4, c.t, c.cyc, k⟩
    else s.setCo e { c with misses := k }

/-- CYCLE_JUDGEMENT (R519): cycle `n` is judged; the first stale entry of a publisher logs 0x23C7. -/
def execCycleJudgement (n : Nat) (s : State) : Host.Outcome State Fault Refusal :=
  if !(s.domOn 3) then go s else
  let subs := s.subs
  let s1 := subs.foldl (fun st p => st.judge n p.1) s
  let newly := subs.filter (fun p => tget false s1.vxl.turned p.1 && !(tget false s.vxl.turned p.1))
  let s2 := { s1 with vxl := { s1.vxl with judged := some n } }
  go (newly.foldl (fun st p =>
    let d := p.2 / 4096
    if tget false st.vxl.stalePub d then st
    else
      let k := (newly.filter (fun q => q.2 / 4096 == d)).length
      ({ st with vxl := { st.vxl with stalePub := tset false st.vxl.stalePub d true } }).log 0x23C7 d (w32 k)) s2)

/-! ### Grants (R520, R521) -/

/-- The SCAN bytes of `n` values: 8 each, and 32 per frame of 512, at least one frame. -/
def scanBytes (n : Nat) : Nat := 8 * n + 32 * Nat.max 1 ((n + 511) / 512)

/-- The bytes per cycle that a ring's links carry under the grants (R520): the publications of its modules, and the
values forwarded out of it, through the root ring, and into it. -/
def ringLoad (gs : List Grant) (k : Nat) : Nat :=
  let own := (gs.filter (fun g => g.device / 32 == k)).foldl (fun n g => n + scanBytes g.pubs.length) 0
  let fwd := (gs.flatMap (fun g => g.subs.map (fun c => (c, g.device / 32)))).eraseDups
  let crossing := fwd.filter (fun p => p.1 / 131072 != p.2 && (k == 0 || p.2 == k || p.1 / 131072 == k) &&
    !(p.1 / 131072 == k))
  own + (if crossing = [] then 0 else scanBytes crossing.length)

/-- B of a ring (R520): 97 percent of the link's bytes per cycle at 1.25 bytes per ns, 87 percent with a pair. -/
def State.ringBudget (s : State) (pair : Bool) : Nat :=
  s.fld Fld.VXL_CYCPER_US 0 0 * 1250 * (if pair then 87 else 97) / 100

/-- Whether a ring holds a pair: an admitted module of it, or this one, sits in a twin base (R520, R536). -/
def State.ringPair (s : State) (k : Nat) : Bool :=
  s.vxl.twins.any (fun d => d / 32 == k) || (s.inPair && k == 0)

/-- Whether every ring's load fits its budget. -/
def State.grantsFit (s : State) (gs : List Grant) : Bool :=
  (List.range 32).all (fun k => ringLoad gs k ≤ s.ringBudget (s.ringPair k))

/-- The grant that a device holds. -/
def State.grantOf (s : State) (dev : Nat) : Grant := (s.vxl.grants.find? (fun g => g.device == dev)).getD ⟨dev, [], []⟩

/-- Publications are clamped, highest local coordinate first, until the grants fit; one that `old` grants already stays
(R521). The list is in descending order; `kept` is what stays of the part behind, `subs` the subscriptions granted. -/
def State.trimPubs (s : State) (others : List Grant) (old : Grant) (subs kept : List Nat) : List Nat → List Nat
  | [] => kept
  | p :: ps =>
    if s.grantsFit (⟨old.device, kept ++ p :: ps, subs⟩ :: others) then kept ++ p :: ps
    else s.trimPubs others old subs (if old.pubs.contains p then kept ++ [p] else kept) ps

/-- Subscriptions of other rings are clamped, highest entry first, until the grants fit; one granted already stays. -/
def State.trimSubs (s : State) (others : List Grant) (old : Grant) (pubs kept : List Nat) : List Nat → List Nat
  | [] => kept
  | c :: cs =>
    if s.grantsFit (⟨old.device, pubs, kept ++ c :: cs⟩ :: others) then kept ++ c :: cs
    else s.trimSubs others old pubs (if old.subs.contains c then kept ++ [c] else kept) cs

/-- What a device is granted of the publications and subscriptions it asks for, highest first (R521). -/
def State.grantFor (s : State) (dev : Nat) (pubs subs : List Nat) : Grant :=
  let old := s.grantOf dev
  let others := s.vxl.grants.filter (fun g => g.device != dev)
  let ps := s.trimPubs others old (old.subs.filter (fun c => subs.contains c)) [] pubs
  ⟨dev, ps, s.trimSubs others old ps [] subs⟩

/-- The forwarding table that the grants call for: each subscribed coordinate of another ring, with the ring that
subscribes to it. -/
def forwards (gs : List Grant) : List (Nat × Nat) :=
  ((gs.flatMap (fun g => g.subs.map (fun c => (c, g.device / 32)))).filter (fun p => p.1 / 131072 != p.2)).eraseDups

/-- GRANT_REQUEST_RX (R521): the active manager handles a request in order of arrival; what does not fit is clamped, and
a grant already made is never withdrawn. `pubs` and `subs` come highest first. The reply names what was clamped, and each
gateway gets its forwarding table. -/
def execGrantRequestRx (device : Nat) (pubs subs : List Nat) (s : State) : Host.Outcome State Fault Refusal :=
  if s.isManager ∧ !s.standby then
    let g := s.grantFor device pubs subs
    let gs := g :: s.vxl.grants.filter (fun g => g.device != device)
    let s1 := { s with vxl := { s.vxl with grants := gs, fwd := forwards gs } }
    let s2 := (s1.wr Reg.VXL_RINGLOAD 0 0 (w32 (ringLoad gs s.ring))).wr Reg.VXL_RINGBUDGET 0 0
      (w32 (s.ringBudget (s.ringPair s.ring)))
    let s3 := s2.sendTable (forwards gs)
    go (s3.sendTo 5 device kGrant
      ([w32 (pubs.length - g.pubs.length), w32 (subs.length - g.subs.length)] ++ g.pubs.map w32 ++ g.subs.map w32))
  else go s

/-! ### Joining and leaving (R529, R530) -/

/-- JOIN_REQUEST (R529): a worker whose servo 0 is LOCKED asks device 0 for admission. -/
def execJoinRequest (s : State) : Host.Outcome State Fault Refusal :=
  if s.role ≠ 3 ∨ s.admitted then go s
  else if s.device = 0 then go (s.setF Fld.VXL_STATUS_JSTATE 0 0 4)
  else if s.mer.sv0.state = 2 then
    go ((s.setF Fld.VXL_STATUS_JSTATE 0 0 1).sendTo 6 0 kJoin
      [w32 s.device, w32 s.baseId, w32 s.role, w32 s.cfg.imageId, w32 (s.cfg.imageId / 4294967296)])
  else go s

/-- The first reason for which a join is refused; 0 none (R529). -/
def State.joinReason (s : State) (device slot ring : Nat) (locked : Bool) : Nat :=
  if device = 0 then 1
  else if 1024 ≤ s.vxl.members.length then 2
  else if s.vxl.members.contains device then 3
  else if device / 32 ≠ ring then 4
  else if (slot = 0 ∧ device % 2 = 1) ∨ (slot = 1 ∧ device % 2 = 0) then 5
  else if !locked then 6 else 0

/-- JOIN_REQUEST_RX (R529): the manager admits the module for the next mark, or refuses it with a reason. `slot` is its
base code, `ring` the ring it sits in, `locked` whether its TSTATE is LOCKED. -/
def execJoinRequestRx (device slot ring : Nat) (locked : Bool) (s : State) : Host.Outcome State Fault Refusal :=
  if s.isManager ∧ !s.standby then
    let r := s.joinReason device slot ring locked
    if r = 0 then
      go { s with vxl := { s.vxl with
        joinPend := if s.vxl.joinPend.contains device then s.vxl.joinPend else s.vxl.joinPend ++ [device]
        twins := if slot < 2 then device :: s.vxl.twins.filter (· != device) else s.vxl.twins } }
    else go ((s.log 0x23C6 device (w32 r)).sendTo 6 device kReply [w32 r])
  else go s

/-- JOIN_REPLY_RX (R529): refused. -/
def execJoinReplyRx (reason : Nat) (s : State) : Host.Outcome State Fault Refusal :=
  go (((s.setF Fld.VXL_STATUS_JSTATE 0 0 3).setF Fld.VXL_STATUS_REASON 0 0 reason).log 0x23C6 s.device (w32 reason))

/-- The leave of a device is listed with the next mark, once (R530). -/
def State.leaveList (s : State) (device cause : Nat) : State :=
  if s.vxl.leavePend.any (fun d => d.1 == device) then s
  else { s with vxl := { s.vxl with leavePend := s.vxl.leavePend ++ [(device, cause)] } }

/-- PRESENCE_TIMEOUT (R530): the manager has seen no presence for MISS_LEAVE cycles. -/
def execPresenceTimeout (device : Nat) (s : State) : Host.Outcome State Fault Refusal :=
  if s.isManager ∧ !s.standby ∧ s.vxl.members.contains device ∧
      s.cfN Cf.VXL_MISS_LEAVE 4 ≤ tget 0 s.vxl.presence device then
    go (s.leaveList device 2)
  else go s

/-- LEAVE_REQUEST_RX (R530): the manager lists the leave; cause 0 VXL_LEAVE, 1 leave notice. -/
def execLeaveRequestRx (device cause : Nat) (s : State) : Host.Outcome State Fault Refusal :=
  if s.isManager ∧ !s.standby ∧ s.vxl.members.contains device then
    go (s.leaveList device cause)
  else go s

/-! ### Opcodes (R534) -/

/-- VXL_WRITE. -/
def execVxlWrite (it : Item) (s : State) : Host.Outcome State Fault Refusal :=
  serve it s (fun s =>
    if s.ctKind it.inst ≠ 2 ∨ 4096 ≤ it.inst ∨ it.inst < 128 then s.complete it stState 1
    else
      let q := bitsOf (it.w 4) 0 4
      if qualityOk q then (s.coPut it.inst (it.w 3) q s.timeT).complete it stDone
      else s.complete it stRange 0xF 0 (w32 q))

/-- VXL_LEAVE (R530): completes at the mark that lists the leave. -/
def execVxlLeave (it : Item) (s : State) : Host.Outcome State Fault Refusal :=
  serve it s (fun s =>
    if !s.admitted then s.complete it stState 2
    else
      let s1 := s.holdItem 0x0F01 it []
      if s.isManager then s1.leaveList s.device 0
      else s1.sendTo 6 0 kLeave [w32 s.device, 0])

/-- The bitmap of admitted device IDs, 32 words. -/
def memberWords (members : List Nat) : List Word :=
  (List.range 32).map (fun k => w32 ((members.filter (fun d => d / 32 == k)).eraseDups.foldl
    (fun n d => n + 2 ^ (d % 32)) 0))

/-- VXL_MEMBERS. -/
def execVxlMembers (it : Item) (s : State) : Host.Outcome State Fault Refusal :=
  serve it s (fun s =>
    (s.bufPut it (bufAddr it 3) (memberWords s.vxl.members)).complete it stDone (w32 s.vxl.members.length)
      (w32 (s.fld Fld.VXL_MEMBERS_VERSION 0 0)))

end Sys2Proof.Machine
end

