-- ==== Sys2Proof/Machine/Fct.lean ====
section
/-! DEFINITION. The Facets: what a Facet drives, its safe state and fallback slots, its digital inputs and outputs, its
supply, and the link as the Facet sees it (spec/06_facet_digital.md). A channel is named by its global number 0 to 127,
Facet n holding 8n to 8n + 7. -/

namespace Sys2Proof.Machine

/-! ### The parts of the state -/

/-- A fallback slot that has not run. -/
def fbIdle : FbSlot := ⟨false, 0, 0, false, false, false⟩

/-- A Facet with power and no configuration, its link end out of reset. -/
def facetIdle : FacetSt := { facetReset with perimOff := false }

/-- A channel that is off. -/
def chanIdle : ChanSt :=
  { own := 0, ownHas := false, last := 0, lastCode := 0, lastAt := 0, oldSeq := none, gateN := 0, gateFirst := 0,
    gateLast := 0, out := 0, taken := false, safe := false, shed := false, ovl := false, ovlAt := 0, trim := 0,
    mism := false, comp := false, therm := false, hot := false, openw := false, ilim := 240, vsup := 500, cmp := false,
    deb := false, chgAt := none, accN := 0, accSum := 0, presNew := false, drv := 0, nom := 0 }

/-- Facet `n`. -/
def State.facet (s : State) (n : Nat) : FacetSt := tget facetIdle s.fct.facets n

/-- The state with Facet `n` replaced. -/
def State.setFacet (s : State) (n : Nat) (f : FacetSt) : State :=
  { s with fct := { s.fct with facets := tset facetIdle s.fct.facets n f } }

/-- Channel `ch`. -/
def State.chan (s : State) (ch : Nat) : ChanSt := tget chanIdle s.fct.chans ch

/-- The state with channel `ch` replaced. -/
def State.setChan (s : State) (ch : Nat) (c : ChanSt) : State :=
  { s with fct := { s.fct with chans := tset chanIdle s.fct.chans ch c } }

/-- Whether the link of a Facet is UP. -/
def State.linkUp (s : State) (n : Nat) : Bool := s.fld Fld.FCT_LINK_STATE n 0 == 2

/-- The eight channels of a Facet. -/
def facetChans (n : Nat) : List Nat := (List.range 8).map (fun k => 8 * n + k)

/-- A field of the configuration that the Facet itself holds (R171). -/
def State.own (s : State) (c : Cf) (i : Nat) : Word := tabGet cfgDefault s.fct.own (cfgKey 0x12 i c.fld 0)

/-- The mode of a channel on the field side (R192). -/
def State.ownMode (s : State) (ch : Nat) : Nat := (s.own Cf.FCT_CH_MODE ch).toNat

/-- SAFE_STATE as the Facet applies it; OFF under the pair variant (R552). -/
def State.safeState (s : State) (ch : Nat) : Nat :=
  if (s.facet (ch / 8)).variant then 0 else (s.own Cf.FCT_SAFE_STATE ch).toNat

/-- A field of fallback slot `sl` of a Facet: `j` counts from FB_OUT in the order of R209. -/
def State.fb (s : State) (n sl j : Nat) : Word := tabGet cfgDefault s.fct.own (cfgKey 0x12 (128 + n) (0x110 + 8 * sl + j) 0)

/-- FB_OUT of a slot; 255, none, under the pair variant (R552). -/
def State.fbOut (s : State) (n sl : Nat) : Nat := if (s.facet n).variant then 255 else (s.fb n sl 0).toNat

/-- FCT_WDT of a Facet in us: under the pair variant no shorter than D_R + 50 us (R552). -/
def State.fctWdt (s : State) (n : Nat) : Nat :=
  let w := (s.own Cf.FCT_WDT (128 + n)).toNat
  if (s.facet n).variant then Nat.max w (s.cfN Cf.MIR_HB_MISS 0 * 10 + 58) else w

/-- The slots of a Facet. -/
def FacetSt.slot (f : FacetSt) (sl : Nat) : FbSlot :=
  if sl = 0 then f.slot0 else if sl = 1 then f.slot1 else if sl = 2 then f.slot2 else f.slot3

/-- The Facet with a slot replaced. -/
def FacetSt.setSlot (f : FacetSt) (sl : Nat) (x : FbSlot) : FacetSt :=
  if sl = 0 then { f with slot0 := x } else if sl = 1 then { f with slot1 := x }
  else if sl = 2 then { f with slot2 := x } else { f with slot3 := x }

/-- One byte of FCT_FBSTAT. OUT shows FB_OUT mod 8: a slot without an output, FB_OUT = 255, shows 7 (DESIGN CHOICE: R187
does not say; notes/assumptions/124.md). -/
def fbByte (x : FbSlot) (out : Nat) : Nat :=
  (if x.run then 128 else 0) + (if x.expired then 64 else 0) + (if x.bad then 32 else 0) + out % 8

/-- A slot changes, and FCT_FBSTAT shows it. -/
def State.setSlot (s : State) (n sl : Nat) (x : FbSlot) : State :=
  let s1 := s.setFacet n ((s.facet n).setSlot sl x)
  let b := fun i => fbByte ((s1.facet n).slot i) (s1.fb n i 0).toNat
  s1.wr Reg.FCT_FBSTAT n 0 (w32 (b 0 + b 1 * 256 + b 2 * 65536 + b 3 * 16777216))

/-! ### Calibration sets (R226, R227) -/

/-- The range of a mode: 0 AI_V, 1 AI_I, 2 AO_I, 3 AO_V. -/
def calRange (m : Nat) : Option Nat :=
  if m = 1 then some 0 else if m = 2 ∨ m = 3 then some 1 else if m = 4 ∨ m = 5 then some 2
  else if m = 6 then some 3 else none

/-- The nominal set of a range: A = 0, B = 1 for inputs, the points p1 and p2 for outputs. -/
def calNominal (r : Nat) : Word × Word :=
  if r = 2 then (0x40800000, 0x41A00000) else if r = 3 then (0xC0A00000, 0x40A00000) else (0, 0x3F800000)

/-- The MRAM address of a record. -/
def calAddr (ch r : Nat) : Nat := 0x03000000 + (4 * ch + r) * 32

/-- The words of the record in MRAM. -/
def State.calRec (s : State) (ch r : Nat) : List Word := memWords s.mram (calAddr ch r) 8

/-- Whether a record is valid: magic, range and CRC (R227). -/
def calValid (r : Nat) (ws : List Word) : Bool :=
  bitsOf (ws.getD 0 0) 16 16 = 0x4341 && bitsOf (ws.getD 0 0) 8 8 = r &&
    w32 (crc32 ((ws.take 7).flatMap bytesOf)) == ws.getD 7 0

/-- The origin of a record: 0 when it is not valid. -/
def calOrigin (r : Nat) (ws : List Word) : Nat := if calValid r ws then bitsOf (ws.getD 0 0) 0 8 % 4 else 0

/-- The set of a record, for the Facet; none when it is not valid. -/
def State.calSet (s : State) (ch r : Nat) : Option (Word × Word) :=
  let ws := s.calRec ch r
  if calValid r ws then some (ws.getD 1 0, ws.getD 2 0) else none

/-- The set the Facet applies. -/
def State.facetCal (s : State) (ch r : Nat) : Word × Word := (tget none s.fct.cals (4 * ch + r)).getD (calNominal r)

/-- The nominal value at which an output stage is set for a commanded value (R226): a trim point takes no correction
(R230). -/
def State.nominal (s : State) (ch m : Nat) (trim : Nat) (x : Word) : Word :=
  match calRange m with
  | none => x
  | some r =>
    let p := calNominal r
    if trim ≠ 0 then x
    else
      let ab := s.facetCal ch r
      let a := f32 ab.1
      let num := Fl.mul fmt32 (Fl.sub fmt32 (f32 x) a) (Fl.sub fmt32 (f32 p.2) (f32 p.1))
      w32f (Fl.add fmt32 (f32 p.1) (Fl.div fmt32 num (Fl.sub fmt32 (f32 ab.2) a)))

/-! ### What an output drives (R22, R186, R193) -/

/-- The slot that runs for an output. -/
def State.slotOf (s : State) (ch : Nat) : Option Nat :=
  (List.range 4).find? (fun sl => ((s.facet (ch / 8)).slot sl).run && s.fbOut (ch / 8) sl == ch % 8)

/-- The value of an output in safe state (R186). -/
def State.safeValue (s : State) (ch : Nat) : Word :=
  match s.slotOf ch with
  | some sl => ((s.facet (ch / 8)).slot sl).u
  | none =>
    match s.safeState ch with
    | 1 => 1
    | 2 => (s.chan ch).out
    | 3 => s.own Cf.FCT_SAFE_VALUE ch
    | _ => 0

/-- The part `k / n` of a value, in binary32. -/
def rampOf (v : Word) (k n : Nat) : Word := w32f (Fl.div fmt32 (Fl.mul fmt32 (f32 v) (Fl.ofInt k)) (Fl.ofInt n))

/-- The value an output drives: the highest entry of R22 that is active on the field side (orders 1 to 3), else the
value of the last valid frame; off without a base (R46), without a configuration (R69), in another mode, until the first
frame boundary after the Perimeter line has released (R172), or until an owner value has come after a change of mode
(R193; safe state stands above it, R22: DEDUCED, notes/assumptions/130.md). A current falls over the release ramp of
R553. -/
def State.drives (s : State) (ch : Nat) : Word :=
  let f := s.facet (ch / 8)
  let c := s.chan ch
  let m := s.ownMode ch
  if !(isOut m) ∨ s.baseId = 3 ∨ !f.cfgOk ∨ f.perimOff ∨ f.perimRel ∨ c.shed ∨ c.hot ∨ f.released ∨ (m = 8 ∧ c.ovl) then 0
  else
    let v := if c.safe then s.safeValue ch
      else if c.trim ≠ 0 then
        let p := calNominal ((calRange m).getD 0)
        if c.trim = 1 then p.1 else p.2
      else if c.taken then c.out else 0
    if isAOI m ∧ f.rampNs ≠ 0 then rampOf v (40000 - f.rampNs) 40000 else v

/-- Whether a limit in 0.1 mA lies below a commanded current. -/
def limitBelow (ilim : Nat) (cmd : Word) : Bool := Fl.lt (Fl.ofRat fmt64 ilim 10) (f32 cmd)

/-- A current held to a limit in 0.1 mA (R240). -/
def limitTo (ilim : Nat) (x : Word) : Word := if limitBelow ilim x then w32f (Fl.ofRat fmt32 ilim 10) else x

/-- The value an output stage is set to for the value `v` it drives: corrected (R226), and a current within the limit of
its stage (R240). -/
def State.stageSet (s : State) (ch : Nat) (v : Word) : Word :=
  let m := s.ownMode ch
  let c := s.chan ch
  let x := if isAO m then s.nominal ch m (if c.safe then 0 else c.trim) v else v
  if isAOI m then limitTo c.ilim x else x

/-- One output is driven anew. With its command change what is judged against it: THERMAL, with event 0x3496 once per
episode (R240), and OPEN, which a command below 1.0 mA clears (R239). A stage that is switched off for its temperature is
judged by the value that was commanded. -/
def State.redrive (s : State) (ch : Nat) : State :=
  let v := s.drives ch
  let c := s.chan ch
  let cur := isAOI (s.ownMode ch)
  let th := cur && limitBelow c.ilim (if c.hot then c.out else v)
  let s1 := s.setChan ch { c with drv := v, nom := s.stageSet ch v, therm := th,
                                  openw := c.openw && !(cur && Fl.lt (f32 v) (f32 0x3F800000)) }
  if th ∧ !c.therm then s1.log 0x3496 ch (w32 (s.fld Fld.FCT_AOSTAT_STAGE_TEMP (ch / 8) (ch % 8))) (w32 c.ilim) else s1

/-- Every output of a Facet is driven anew. -/
def State.redriveAll (s : State) (n : Nat) : State := (facetChans n).foldl (fun s ch => s.redrive ch) s

/-! ### Samples (R20, R222, R223) -/

/-- A LOST marker of a Facet on its way to Prism. -/
def State.lostPrm (s : State) (n : Nat) (t : Int) : State :=
  if s.domOn 4 then { s with fct := { s.fct with toPrm := s.fct.toPrm ++ [⟨1, n, 0, 15, 0, t⟩] } } else s

/-- A LOST marker of a Facet reaches Tangent and the coordinate table: their values stand as they were. -/
def State.lostEng (s : State) (n : Nat) (t : Int) : State :=
  { s with fct := { s.fct with lostEng := tset none s.fct.lostEng n (some t) } }

/-- A LOST marker of a Facet reaches the three consumers together (R180). -/
def State.lostMark (s : State) (n : Nat) (t : Int) : State := (s.lostEng n t).lostPrm n t

/-- The word of a sample behind the crossing to CK_ENG: the coordinate table takes it, where Tangent reads it; a LOST
marker stands for a word that an error has destroyed (R20, R604). -/
def State.sampleEng (s : State) (ch : Nat) (v : Word) (q : Nat) (t : Int) : State :=
  if s.fct.engBad.contains (ch / 8) then
    ({ s with fct := { s.fct with engBad := s.fct.engBad.filter (fun m => m != ch / 8) } }).lostEng (ch / 8) t
  else s.coPut ch v q t

/-- A sample reaches the coordinate table and Prism; Tangent reads it in the coordinate table. -/
def State.sample (s : State) (ch : Nat) (v : Word) (q : Nat) (t : Int) (raw : Word := 0) : State :=
  let s1 := ((s.sampleEng ch v q t).wr Reg.FCT_VALUE (ch / 8) (ch % 8) v).setF Fld.FCT_CHSTAT_QUALITY (ch / 8) (ch % 8) q
  if s1.domOn 4 then { s1 with fct := { s1.fct with toPrm := s1.fct.toPrm ++ [⟨0, ch, v, q, raw, t⟩] } } else s1

/-- The oldest sample word of a Facet among those on their way to Prism becomes a LOST marker; with none on its way, the
marker alone follows. -/
def prmDestroy (n : Nat) (t : Int) : List PrmIn → List PrmIn
  | [] => [⟨1, n, 0, 15, 0, t⟩]
  | x :: xs => if x.kind = 0 ∧ x.ch / 8 = n then ⟨1, n, 0, 15, 0, x.t⟩ :: xs else x :: prmDestroy n t xs

/-- An uncorrectable error in a sample crossing of a Facet (R20, R604): 0 to CK_ACQ, 1 to CK_ENG. -/
def State.crossingUe (s : State) (n crossing : Nat) : State :=
  if crossing = 0 then
    (if s.domOn 4 then { s with fct := { s.fct with toPrm := prmDestroy n s.timeT s.fct.toPrm } } else s)
  else { s with fct := { s.fct with engBad := if s.fct.engBad.contains n then s.fct.engBad else s.fct.engBad ++ [n] } }

/-! ### Perimeter (R172) -/

/-- PERIM_OFF_LINE (R172): the line is active, and every output of the Facet turns off. -/
def execPerimOffLine (n : Nat) (s : State) : Host.Outcome State Fault Refusal :=
  go ((s.setFacet n { s.facet n with perimOff := true }).redriveAll n)

/-- PERIM_OFF_RELEASE (R172): the outputs return to their highest remaining entry at the Facet's next frame boundary,
which its next downstream frame marks. A Facet that receives no frames marks none of its boundaries, one each microsecond:
there the outputs return with the release (DEDUCED, notes/assumptions/71.md). -/
def execPerimOffRelease (n : Nat) (s : State) : Host.Outcome State Fault Refusal :=
  let f := s.facet n
  let frames := f.perimOff && decide (s.mer.base < f.lastFrame + 2000)
  go ((s.setFacet n { f with perimOff := false, perimRel := f.perimRel || frames }).redriveAll n)

/-! ### Safe state and fallback slots (R185 to R191) -/

/-- The setpoint of a slot (R188). -/
def State.fbSet (s : State) (n sl : Nat) : Word :=
  if (s.fb n sl 4).toNat < 256 then s.fb n sl 5 else (s.facet n).fbsp.getD sl 0

/-- A slot starts (R188, R189): its output is the present output; e_prev is set when the input is usable. -/
def State.slotStart (s : State) (n sl : Nat) (inp : Option Word) : State :=
  let u := (s.chan (8 * n + s.fbOut n sl)).drv
  match inp with
  | some x => s.setSlot n sl ⟨true, u, w32f (Fl.sub fmt32 (f32 (s.fbSet n sl)) (f32 x)), true, false, false⟩
  | none => s.setSlot n sl ⟨true, u, 0, false, false, false⟩

/-- The slots whose outputs have entered safe state start. `ins` holds the present input of each slot, none where it is
flagged or has not been sampled. -/
def State.slotsStart (s : State) (n : Nat) (outs : List Nat) (ins : List (Option Word)) : State :=
  (List.range 4).foldl (fun s sl =>
    if outs.contains (8 * n + s.fbOut n sl) then s.slotStart n sl (ins.getD sl none) else s) s

/-- The transaction of a Facet's modem ends. -/
def State.hartEnd (s : State) (n : Nat) : State :=
  (s.setFacet n { s.facet n with hart := none }).setF Fld.FCT_HARTSTAT_BUSY n 0 0

/-- A HART frame whose CLOSE has not come ends without a check byte (R244). Nothing of its item has been applied, and the
item waits again for the modem. -/
def State.hartCut (s : State) (n : Nat) : State :=
  let s0 := s.setFacet n { s.facet n with modem := none }
  match (s.facet n).hart with
  | none => s0
  | some t =>
    if t.closed then s0
    else
      let s1 := s0.hartEnd n
      { s1 with hif := { s1.hif with
        inflight := flightUpd t.ring t.seq (fun x => { x with phase := .fetched }) s1.hif.inflight } }

/-- FACET_WDT_EXPIRY (R185): every output that is not in safe state enters it, at one instant; an open HART frame ends
(R244) and so does a diagnosis (R234). A Facet without a configuration drives nothing. -/
def execFacetWdtExpiry (n : Nat) (ins : List (Option Word)) (s : State) : Host.Outcome State Fault Refusal :=
  let was := (facetChans n).any (fun ch => (s.chan ch).safe)
  let outs := (facetChans n).filter (fun ch => isOut (s.ownMode ch) && !(s.chan ch).safe)
  if (s.facet n).cfgOk ∧ (!was ∨ outs ≠ []) then
    let s0 := s.hartCut n
    let s1 := outs.foldl (fun s ch => s.setChan ch { s.chan ch with safe := true, trim := 0 }) s0
    let f := s1.facet n
    let s2 := (s1.setFacet n { f with safeAt := if was then f.safeAt else s1.mer.base, fdiag := none }).slotsStart n outs ins
    go ((s2.redriveAll n).log 0x2483 n (w32 (s2.fctWdt n)))
  else go s

/-- The limits of an output mode: 0 to 24 mA, or −10 V to 10 V. -/
def modeLo (m : Nat) : Word := if m = 6 then 0xC1200000 else 0
/-- The upper limit of an output mode. -/
def modeHi (m : Nat) : Word := if m = 6 then 0x41200000 else 0x41C00000

/-- The law of a fallback slot (R188) in binary32: the new output and error. -/
def fbLaw (sp inp u ePrev kp ki lo hi mlo mhi : Word) : Word × Word :=
  let e := Fl.sub fmt32 (f32 sp) (f32 inp)
  let p := Fl.mul fmt32 (f32 kp) (Fl.sub fmt32 e (f32 ePrev))
  let i := Fl.mul fmt32 (Fl.mul fmt32 (f32 ki) (f32 0x3A83126F)) e
  let v := Fl.add fmt32 (Fl.add fmt32 (f32 u) p) i
  (w32f (Fl.clamp (f32 mlo) (f32 mhi) (Fl.clamp (f32 lo) (f32 hi) v)), w32f e)

/-- FALLBACK_EVAL (R188, R189): `inp` is the latest calibrated sample of FB_IN, none while it is flagged or there has
been none since the Facet took its configuration. A slot without e_prev sets it from the sample that is latest at this
evaluation, and runs the law from the next one on (DESIGN CHOICE: R189 does not say which 1 ms evaluation is the next for a
sample that arrives between two; notes/assumptions/124.md). -/
def execFallbackEval (n slot : Nat) (inp : Option Word) (s : State) : Host.Outcome State Fault Refusal :=
  let x := (s.facet n).slot slot
  if slot < 4 ∧ x.run then
    match inp with
    | none =>
      if x.bad then go s
      else go ((s.setSlot n slot { x with bad := true }).log 0x2486 (8 * n + (s.fb n slot 1).toNat) (w32 slot))
    | some v =>
      if x.has then
        let m := s.ownMode (8 * n + s.fbOut n slot)
        let r := fbLaw (s.fbSet n slot) v x.u x.ePrev (s.fb n slot 2) (s.fb n slot 3) (s.fb n slot 6) (s.fb n slot 7)
          (modeLo m) (modeHi m)
        go ((s.setSlot n slot { x with u := r.1, ePrev := r.2, bad := false }).redriveAll n)
      else
        let e := w32f (Fl.sub fmt32 (f32 (s.fbSet n slot)) (f32 v))
        go (s.setSlot n slot { x with ePrev := e, has := true, bad := false })
  else go s

/-- FALLBACK_EXPIRY (R190): the slot stops and its output applies its own SAFE_STATE; HOLD holds the slot's last
output. -/
def execFallbackExpiry (n slot : Nat) (s : State) : Host.Outcome State Fault Refusal :=
  let x := (s.facet n).slot slot
  if slot < 4 ∧ x.run then
    let ch := 8 * n + s.fbOut n slot
    let s1 := (s.setChan ch { s.chan ch with out := x.u }).setSlot n slot { x with run := false, expired := true }
    go ((s1.redriveAll n).log 0x2485 ch (w32 slot))
  else go s

/-- D_R in ns (R552). -/
def State.releaseDelay (s : State) : Nat := s.cfN Cf.MIR_HB_MISS 0 * 10000 + 8000

/-- PAIR_RELEASE_RAMP (R553): under the pair variant, once no valid frame has come for D_R, the current outputs fall to
0 mA over 40 us; at its end they are there, and the switches open. -/
def execPairReleaseRamp (n : Nat) (s : State) : Host.Outcome State Fault Refusal :=
  let f := s.facet n
  let start := f.lastFrame + s.releaseDelay
  if f.variant ∧ f.cfgOk ∧ start ≤ s.mer.base then
    go ((s.setFacet n { f with released := f.released || decide (start + 40000 ≤ s.mer.base),
                               rampNs := Nat.min 40000 (s.mer.base - start) }).redriveAll n)
  else go s

/-! ### Digital inputs (R194 to R197) -/

/-- The comparator of a channel on a SIG voltage in mV (R194): on at DI_THR or above, off below DI_THR − DI_HYST, both
in 0.1 V. -/
def comparator (thr hyst : Nat) (was : Bool) (mv : Int) : Bool :=
  if (thr : Int) * 100 ≤ mv then true else if mv < ((thr : Int) - hyst) * 100 then false else was

/-- The comparator state of a channel on a voltage, with the thresholds that the Facet holds. -/
def State.cmpAt (s : State) (ch : Nat) (was : Bool) (mv : Int) : Bool :=
  comparator (s.own Cf.FCT_DI_THR ch).toNat (s.own Cf.FCT_DI_HYST ch).toNat was mv

/-- A change of a debounced state reaches the link end (R197): a sample, and by COS_EN the Facet's Vertex source and event
0x0490. -/
def State.diDeliver (s : State) (ch : Nat) (on : Bool) (t : Int) : State :=
  let v : Word := if on then 1 else 0
  let st := stampOf t
  let s1 := (s.setChan ch { s.chan ch with last := v, lastAt := t }).sample ch v 0 t
  let cos := s.cfN Cf.FCT_COS_EN ch
  let s2 := if (on ∧ cos % 2 = 1) ∨ (!on ∧ cos / 2 % 2 = 1) then
      s1.report [Work.src (16 + ch / 8) ch (if on then 0 else 1) v st] else s1
  if 4 ≤ cos then s2.logAt st 0x0490 ch v 0 0 0 else s2

/-- DI_CHANGE (R194, R196, R197): the SIG voltage has stood at `level`, at time `st`. The debounced state takes
the comparator's state after DI_DEBOUNCE, at most once between two frame boundaries; while the link is UP the change
reaches the link end. -/
def execDiChange (ch : Nat) (level : DiLevel) (st : Stamp) (s : State) : Host.Outcome State Fault Refusal :=
  let c := s.chan ch
  if ch < 128 ∧ s.ownMode ch = 7 then
    let on := s.cmpAt ch c.cmp level.mv
    if on ≠ c.deb ∧ c.chgAt = none ∧ (s.own Cf.FCT_DI_DEBOUNCE ch).toNat * 1000 ≤ level.held then
      let s1 := s.setChan ch { c with cmp := on, deb := on, chgAt := some (stTime st) }
      go (if s.linkUp (ch / 8) then s1.diDeliver ch on (stTime st) else s1)
    else go (s.setChan ch { c with cmp := on })
  else go s

/-! ### Digital outputs (R198 to R200) -/

/-- An output switches off for overload. -/
def State.doOff (s : State) (ch : Nat) : State :=
  ((s.setChan ch { s.chan ch with ovl := true, ovlAt := s.mer.base }).redrive ch).log 0x348C ch

/-- DO_OVERLOAD (R198). -/
def execDoOverload (ch : Nat) (s : State) : Host.Outcome State Fault Refusal :=
  if s.ownMode ch = 8 ∧ !(s.chan ch).ovl ∧ (s.chan ch).drv = 1 then go (s.doOff ch) else go s

/-- The value that R22 selects for an overloaded output, its overload apart. -/
def State.wanted (s : State) (ch : Nat) : Word := (s.setChan ch { s.chan ch with ovl := false }).drives ch

/-- DO_RETRY (R198): at the first instant, 100 ms or more after the switch-off, at which the selected value is on. -/
def execDoRetry (ch : Nat) (s : State) : Host.Outcome State Fault Refusal :=
  let c := s.chan ch
  if s.ownMode ch = 8 ∧ c.ovl ∧ s.own Cf.FCT_DO_RETRY ch = 1 ∧ c.ovlAt + 100000000 ≤ s.mer.base ∧ s.wanted ch = 1 then
    go (((s.setChan ch { c with ovl := false }).redrive ch).log 0x048B ch 2)
  else go s

/-- The output that R199 switches off next: the lowest shed group, and in it the highest channel, of those that are
on. -/
def State.nextShed (s : State) (n : Nat) : Option Nat :=
  let on := (facetChans n).filter (fun ch => s.ownMode ch = 8 && (s.chan ch).drv == 1)
  on.foldl (fun b ch =>
    match b with
    | none => some ch
    | some d => if (s.own Cf.FCT_SHED_GROUP ch).toNat ≤ (s.own Cf.FCT_SHED_GROUP d).toNat then some ch else some d) none

/-- The next output of the sequence of R199 switches off. -/
def State.totalShed (s : State) (n k : Nat) : State :=
  match s.nextShed n with
  | none => s.setFacet n { s.facet n with total := some k }
  | some ch =>
    let s1 := s.doOff ch
    s1.setFacet n { s1.facet n with total := some (k + 1) }

/-- DO_TOTAL_OVERLOAD (R199): the total DO current has exceeded 4.0 A for 2 ms. -/
def execDoTotalOverload (n : Nat) (s : State) : Host.Outcome State Fault Refusal :=
  match (s.facet n).total with
  | some _ => go s
  | none => go (s.totalShed n 0)

/-- DO_TOTAL_SHED_NEXT (R199): 1 ms later, with the total still above 4.0 A or not. -/
def execDoTotalShedNext (n : Nat) (still : Bool) (s : State) : Host.Outcome State Fault Refusal :=
  match (s.facet n).total with
  | none => go s
  | some k =>
    if still then go (s.totalShed n k)
    else go ((s.setFacet n { s.facet n with total := none }).log 0x348D n (w32 k))

/-- The readback of a DO channel: on above 12.0 V (R200). -/
def readback (mv : Int) : Bool := 12000 < mv

/-- DO_MISMATCH (R200): SIG has stood at `mv` for 1 ms, and what it reads disagrees with what is driven. Driven off and
read on counts on an LX-TB1 only, and the check is suspended while the output is held at its current limit. -/
def execDoMismatch (ch : Nat) (mv : Int) (limited : Bool) (s : State) : Host.Outcome State Fault Refusal :=
  let c := s.chan ch
  let on := c.drv == 1
  let rb := readback mv
  if s.ownMode ch = 8 ∧ !c.mism ∧ !limited ∧ ((on ∧ !rb) ∨ (!on ∧ rb ∧ s.baseId = 2)) then
    go ((s.setChan ch { c with mism := true }).log 0x248E ch (if on then 1 else 0) (if rb then 1 else 0))
  else go s

/-- DO_MISMATCH_CLEAR (R200): what SIG reads has agreed with what is driven for 1 ms. -/
def execDoMismatchClear (sig : ChanVolt) (s : State) : Host.Outcome State Fault Refusal :=
  let c := s.chan sig.ch
  if readback sig.mv = (c.drv == 1) then go (s.setChan sig.ch { c with mism := false }) else go s

/-! ### Field supply (R201 to R205); voltages in units of 10 mV -/

/-- SUP_WARN (R201). -/
def execSupWarn (n volt : Nat) (s : State) : Host.Outcome State Fault Refusal :=
  let f := s.facet n
  if !f.supWarn ∧ volt < 1920 then go ((s.setFacet n { f with supWarn := true }).log 0x2487 n (w32 volt)) else go s

/-- SUP_LOW (R201, R202): the shed sequence starts at the lowest group not yet shed. -/
def execSupLow (n volt : Nat) (s : State) : Host.Outcome State Fault Refusal :=
  let f := s.facet n
  if !f.supLow ∧ volt < 1500 then
    go ((s.setFacet n { f with supLow := true, shedSeq := some f.shedNext }).log 0x3488 n (w32 volt))
  else go s

/-- One group is shed: each of its outputs drives off and logs event 0x2489. -/
def State.shedGroup (s : State) (n g : Nat) : State :=
  (facetChans n).foldl (fun s ch =>
    if isOut (s.ownMode ch) ∧ (s.own Cf.FCT_SHED_GROUP ch).toNat = g ∧ !(s.chan ch).shed then
      ((s.setChan ch { s.chan ch with shed := true }).redrive ch).log 0x2489 ch (w32 g)
    else s) s

/-- SHED_GROUP_INSTANT (R202): the instant of the next group; a supply at or above 15.0 V ends the sequence. -/
def execShedGroupInstant (n volt : Nat) (s : State) : Host.Outcome State Fault Refusal :=
  let f := s.facet n
  match f.shedSeq with
  | none => go s
  | some g =>
    if 1500 ≤ volt then go (s.setFacet n { f with shedSeq := none })
    else
      let s1 := s.shedGroup n g
      go (s1.setFacet n { s1.facet n with shedSeq := if g < 3 then some (g + 1) else none, shedNext := g + 1 })

/-- SHED_RESTART (R202): below 15.0 V again for 2 ms while SUP_LOW is set. -/
def execShedRestart (n volt : Nat) (s : State) : Host.Outcome State Fault Refusal :=
  let f := s.facet n
  if f.supLow ∧ f.shedSeq = none ∧ f.shedNext < 4 ∧ volt < 1500 then
    go (s.setFacet n { f with shedSeq := some f.shedNext })
  else go s

/-- SUP_RECOVERED (R201, R203): the flags clear, and the outputs with AUTO_RESTORE follow group by group. -/
def execSupRecovered (n volt : Nat) (s : State) : Host.Outcome State Fault Refusal :=
  let f := s.facet n
  if (f.supWarn ∨ f.supLow) ∧ 1920 ≤ volt then
    let f1 := { f with supWarn := false, supLow := false, shedSeq := none, shedNext := 0, autoRest := some 0 }
    go ((s.setFacet n f1).log 0x048A n (w32 (s.fld Fld.FCT_SUPPLY_MIN n 0)))
  else go s

/-- A shed or overloaded output is restored: it drives its owner's latest value at the next frame (R203). -/
def State.restoreOut (s : State) (ch cause : Nat) : State :=
  (s.setChan ch { s.chan ch with shed := false, ovl := false }).log 0x048B ch (w32 cause)

/-- Whether an output waits for a restore. -/
def State.isShed (s : State) (ch : Nat) : Bool :=
  isOut (s.ownMode ch) && ((s.chan ch).shed || (s.ownMode ch == 8 && (s.chan ch).ovl))

/-- AUTO_RESTORE_GROUP (R203): the next group, 1 ms after the one before. -/
def execAutoRestoreGroup (n : Nat) (s : State) : Host.Outcome State Fault Refusal :=
  match (s.facet n).autoRest with
  | none => go s
  | some g =>
    let s1 := (facetChans n).foldl (fun s ch =>
      if s.isShed ch ∧ s.own Cf.FCT_AUTO_RESTORE ch = 1 ∧ (s.own Cf.FCT_SHED_GROUP ch).toNat = g then s.restoreOut ch 1
      else s) s
    go (s1.setFacet n { s1.facet n with autoRest := if g < 3 then some (g + 1) else none })

/-- A signed factor as a field of `bits` bits. -/
def sliceBits (bits : Nat) (v : Int) : Nat := (v % 2 ^ bits).toNat

/-- FCT_SLICE0 to FCT_SLICE3 show the factors that the Facet holds; factors it does not hold are nominal, zero. -/
def State.showSlices (s : State) (n : Nat) : State :=
  (List.range 4).foldl (fun s k =>
    let x := (s.facet n).slices.getD k (0, 0, 0)
    s.wr Reg.FCT_SLICE n k (w32 (sliceBits 10 x.2.2 * 2 ^ 22 + sliceBits 11 x.2.1 * 2 ^ 11 + sliceBits 11 x.1))) s

/-- The configuration of a Facet is dropped from a store of field keys: its channels and its own instance. -/
def dropFacet (n : Nat) (t : Tab Word) : Tab Word :=
  t.filter (fun kv => !(keyInst kv.1 == 128 + n || (keyInst kv.1 < 128 && keyInst kv.1 / 8 == n)))

/-- FACET_SUPPLY_RESET (R171, R204): below 12.0 V the Facet resets and loses what it held, its slice factors with it; its
indicator is dark until it has power again (R67). -/
def execFacetSupplyReset (n : Nat) (s : State) : Host.Outcome State Fault Refusal :=
  let f := s.facet n
  let fr := { facetIdle with fseq := f.fseq, upSeq := f.upSeq, invalid := f.invalid, updates := [], cmds := f.cmds,
                             diag := f.diag, hart := f.hart, spot := f.spot, tempSeen := f.tempSeen,
                             perimOff := f.perimOff, lastFrame := f.lastFrame, sent := f.sent, cfgIdx := f.cfgIdx,
                             unfed := true }
  let s1 := (facetChans n).foldl (fun s ch =>
    let c := s.chan ch
    s.setChan ch { chanIdle with own := c.own, last := c.last, lastCode := c.lastCode, lastAt := c.lastAt,
                                 shed := isOut (s.chMode ch) }) (s.setFacet n fr)
  let s2 := { s1 with fct := { s1.fct with
    own := dropFacet n s1.fct.own
    cals := s1.fct.cals.filter (fun kv => kv.1 / 32 != n) } }
  go ((((s2.setSlot n 0 fbIdle).wr Reg.FCT_CALSTAT n 0 0).showSlices n).log 0x448F n)

/-- FACET_POWER_UP (R204): every channel is OFF and RESTARTED is set; every output configured before counts as shed. -/
def execFacetPowerUp (n : Nat) (s : State) : Host.Outcome State Fault Refusal :=
  let s1 := (facetChans n).foldl (fun s ch =>
    if isOut (s.chMode ch) then s.setChan ch { s.chan ch with shed := true } else s) s
  go ((s1.setFacet n { s1.facet n with restarted := true, cfgOk := false, delivered := false, unfed := false }).redriveAll n)

/-! ### Pulse inputs (R206, R207) -/

/-- PI_GATE_END (R207): a sample of the count or of the frequency of the gate, stamped at its end. A channel whose link is
not UP keeps its last value (R181, R612). -/
def execPiGateEnd (ch : Nat) (s : State) : Host.Outcome State Fault Refusal :=
  let c := s.chan ch
  if ch < 128 ∧ s.chMode ch = 9 ∧ !(s.linkUp (ch / 8)) then go (s.setChan ch { c with gateN := 0 })
  else if ch < 128 ∧ s.chMode ch = 9 then
    let f := if c.gateN < 2 ∨ c.gateLast ≤ c.gateFirst then (0 : Word)
      else w32f (Fl.ofRat fmt32 (((c.gateN - 1 : Nat) : Int) * 4294967296000000000) (c.gateLast - c.gateFirst).toNat)
    let s1 := (s.setChan ch { c with gateN := 0 }).wr Reg.FCT_PIFREQ (ch / 8) (ch % 8) f
    let v := if s.cfN Cf.FCT_PI_OUT ch = 1 then f else s.rd Reg.FCT_PICOUNT (ch / 8) (ch % 8)
    go (s1.sample ch v 0 s.timeT)
  else go s

/-! ### The FCT opcodes of spec/06 (R210) -/

/-- Whether a word is a binary32 that is not a number. -/
def isNan32 (w : Word) : Bool := (f32 w).isNan

/-- A binary32 held between two limits. -/
def clamp32 (lo hi x : Word) : Word :=
  if Fl.lt (f32 x) (f32 lo) then lo else if Fl.lt (f32 hi) (f32 x) then hi else x

/-- FCT_OUTPUT as decided (R210): what passes is held until the next frame of the Facet starts. -/
def State.fctOutput (s : State) (it : Item) : State :=
  let ch := it.inst
  let v := it.w 3
  if 127 < ch then s.complete it stRange 0x12 0 (w32 ch)
  else if s.cfN Cf.FCT_OWNER ch ≠ 0 then s.complete it stState 1
  else if !(isOut (s.chMode ch)) then s.complete it stState 2
  else if s.chMode ch = 8 ∧ 1 < v.toNat then s.complete it stFormat 12
  else if isAO (s.chMode ch) ∧ isNan32 v then s.complete it stRange 0x12 0xFFFF v
  else s.holdItem 0x1200 it [v]

/-- FCT_OUTPUT. -/
def execFctOutput (it : Item) (s : State) : Host.Outcome State Fault Refusal := serve it s (fun s => s.fctOutput it)

/-- FCT_RESTORE (R203): refused while SUP_LOW is set, held until the next frame otherwise. -/
def execFctRestore (it : Item) (s : State) : Host.Outcome State Fault Refusal :=
  serve it s (fun s =>
    if 15 < it.inst then s.complete it stRange 0x12 0 (w32 it.inst)
    else if (s.facet it.inst).supLow then s.complete it stState 3
    else s.holdItem 0x1201 it [])

/-- FCT_PICLEAR (R206, R210). -/
def execFctPiclear (it : Item) (s : State) : Host.Outcome State Fault Refusal :=
  serve it s (fun s =>
    if 127 < it.inst then s.complete it stRange 0x12 0 (w32 it.inst)
    else if s.chMode it.inst ≠ 9 then s.complete it stState 2
    else (s.wr Reg.FCT_PICOUNT (it.inst / 8) (it.inst % 8) 0).complete it stDone)

end Sys2Proof.Machine
end

