-- ==== Sys2Proof/Machine/FctAna.lean ====
section
/-! DEFINITION. The Facets' converters and analog channels: slice factors, FCT_CAL, diagnoses, calibration sets, trims,
HART, and the flags of analog inputs and outputs (spec/07_facet_analog.md). -/

namespace Sys2Proof.Machine

/-- The item of an opcode and instance that its block has begun and not completed. -/
def State.begun (s : State) (opcode : Nat) (p : Nat → Bool) : Option Inflight :=
  s.hif.inflight.find? (fun f => f.opcode == opcode && p f.item.inst && f.phase != .fetched)

/-! ### Slice factors and FCT_CAL (R213 to R215) -/

/-- One factor after an update of at most one unit of `step`, held to its field (R213); at its limit it stays. -/
def sliceMove (bits : Nat) (step : Int) (old d : Int) : Int :=
  let lo : Int := -(2 ^ (bits - 1))
  let hi : Int := 2 ^ (bits - 1) - 1
  if old = lo ∨ old = hi then old else max lo (min hi (old + max (-step) (min step d)))

/-- The factors of a slice of a Facet; nominal ones are zero. -/
def State.slice (s : State) (n k : Nat) : Int × Int × Int := (s.facet n).slices.getD k (0, 0, 0)

/-- A slice with new factors. -/
def State.setSlice (s : State) (n k : Nat) (x : Int × Int × Int) : State :=
  s.setFacet n { s.facet n with slices := (List.range 4).map (fun i => if i = k then x else s.slice n i) }

/-- Whether a factor of a slice is at the limit of its field. -/
def atLimit (x : Int × Int × Int) : Bool :=
  let lim := fun (v : Int) (bits : Nat) => v = -(2 ^ (bits - 1)) || v = 2 ^ (bits - 1) - 1
  lim x.1 11 || lim x.2.1 11 || lim x.2.2 10

/-- SLICE_CORRECTION (R213): the estimates ask for a move, and the factors move by at most 1 LSB, 2 ppm and 0.1 ps. The
registers and event 0x2493 follow while the link is UP. -/
def execSliceCorrection (n slice : Nat) (dOff dGain dSkew : Int) (s : State) : Host.Outcome State Fault Refusal :=
  if n < 16 ∧ slice < 4 then
    let x := s.slice n slice
    let y := (sliceMove 11 1 x.1 dOff, sliceMove 11 2 x.2.1 dGain, sliceMove 10 1 x.2.2 dSkew)
    let s1 := s.setSlice n slice y
    if s.linkUp n then
      let s2 := s1.showSlices n
      if atLimit y ∧ !(s.bit Fld.FCT_CALSTAT_LIMIT n 0) then
        go ((s2.setF Fld.FCT_CALSTAT_LIMIT n 0 1).log 0x2493 n (w32 slice))
      else go s2
    else go s1
  else go s

/-- FCT_CAL (R214, R250): the command goes to the Facet with the next frames; the item is at its commit point when the
Facet answers BUSY. An item for a Facet that calibrates waits (DEDUCED, notes/assumptions/131.md). -/
def execFctCal (it : Item) (s : State) : Host.Outcome State Fault Refusal :=
  serve it s (fun s =>
    let f := s.facet it.inst
    if 15 < it.inst then s.complete it stRange 0x12 0 (w32 it.inst)
    else if f.diag.isSome then s.complete it stState 4
    else if f.calBusy ∨ f.cmds.any (fun c => c.1 == 1) then s
    else (s.setFacet it.inst { f with cmds := f.cmds ++ [(1, 0)] }).holdItem 0x1210 it [])

/-- Whether the factors that FCT_CAL found lie within their fields. -/
def factorsFit (x : Int × Int × Int) : Bool :=
  -1024 ≤ x.1 && x.1 ≤ 1023 && -1024 ≤ x.2.1 && x.2.1 ≤ 1023 && -512 ≤ x.2.2 && x.2.2 ≤ 511

/-- FCT_CAL_DONE (R214, R215): `found` is what the run has found. A Facet whose factors do not fit keeps those it has. -/
def execFctCalDone (n : Nat) (found : CalFound) (s : State) : Host.Outcome State Fault Refusal :=
  let f := s.facet n
  if n < 16 ∧ f.calBusy then
    let item := s.begun 0x1210 (fun i => i == n)
    match (List.range 4).find? (fun k => !(factorsFit (found.factors.getD k (0, 0, 0)))) with
    | some k =>
      let s1 := ((s.setFacet n { f with calBusy := false, dac := found.dac, ack := 193 }).setF Fld.FCT_CALSTAT_BUSY n 0 0).incF
        Fld.FCT_CALSTAT_RUNS n 0 1
      let s2 := s1.setF Fld.FCT_CALSTAT_FAIL n 0 1
      match item with
      | some x => go (s2.completeEv x.item stFault 0x4492 n (w32 k))
      | none => go (s2.log 0x4492 n (w32 k))
    | none =>
      let fs := (List.range 4).map (fun k => found.factors.getD k (0, 0, 0))
      let s1 := ((s.setFacet n { f with calBusy := false, dac := found.dac, ack := 129, slices := fs }).setF
        Fld.FCT_CALSTAT_BUSY n 0 0).incF Fld.FCT_CALSTAT_RUNS n 0 1
      let s2 := ((s1.showSlices n).setF Fld.FCT_CALSTAT_FAIL n 0 0).setF Fld.FCT_CALSTAT_LIMIT n 0 0
      let s3 := s2.log 0x0491 n 38
      match item with
      | some x => go (s3.complete x.item stDone)
      | none => go s3
  else go s

/-! ### Diagnoses (R231 to R234) -/

/-- The measuring range of a mode (R221). -/
def measLo (m : Nat) : Word := if m = 1 then 0xC1266666 else 0xBF800000
/-- The upper limit of the measuring range; HART multidrop reaches 66 mA. -/
def measHi (m : Nat) (multi : Bool) : Word := if m = 1 then 0x41266666 else if m = 3 ∧ multi then 0x42840000 else 0x41C80000

/-- A level in steps of the test DAC: 5 mV, on current inputs over 50 Ω (R231). The DAC has 12 bits and ±10.24 V: a level
that lies beyond becomes its highest or lowest step (DEDUCED, notes/assumptions/132.md). -/
def dacCode (m : Nat) (v : Word) : Int :=
  max (-2048) (min 2047 (Fl.mul fmt64 (f32 v) (.fin false (if m = 1 then 200 else 10) 0)).toIntEven)

/-- A DAC code as the level it produces. -/
def dacLevel (m : Nat) (c : Int) : Fl := Fl.ofRat fmt64 c (if m = 1 then 200 else 10)

/-- A level that is a number within the measuring range of the channel. -/
def State.levelOk (s : State) (ch : Nat) (v : Word) : Bool :=
  let m := s.chMode ch
  Fl.le (f32 (measLo m)) (f32 v) && Fl.le (f32 v) (f32 (measHi m (s.cf Cf.FCT_HART_MULTIDROP ch 0 == 1)))

/-- A diagnosis as decided (R231, R233). -/
def State.fctDiag (s : State) (it : Item) (wire : Bool) : State :=
  let ch := it.inst
  let n := ch / 8
  let f := s.facet n
  let m := s.chMode ch
  if 127 < ch then s.complete it stRange 0x12 0 (w32 ch)
  else if 1 < (it.w 3).toNat then s.complete it stFormat 12
  else if f.diag.isSome ∨ f.calBusy ∨ f.cmds.any (fun c => c.1 == 1) then s.complete it stState 4
  else if !(isAI m) ∨ (wire ∧ m ≠ 1) then s.complete it stState 2
  else if !(s.levelOk ch (it.w 4)) then s.complete it stRange 0x12 0xFFFF (it.w 4)
  else if !(s.levelOk ch (it.w 5)) then s.complete it stRange 0x12 0xFFFF (it.w 5)
  else
    let a := dacCode m (it.w 4)
    let b := dacCode m (it.w 5)
    let arg := ch % 8 + (a % 4096).toNat * 16 + (b % 4096).toNat * 65536
    let d : DiagSt := ⟨it.ring, it.seq, wire, ch % 8, w32f (dacLevel m a), w32f (dacLevel m b), false, none, []⟩
    let s1 := s.setFacet n { f with cmds := f.cmds ++ [(if wire then 3 else 2, arg)], diag := some d }
    ((s1.setF Fld.FCT_DIAGSTAT_BUSY n 0 1).setF Fld.FCT_DIAGSTAT_CH n 0 (ch % 8)).holdItem 0x1211 it []

/-- FCT_DIAG_PATH: the kind of the item is payload word 3. -/
def execFctDiagPath (it : Item) (s : State) : Host.Outcome State Fault Refusal :=
  serve it s (fun s => s.fctDiag it (it.w 3 = 1))

/-- FCT_DIAG_WIRE. -/
def execFctDiagWire (it : Item) (s : State) : Host.Outcome State Fault Refusal :=
  serve it s (fun s => s.fctDiag it (it.w 3 = 1))

/-- The ratio (mB − mA) ÷ (B − A); a free value when the two levels are the same step, for the spec states none. -/
def State.diagRatio (s : State) (d : DiagSt) (mA mB : Word) : Fl × State :=
  let den := Fl.sub fmt64 (f32 d.b) (f32 d.a)
  if den.isZero then
    let (w, s1) := s.fresh
    (f32 w, s1)
  else (Fl.div fmt64 (Fl.sub fmt64 (f32 mB) (f32 mA)) den, s)

/-- The verdict of a diagnosis (R233): `r` is the ratio, `tol` DIAG_TOL in ppm. -/
def diagVerdict (d : DiagSt) (m tol : Nat) (r : Fl) (mA : Word) : Nat :=
  if d.aborted then 5
  else if d.wire then
    if Fl.lt (f32 0x3F000000) r then 3
    else if Fl.le (Fl.ofRat fmt64 1 100) r then 4 else 0
  else
    let g := Fl.sub fmt64 r (Fl.ofInt 1)
    let t := Fl.ofRat fmt64 tol 1000000
    let span := Fl.ofInt (if m = 1 then 20 else 24)
    if Fl.lt r.abs (Fl.ofRat fmt64 1 10) then 2
    else if Fl.lt t g.abs ∨ Fl.lt (Fl.mul fmt64 t span) (Fl.sub fmt64 (f32 mA) (f32 d.a)).abs then 1 else 0

/-- How long a diagnosis lasts, in ns: 150 µs and 32 samples of the channel (R232). -/
def State.diagLen (s : State) (ch : Nat) : Nat :=
  150000 + 32 * (s.own Cf.FCT_AI_DECIM ch).toNat * 1600 / (s.own Cf.FCT_AI_SLOTS ch).toNat

/-- A time as an instant so many ns later. -/
def laterBy (t : Int) (ns : Nat) : Int := t + (ns : Int) * 4294967296

/-- The sixteen codes at level A, and those at level B, among the HELD words of a diagnosis (R232): each follows 50 µs on
its level. -/
def diagCodes (since : Int) (codes : List (Int × Int)) : List Int × List Int :=
  let a := (codes.filter (fun c => decide (laterBy since 50000 ≤ c.1))).take 16
  let tb := (a.getLast?.map (fun c => c.1)).getD since
  let b := (codes.filter (fun c => decide (laterBy tb 50000 ≤ c.1))).take 16
  (a.map (fun c => c.2), b.map (fun c => c.2))

/-- Codes per volt or milliampere of a mode (R220). -/
def codesPer (m : Nat) (multi : Bool) : Nat := if m = 1 then 12500 else if m = 3 ∧ multi then 1250 else 5000

/-- The mean of some codes as binary32, in V or mA. Where no word has brought a code of the level, `other` stands for it:
the spec states none. -/
def diagMean (m : Nat) (multi : Bool) (codes : List Int) (other : Word) : Word :=
  if codes = [] then other
  else w32f (Fl.ofRat fmt32 (codes.foldl (fun a c => a + c) 0) (codesPer m multi * codes.length))

/-- DIAG_DONE (R232 to R234): the diagnosis has run its time, or an APPLY frame has ended it. The means are those of the
words at the two levels; `mA` and `mB` are what stands for a level whose words the frames have not brought. -/
def execDiagDone (n : Nat) (mA mB : Word) (s : State) : Host.Outcome State Fault Refusal :=
  let f := s.facet n
  match f.diag with
  | none => go s
  | some d =>
    let ch := 8 * n + d.ch
    let t0 := d.since.getD s.timeT
    if d.aborted ∨ (d.since.isSome ∧ laterBy t0 (s.diagLen ch) ≤ s.timeT) then
      let m := s.ownMode ch
      let multi := s.own Cf.FCT_HART_MULTIDROP ch == 1
      let cs := diagCodes t0 d.codes
      let a := diagMean m multi cs.1 mA
      let b := diagMean m multi cs.2 mB
      let (r, s3) := (s.setFacet n { f with diag := none, fdiag := none,
                                            ack := 128 + (if d.wire then 3 else 2) }).diagRatio d a b
      let v := diagVerdict d m (s.cfN Cf.FCT_DIAG_TOL (128 + n)) r a
      let g := wInt (satInt32 (Fl.mul fmt64 (Fl.sub fmt64 r (Fl.ofInt 1)) (Fl.ofInt 1000000)).toIntEven)
      let s4 := (s3.setF Fld.FCT_DIAGSTAT_BUSY n 0 0).setF Fld.FCT_DIAGSTAT_VERDICT n 0 v
      let s5 := if v = 0 then s4 else s4.log 0x249A ch (if d.wire then 1 else 0) (w32 v)
      match s.flight d.ring d.seq with
      | some x => go (s5.complete x.item stDone (w32 v) a b g)
      | none => go s5
    else go s

/-! ### Calibration sets and trims (R226 to R230) -/

/-- FCT_CALSET_READ (R250). -/
def execFctCalsetRead (it : Item) (s : State) : Host.Outcome State Fault Refusal :=
  serve it s (fun s =>
    let r := (it.w 3).toNat
    if 127 < it.inst then s.complete it stRange 0x12 0 (w32 it.inst)
    else if 3 < r then s.complete it stFormat 12
    else
      let ws := s.calRec it.inst r
      (s.bufPut it (bufAddr it 4) ws).complete it stDone (w32 (calOrigin r ws)))

/-- The limits of R226 for the factors A and B of a range: lowest and highest of each. -/
def calLimits (r : Nat) : (Word × Word) × (Word × Word) :=
  if r = 0 then ((0xBECCCCCD, 0x3ECCCCCD), (0x3F7AE148, 0x3F828F5C))
  else if r = 1 then ((0xBEF5C28F, 0x3EF5C28F), (0x3F7AE148, 0x3F828F5C))
  else if r = 2 then ((0x40733333, 0x40866666), (0x419CCCCD, 0x41A33333))
  else ((0xC0A66666, 0xC099999A), (0x4099999A, 0x40A66666))

/-- Whether a binary32 lies within two limits. -/
def within32 (l : Word × Word) (v : Word) : Bool := Fl.le (f32 l.1) (f32 v) && Fl.le (f32 v) (f32 l.2)

/-- FCT_CALSET_WRITE as decided (R229); what passes is held until the next frame. -/
def execFctCalsetWrite (it : Item) (s : State) : Host.Outcome State Fault Refusal :=
  serve it s (fun s =>
    let r := (it.w 3).toNat
    let l := calLimits r
    if it.w 6 ≠ 0xCA1B then s.complete it stFormat 24
    else if 127 < it.inst then s.complete it stRange 0x12 0 (w32 it.inst)
    else if 3 < r then s.complete it stFormat 12
    else if !(within32 l.1 (it.w 4)) then s.complete it stRange 0x12 0xFFFE (it.w 4)
    else if !(within32 l.2 (it.w 5)) then s.complete it stRange 0x12 0xFFFE (it.w 5)
    else s.holdItem 0x1213 it [])

/-- The record that a write makes (R227, R228): origin USER, the write count one higher. -/
def State.calUser (s : State) (ch r : Nat) (a b : Word) : List Word :=
  let old := s.calRec ch r
  let cnt : Word := if calValid r old then old.getD 4 0 + 1 else 1
  let ws := [w32 (0x4341 * 65536 + r * 256 + 2), a, b, stSec s.now, cnt, 0, 0]
  ws ++ [w32 (crc32 (ws.flatMap bytesOf))]

/-- FCT_TRIMDRIVE as decided (R230, R250). -/
def State.fctTrim (s : State) (it : Item) : State :=
  if 127 < it.inst then s.complete it stRange 0x12 0 (w32 it.inst)
  else if 2 < (it.w 3).toNat then s.complete it stFormat 12
  else if s.cfN Cf.FCT_OWNER it.inst ≠ 0 then s.complete it stState 1
  else if !(isAO (s.chMode it.inst)) then s.complete it stState 2
  else s.holdItem 0x1214 it []

/-- FCT_TRIMDRIVE: POINT is payload word 3. -/
def execFctTrimdrive (it : Item) (s : State) : Host.Outcome State Fault Refusal := serve it s (fun s => s.fctTrim it)

/-- FCT_TRIMDRIVE_RELEASE: POINT = 2 ends the trim. -/
def execFctTrimdriveRelease (it : Item) (s : State) : Host.Outcome State Fault Refusal :=
  serve it s (fun s => s.fctTrim it)

/-! ### HART (R242 to R245) -/

/-- A transaction of the Facet runs, or an item fetched earlier waits for its modem (R242). -/
def State.hartTaken (s : State) (it : Item) : Bool :=
  (s.facet (it.inst / 8)).hart.isSome ||
    ((s.flight it.ring it.seq).isSome && (s.hif.inflight.takeWhile (fun f => !(f.is it.ring it.seq))).any (fun f =>
      f.opcode == 0x1215 && f.item.inst / 8 == it.inst / 8))

/-- FCT_HART (R242, R250): one transaction of a Facet at a time, in the order of fetch; a second waits. -/
def execFctHart (it : Item) (s : State) : Host.Outcome State Fault Refusal :=
  serve it s (fun s =>
    let n := it.inst / 8
    let m := s.chMode it.inst
    let len := (it.w 6).toNat
    if 127 < it.inst then s.complete it stRange 0x12 0 (w32 it.inst)
    else if len < 3 ∨ 262 < len then s.complete it stFormat 24
    else if (it.w 9).toNat < 263 then s.complete it stFormat 36
    else if m ≠ 3 ∧ m ≠ 5 then s.complete it stState 2
    else if s.hartTaken it then s
    else
      let t : HartTx := ⟨it.ring, it.seq, it.inst % 8, 0, true, false, 0, []⟩
      let s1 := s.setFacet n { s.facet n with hart := some t }
      ((s1.setF Fld.FCT_HARTSTAT_BUSY n 0 1).setF Fld.FCT_HARTSTAT_CH n 0 (it.inst % 8)).holdItem 0x1215 it [])

/-- The check byte of a HART frame: the exclusive or of its bytes from the delimiter on (PRESUMED, the HART protocol;
notes/assumptions/133.md). -/
def hartCheck (bs : List Byte) : Byte := bs.foldl (fun c b => c ^^^ b) 0

/-- The frame a modem sends for a request (R243): preamble, the master-to-slave delimiter of its type, the request, and
the check byte. -/
def hartFrame (preamble : Nat) (long : Bool) (bs : List Byte) : List Byte :=
  let body := (if long then (0x82 : Byte) else 0x02) :: bs
  List.replicate preamble 0xFF ++ body ++ [hartCheck body]

/-- A frame as received on the line: its bytes without preamble and check byte, and whether the check byte is right. -/
def hartStrip (line : List Byte) : List Byte × Bool :=
  let l := line.dropWhile (fun b => b == 0xFF)
  (l.dropLast, l.getLast?.getD 0 == hartCheck l.dropLast && !l.isEmpty)

/-- The stamp at which the check byte went out, kept with the item when CLOSE was sent. -/
def Inflight.sentAt (x : Inflight) : Stamp := ⟨(x.note.getD 0 0).toNat + (x.note.getD 1 0).toNat * 4294967296, (x.note.getD 2 0).toNat⟩

/-- The transaction that waits for a reply, with its item. -/
def State.hartWait (s : State) (n : Nat) : Option Inflight :=
  match (s.facet n).hart with
  | some t => if t.closed then s.flight t.ring t.seq else none
  | none => none

/-- A frame has been received: the reply, without preamble and check byte, goes to the reply buffer (R243); without a
transaction that waits it is unsolicited (R245). -/
def State.hartReply (s : State) (n : Nat) (body : List Byte) (checkOk : Bool) : State :=
  match s.hartWait n with
  | none => s.incF Fld.FCT_HARTSTAT_UNSOL n 0 1
  | some x =>
    let s1 := (s.hartEnd n).bufPutBytes x.item (bufAddr x.item 7) (body.take (x.item.w 9).toNat)
    let s2 := if checkOk then s1 else s1.incF Fld.FCT_HARTSTAT_CHKERR n 0 1
    s2.completeAt x.item x.sentAt stDone (w32 body.length) (if checkOk then 0 else 2) 0 0

/-- HART_REPLY (R243): the bytes received on the line; `clean` where none of them came with the ERR bit of R246, which counts
as a wrong check byte (notes/assumptions/133.md). -/
def execHartReply (n : Nat) (bytes : List Byte) (clean : Bool) (s : State) : Host.Outcome State Fault Refusal :=
  let r := hartStrip bytes
  go (s.hartReply n r.1 (r.2 && clean))

/-- HART_REPLY_TIMEOUT (R243): HART_RTMO has passed without a reply. -/
def execHartReplyTimeout (n : Nat) (s : State) : Host.Outcome State Fault Refusal :=
  match s.hartWait n, (s.facet n).hart with
  | some x, some t =>
    if t.closedAt + (s.own Cf.FCT_HART_RTMO (128 + n)).toNat * 1000000 ≤ s.mer.base then
      go (((s.hartEnd n).incF Fld.FCT_HARTSTAT_NOREPLY n 0 1).completeAt x.item x.sentAt stDone 0 1 0 0)
    else go s
  | _, _ => go s

/-- HART_TX_TIMEOUT (R244): 20 ms without a byte end a frame whose CLOSE has not come. -/
def execHartTxTimeout (n : Nat) (s : State) : Host.Outcome State Fault Refusal := go (s.hartCut n)

/-- HART_UNSOLICITED (R245). -/
def execHartUnsolicited (n : Nat) (s : State) : Host.Outcome State Fault Refusal :=
  match s.hartWait n with
  | some _ => go s
  | none => go (s.incF Fld.FCT_HARTSTAT_UNSOL n 0 1)

/-! ### Flags of analog inputs and outputs (R235 to R241); voltages in V and currents in mA, binary32 -/

/-- A measured value beyond the open threshold of an input (R235, R236): above 10.40 V, or below AI_OPENI. -/
def State.aiOpen (s : State) (ch : Nat) (meas : Word) : Bool :=
  if s.ownMode ch = 1 then Fl.lt (f32 0x41266666) (f32 meas) else Fl.lt (f32 meas) (f32 (s.own Cf.FCT_AI_OPENI ch))

/-- A measured value that ends the open state: below 10.40 V, or at or above AI_OPENI + 0.1 mA. -/
def State.aiShut (s : State) (ch : Nat) (meas : Word) : Bool :=
  if s.ownMode ch = 1 then Fl.lt (f32 meas) (f32 0x41266666)
  else Fl.le (Fl.add fmt32 (f32 (s.own Cf.FCT_AI_OPENI ch)) (f32 0x3DCCCCCD)) (f32 meas)

/-- AI_OPEN_DETECT (R235, R236): beyond the open threshold for 10 ms, with AI_OPENDET. -/
def execAiOpenDetect (m : ChanMeas) (s : State) : Host.Outcome State Fault Refusal :=
  let c := s.chan m.ch
  if isAI (s.ownMode m.ch) ∧ s.own Cf.FCT_AI_OPENDET m.ch = 1 ∧ !c.openw ∧ s.aiOpen m.ch m.meas then
    go ((s.setChan m.ch { c with openw := true }).log 0x2494 m.ch (w32 (s.ownMode m.ch)))
  else go s

/-- AI_OPEN_CLEAR (R235, R236). -/
def execAiOpenClear (m : ChanMeas) (s : State) : Host.Outcome State Fault Refusal :=
  let c := s.chan m.ch
  if isAI (s.ownMode m.ch) ∧ s.aiShut m.ch m.meas then go (s.setChan m.ch { c with openw := false }) else go s

/-- The adaptive supply of a current stage for the voltage its loop needs, in 10 mV: 2.5 V above it, between 5 V and 27 V
(R237). -/
def adaptive (need : Nat) : Nat := Nat.max 500 (Nat.min 2700 (need + 250))

/-- A stage's supply follows what its loop needs, and FCT_AOSTAT.VSUP shows it. -/
def State.setSupply (s : State) (ch need : Nat) : State :=
  (s.setChan ch { s.chan ch with vsup := adaptive need }).setF Fld.FCT_AOSTAT_VSUP (ch / 8) (ch % 8) (adaptive need)

/-- A measured current short of its command by more than 0.05 mA (R238). -/
def shortOf (cmd meas : Word) : Bool := Fl.lt (Fl.ofRat fmt64 1 20) (Fl.sub fmt64 (f32 cmd) (f32 meas))

/-- AO_COMPLIANCE (R237, R238): the loop needs `need`, and the current has been short of its command for 1 ms; COMPLIANCE is
set with the supply at 27 V, and not while OPEN is. -/
def execAoCompliance (ch : Nat) (meas : Word) (need : Nat) (s : State) : Host.Outcome State Fault Refusal :=
  let c := s.chan ch
  if isAOI (s.ownMode ch) then
    let s1 := s.setSupply ch need
    if !c.comp ∧ !c.openw ∧ adaptive need = 2700 ∧ shortOf c.drv meas then
      go ((s1.setChan ch { s1.chan ch with comp := true }).log 0x2495 ch c.drv meas)
    else go s1
  else go s

/-- AO_COMPLIANCE_CLEAR (R238): within 0.05 mA of the command for 1 ms. -/
def execAoComplianceClear (m : ChanMeas) (s : State) : Host.Outcome State Fault Refusal :=
  let c := s.chan m.ch
  if shortOf c.drv m.meas ∨ shortOf m.meas c.drv then go s else go (s.setChan m.ch { c with comp := false })

/-- AO_OPEN (R239): a command of at least 1.0 mA and a current below 0.2 mA for 5 ms. COMPLIANCE is not set while OPEN is
(R238). -/
def execAoOpen (m : ChanMeas) (s : State) : Host.Outcome State Fault Refusal :=
  let c := s.chan m.ch
  if isAOI (s.ownMode m.ch) ∧ !c.openw ∧ Fl.le (f32 0x3F800000) (f32 c.drv) ∧ Fl.lt (f32 m.meas) (f32 0x3E4CCCCD) then
    go ((s.setChan m.ch { c with openw := true, comp := false }).log 0x2497 m.ch)
  else go s

/-- AO_OPEN_CLEAR (R239): the current has reached 0.2 mA. A command below 1.0 mA clears OPEN where it is driven. -/
def execAoOpenClear (m : ChanMeas) (s : State) : Host.Outcome State Fault Refusal :=
  let c := s.chan m.ch
  if isAOI (s.ownMode m.ch) ∧ Fl.le (f32 0x3E4CCCCD) (f32 m.meas) then go (s.setChan m.ch { c with openw := false }) else go s

/-- The current limit of a stage 10 ms on (R240), in 0.1 mA: down by 2 mA above 150 degrees to no less than 4 mA, up by
2 mA below 140 degrees to 24 mA. -/
def ilimStep (temp ilim : Nat) : Nat :=
  if 150 < temp then Nat.max 40 (ilim - 20) else if temp < 140 then Nat.min 240 (ilim + 20) else ilim

/-- AO_THERMAL_STEP (R237, R240): a step of 10 ms with the stage as given. -/
def execAoThermalStep (ch : Nat) (stage : StageHeat) (s : State) : Host.Outcome State Fault Refusal :=
  if isAOI (s.ownMode ch) then
    let s0 := s.setSupply ch stage.need
    let c := s0.chan ch
    let il := ilimStep stage.temp c.ilim
    let hot := 175 ≤ stage.temp || (c.hot && 140 ≤ stage.temp)
    let s1 := (s0.setF Fld.FCT_AOSTAT_ILIM (ch / 8) (ch % 8) il).setF Fld.FCT_AOSTAT_STAGE_TEMP (ch / 8) (ch % 8) (Nat.min 255 stage.temp)
    go ((s1.setChan ch { c with ilim := il, hot := hot, ovl := hot }).redrive ch)
  else go s

/-- AO_V_OVERLOAD (R241): the output stays at its limit and does not switch off. -/
def execAoVOverload (ch : Nat) (s : State) : Host.Outcome State Fault Refusal :=
  let c := s.chan ch
  if s.ownMode ch = 6 ∧ !c.ovl then go ((s.setChan ch { c with ovl := true }).log 0x2498 ch) else go s

/-- AO_V_OVERLOAD_CLEAR (R241). -/
def execAoVOverloadClear (ch : Nat) (s : State) : Host.Outcome State Fault Refusal :=
  let c := s.chan ch
  if s.ownMode ch = 6 then go (s.setChan ch { c with ovl := false }) else go s

end Sys2Proof.Machine
end

