-- ==== Sys2Proof/Machine/Tan.lean ====
section
/-! DEFINITION. Tangent: ticks and samples, the control law, the states of a loop, its hand-off, and test-signal
injection (spec/08_tangent_loops.md). -/

namespace Sys2Proof.Machine

/-! ### The parts of the state -/

/-- A loop that is not enabled. -/
def loopIdle : LoopSt :=
  { cmd := 0, cmdSrc := 0, st := 0, sp := 0, spw := 0, sampled := false, law := ⟨0, 0, 0, 0, 0⟩, last := 0,
    hasLast := false, man := 0, init := false, numErr := false, ecc := false, ramp := false, hbAt := 0, reqs := [], samp := none,
    inj := none, evLate := 0, evNone := 0, evAt := 0, tickN := 0 }

/-- Loop `l`. -/
def State.loop (s : State) (l : Nat) : LoopSt := tget loopIdle s.tan.loops l

/-- The state with loop `l` replaced. -/
def State.setLoop (s : State) (l : Nat) (p : LoopSt) : State :=
  { s with tan := { s.tan with loops := tset loopIdle s.tan.loops l p } }

/-- A field of a loop. -/
def State.tn (s : State) (c : Cf) (l : Nat) : Nat := s.cfN c l

/-- A binary32 field of a loop. -/
def State.tf (s : State) (c : Cf) (l : Nat) : Fl := f32 (s.cf c l 0)

/-- Whether Tangent, Locus and Lattice run: PD_ENG is on, the module runs, and it is not the standby (R541). -/
def State.engOn (s : State) : Bool := s.domOn 3 && s.sys.mode == .running && !s.standby && !s.mir.hold

/-- ENABLE of a loop. -/
def State.loopEn (s : State) (l : Nat) : Bool := s.cf Cf.TAN_ENABLE l 0 == 1

/-- The kind of a loop's destination: 0 NONE, 1 FACET, 2 ARC, 3 LOOP. -/
def State.dstKind (s : State) (l : Nat) : Nat := bitsOf (s.cf Cf.TAN_OUT_DST l 0) 28 4

/-- The channel, generator or loop that a loop's destination names. -/
def State.dstNo (s : State) (l : Nat) : Nat :=
  let w := s.cf Cf.TAN_OUT_DST l 0
  if s.dstKind l = 1 then bitsOf w 0 7 else if s.dstKind l = 2 then bitsOf w 0 5 else bitsOf w 0 8

/-- TAN_LSTAT.STATE, CMD, INJ and RAMP, and TAN_INJSTAT.ACTIVE, as the loop stands. -/
def State.tanShow (s : State) (l : Nat) : State :=
  let p := s.loop l
  let b := fun (x : Bool) => if x then 1 else 0
  let s1 := (s.setF Fld.TAN_LSTAT_STATE l 0 p.st).setF Fld.TAN_LSTAT_CMD l 0 p.cmd
  let s2 := (s1.setF Fld.TAN_LSTAT_INJ l 0 (b p.inj.isSome)).setF Fld.TAN_LSTAT_RAMP l 0 (b p.ramp)
  s2.setF Fld.TAN_INJSTAT_ACTIVE l 0 (b p.inj.isSome)

/-- Qualities that make an input unusable (R266): HELD, STALE, BAD. -/
def badQ (q : Nat) : Bool := q = 3 || q = 4 || q = 15

/-- An entry's value as binary32: an integer entry is converted, ties to even (R260). -/
def State.coFl (s : State) (e : Nat) (v : Word) : Word := if s.coFloat e then v else w32f (Fl.to32 (Fl.ofInt (sInt v)))

/-- The value and quality of a source word: LOCAL channel or COORD coordinate (R255). An input of a Facet whose link is
not UP keeps its last value with quality BAD (R181, R612). -/
def State.srcVal (s : State) (w : Word) : Word × Nat :=
  if bitOf w 31 then
    match s.entryOf (bitsOf w 0 22) with
    | some e => (s.coFl e (s.co e).val, (s.co e).q)
    | none => (0, 15)
  else
    let ch := bitsOf w 0 7
    let q := if s.fld Fld.FCT_LINK_STATE (ch / 8) 0 = 2 then (s.co ch).q else 15
    (s.coFl ch (s.co ch).val, q)

/-! ### Misses (R259) -/

/-- An injection ends with a reason (R282). -/
def State.injEnd (s : State) (l reason : Nat) : State :=
  let p := s.loop l
  match p.inj with
  | none => s
  | some j =>
    let s1 := (s.setLoop l { p with inj := none }).setF Fld.TAN_INJSTAT_REASON l 0 reason
    let s2 := if j.capture then
        { s1 with tan := { s1.tan with capt := s1.tan.capt ++ [⟨l, j.recNo, 0, 0, 0, 0, 0, true⟩] } } else s1
    (s2.tanShow l).log 0x01C5 l (w32 reason) (w32 j.samples)

/-- The report of misses: the first in any second logs the counts since the previous event. -/
def State.missEvent (s : State) (l : Nat) (late none : Nat) : State :=
  let p := s.loop l
  let a := p.evLate + late
  let b := p.evNone + none
  if p.evAt = 0 ∨ p.evAt - 1 + 1000000000 ≤ s.mer.base then
    (s.setLoop l { p with evLate := 0, evNone := 0, evAt := s.mer.base + 1 }).log 0x21C1 l (w32 a) (w32 b)
  else s.setLoop l { p with evLate := a, evNone := b }

/-- The bits of TAN_LSTAT that show what acted at the last sample: SP_LIM, OUT_HI_LIM, OUT_LO_LIM, RATE_LIM. -/
def limitBits : Word := 0x3C00

/-- The loop as it stands before an evaluation (R259). -/
def State.loopUndo (s : State) (l : Nat) : LoopUndo :=
  let p := s.loop l
  { law := p.law, last := p.last, hasLast := p.hasLast, init := p.init, numErr := p.numErr, sp := p.sp, spw := p.spw,
    sampled := p.sampled, outShown := s.rd Reg.TAN_OUT l 0, spShown := s.rd Reg.TAN_SP l 0, pvShown := s.rd Reg.TAN_PV l 0,
    limits := s.rd Reg.TAN_LSTAT l 0 &&& limitBits }

/-- The loop as it stood before an evaluation whose result is discarded (R259). -/
def State.loopRestore (s : State) (l : Nat) (u : LoopUndo) : State :=
  let s1 := s.setLoop l { s.loop l with
    law := u.law, last := u.last, hasLast := u.hasLast, init := u.init, numErr := u.numErr, sp := u.sp, spw := u.spw,
    sampled := u.sampled }
  let s2 := ((s1.wr Reg.TAN_OUT l 0 u.outShown).wr Reg.TAN_SP l 0 u.spShown).wr Reg.TAN_PV l 0 u.pvShown
  s2.wr Reg.TAN_LSTAT l 0 ((s2.rd Reg.TAN_LSTAT l 0 &&& ~~~limitBits) ||| u.limits)

/-- What an evaluated sample has changed is undone. -/
def State.sampleUndo (s : State) (l : Nat) : State :=
  match (s.loop l).samp.bind (fun x => x.undo) with
  | some u => s.loopRestore l u
  | none => s

/-- A sample is missed: cause 0 NOSAMPLE, 1 LATE, 2 a result that is not finite (R265). The destination keeps its
output and the loop the state it had before the sample. -/
def State.missSample (s : State) (l cause : Nat) : State :=
  let s0 := s.sampleUndo l
  let s1 := (s0.setLoop l { s0.loop l with samp := none }).setF Fld.TAN_LSTAT_MISS l 0 1
  let s2 := if cause = 0 then s1.incF Fld.TAN_MISS_NOSAMPLE l 0 1
    else if cause = 1 then s1.incF Fld.TAN_MISS_LATE l 0 1 else s1.incF Fld.TAN_HOLDS_NUMERR l 0 1
  let s3 := s2.incF Fld.TAN_MISSALL_COUNT 0 0 1
  (s3.missEvent l (if cause = 1 then 1 else 0) (if cause = 0 then 1 else 0)).injEnd l 3

/-- The deadline of a sample: its tick plus DEADLINE, or plus PERIOD where that is 0 (R259). -/
def State.deadline (s : State) (l : Nat) (x : Sample) : Int :=
  let d := s.tn Cf.TAN_DEADLINE l
  laterBy x.t ((if d = 0 then s.tn Cf.TAN_PERIOD l else d) * 1000)

/-- LOOP_DEADLINE_MISS (R259): the deadline of the sample has come. -/
def execLoopDeadlineMiss (l : Nat) (s : State) : Host.Outcome State Fault Refusal :=
  match (s.loop l).samp with
  | none => go s
  | some x => if s.deadline l x ≤ s.timeT then go (s.missSample l (if x.ready then 1 else 0)) else go s

/-! ### Ticks and readiness (R253 to R255) -/

/-- The tick index N of an instant. -/
def tickOf (t : Int) : Nat := (t / 4294967296 / 5000).toNat

/-- One loop at a tick: it takes its sample when N mod P = PHASE; a sample still open is missed. -/
def State.loopTick (s : State) (n : Nat) (l : Nat) : State :=
  let per := s.tn Cf.TAN_PERIOD l / 5
  if s.loopEn l ∧ n % per = s.tn Cf.TAN_PHASE l then
    let s1 := match (s.loop l).samp with
      | some x => s.missSample l (if x.ready then 1 else 0)
      | none => s
    let w := s1.cf Cf.TAN_PV_SRC l 0
    let v := s1.srcVal w
    let now := bitOf w 31 || s1.fld Fld.FCT_LINK_STATE (bitsOf w 0 7 / 8) 0 != 2
    let p := s1.loop l
    s1.setLoop l { p with samp := some ⟨(n : Int) * 5000 * 4294967296, now, v.1, v.2, s1.mer.base, false, none, none, none⟩ }
  else s

/-- The loops that any field names, and so the only ones that can be enabled. -/
def State.loopsSet (s : State) : List Nat :=
  (s.cfg.active.filterMap (fun kv =>
    if keyBlock kv.1 = 7 ∧ keyFld kv.1 = 2 ∧ kv.2 = 1 then some (keyInst kv.1) else none))

/-- LOOP_READY (R255): the first sample of a LOCAL input at or after the tick has reached Tangent, within the deadline. -/
def execLoopReady (l : Nat) (s : State) : Host.Outcome State Fault Refusal :=
  let p := s.loop l
  match p.samp with
  | some x =>
    if x.ready ∨ s.deadline l x < s.timeT then go s
    else
      let v := s.srcVal (s.cf Cf.TAN_PV_SRC l 0)
      go (s.setLoop l { p with samp := some { x with ready := true, x := v.1, q := v.2, readyAt := s.mer.base } })
  | none => go s

/-! ### The law (R260 to R265) -/

/-- The gain of a table at `ke` (R261): table 0 Kp, 1 Ki, 2 Kd. -/
def State.tanLookup (s : State) (l t : Nat) (ke : Fl) : Fl :=
  let n := s.tn ⟨7, 0x17 + t⟩ l
  let x := fun i => f32 (s.cf ⟨7, 0x20 + 2 * t⟩ l i)
  let g := fun i => f32 (s.cf ⟨7, 0x21 + 2 * t⟩ l i)
  if n ≤ 1 ∨ Fl.le ke (x 0) then g 0
  else match (List.range (n - 1)).find? (fun i => Fl.lt ke (x (i + 1))) with
    | some i =>
      let f := Fl.div fmt32 (Fl.sub fmt32 ke (x i)) (Fl.sub fmt32 (x (i + 1)) (x i))
      Fl.fma fmt32 f (Fl.sub fmt32 (g (i + 1)) (g i)) (g i)
    | none => g (n - 1)

/-- The output limits (R263): OUT_LO and OUT_HI, narrowed to the inner loop's SP_LO and SP_HI. -/
def State.tanLo (s : State) (l : Nat) : Fl :=
  let a := s.tf Cf.TAN_OUT_LO l
  if s.dstKind l = 3 then
    let b := s.tf Cf.TAN_SP_LO (s.dstNo l)
    if Fl.lt a b then b else a
  else a

/-- The upper limit. -/
def State.tanHi (s : State) (l : Nat) : Fl :=
  let a := s.tf Cf.TAN_OUT_HI l
  if s.dstKind l = 3 then
    let b := s.tf Cf.TAN_SP_HI (s.dstNo l)
    if Fl.lt b a then b else a
  else a

/-- What one run of the law gives. -/
structure LawOut where
  spw : Fl
  pv : Fl
  e : Fl
  yf : Fl
  ff : Fl
  u : Fl
  drive : Fl
  du : Fl
  yf1 : Fl
  spLim : Bool
  rateLim : Bool
  deriving DecidableEq, Repr

/-- The feedforward term: KFF × f, or the previous one while FF_SRC is unusable (R262, R264). -/
def State.tanFf (s : State) (l : Nat) (ff1 : Fl) : Fl :=
  let w := s.cf Cf.TAN_FF_SRC l 0
  if w = 0xFFFFFFFF then Fl.mul fmt32 (s.tf Cf.TAN_KFF l) (Fl.ofInt 0)
  else
    let v := s.srcVal w
    if badQ v.2 ∨ !(f32 v.1).isFin then ff1 else Fl.mul fmt32 (s.tf Cf.TAN_KFF l) (f32 v.1)

/-- The rate limit: within RATE × T of u1, when RATE is above 0. The answer says whether it acted. -/
def rateClamp (rate t u1 u : Fl) : Fl × Bool :=
  if Fl.lt (Fl.ofInt 0) rate then
    let d := Fl.mul fmt32 rate t
    let v := Fl.clamp (Fl.sub fmt32 u1 d) (Fl.add fmt32 u1 d) u
    (v, !(Fl.le v u && Fl.le u v))
  else (u, false)

/-- The law of R262 for one sample. `full`: AUTO and CASCADE; otherwise only what MANUAL runs. `init`: R273 comes
first. -/
def State.lawRun (s : State) (l : Nat) (full init : Bool) (x inj : Fl) (point : Nat) : LawOut :=
  let p := s.loop l
  let lo := s.tanLo l
  let hi := s.tanHi l
  let spLo := s.tf Cf.TAN_SP_LO l
  let spHi := s.tf Cf.TAN_SP_HI l
  let t := Fl.ofRat fmt32 (s.tn Cf.TAN_PERIOD l) 1000000
  let rev := s.cf Cf.TAN_ACTION l 0 == 1
  let pv := Fl.fma fmt32 (s.tf Cf.TAN_IN_SCALE l) x (s.tf Cf.TAN_IN_OFFSET l)
  let sp0 := f32 p.sp
  let sp1 := Fl.clamp spLo spHi sp0
  let spw := if point = 0 then Fl.clamp spLo spHi (Fl.add fmt32 sp1 inj) else sp1
  let e0 := Fl.sub fmt32 spw pv
  let e0 := if rev then e0.neg else e0
  let e := if point = 1 then Fl.add fmt32 e0 inj else e0
  let ff := s.tanFf l (f32 p.law.ff1)
  let u1 := if init then Fl.clamp lo hi (f32 p.last) else f32 p.law.u1
  let e1 := if init then e else f32 p.law.e1
  let yf1 := if init then pv else f32 p.law.yf1
  let yf2 := if init then pv else f32 p.law.yf2
  let ff1 := if init then ff else f32 p.law.ff1
  let ke := if s.cf Cf.TAN_GTAB_MODE l 0 = 1 then e.abs else e
  let yf := Fl.fma fmt32 (s.tf Cf.TAN_DFILT l) (Fl.sub fmt32 pv yf1) yf1
  let du0 := Fl.fma fmt32 (s.tanLookup l 0 ke) (Fl.sub fmt32 e e1)
    (Fl.mul fmt32 (Fl.mul fmt32 (s.tanLookup l 1 ke) t) e)
  let kd := Fl.mul fmt32 (s.tanLookup l 2 ke) (Fl.div fmt32 (Fl.ofInt 1) t)
  let kd := if rev then kd else kd.neg
  let du := Fl.fma fmt32 kd (Fl.sub fmt32 (Fl.sub fmt32 yf yf1) (Fl.sub fmt32 yf1 yf2)) du0
  let u := if full then Fl.add fmt32 (Fl.add fmt32 u1 du) (Fl.sub fmt32 ff ff1) else f32 p.man
  let r := rateClamp (s.tf Cf.TAN_RATE l) t u1 u
  let v := Fl.clamp lo hi r.1
  let drive := Fl.clamp lo hi (if point = 2 then Fl.add fmt32 v inj else v)
  { spw := spw, pv := pv, e := e, yf := yf, ff := ff, u := v, drive := drive, du := du,
    yf1 := yf1, spLim := !(Fl.le sp1 sp0 && Fl.le sp0 sp1), rateLim := r.2 }

/-! ### Injection signals (R280) -/

/-- One shift of the 15-bit register of PRBS, feedback x^15 + x^14 + 1. -/
def prbsNext (r : Nat) : Nat := (r * 2 + (r / 16384 + r / 8192) % 2) % 32768

/-- A turn of phase scaled to 2^64 from a frequency and a time of `n` / `d` s, towards minus infinity. -/
def phaseOf (f : Fl) (n : Int) (d : Nat) : Int :=
  match f with
  | .fin neg m e =>
    let k := sgn neg m * n * 18446744073709551616
    if 0 ≤ e then k * 2 ^ e.toNat / (d : Int) else k / ((d : Int) * 2 ^ (-e).toNat)
  | _ => 0

/-- The Taylor terms of the sine of `x`, everything scaled by 2^60, from term `k` on. -/
def sinTerms (x2 : Int) : Nat → Nat → Int → Int
  | 0, _, t => t
  | n + 1, k, t => t + sinTerms x2 n (k + 2) (-(t * x2 / 1152921504606846976 / ((k * (k + 1) : Nat) : Int)))

/-- The sine of a phase of 2^64 to the turn, scaled by 2^60. -/
def sinTurn (ph : Nat) : Int :=
  let q := ph / 4611686018427387904 % 4
  let r := ph % 4611686018427387904
  let r := if q % 2 = 1 then 4611686018427387904 - r else r
  let x := (r : Int) * 1811004864519280710 / 4611686018427387904
  let v := sinTerms (x * x / 1152921504606846976) 9 2 x
  if 2 ≤ q then -v else v

/-- The sine with the error the spec allows, at most 1e-5: `w` is a free value. -/
def sinFree (ph : Nat) (w : Word) : Fl :=
  let s := sinTurn ph
  let d := sInt w * 1152921504606846976 / 2147483648 / 100000
  .fin (s + d < 0) (s + d).natAbs (-60)

/-- The value of a running injection at a sample `t` after its first, t in ns; none when its duration has elapsed. -/
def State.injValue (s : State) (j : Inject) (t : Int) : Option Fl × State :=
  let a := f32 j.a
  if (j.ms : Int) * 1000000 ≤ t then (none, s)
  else if j.signal = 0 then (some a, s)
  else if j.signal = 1 then (some (if j.lfsr / 16384 % 2 = 1 then a else a.neg), s)
  else
    let lin := phaseOf (f32 j.f0) t 1000000000
    let ph := if j.signal = 3 then lin
      else lin + phaseOf (Fl.sub fmt64 (f32 j.f1) (f32 j.f0)) (t * t) (2 * j.ms * 1000000 * 1000000000)
    let (w, s1) := s.fresh
    (some (Fl.mul fmt32 a (sinFree (ph % 18446744073709551616).toNat w)), s1)

/-- The injection after one more sample. -/
def Inject.advance (j : Inject) : Inject :=
  let n := j.bitCnt + 1
  if n < j.bitlen then { j with samples := j.samples + 1, bitCnt := n }
  else { j with samples := j.samples + 1, bitCnt := 0, lfsr := prbsNext j.lfsr }

/-! ### Requests (R268, R271, R276, R285) -/

/-- Whether the item behind a request still stands: it has not been aborted. -/
def State.reqLives (s : State) (r : LoopReq) : Bool :=
  match r.item with
  | none => true
  | some k => (s.flight k.1 k.2).isSome

/-- The clamp that an item keeps in its note: flag, limit field, requested and applied value. -/
def noteClamp (x : Inflight) (inst : Nat) : List Clamp :=
  if x.note.getD 0 0 = 0 then []
  else [⟨true, 2, 7, 0xFFFF, 0, inst, x.note.getD 2 0, x.note.getD 3 0, w32 (7 * 65536 + (x.note.getD 1 0).toNat)⟩]

/-- The item of a request completes with the stamp of the sample. -/
def State.reqDone (s : State) (l : Nat) (r : LoopReq) (t : Int) : State :=
  match r.item with
  | none => s
  | some k =>
    match s.flight k.1 k.2 with
    | some x => s.completeClampedAt x.item (stampOf t) (noteClamp x l)
    | none => s

/-- The injection that an item asks for. -/
def injOf (it : Item) (note : List Word) (t : Int) : Inject :=
  let w := it.w 3
  { signal := bitsOf w 0 2, point := bitsOf w 4 2, capture := bitOf w 8, bitlen := Nat.max 1 (bitsOf w 16 8),
    a := it.w 4, f0 := note.getD 4 0, f1 := note.getD 5 0, ms := (it.w 7).toNat, lfsr := bitsOf (it.w 8) 0 15, bitCnt := 0,
    samples := 0, t0 := t, recNo := 0, stop := false }

/-- One request takes effect at a sample. -/
def State.takeReq (s : State) (l : Nat) (t : Int) (r : LoopReq) : State :=
  if !(s.reqLives r) then s
  else
    let p := s.loop l
    match r.kind with
    | 0 => (s.setLoop l { p with cmd := r.val.toNat, cmdSrc := if r.locus then 1 else 0 }).reqDone l r t
    | 1 => (s.setLoop l { p with sp := r.val }).reqDone l r t
    | 2 => (s.setLoop l { p with man := r.val }).reqDone l r t
    | 3 =>
      match r.item with
      | some k =>
        match s.flight k.1 k.2 with
        | some x => s.setLoop l { p with inj := some (injOf x.item x.note t) }
        | none => s
      | none => s
    | _ =>
      match p.inj with
      | some j => (s.setLoop l { p with inj := some { j with stop := true } }).reqDone l r t
      | none => s.reqDone l r t

/-- The requests of a loop take effect in order; one that waits for room on the redo list holds up those behind it
(R90). -/
def State.takeReqs (l : Nat) (t : Int) : List LoopReq → State → State
  | [], s => s
  | r :: rs, s =>
    if r.item.any (fun k => s.redoFull k.1 k.2) then s.setLoop l { s.loop l with reqs := r :: rs }
    else State.takeReqs l t rs (s.takeReq l t r)

/-! ### The state of a loop at a sample (R272 to R276) -/

/-- Whether the conditions of HANDBACK other than safe state hold for a Facet output: link not UP, SHED, OVERLOAD,
PERIM_OFF. -/
def State.outCond (s : State) (ch : Nat) : Bool :=
  let n := ch / 8
  s.fld Fld.FCT_LINK_STATE n 0 != 2 || s.bit Fld.FCT_STATUS_PERIM_OFF n 0 ||
    s.fld Fld.FCT_OUTSTAT_SHED n 0 / 2 ^ (ch % 8) % 2 == 1 || s.fld Fld.FCT_OUTSTAT_OVERLOAD n 0 / 2 ^ (ch % 8) % 2 == 1

/-- Whether a loop is in HANDBACK: the condition holds, or it has ended and the loop does not yet hold both an OUTVAL
received since and a usable sample (R272, R274). Safe state alone brings a loop in; the loop's own output ends it. -/
def State.inHandback (s : State) (l : Nat) (usable : Bool) : Bool :=
  if s.dstKind l = 1 then
    let ch := s.dstNo l
    let safe := s.fld Fld.FCT_OUTSTAT_SAFE (ch / 8) 0 / 2 ^ (ch % 8) % 2 == 1
    s.outCond ch || (if (s.loop l).st = 1 then !((s.chan ch).presNew && usable) else safe)
  else false

/-- The published state of a Lattice marker. -/
def State.marker (s : State) (n : Nat) : Bool := bitOf (s.rd Reg.LAT_MARK (n / 32) 0) (n % 32)

/-- The effective state of R272. -/
def State.loopState (s : State) (l : Nat) (usable : Bool) : Nat :=
  let gb := s.tn Cf.TAN_GATE_BIT l
  if s.inHandback l usable then 1
  else if gb < 4096 ∧ !(s.marker gb) then 2
  else if !usable ∧ s.cf Cf.TAN_BAD_ACTION l 0 = 0 then 3
  else if s.dstKind l = 3 ∧ (s.loop (s.dstNo l)).st ≠ 5 then 4
  else if (s.loop l).cmd = 3 then 5 else if (s.loop l).cmd = 2 then 6 else 7

/-- The source that event 0x01C0 names for a change of state. -/
def stSource (old new cmdSrc : Nat) : Nat :=
  if old = 1 ∨ new = 1 then 4 else if old = 2 ∨ new = 2 then 2 else if old = 3 ∨ new = 3 then 3
  else if old = 0 ∨ new = 0 then 5 else cmdSrc

/-- The present value of a loop's destination. -/
def State.present (s : State) (l : Nat) : Word :=
  match s.dstKind l with
  | 1 => s.rd Reg.FCT_VALUE (s.dstNo l / 8) (s.dstNo l % 8)
  | 2 => tget 0 s.arc.duty (s.dstNo l)
  | 3 => (s.loop (s.dstNo l)).sp
  | _ => (s.loop l).last

/-- A loop takes a new state (R272, R273, R276): what entry and exit bring with them. -/
def State.enterState (s : State) (l new : Nat) : State :=
  let p := s.loop l
  let old := p.st
  if old = new then s
  else
    let last := if old = 1 ∨ !p.hasLast then s.present l else p.last
    let p1 := { p with st := new, last := last, hasLast := true,
                       hbAt := if new = 1 then s.mer.base else p.hbAt,
                       init := p.init || ((new = 5 || new = 6) && !(old = 5 || old = 6)) || old = 0,
                       man := if new = 7 then last else p.man,
                       law := if new = 7 then { p.law with u1 := last } else p.law }
    let s1 := (s.setLoop l p1).log 0x01C0 l (w32 old) (w32 new) (w32 (stSource old new p.cmdSrc))
    let s2 := s1.injEnd l 2
    if old = 1 then s2.log 0x01C6 l (w32 ((s2.mer.base - p.hbAt) / 1000)) else s2

/-! ### Evaluation (R262 to R269, R280 to R283) -/

/-- The loop after its law has run, and the flags of TAN_LSTAT; `write` says whether an output is written. -/
def State.lawStore (s : State) (l : Nat) (o : LawOut) (write : Bool) : State :=
  let p := s.loop l
  let lo := s.tanLo l
  let hi := s.tanHi l
  let b := fun (x : Bool) => if x then 1 else 0
  let law : LawSt := ⟨w32f o.u, w32f o.e, w32f o.yf, w32f o.yf1, w32f o.ff⟩
  let samp := p.samp.map (fun x => { x with done := true, drive := if write then some (w32f o.drive) else none })
  let s1 := s.setLoop l { p with law := law, last := w32f o.drive, hasLast := true, init := false, numErr := false, samp := samp }
  let s2 := ((s1.wr Reg.TAN_OUT l 0 (w32f o.drive)).setF Fld.TAN_LSTAT_RATE_LIM l 0 (b o.rateLim)).setF Fld.TAN_LSTAT_NUMERR l 0 0
  (s2.setF Fld.TAN_LSTAT_OUT_HI_LIM l 0 (b (Fl.le hi o.u))).setF Fld.TAN_LSTAT_OUT_LO_LIM l 0 (b (Fl.le o.u lo))

/-- A sample that writes `v` without the law, or writes nothing. -/
def State.heldStore (s : State) (l : Nat) (v : Option Word) : State :=
  let p := s.loop l
  let samp := p.samp.map (fun x => { x with done := true, drive := v })
  match v with
  | some w => (s.setLoop l { p with last := w, samp := samp }).wr Reg.TAN_OUT l 0 w
  | none => s.setLoop l { p with samp := samp }

/-- The setpoint follows pv in MANUAL, GATED and INPUT_HOLD with SP_TRACK = 1 (R269). -/
def State.spTrack (s : State) (l : Nat) (pv : Fl) (usable : Bool) : State :=
  let p := s.loop l
  if s.cf Cf.TAN_SP_TRACK l 0 = 1 ∧ usable ∧ pv.isFin ∧ !p.ramp ∧ (p.st = 7 ∨ p.st = 2 ∨ p.st = 3) then
    s.setLoop l { p with sp := w32f (Fl.clamp (s.tf Cf.TAN_SP_LO l) (s.tf Cf.TAN_SP_HI l) pv) }
  else s

/-- The first sample that carries inj: a record number for a capture, event 0x01C4, and the item completes (R282). -/
def State.injBegin (s : State) (l : Nat) (j : Inject) (item : Option (Nat × Word)) (t : Int) : State :=
  let rec0 := s.rd Reg.PRM_NEXTREC 0 0
  let no : Word := if j.capture then rec0 else 0
  let s1 := if j.capture then s.wr Reg.PRM_NEXTREC 0 0 (rec0 + 1) else s
  let s2 := s1.setLoop l { s1.loop l with inj := some { j with recNo := no } }
  let s3 := (s2.wr Reg.TAN_INJSTAT l 0 0).log 0x01C4 l (w32 j.signal) (w32 j.point) no
  match item with
  | none => s3
  | some k =>
    match s3.flight k.1 k.2 with
    | some x =>
      let cs := noteClamp x l
      if cs = [] then s3.completeAt x.item (stampOf t) stDone no 0 0 0
      else s3.completeClampedAt x.item (stampOf t) cs
    | none => s3

/-- The injection of a sample that runs the law: its value and point (3 none), and the state behind it. -/
def State.injNow (s : State) (l : Nat) (item : Option (Nat × Word)) (t : Int) : (Fl × Nat) × State :=
  match (s.loop l).inj with
  | none => ((Fl.ofInt 0, 3), s)
  | some j =>
    let s1 := if j.samples = 0 then s.injBegin l j item t else s
    match (s1.loop l).inj with
    | none => ((Fl.ofInt 0, 3), s1)
    | some j1 =>
      match s1.injValue j1 ((t - j1.t0) / 4294967296) with
      | (none, s2) => ((Fl.ofInt 0, 3), s2.injEnd l 0)
      | (some v, s2) => ((v, j1.point), s2)

/-- A sample carries inj: what its capture entry would hold stays with it until its result is handed off. -/
def State.injCarry (s : State) (l : Nat) (v : Fl) (o : LawOut) (t : Int) : State :=
  let p := s.loop l
  match p.inj with
  | none => s
  | some j =>
    let c : CapIn := ⟨l, j.recNo, t, w32f v, w32f o.spw, w32f o.pv, w32f o.drive, false⟩
    s.setLoop l { p with samp := p.samp.map (fun x => { x with cap := some c }) }

/-- A sample that carried inj has met its deadline: the count, the capture entry, and the end by TAN_INJECT_STOP (R282,
R283). A missed sample sends no entry and is no sample injected. -/
def State.injAfter (s : State) (l : Nat) (c : CapIn) : State :=
  match (s.loop l).inj with
  | none => s
  | some j =>
    let j1 := j.advance
    let s1 := (s.setLoop l { s.loop l with inj := some j1 }).setF Fld.TAN_INJSTAT_SAMPLES l 0
      (satAdd 0xFFFFFFF j.samples 1)
    let s2 := if j.capture then { s1 with tan := { s1.tan with capt := s1.tan.capt ++ [c] } } else s1
    if j.stop then s2.injEnd l 1 else s2.tanShow l

/-- A sample handled as a miss with NUMERR (R265): the first of an episode logs event 0x21C3, and the next finite sample
runs the initialisation first. `open_` says whether the episode is open already. -/
def State.numMiss (s : State) (l : Nat) (open_ : Bool) : State :=
  let s2 := s.missSample l 2
  let s3 := (s2.setLoop l { s2.loop l with init := true, numErr := true, ecc := false }).setF Fld.TAN_LSTAT_NUMERR l 0 1
  if open_ then s3 else s3.log 0x21C3 l

/-- A sample that runs the law, in CASCADE, AUTO or MANUAL. -/
def State.lawSample (s : State) (l : Nat) (x : Sample) (usable : Bool) (item : Option (Nat × Word)) : State :=
  let ((iv, point), s1) := s.injNow l item x.t
  let p := s1.loop l
  let full := p.st != 7
  let o := s1.lawRun l full p.init (f32 x.x) iv point
  let o := if usable then o
    else { o with e := f32 p.law.e1, yf := f32 p.law.yf1, yf1 := f32 p.law.yf2, ff := f32 p.law.ff1, du := Fl.ofInt 0 }
  if !(o.du.isFin && o.u.isFin && o.drive.isFin) then
    s1.numMiss l p.numErr
  else
    let s2 := ((s1.lawStore l o true).wr Reg.TAN_SP l 0 (w32f o.spw)).wr Reg.TAN_PV l 0 (w32f o.pv)
    let s3 := s2.setF Fld.TAN_LSTAT_SP_LIM l 0 (if o.spLim then 1 else 0)
    let s4 := s3.setLoop l { s3.loop l with spw := w32f o.spw, sampled := true }
    let s5 := if point < 3 then s4.injCarry l iv o x.t else s4
    (s5.wr Reg.TAN_MANOUT l 0 (s5.loop l).man).spTrack l o.pv usable

/-- TRACK (R275): u1 follows the inner loop's target, and the history is that of R273. -/
def State.trackSample (s : State) (l : Nat) (o : LawOut) : State :=
  let p := s.loop l
  let u := (s.loop (s.dstNo l)).sp
  let pv := w32f o.pv
  let law : LawSt := ⟨u, w32f o.e, pv, pv, w32f o.ff⟩
  (s.setLoop l { p with law := law, last := u, hasLast := true }).heldStore l none

/-- The limits that act at a sample without the law (R263): GATE_VALUE may be at one, and the setpoint may be clamped. -/
def State.heldLimits (s : State) (l : Nat) (spLim : Bool) : State :=
  let gate := (s.loop l).st == 2 && s.cf Cf.TAN_GATE_ACTION l 0 == 1
  let v := s.tf Cf.TAN_GATE_VALUE l
  let b := fun (x : Bool) => if x then 1 else 0
  (((s.setF Fld.TAN_LSTAT_RATE_LIM l 0 0).setF Fld.TAN_LSTAT_OUT_HI_LIM l 0 (b (gate && Fl.le (s.tanHi l) v))).setF
    Fld.TAN_LSTAT_OUT_LO_LIM l 0 (b (gate && Fl.le v (s.tanLo l)))).setF Fld.TAN_LSTAT_SP_LIM l 0 (b spLim)

/-- A sample that does not run the law. -/
def State.heldSample (s : State) (l : Nat) (x : Sample) (usable : Bool) : State :=
  let p := s.loop l
  let o := s.lawRun l false false (f32 x.x) (Fl.ofInt 0) 3
  let s1 := ((s.wr Reg.TAN_SP l 0 (w32f o.spw)).wr Reg.TAN_PV l 0 (w32f o.pv)).heldLimits l o.spLim
  let s2 := s1.setLoop l { p with spw := w32f o.spw, sampled := true }
  let s3 := match p.st with
    | 2 =>
      if s.cf Cf.TAN_GATE_ACTION l 0 = 1 then
        s2.heldStore l (some (w32f (Fl.clamp (s.tanLo l) (s.tanHi l) (s.tf Cf.TAN_GATE_VALUE l))))
      else s2.heldStore l none
    | 3 => (s2.heldStore l none).incF Fld.TAN_HOLDS_INPUT l 0 1
    | 4 => s2.trackSample l o
    | _ => s2.heldStore l none
  s3.spTrack l o.pv usable

/-- The sample under evaluation keeps what the loop holds before it. -/
def State.undoKeep (s : State) (l : Nat) : State :=
  let p := s.loop l
  s.setLoop l { p with samp := p.samp.map (fun y => { y with undo := some (s.loopUndo l) }) }

/-- Whether a point may be injected in a state (R281). -/
def pointOk (st point : Nat) : Bool := st = 5 || st = 6 || (st = 7 && point = 2)

/-- The loop takes its state for a sample, at which an item's injection would begin (R272, R281): the change of state ends
none that has not begun, and a point that the new state does not permit refuses the item. -/
def State.injEnter (s : State) (l new : Nat) (item : Option (Nat × Word)) : State :=
  match item, (s.loop l).inj with
  | some k, some j =>
    let s1 := (s.setLoop l { s.loop l with inj := none }).enterState l new
    if pointOk new j.point then s1.setLoop l { s1.loop l with inj := some j }
    else match s1.flight k.1 k.2 with
      | some x => s1.complete x.item stState 6
      | none => s1
  | _, _ => s.enterState l new

/-- One sample of a loop is evaluated. -/
def State.evalLoop (s : State) (l : Nat) (x : Sample) : State :=
  let reqs := (s.loop l).reqs
  let s0 := s.setLoop l { s.loop l with reqs := [] }
  let s1 := State.takeReqs l x.t reqs s0
  let taken := reqs.take (reqs.length - (s1.loop l).reqs.length)
  let injItem := (taken.find? (fun r => r.kind == 3)).bind (fun r => r.item)
  let usable := !(badQ x.q) && (f32 x.x).isFin
  let toMan := !usable && s.cf Cf.TAN_BAD_ACTION l 0 == 1 && (s1.loop l).cmd != 1
  let s2 := if toMan then
      (s1.setLoop l { s1.loop l with cmd := 1, cmdSrc := 3, man := (s1.loop l).last }).log 0x21C2 l (w32 x.q) 1
    else s1
  let new := s2.loopState l usable
  let s3 := if new = 3 ∧ (s2.loop l).st ≠ 3 then s2.log 0x21C2 l (w32 x.q) 0 else s2
  let s4 := ((s3.injEnter l new injItem).setF Fld.TAN_LSTAT_PVQ l 0 x.q).undoKeep l
  let s5 := if (s4.loop l).ecc then s4.numMiss l (s4.loop l).numErr
    else if 5 ≤ new then s4.lawSample l x usable injItem else s4.heldSample l x usable
  s5.tanShow l

/-- The ready samples that wait for a unit, with their loops. -/
def State.readyLoops (s : State) : List (Nat × Sample) :=
  s.tan.loops.filterMap (fun kv =>
    match kv.2.samp with
    | some x => if x.ready && !x.done then some (kv.1, x) else none
    | none => none)

/-- The evaluations in progress: evaluated and not handed off (R256). -/
def State.unitsBusy (s : State) : Nat :=
  (s.tan.loops.filter (fun kv => match kv.2.samp with | some x => x.done | none => false)).length

/-- The ready evaluation that a free unit takes: highest PRIO, then earliest ready, then lowest loop (R256). -/
def State.nextEval (s : State) : Option (Nat × Sample) :=
  s.readyLoops.foldl (fun b y =>
    match b with
    | none => some y
    | some z =>
      let py := s.tn Cf.TAN_PRIO y.1
      let pz := s.tn Cf.TAN_PRIO z.1
      if pz < py ∨ (pz = py ∧ y.2.readyAt < z.2.readyAt) then some y else some z) none

/-- LOOP_EVALUATION (R256, R259, R262): a ready evaluation that has not started by its deadline leaves the queue. -/
def execLoopEvaluation (s : State) : Host.Outcome State Fault Refusal :=
  if s.engOn ∧ s.unitsBusy < 4 then
    match s.nextEval with
    | some (l, x) => if s.deadline l x < s.timeT then go (s.missSample l 1) else go (s.evalLoop l x)
    | none => go s
  else go s

/-- An owner's value reaches its Facet output (R184). -/
def State.ownerWrite (s : State) (ch : Nat) (v : Word) : State :=
  s.setChan ch { s.chan ch with own := v, ownHas := true }

/-- A loop's output goes to its destination (R258). -/
def State.handTo (s : State) (l : Nat) (v : Word) : State :=
  match s.dstKind l with
  | 1 => s.ownerWrite (s.dstNo l) v
  | 2 => { s with arc := { s.arc with duty := tset 0 s.arc.duty (s.dstNo l) v } }
  | 3 => s.setLoop (s.dstNo l) { s.loop (s.dstNo l) with sp := v }
  | _ => s

/-- LOOP_RESULT_HANDOFF (R258, R259): the sample meets its deadline, or its result is discarded. -/
def execLoopResultHandoff (l : Nat) (s : State) : Host.Outcome State Fault Refusal :=
  let p := s.loop l
  match p.samp with
  | some x =>
    if x.done ∧ s.deadline l x < s.timeT then go (s.missSample l 1)
    else if x.done then
      let s0 := s.setLoop l { p with samp := none }
      let s1 := (match x.cap with
        | some c => s0.injAfter l c
        | none => s0).setF Fld.TAN_LSTAT_MISS l 0 0
      let lat := Nat.min 65535 (s.mer.base - x.readyAt)
      let s2 := if s1.fld Fld.TAN_LATMAX_NS l 0 < lat then s1.setF Fld.TAN_LATMAX_NS l 0 lat else s1
      match x.drive with
      | some v => go (s2.handTo l v)
      | none => go s2
    else go s
  | none => go s

/-! ### The TAN opcodes (R285) -/

/-- A request of an item waits for the loop's next sample. -/
def State.tanReq (s : State) (it : Item) (opcode kind : Nat) (v : Word) (note : List Word) : State :=
  let p := s.loop it.inst
  (s.setLoop it.inst { p with reqs := p.reqs ++ [⟨kind, v, some (it.ring, it.seq), false⟩] }).holdItem opcode it note

/-- Whether an enabled loop names `l` in OUT_DST (R275). -/
def State.named (s : State) (l : Nat) : Bool := s.loopsSet.any (fun k => s.dstKind k == 3 && s.dstNo k == l)

/-- The checks common to the TAN opcodes, then `k`. -/
def State.tanItem (s : State) (it : Item) (k : State → State) : State :=
  if 255 < it.inst then s.complete it stRange 7 0 (w32 it.inst)
  else if !(s.loopEn it.inst) then s.complete it stState 1 else k s

/-- TAN_MODE (R271, R275). -/
def execTanMode (it : Item) (s : State) : Host.Outcome State Fault Refusal :=
  serve it s (fun s => s.tanItem it (fun s =>
    let m := (it.w 3).toNat
    if m = 0 ∨ 3 < m then s.complete it stFormat 12
    else if m = 3 ∧ !(s.named it.inst) then s.complete it stState 5
    else s.tanReq it 0x0700 0 (it.w 3) []))

/-- A value held between two fields of a loop: the note that tells of the clamp. -/
def clampNote (v lo hi : Word) (fLo fHi : Nat) : Word × List Word :=
  let c := clamp32 lo hi v
  if Fl.lt (f32 v) (f32 lo) then (c, [1, w32 fLo, v, c])
  else if Fl.lt (f32 hi) (f32 v) then (c, [1, w32 fHi, v, c]) else (v, [0])

/-- TAN_SETPOINT (R268). -/
def execTanSetpoint (it : Item) (s : State) : Host.Outcome State Fault Refusal :=
  serve it s (fun s => s.tanItem it (fun s =>
    let l := it.inst
    if isNan32 (it.w 3) then s.complete it stRange 7 0xFFFF (it.w 3)
    else if (s.loop l).st = 5 then s.complete it stState 2
    else if (s.loop l).ramp then s.complete it stState 3
    else
      let c := clampNote (it.w 3) (s.cf Cf.TAN_SP_LO l 0) (s.cf Cf.TAN_SP_HI l 0) 9 0xA
      s.tanReq it 0x0701 1 c.1 c.2))

/-- TAN_MANOUT (R276). -/
def execTanManout (it : Item) (s : State) : Host.Outcome State Fault Refusal :=
  serve it s (fun s => s.tanItem it (fun s =>
    let l := it.inst
    if isNan32 (it.w 3) then s.complete it stRange 7 0xFFFF (it.w 3)
    else if (s.loop l).st ≠ 7 then s.complete it stState 4
    else
      let c := clampNote (it.w 3) (s.cf Cf.TAN_OUT_LO l 0) (s.cf Cf.TAN_OUT_HI l 0) 0xF 0x10
      s.tanReq it 0x0702 2 c.1 c.2))

/-- A frequency held to 1 ÷ (2T) (R280). -/
def State.freqClamp (s : State) (l : Nat) (f : Word) : Word :=
  clamp32 0xFF800000 (w32f (Fl.ofRat fmt32 500000 (s.tn Cf.TAN_PERIOD l))) f

/-- The capture records that stand open: injections that run or are asked for with CAPTURE = 1 (R422). -/
def State.capsOpen (s : State) : Nat :=
  (s.tan.loops.filter (fun kv => match kv.2.inj with | some j => j.capture | none => false)).length

/-- TAN_INJECT (R280 to R283). -/
def execTanInject (it : Item) (s : State) : Host.Outcome State Fault Refusal :=
  serve it s (fun s => s.tanItem it (fun s =>
    let l := it.inst
    let p := s.loop l
    let w := it.w 3
    let ms := (it.w 7).toNat
    if isNan32 (it.w 4) then s.complete it stRange 7 0xFFFF (it.w 4)
    else if isNan32 (it.w 5) then s.complete it stRange 7 0xFFFF (it.w 5)
    else if isNan32 (it.w 6) then s.complete it stRange 7 0xFFFF (it.w 6)
    else if bitsOf w 4 2 = 3 ∨ (bitsOf w 0 2 = 1 ∧ bitsOf w 16 8 = 0) then s.complete it stFormat 12
    else if ms = 0 ∨ 4000000000 < ms then s.complete it stFormat 28
    else if bitsOf w 0 2 = 1 ∧ bitsOf (it.w 8) 0 15 = 0 then s.complete it stFormat 32
    else if !(pointOk p.st (bitsOf w 4 2)) then s.complete it stState 6
    else if p.inj.isSome ∨ p.reqs.any (fun r => r.kind == 3 && s.reqLives r) then s.complete it stState 7
    else if bitOf w 8 ∧ 16 ≤ s.capsOpen then s.complete it stState 8
    else
      let a := s.freqClamp l (it.w 5)
      let b := s.freqClamp l (it.w 6)
      let n := if a ≠ it.w 5 then [1, 1, it.w 5, a] else if b ≠ it.w 6 then [1, 1, it.w 6, b] else [0, 0, 0, 0]
      s.tanReq it 0x0703 3 0 (n ++ [a, b])))

/-- TAN_INJECT_STOP (R282). -/
def execTanInjectStop (it : Item) (s : State) : Host.Outcome State Fault Refusal :=
  serve it s (fun s => s.tanItem it (fun s =>
    if (s.loop it.inst).inj.isNone then s.complete it stState 7 else s.tanReq it 0x0704 4 0 []))

/-! ### Committed values (R158, R257, R271, R273, R278), and the tick -/

/-- The evaluations per second of loops with the given periods in us, as a fraction. -/
def rateSum (ps : List Nat) : Nat × Nat :=
  ps.foldl (fun r x =>
    let p := Nat.max 1 x
    let n := r.1 * p + 1000000 * r.2
    let d := r.2 * p
    let g := Nat.gcd n d
    (n / g, d / g)) (0, 1)

/-- The enabled loops with PRIO 7. -/
def State.fastLoops (s : State) : List Nat := s.loopsSet.filter (fun l => s.tn Cf.TAN_PRIO l == 7)

/-- TAN_STATUS and TAN_LOAD as the enabled loops stand. -/
def State.tanCount (s : State) : State :=
  let ls := s.loopsSet
  let r := rateSum (ls.map (fun l => s.tn Cf.TAN_PERIOD l))
  ((s.setF Fld.TAN_STATUS_ENABLED 0 0 ls.length).setF Fld.TAN_STATUS_FASTN 0 0
    (Nat.min 255 s.fastLoops.length)).setF Fld.TAN_LOAD_EVALS 0 0 (r.1 / r.2)

/-- An item that waits for a loop that has been disabled completes REJECTED_STATE. -/
def State.reqRefuse (s : State) (r : LoopReq) : State :=
  match r.item.bind (fun k => s.flight k.1 k.2) with
  | some x => s.complete x.item stState 1
  | none => s

/-- A loop takes committed values: it is disabled, enabled, or goes on, initialised where R278 says so. -/
def State.loopTake (s : State) (l : Nat) (cs : List Change) : State :=
  let mine := cs.filter (fun c => keyBlock c.key == 7 && keyInst c.key == l)
  let chg := fun (f : Cf) => mine.any (fun c => keyFld c.key == f.fld)
  let was := s.loopEn l
  let s1 := s.takeChanges mine
  let p := s1.loop l
  if was ∧ !(s1.loopEn l) then
    let s2 := p.reqs.foldl (fun s r => s.reqRefuse r) (s1.enterState l 0)
    (s2.setLoop l { s2.loop l with samp := none, reqs := [] }).tanCount.tanShow l
  else if !was ∧ s1.loopEn l then
    let q := { p with cmd := s1.tn Cf.TAN_INIT_MODE l, cmdSrc := 5, sp := s1.cf Cf.TAN_SP_INIT l 0, init := true,
                      sampled := false, hasLast := p.hasLast && !(chg Cf.TAN_OUT_DST) }
    (s1.setLoop l q).tanCount.tanShow l
  else
    let dst := chg Cf.TAN_OUT_DST
    let init := dst || chg Cf.TAN_PV_SRC || chg Cf.TAN_IN_SCALE || chg Cf.TAN_IN_OFFSET || chg Cf.TAN_ACTION
    let q := { p with init := p.init || init, last := if dst then s1.present l else p.last,
                      hasLast := p.hasLast || dst }
    (s1.setLoop l q).tanCount

/-- The values that commits have left for a loop to take at its next sample, oldest first. -/
def State.tanWaits (s : State) (l : Nat) : List Change :=
  (s.cfg.waits.filter (fun w => w.2.2.1 == 7 && w.2.2.2.contains l)).flatMap (fun w =>
    match s.cfg.jobs.find? (fun j => j.is w.1 w.2.1) with
    | some j => j.changes.filter (fun c => keyBlock c.key == 7 && keyInst c.key == l)
    | none => [])

/-- A loop whose tick it is takes the values that wait for it: a newly enabled loop at its own first tick. -/
def State.tanDue (s : State) (n l : Nat) : State :=
  let cs := s.tanWaits l
  let t := if s.loopEn l then s else s.takeChanges cs
  if n % (Nat.max 1 (t.tn Cf.TAN_PERIOD l / 5)) = t.tn Cf.TAN_PHASE l ∨ !(t.loopEn l) then
    (s.loopTake l cs).blockStep 7 l
  else s

/-- The loops that have values to take. -/
def State.tanWaiting (s : State) : List Nat :=
  ((s.cfg.waits.filter (fun w => w.2.2.1 == 7)).flatMap (fun w => w.2.2.2)).eraseDups

/-- Tangent takes the values of an item: a loop that runs, or is to run, at its next sample, any other at once. The
answer lists the loops that the item waits for. -/
def State.takenTan (s : State) (cs : List Change) : State × List Nat :=
  let ls := (cs.filterMap (fun c => if keyBlock c.key = 7 then some (keyInst c.key) else none)).eraseDups
  let later := ls.filter (fun l =>
    s.engOn && (s.loopEn l || (s.takeChanges cs).loopEn l || (s.tanWaits l != [])))
  let s1 := (ls.filter (fun l => !(later.contains l))).foldl (fun s l => s.loopTake l cs) s
  let k := (s.takeChanges (s.tanWaiting.flatMap (fun l => s.tanWaits l) ++ cs)).fastLoops.length
  (if 24 < k ∧ ls ≠ [] then s1.log 0x11C7 0 (w32 k) else s1, later)

/-- LOOP_TICK (R253, R254): the tick of this instant, if time has passed the last one served. The tick last served is
kept with loop 0. -/
def execLoopTick (s : State) : Host.Outcome State Fault Refusal :=
  let n := tickOf s.timeT
  if s.engOn ∧ (s.loop 0).tickN ≤ n then
    let s0 := s.tanWaiting.foldl (fun s l => s.tanDue n l) s.expireRemote
    let s1 := s0.loopsSet.foldl (fun s l => s.loopTick n l) s0
    go (s1.setLoop 0 { s1.loop 0 with tickN := n + 1 })
  else go s

end Sys2Proof.Machine
end

