-- ==== Sys2Proof/Machine/Lat.lean ====
section
/-! DEFINITION. Lattice: the program and its instruction set, the scan, what it drives, patches, stopping, starting and
carry-over, and the shadow of a standby (spec/10_lattice_logic.md). -/

namespace Sys2Proof.Machine

/-! ### Bit tables and instruction words -/

/-- Bit `a` of a table of words. -/
def tbit (t : Tab Word) (a : Nat) : Bool := bitOf (tget 0 t (a / 32)) (a % 32)

/-- The table with bit `a` set to `b`. -/
def tbitSet (t : Tab Word) (a : Nat) (b : Bool) : Tab Word :=
  tset 0 t (a / 32) (putBits (tget 0 t (a / 32)) (a % 32) 1 (if b then 1 else 0))

/-- An instruction word (R327): its opcode, space, modifier and address. -/
def latOp (w : Word) : Nat := bitsOf w 26 6
/-- The operand space. -/
def latSp (w : Word) : Nat := bitsOf w 22 4
/-- The modifier. -/
def latMod (w : Word) : Nat := bitsOf w 16 6
/-- The operand address. -/
def latAd (w : Word) : Nat := bitsOf w 0 16

/-- The words up to and including the first END; none without an END (R334). -/
def toEnd : List Word → Option (List Word)
  | [] => none
  | w :: ws => if latOp w = 0x3F then some [w] else (toEnd ws).map (fun r => w :: r)

/-- The words of an active or committed PROGRAM table that any element names. -/
def progTable (t : Tab Word) : List Word :=
  let top := t.foldl (fun m kv =>
    if keyBlock kv.1 = 9 ∧ keyFld kv.1 = 0x100 then Nat.max m (keyElem kv.1 + 1) else m) 0
  (List.range top).map (fun i => tabGet cfgDefault t (cfgKey 9 0 0x100 i))

/-- The active program; empty when there is none. -/
def State.latWords (s : State) : List Word := (toEnd (progTable s.cfg.active)).getD []

/-- The instances that a program uses: pairs of space and address, each once (R335). -/
def latUses (ws : List Word) : List (Nat × Nat) :=
  (ws.filterMap (fun w => if 2 ≤ latSp w ∧ latSp w ≤ 7 then some (latSp w, latAd w) else none)).eraseDups

/-- The entry and the OP of comparator `n` as defined now. -/
def State.cmpDef (s : State) (n : Nat) : Nat × Nat :=
  (bitsOf (s.cf Cf.LAT_CMPDEF 0 (4 * n)) 0 12, bitsOf (s.cf Cf.LAT_CMPDEF 0 (4 * n + 1)) 0 1)

/-- What carry-over will need of the active program. -/
def State.latProg (s : State) : LatProg :=
  let ws := s.latWords
  ⟨ws, (latUses ws).filterMap (fun u => if u.1 = 7 then some (u.2, (s.cmpDef u.2).1, (s.cmpDef u.2).2) else none)⟩

/-! ### Memory -/

/-- A timer, counter and edge detector at a cold start (R348). -/
def timIdle : TimSt := ⟨0, false, false, false⟩
/-- A counter at 0. -/
def ctrIdle : CtrSt := ⟨0, false, false⟩
/-- A primed edge detector. -/
def edgeIdle : EdgeSt := ⟨false, false, true⟩

/-- The elements of MINIT or QINIT as a table of words. -/
def State.initImg (s : State) (c : Cf) (n : Nat) : Tab Word :=
  (List.range n).foldl (fun t i => tset 0 t i (s.cf c 0 i)) []

/-- Working memory as a cold start leaves it (R348). -/
def State.latCold (s : State) : LatMem :=
  ⟨s.initImg Cf.LAT_MINIT 128, s.initImg Cf.LAT_QINIT 9, [], [], [], [], []⟩

/-- The state with its working memory replaced. -/
def State.setLatMem (s : State) (m : LatMem) : State := { s with lat := { s.lat with mem := m } }

/-! ### The operand spaces (R326) -/

/-- Bit `a` of the input space, as the state stands at the latch. -/
def State.latIn (s : State) (first : Bool) (a : Nat) : Bool :=
  if a < 128 then
    let m := s.chMode a
    if m = 7 ∨ m = 9 then s.fld Fld.FCT_DICUR_DI (a / 8) 0 / 2 ^ (a % 8) % 2 == 1
    else if m = 8 then s.fld Fld.FCT_DICUR_DORB (a / 8) 0 / 2 ^ (a % 8) % 2 == 1 else false
  else if a < 256 then
    let ch := a - 128
    s.fld Fld.FCT_LINK_STATE (ch / 8) 0 != 2 || s.fld Fld.FCT_CHSTAT_FLAGS (ch / 8) (ch % 8) &&& 0x73 != 0
  else if a < 272 then s.fld Fld.FCT_LINK_STATE (a - 256) 0 == 2
  else if a < 288 then s.bit Fld.FCT_STATUS_SAFE (a - 272) 0
  else if a < 297 then bitOf (s.rd Reg.ARC_TRIP 0 0) (16 + (a - 288))
  else if a < 304 then false
  else if a < 320 then bitOf (s.rd Reg.PER_VIEW 0 0) (a - 304)
  else if a < 336 then s.fld Fld.LOC_TSTAT_STATE (a - 320) 0 == 1
  else if a < 352 then s.fld Fld.LOC_TSTAT_STATE (a - 336) 0 == 3
  else if a = 352 then s.mirState == 0 || s.mirState == 2
  else if a = 353 then s.bit Fld.MIR_STATUS_DEGRADED 0 0
  else if a = 354 then s.locked
  else if a = 355 then first else false

/-- What the modifier of a QB operand selects of a quality (R327). -/
def qualSel (md q : Nat) : Bool :=
  if md = 0 then !(badQ q) else if md = 1 then q == 0 else if md = 2 then q == 4 else if md = 3 then q == 15 else q == 3

/-- The bit that an operand reads. -/
def State.latBit (s : State) (first : Bool) (m : LatMem) (sp md a : Nat) : Bool :=
  match sp with
  | 1 => s.latIn first a
  | 2 => tbit m.q a
  | 3 => tbit m.m a
  | 4 => (tget timIdle m.tim a).q
  | 5 => sInt (s.cf Cf.LAT_CPRE 0 a) ≤ sInt (tget ctrIdle m.ctr a).cv
  | 6 => (tget edgeIdle m.edge a).r
  | 7 => tget false m.k a
  | 8 => qualSel md (s.co a).q
  | 9 => s.cf Cf.LAT_CONST 0 a != 0
  | _ => false

/-! ### Timers, counters, edge detectors, comparators (R329 to R332) -/

/-- TON. -/
def tonStep (x : TimSt) (acc : Bool) (d pt : Nat) : TimSt :=
  if acc then
    let y := if x.run then { x with et := Nat.min (x.et + d) pt } else { x with run := true, et := 0 }
    { y with q := pt ≤ y.et }
  else { x with run := false, et := 0, q := false }

/-- TOF. -/
def tofStep (x : TimSt) (acc : Bool) (d pt : Nat) : TimSt :=
  if acc then { x with q := true, run := false, et := 0 }
  else if x.q then
    let y := if x.run then { x with et := Nat.min (x.et + d) pt } else { x with run := true, et := 0 }
    if pt ≤ y.et then { y with q := false, run := false } else y
  else x

/-- TP. -/
def tpStep (x : TimSt) (acc : Bool) (d pt : Nat) : TimSt :=
  let y :=
    if x.run then
      let z := { x with et := Nat.min (x.et + d) pt }
      if pt ≤ z.et then { z with q := false, run := false } else z
    else if acc && !x.prev then { x with q := 0 < pt, run := 0 < pt, et := 0 } else x
  { y with prev := acc }

/-- A timer word. -/
def timStep (op : Nat) (x : TimSt) (acc : Bool) (d pt : Nat) : TimSt :=
  if op = 0x18 then tonStep x acc d pt else if op = 0x19 then tofStep x acc d pt else tpStep x acc d pt

/-- CTU and CTD: the counter, and whether the change saturated. -/
def ctrCount (x : CtrSt) (up acc : Bool) : CtrSt × Bool :=
  let prev := if up then x.cu else x.cd
  let go := acc && !prev
  let v := if up then sInt x.cv + 1 else sInt x.cv - 1
  let y := if go then { x with cv := wInt (satInt32 v) } else x
  (if up then { y with cu := acc } else { y with cd := acc }, go && v != satInt32 v)

/-- EDR and EDF. -/
def edgeStep (x : EdgeSt) (rising acc : Bool) : EdgeSt :=
  let r := !x.primed && (if rising then acc && !x.ep else !acc && x.ep)
  ⟨acc, r, false⟩

/-- One evaluation of comparator `n`: its result, and whether the source is unusable (R332). -/
def State.cmpStep (s : State) (n : Nat) (k : Bool) : Bool × Bool :=
  let w1 := s.cf Cf.LAT_CMPDEF 0 (4 * n + 1)
  let thr := f32 (s.cf Cf.LAT_CMPDEF 0 (4 * n + 2))
  let hy := f32 (s.cf Cf.LAT_CMPDEF 0 (4 * n + 3))
  let e := (s.cmpDef n).1
  let v := f32 (s.coFl e (s.co e).val)
  if badQ (s.co e).q || !v.isFin then
    (if bitsOf w1 4 2 = 1 then false else if bitsOf w1 4 2 = 2 then true else k, true)
  else if bitsOf w1 0 1 = 0 then
    (if Fl.lt thr v then true else if Fl.lt v (Fl.sub fmt32 thr hy) then false else k, false)
  else (if Fl.lt v thr then true else if Fl.lt (Fl.add fmt32 thr hy) v then false else k, false)

/-! ### Execution (R328) -/

/-- The processor in a scan: working memory, accumulator, stack (each entry a bit, and whether AND), words executed and
the events to log, newest first. -/
structure LatCpu where
  mem : LatMem
  acc : Bool
  stack : List (Bool × Bool)
  n : Nat
  evs : List Event
  deriving DecidableEq, Repr

/-- A store to Q or M. -/
def LatCpu.put (c : LatCpu) (sp a : Nat) (b : Bool) : LatCpu :=
  if sp = 2 then { c with mem := { c.mem with q := tbitSet c.mem.q a b } }
  else { c with mem := { c.mem with m := tbitSet c.mem.m a b } }

/-- A logic word: LD to XOR, NOT, and the words with parentheses. -/
def LatCpu.logic (c : LatCpu) (op : Nat) (x : Bool) : LatCpu :=
  match op with
  | 0x01 => { c with acc := x }
  | 0x02 => { c with acc := !x }
  | 0x03 => { c with acc := c.acc && x }
  | 0x04 => { c with acc := c.acc && !x }
  | 0x05 => { c with acc := c.acc || x }
  | 0x06 => { c with acc := c.acc || !x }
  | 0x07 => { c with acc := c.acc != x }
  | 0x08 => { c with acc := !c.acc }
  | 0x09 => { c with stack := (c.acc, true) :: c.stack, acc := x }
  | 0x0A => { c with stack := (c.acc, true) :: c.stack, acc := !x }
  | 0x0B => { c with stack := (c.acc, false) :: c.stack, acc := x }
  | 0x0C => { c with stack := (c.acc, false) :: c.stack, acc := !x }
  | 0x0D =>
    match c.stack with
    | (b, isAnd) :: r => { c with stack := r, acc := if isAnd then b && c.acc else b || c.acc }
    | [] => c
  | _ => c

/-- A counter word. -/
def State.latCtr (s : State) (c : LatCpu) (op a : Nat) : LatCpu :=
  let x := tget ctrIdle c.mem.ctr a
  let pv := s.cf Cf.LAT_CPRE 0 a
  let (y, sat) :=
    if op = 0x1C then ctrCount x true c.acc else if op = 0x1D then ctrCount x false c.acc
    else if c.acc then ({ x with cv := if op = 0x1E then 0 else pv }, false) else (x, false)
  { c with mem := { c.mem with ctr := tset ctrIdle c.mem.ctr a y }, acc := sInt pv ≤ sInt y.cv,
           evs := if sat then ⟨0x2246, a, y.cv, 0, 0, 0⟩ :: c.evs else c.evs }

/-- A comparator word; the first unusable value of an episode logs event 0x2245. -/
def State.latCmp (s : State) (c : LatCpu) (a : Nat) : LatCpu :=
  let r := s.cmpStep a (tget false c.mem.k a)
  let bad := bitsOf (s.cf Cf.LAT_CMPDEF 0 (4 * a + 1)) 4 2
  { c with mem := { c.mem with k := tset false c.mem.k a r.1, kBad := tset false c.mem.kBad a r.2 }, acc := r.1,
           evs := if r.2 && !(tget false c.mem.kBad a) then
               ⟨0x2245, a, w32 bad, w32 (s.co (s.cmpDef a).1).q, 0, 0⟩ :: c.evs else c.evs }

/-- One word other than a jump and END. -/
def State.latWord (s : State) (first : Bool) (d : Nat) (c : LatCpu) (w : Word) : LatCpu :=
  let op := latOp w
  let a := latAd w
  if op ≤ 0x0D then c.logic op (s.latBit first c.mem (latSp w) (latMod w) a)
  else if op = 0x10 then c.put (latSp w) a c.acc
  else if op = 0x11 then c.put (latSp w) a (!c.acc)
  else if op = 0x12 then (if c.acc then c.put (latSp w) a true else c)
  else if op = 0x13 then (if c.acc then c.put (latSp w) a false else c)
  else if op = 0x18 ∨ op = 0x19 ∨ op = 0x1A then
    let y := timStep op (tget timIdle c.mem.tim a) c.acc d (s.cf Cf.LAT_TPRE 0 a).toNat
    { c with mem := { c.mem with tim := tset timIdle c.mem.tim a y }, acc := y.q }
  else if 0x1C ≤ op ∧ op ≤ 0x1F then s.latCtr c op a
  else if op = 0x20 ∨ op = 0x21 then
    let y := edgeStep (tget edgeIdle c.mem.edge a) (op == 0x20) c.acc
    { c with mem := { c.mem with edge := tset edgeIdle c.mem.edge a y }, acc := y.r }
  else if op = 0x24 then s.latCmp c a
  else c

/-- How many words a word leaves out: those a taken jump passes over. `i` is its address. -/
def jumpSkip (w : Word) (acc : Bool) (i : Nat) : Nat :=
  let op := latOp w
  if op = 0x28 ∨ (op = 0x29 ∧ acc) ∨ (op = 0x2A ∧ !acc) then latAd w - (i + 1) else 0

/-- The program from word `i` on; `skip` words are left out first. -/
def State.latExec (s : State) (first : Bool) (d : Nat) : List Word → Nat → Nat → LatCpu → LatCpu
  | [], _, _, c => c
  | w :: ws, i, skip, c =>
    if 0 < skip then s.latExec first d ws (i + 1) (skip - 1) c
    else
      let c1 := { c with n := c.n + 1 }
      if latOp w = 0x3F then c1
      else s.latExec first d ws (i + 1) (jumpSkip w c.acc i) (s.latWord first d c1 w)

/-- A whole execution on a memory (R323, R324). -/
def State.latRun (s : State) (first : Bool) (m : LatMem) : LatCpu :=
  s.latExec first (if first then 0 else s.cfN Cf.LAT_SCAN_PERIOD 0) s.latWords 0 0 ⟨m, false, [], 0, []⟩

/-! ### Publishing and what Lattice drives (R323, R336 to R338) -/

/-- The published output bits. -/
def State.pubQ (s : State) (a : Nat) : Bool := bitOf (s.rd Reg.LAT_QIMG (a / 32) 0) (a % 32)

/-- The gate of a channel: the value it drives while it is active (R336). -/
def State.gate (s : State) (ch : Nat) : Option Word :=
  let g := s.cf Cf.LAT_OGATE 0 ch
  if bitOf g 31 && !(s.marker (bitsOf g 0 12)) then some (s.cf Cf.LAT_OGVAL 0 ch) else none

/-- Whether the gate of an Arc generator permits it (R337). -/
def State.arcGate (s : State) (g : Nat) : Bool :=
  let w := s.cf Cf.LAT_AGATE 0 g
  !(bitOf w 31) || s.marker (bitsOf w 0 12)

/-- Generators whose gate is off are driven inactive at once (R337, R23). -/
def State.arcGatesOff (s : State) : State :=
  (List.range 32).foldl (fun s g =>
    if s.arcGate g then s else (s.setF Fld.ARC_GSTAT_LAT_EN g 0 0).setF Fld.ARC_GSTAT_ACTIVE g 0 0) s

/-- Markers and output bits are published: the image, rising stop requests and event bits, the gates and the values of
Lattice-owned outputs. -/
def State.latPublish (s : State) (m q : Tab Word) : State :=
  let old := s
  let s1 := (List.range 128).foldl (fun s i => s.wr Reg.LAT_MARK i 0 (tget 0 m i)) s
  let s2 := (List.range 9).foldl (fun s i => s.wr Reg.LAT_QIMG i 0 (tget 0 q i)) s1
  let s3 := (List.range 4).foldl (fun s j =>
    if s.pubQ (128 + j) && !(old.pubQ (128 + j)) then s.log 0x3247 j else s) s2
  let s4 := (List.range 16).foldl (fun s j =>
    if s.pubQ (256 + j) && !(old.pubQ (256 + j)) then s.raise 48 j 0 (w32 (s.fld Fld.LAT_SCANCNT_COUNT 0 0 % 65536))
    else s) s3
  let s5 := (List.range 128).foldl (fun s ch =>
    if s.cfN Cf.FCT_OWNER ch = 3 ∧ s.chMode ch = 8 then s.ownerWrite ch (if s.pubQ ch then 1 else 0) else s) s4
  s5.arcGatesOff

/-- The comparator results are published. -/
def State.latPubK (s : State) (k : Tab Bool) : State :=
  (List.range 32).foldl (fun s i =>
    s.wr Reg.LAT_KIMG i 0 (w32 ((List.range 32).foldl (fun n j => if tget false k (32 * i + j) then n + 2 ^ j else n) 0))) s

/-- MINIT and QINIT as the published image (R344, R348). -/
def State.latPubInit (s : State) : State := s.latPublish (s.initImg Cf.LAT_MINIT 128) (s.initImg Cf.LAT_QINIT 9)

/-- Lattice's state changes (R342). -/
def State.latState (s : State) (new cause : Nat) : State :=
  let old := s.fld Fld.LAT_STATUS_STATE 0 0
  if old = new then s
  else
    let s1 := (s.setF Fld.LAT_STATUS_STATE 0 0 new).setF Fld.LAT_STATUS_STOPSAFE 0 0 0
    s1.log 0x0240 0 (w32 old) (w32 new) (w32 cause)

/-! ### Carry-over (R347) -/

/-- One instance of the new program: the memory, and whether it was kept. -/
def State.carryOne (s : State) (old : LatProg) (u : Nat × Nat) (m : LatMem) : LatMem × Bool :=
  let a := u.2
  let inOld := (latUses old.words).contains u
  match u.1 with
  | 2 => if inOld then (m, true) else ({ m with q := tbitSet m.q a (bitOf (s.cf Cf.LAT_QINIT 0 (a / 32)) (a % 32)) }, false)
  | 3 => if inOld then (m, true) else ({ m with m := tbitSet m.m a (bitOf (s.cf Cf.LAT_MINIT 0 (a / 32)) (a % 32)) }, false)
  | 4 => if inOld then (m, true) else ({ m with tim := tset timIdle m.tim a timIdle }, false)
  | 5 => if inOld then (m, true) else ({ m with ctr := tset ctrIdle m.ctr a ctrIdle }, false)
  | 6 =>
    let x := if inOld then tget edgeIdle m.edge a else edgeIdle
    ({ m with edge := tset edgeIdle m.edge a { x with primed := true } }, false)
  | _ =>
    if inOld ∧ old.cmps.contains (a, (s.cmpDef a).1, (s.cmpDef a).2) then (m, true)
    else ({ m with k := tset false m.k a false }, false)

/-- A memory that an old program built, for the active program: with the counts of kept and reset instances. -/
def State.carryOver (s : State) (old : LatProg) (m : LatMem) : LatMem × Nat × Nat :=
  (latUses s.latWords).foldl (fun r u =>
    let (m1, kept) := s.carryOne old u r.1
    (m1, if kept then (r.2.1 + 1, r.2.2) else (r.2.1, r.2.2 + 1))) (m, 0, 0)

/-- The memory of the state carried over, with event 0x0244 and FIRST = 1. -/
def State.latCarry (s : State) (old : LatProg) : State :=
  let r := s.carryOver old s.lat.mem
  let s1 := { s with lat := { s.lat with mem := r.1, carry := false, first := true, ran := s.latProg } }
  s1.log 0x0244 0 (w32 r.2.1) (w32 r.2.2)

/-! ### Patches (R340, R341) -/

/-- The instance count of a patch target. -/
def patchMax (tgt : Nat) : Nat :=
  if tgt = 1 then 2048 else if tgt = 2 then 1024 else if tgt = 3 then 512 else if tgt = 6 then 4096
  else if tgt = 7 then 512 else 1024

/-- The table field of a target; 0xFFFF for MARKER and COUNTER, which have none. -/
def patchFld (tgt : Nat) : Nat := if tgt = 1 then 0x101 else if tgt = 2 then 0x102 else if tgt = 3 then 0x103
  else if tgt = 4 ∨ tgt = 5 then 0x104 else 0xFFFF

/-- The element of the table. -/
def patchElem (tgt idx : Nat) : Nat := if tgt = 4 then 4 * idx + 2 else if tgt = 5 then 4 * idx + 3 else idx

/-- The value held to its range (R341, R151). -/
def patchClamp (tgt : Nat) (v : Word) : Word :=
  if tgt = 2 then (if 2000000000 < v.toNat then 2000000000 else v)
  else if tgt = 4 then clamp32 0xFF7FFFFF 0x7F7FFFFF v
  else if tgt = 5 then clamp32 0 0x4E6E6B28 v
  else if tgt = 6 then (if 1 < v.toNat then 1 else v) else v

/-- The value that a patch replaces. -/
def State.patchOld (s : State) (tgt idx : Nat) : Word :=
  if tgt = 6 then (if tbit s.lat.mem.m idx then 1 else 0)
  else if tgt = 7 then (tget ctrIdle s.lat.mem.ctr idx).cv
  else s.cf ⟨9, patchFld tgt⟩ 0 (patchElem tgt idx)

/-- The patch takes effect: a marker or a CV changes state only, the rest joins the committed configuration. -/
def State.patchPut (s : State) (tgt idx : Nat) (v : Word) : State :=
  if tgt = 6 then s.setLatMem { s.lat.mem with m := tbitSet s.lat.mem.m idx (v != 0) }
  else if tgt = 7 then
    s.setLatMem { s.lat.mem with ctr := tset ctrIdle s.lat.mem.ctr idx { tget ctrIdle s.lat.mem.ctr idx with cv := v } }
  else
    let c : List Change := [⟨cfgKey 9 0 (patchFld tgt) (patchElem tgt idx), v⟩]
    (s.commitChanges c).takeChanges c

/-- A patch with its item takes effect and the item completes (R340). -/
def State.patchDo (s : State) (it : Item) : State :=
  let tgt := (it.w 3).toNat
  let idx := (it.w 4).toNat
  let v := patchClamp tgt (it.w 5)
  let old := s.patchOld tgt idx
  let s1 := (s.patchPut tgt idx v).log 0x0241 tgt (w32 idx) old v
  if v = it.w 5 then s1.complete it stDone old
  else s1.completeClamped it [⟨tgt == 4 || tgt == 5, 0x1, 9, patchFld tgt, patchElem tgt idx, 0, it.w 5, v, 0⟩]

/-- LAT_PATCHQ.PENDING as the queue stands. -/
def State.showPatches (s : State) : State := s.setF Fld.LAT_PATCHQ_PENDING 0 0 s.lat.patches.length

/-- The oldest waiting patch that has not been aborted takes effect. -/
def State.patchNext (s : State) : State :=
  let live := s.lat.patches.filter (fun k => (s.flight k.1 k.2).isSome)
  match live with
  | [] => ({ s with lat := { s.lat with patches := [] } }).showPatches
  | k :: r =>
    if s.redoFull k.1 k.2 then s else
    let s1 := ({ s with lat := { s.lat with patches := r } }).showPatches
    match s1.flight k.1 k.2 with
    | some x => s1.patchDo x.item
    | none => s1

/-- LAT_PATCH (R340, R341): queued in RUN, in effect at its commit point in STOPPED and FOLLOW. -/
def execLatPatch (it : Item) (s : State) : Host.Outcome State Fault Refusal :=
  serve it s (fun s =>
    let w := (it.w 3).toNat
    let idx := (it.w 4).toNat
    let st := s.fld Fld.LAT_STATUS_STATE 0 0
    let isF := w = 4 ∨ w = 5
    if w = 0 ∨ 7 < w then s.complete it stFormat 12
    else if st = 0 ∨ st = 4 then s.complete it stState 1
    else if patchMax w ≤ idx ∨ (isF ∧ !(bitOf (s.cf Cf.LAT_CMPDEF 0 (4 * idx)) 31)) then
      s.complete it stRange 9 (w32 (patchFld w)) (w32 idx)
    else if isF ∧ isNan32 (it.w 5) then s.complete it stRange 9 (w32 (patchFld w)) (it.w 5)
    else if st ≠ 1 then s.patchDo it
    else if 64 ≤ s.lat.patches.length then s.complete it stState 2
    else
      let s1 := s.holdItem 0x0900 it []
      ({ s1 with lat := { s1.lat with patches := s1.lat.patches ++ [(it.ring, it.seq)] } }).showPatches)

/-! ### Stop, start (R344, R345) -/

/-- The item of a request, while it has not been aborted. -/
def State.reqItem (s : State) (r : Option (Nat × Word)) : Option Item :=
  r.bind (fun k => (s.flight k.1 k.2).map (fun x => x.item))

/-- LAT_STOP (R344): RUN only; a second one while one waits is refused. -/
def execLatStop (it : Item) (s : State) : Host.Outcome State Fault Refusal :=
  serve it s (fun s =>
    if 1 < (it.w 3).toNat then s.complete it stFormat 12
    else if s.fld Fld.LAT_STATUS_STATE 0 0 ≠ 1 ∨ (s.reqItem s.lat.stopReq).isSome then s.complete it stState 1
    else
      let s1 := s.holdItem 0x0901 it []
      { s1 with lat := { s1.lat with stopReq := some (it.ring, it.seq) } })

/-- The stop takes place at a scan boundary. -/
def State.latStopNow (s : State) (it : Item) : State :=
  let s0 := { s with lat := { s.lat with stopReq := none } }
  let s1 := s0.latState 2 0
  let s2 := if it.w 3 = 1 then (s1.setF Fld.LAT_STATUS_STOPSAFE 0 0 1).latPubInit else s1
  s2.complete it stDone

/-- LAT_STOP_BOUNDARY (R344): the scan boundary after LAT_STOP. -/
def execLatStopBoundary (s : State) : Host.Outcome State Fault Refusal :=
  match s.reqItem s.lat.stopReq with
  | some it => go (if s.fld Fld.LAT_STATUS_STATE 0 0 = 1 then s.latStopNow it else s)
  | none => go { s with lat := { s.lat with stopReq := none } }

/-- LAT_START (R345): STOPPED only, with a program. -/
def execLatStart (it : Item) (s : State) : Host.Outcome State Fault Refusal :=
  serve it s (fun s =>
    if s.fld Fld.LAT_STATUS_STATE 0 0 ≠ 2 ∨ s.latWords = [] ∨ (s.reqItem s.lat.startReq).isSome then
      s.complete it stState 1
    else
      let s1 := s.holdItem 0x0902 it []
      { s1 with lat := { s1.lat with startReq := some (it.ring, it.seq) } })

/-! ### The shadow (R346) -/

/-- The addresses at which two tables differ, markers masked by CMPMASK, word by word. -/
def diffTab (n : Nat) (mask : Nat → Word) (a b : Nat → Word) : List (Nat × Word) :=
  (List.range n).filterMap (fun i =>
    let d := (a i ^^^ b i) &&& ~~~(mask i)
    if d = 0 then none else some (i, d))

/-- The first address of a list of differences. -/
def firstDiff (ds : List (Nat × Word)) : Nat :=
  match ds with
  | [] => 0
  | (i, d) :: _ => 32 * i + ((List.range 32).find? (fun j => bitOf d j)).getD 0

/-- SHADOW_COMPARE (R346): the image of the shadow's scan of grid index `n` against that of the active's scan of the same
index. The first difference of each episode is captured with the stamp of the scan's start. -/
def State.latCompare (s : State) (n : Nat) (m q : Tab Word) : State :=
  let dm := diffTab 128 (fun i => s.cf Cf.LAT_CMPMASK 0 i) (fun i => tget 0 m i) (fun i => s.rd Reg.LAT_MARK i 0)
  let dq := diffTab 9 (fun _ => 0) (fun i => tget 0 q i) (fun i => s.rd Reg.LAT_QIMG i 0)
  let s1 := s.incF Fld.LAT_CMP_SCANS_COUNT 0 0 1
  if dm = [] ∧ dq = [] then { s1 with lat := { s1.lat with cmpEp := false } }
  else
    let acc := fun (t : Tab Word) (ds : List (Nat × Word)) => ds.foldl (fun t d => tset 0 t d.1 (tget 0 t d.1 ||| d.2)) t
    let s2 := ({ s1 with lat := { s1.lat with
      cmpM := acc s1.lat.cmpM dm, cmpQ := acc s1.lat.cmpQ dq, cmpEp := true } }).incF Fld.LAT_CMP_DIFFS_COUNT 0 0 1
    if s.lat.cmpEp then s2
    else
      let sp := if dm = [] then 2 else 3
      let ad := if dm = [] then firstDiff dq else firstDiff dm
      let st := stampOf ((n : Int) * 50000 * 4294967296)
      let s3 := ((s2.wr Reg.LAT_CMP_FIRST 0 0 (w32 (2147483648 + sp * 65536 + ad))).wr Reg.LAT_CMP_FNS 0 0
        (stNs st)).wr Reg.LAT_CMP_FSEC 0 0 (stSec st)
      s3.log 0x2243 sp (w32 ad) (s3.rd Reg.LAT_SCANCNT 0 0)

/-- Entry to SHADOW at a scan boundary: the memory of the last snapshot under the carry-over rules. -/
def State.latShadowOn (s : State) (it : Item) : State :=
  let r := s.carryOver s.lat.partner s.lat.mem
  let s1 := { s with lat := { s.lat with shadow := some r.1, shadowReq := none, first := true, cmpM := [], cmpQ := [],
                                         cmpEp := false, shImg := none } }
  let s2 := ((s1.wr Reg.LAT_CMP_SCANS 0 0 0).wr Reg.LAT_CMP_DIFFS 0 0 0).wr Reg.LAT_CMP_FIRST 0 0 0
  (((s2.latState 4 0).log 0x0244 0 (w32 r.2.1) (w32 r.2.2))).complete it stDone

/-- SHADOW ends and Lattice follows again. -/
def State.latShadowOff (s : State) (cause : Nat) : State :=
  if s.fld Fld.LAT_STATUS_STATE 0 0 = 4 then
    ({ s with lat := { s.lat with shadow := none, shImg := none } }).latState 3 cause
  else s

/-- LAT_SHADOW as decided: word 3 selects start or stop. -/
def State.latShadow (s : State) (it : Item) : State :=
  let st := s.fld Fld.LAT_STATUS_STATE 0 0
  if 1 < (it.w 3).toNat then s.complete it stFormat 12
  else if it.w 3 = 0 then (if st = 4 then (s.latShadowOff 0).complete it stDone else s.complete it stState 1)
  else if st ≠ 3 ∨ (s.reqItem s.lat.shadowReq).isSome then s.complete it stState 1
  else if s.mirState ≠ 4 then s.complete it stState 4
  else if !(s.bit Fld.LAT_STATUS_PROG_DIFF 0 0) then s.complete it stState 5
  else
    let s1 := s.holdItem 0x0903 it []
    { s1 with lat := { s1.lat with shadowReq := some (it.ring, it.seq) } }

/-- LAT_SHADOW_START: accepted, in effect at the next scan boundary. -/
def execLatShadowStart (it : Item) (s : State) : Host.Outcome State Fault Refusal := serve it s (fun s => s.latShadow it)

/-- LAT_SHADOW_STOP. -/
def execLatShadowStop (it : Item) (s : State) : Host.Outcome State Fault Refusal := serve it s (fun s => s.latShadow it)

/-- LAT_CMP_READ (R350): 512 bytes of markers, then 36 bytes of output bits. -/
def execLatCmpRead (it : Item) (s : State) : Host.Outcome State Fault Refusal :=
  serve it s (fun s =>
    let st := s.fld Fld.LAT_STATUS_STATE 0 0
    if st = 3 ∨ st = 4 then
      let ws := (List.range 128).map (fun i => tget 0 s.lat.cmpM i) ++ (List.range 9).map (fun i => tget 0 s.lat.cmpQ i)
      (s.bufPut it (bufAddr it 3) ws).complete it stDone (s.rd Reg.LAT_CMP_SCANS 0 0) (s.rd Reg.LAT_CMP_DIFFS 0 0)
    else s.complete it stState 1)

/-! ### The scan (R322 to R324) -/

/-- The events of an execution, oldest first. -/
def State.latEvents (s : State) (evs : List Event) : State :=
  evs.reverse.foldl (fun s e => s.log e.code e.inst e.p0 e.p1 e.p2 e.p3) s

/-- LAT_SCANTIME after a scan of `n` words. -/
def State.latTime (s : State) (n : Nat) : State :=
  let t := Nat.min 65535 (400 + 2 * n)
  let s1 := s.setF Fld.LAT_SCANTIME_LAST 0 0 t
  if s1.fld Fld.LAT_SCANTIME_MAX 0 0 < t then s1.setF Fld.LAT_SCANTIME_MAX 0 0 t else s1

/-- A scan in RUN: one patch, execution, publish. -/
def State.latScan (s : State) : State :=
  let s1 := s.patchNext
  let first := s1.lat.first
  let c := s1.latRun first s1.lat.mem
  let s2 := { s1 with lat := { s1.lat with mem := c.mem, first := false, ran := s1.latProg } }
  let s3 := ((s2.latEvents c.evs).latTime c.n).wrapF Fld.LAT_SCANCNT_COUNT 0 0 1
  let s4 := (s3.latPublish c.mem.m c.mem.q).latPubK c.mem.k
  match s4.reqItem s4.lat.startReq with
  | some it => ({ s4 with lat := { s4.lat with startReq := none } }).complete it stDone
  | none => s4

/-- A scan of the shadow (R346): it publishes to no reader. -/
def State.latShScan (s : State) (n : Nat) (m : LatMem) : State :=
  let c := s.latRun s.lat.first m
  let s1 := { s with lat := { s.lat with shadow := some c.mem, first := false } }
  let s2 := ((s1.latEvents c.evs).latTime c.n).wrapF Fld.LAT_SCANCNT_COUNT 0 0 1
  if s.lat.snapN = n + 1 then s2.latCompare n c.mem.m c.mem.q
  else { s2 with lat := { s2.lat with shImg := some (n, c.mem.m, c.mem.q) } }

/-- The grid index of an instant. -/
def gridOf (t : Int) : Nat := (t / 4294967296 / 50000).toNat

/-- Lattice, which has followed a partner, enters RUN with the mirrored memory, under R347 when the programs differ
(R556). -/
def State.latGo (s : State) : State :=
  if s.latWords = [] then s.latState 0 2
  else
    let s1 := if s.latWords = s.lat.partner.words then { s with lat := { s.lat with first := false, ran := s.latProg } }
      else s.latCarry s.lat.partner
    (s1.latState 1 2).latScan

/-- The scan boundary of grid index `n`, by Lattice's state. -/
def State.latBoundary (s : State) (n : Nat) : State :=
  match s.fld Fld.LAT_STATUS_STATE 0 0 with
  | 1 =>
    match s.reqItem s.lat.stopReq with
    | some it => s.latStopNow it
    | none => s.latScan
  | 2 =>
    match s.reqItem s.lat.startReq with
    | some _ =>
      let s1 := if s.lat.carry then s.latCarry s.lat.ran else s
      (s1.latState 1 0).latScan
    | none => s
  | 3 =>
    if !s.standby then s.latGo else
    match s.reqItem s.lat.shadowReq with
    | some it =>
      let s1 := s.latShadowOn it
      match s1.lat.shadow with
      | some m => s1.latShScan n m
      | none => s1
    | none => s
  | 4 =>
    match s.lat.shadow with
    | some m => s.latShScan n m
    | none => s
  | _ => s

/-- LATTICE_SCAN (R322, R323): the scan of this instant's grid tick, when N mod P = PHASE and it has not been served. -/
def execLatticeScan (s : State) : Host.Outcome State Fault Refusal :=
  let n := gridOf s.timeT
  let p := Nat.max 1 (s.cfN Cf.LAT_SCAN_PERIOD 0 / 50)
  if s.domOn 3 ∧ s.sys.mode = .running ∧ s.mirState ≠ 1 ∧ !s.mir.hold ∧ n % p = s.cfN Cf.LAT_PHASE 0 ∧ s.lat.lastN ≤ n then
    go (({ s with lat := { s.lat with lastN := n + 1 } }).expireRemote.latBoundary n)
  else go s

/-- LAT_TIMER_EXPIRY (R329): the instruction of timer `n` executes with ACC = `acc`, when its elapsed time reaches its
preset by it; its Q changes. In a scan the same happens at the instruction's place in the program. -/
def execLatTimerExpiry (n : Nat) (acc : Bool) (s : State) : Host.Outcome State Fault Refusal :=
  let x := tget timIdle s.lat.mem.tim n
  match s.latWords.find? (fun w => latSp w == 4 && latAd w == n && (0x18 ≤ latOp w && latOp w ≤ 0x1A)) with
  | some w =>
    let d := if s.lat.first then 0 else s.cfN Cf.LAT_SCAN_PERIOD 0
    let pt := (s.cf Cf.LAT_TPRE 0 n).toNat
    let y := timStep (latOp w) x acc d pt
    if s.fld Fld.LAT_STATUS_STATE 0 0 = 1 ∧ x.run ∧ pt ≤ x.et + d ∧ y.q ≠ x.q then
      go (s.setLatMem { s.lat.mem with tim := tset timIdle s.lat.mem.tim n y })
    else go s
  | none => go s

/-! ### Committed values (R158, R343, R349) -/

/-- The reason for which a commit that names LAT is refused; 0 none (R343). -/
def State.latRefuse (s : State) : Nat :=
  let st := s.fld Fld.LAT_STATUS_STATE 0 0
  if st = 0 ∨ st = 3 then 0
  else if st = 2 ∧ !(s.mirState = 2 ∧ s.bit Fld.MIR_STATUS_PARTNER 0 0 ∧
      (s.mir.partnerState = 3 ∨ s.mir.partnerState = 4)) then 0
  else 3

/-- The registers that show the program. -/
def State.latShow (s : State) : State :=
  let ws := s.latWords
  (s.setF Fld.LAT_STATUS_PROGLEN 0 0 ws.length).setF Fld.LAT_STATUS_PROG_DIFF 0 0
    (if (s.mirState == 3 || s.mirState == 4) && ws != s.lat.partner.words then 1 else 0)

/-- Lattice has taken committed values: a program is recorded, and a RESET Lattice on a running module starts. -/
def State.takenLat (s : State) (prog : Bool) : State :=
  let s1 := s.latShow
  let s2 := if prog ∧ s1.latWords ≠ [] then
      s1.log 0x1242 0 (w32 s1.latWords.length) (w32 s1.cfg.imageId) else s1
  match s2.fld Fld.LAT_STATUS_STATE 0 0 with
  | 0 =>
    let s3 := s2.latPubInit
    if s3.standby ∧ s3.domOn 3 ∧ s3.sys.mode = .running ∧ s3.mirState ≠ 1 ∧ s3.latWords ≠ [] then s3.latState 3 2
    else if s3.engOn ∧ s3.latWords ≠ [] then
      (({ s3 with lat := { s3.lat with mem := s3.latCold, first := true } }).latState 1 1)
    else s3
  | 2 => if prog then { s2 with lat := { s2.lat with carry := true } } else s2
  | 4 => s2.latShadowOff 1
  | _ => s2.arcGatesOff

end Sys2Proof.Machine
end

