-- ==== Sys2Proof/Machine/Prm.lean ====
section
/-! DEFINITION. Prism: the raw history, change-only encoding, reductions, the stream and its backlog, gaps, trigger units
and records (spec/13_prism_capture.md). -/

namespace Sys2Proof.Machine

/-! ### The parts of the state -/

/-- Prism runs: PD_ACQ is on and the module runs. -/
def State.prmOn (s : State) : Bool := s.domOn 4 && s.sys.mode == .running

/-- The state with Prism's part replaced. -/
def State.setPrm (s : State) (p : PrmSt) : State := { s with prm := p }

/-- A trigger unit as arming leaves its detector. -/
def unitIdle : UnitSt := ⟨false, false, false, false, false, 0, 0, 0, 0, 0⟩

/-- Unit `u`. -/
def State.unit (s : State) (u : Nat) : UnitSt := tget unitIdle s.prm.units u

/-- The state with unit `u` replaced. -/
def State.setUnit (s : State) (u : Nat) (x : UnitSt) : State :=
  s.setPrm { s.prm with units := tset unitIdle s.prm.units u x }

/-- A field of a trigger unit. -/
def State.un (s : State) (c : Cf) (u : Nat) : Nat := s.cfN c (128 + u)

/-- PRM_STATUS as the units stand. -/
def State.prmShow (s : State) : State :=
  let m := fun st => (List.range 16).foldl (fun n u => if s.fld Fld.PRM_USTAT_STATE u 0 = st then n + 2 ^ u else n) 0
  (s.setF Fld.PRM_STATUS_COLLECT 0 0 (m 2)).setF Fld.PRM_STATUS_ARMED 0 0 (m 1)

/-- A unit takes a state: 0 IDLE, 1 ARMED, 2 COLLECT, 3 HOLDOFF. Arming clears its detector (R416). -/
def State.unitTo (s : State) (u st : Nat) : State :=
  let s1 := (s.setF Fld.PRM_USTAT_STATE u 0 st).prmShow
  let x := s1.unit u
  if st = 1 then s1.setUnit u { unitIdle with armT := x.armT, trigT := x.trigT } else s1

/-- A compact stamp of a time, as NS and SEC. -/
def compact (t : Int) : Word × Word := (stNs (stampOf t), stSec (stampOf t))

/-! ### The stream and its backlog (R406, R409 to R412) -/

/-- Entries that the backlog holds. -/
def backlogMax : Nat := 25165824

/-- The DRAM address of a backlog entry by its number. -/
def bkAddr (n : Nat) : Nat := 0xC0000000 + n % backlogMax * 32

/-- Whether Prism produces entries: STREAM_RING names a ring. -/
def State.streams (s : State) : Bool := s.cf Cf.PRM_STREAM_RING 144 0 != 255

/-- PRM_BACKLOG and PRM_BKPEAK as the backlog stands. -/
def State.showBacklog (s : State) : State :=
  let n := s.prm.bkTail - s.prm.bkHead
  let s1 := s.setF Fld.PRM_BACKLOG_ENTRIES 0 0 n
  if s1.fld Fld.PRM_BKPEAK_PEAK 0 0 < n then s1.setF Fld.PRM_BKPEAK_PEAK 0 0 n else s1

/-- The words of a backlog entry. -/
def State.bkWords (s : State) (n : Nat) : List Word := memWords s.dram (bkAddr n) 8

/-- The values that an entry carries, as GAP word 6 counts them, and whether it is a record header (R413). -/
def entryVals (ws : List Word) : Nat × Nat :=
  let w := ws.getD 0 0
  match bitsOf w 28 4 with
  | 1 => (bitsOf w 26 2, 0)
  | 2 => (1, 0)
  | 3 => (0, 1)
  | 4 => (bitsOf w 25 3, 0)
  | _ => (0, 0)

/-- One discarded entry joins the pending GAP entry. -/
def GapAcc.add (g : Option GapAcc) (ws : List Word) : GapAcc :=
  let st := (ws.getD 1 0, ws.getD 2 0)
  let v := entryVals ws
  match g with
  | none => ⟨st, st, 1, v.1, v.2⟩
  | some x => { x with t1 := if bitsOf (ws.getD 0 0) 28 4 = 5 then x.t1 else st, entries := x.entries + 1,
                       vals := x.vals + v.1, recs := x.recs + v.2 }

/-- Where the discard of the oldest 128 entries ends: at the end of any record it cuts. -/
def discardEnd (recs : List (Nat × Nat)) (n : Nat) : Nat :=
  recs.foldl (fun e r => if r.1 < e ∧ e < r.1 + r.2 then r.1 + r.2 else e) n

/-- The oldest entries are discarded (R412). -/
def State.prmDiscard (s : State) : State :=
  let p := s.prm
  let e := Nat.min p.bkTail (discardEnd p.bkRecs (p.bkHead + 128))
  let g := (List.range (e - p.bkHead)).foldl (fun g i => some (GapAcc.add g (s.bkWords (p.bkHead + i)))) p.gap
  let s1 := s.setPrm { p with bkHead := e, gap := g, bkRecs := p.bkRecs.filter (fun r => e < r.1 + r.2) }
  let s2 := (s1.incF Fld.PRM_DISCARD_COUNT 0 0 (e - p.bkHead)).showBacklog
  if p.gap.isNone then s2.log 0x22C2 0 (w32 (p.bkTail - p.bkHead)) else s2

/-- An entry joins the backlog. -/
def State.bkPut (s : State) (ws : List Word) : State :=
  let s1 := if s.prm.bkTail - s.prm.bkHead < backlogMax then s else s.prmDiscard
  let n := s1.prm.bkTail
  ({ s1 with dram := memPutWords s1.dram (bkAddr n) ws, prm := { s1.prm with bkTail := n + 1 } }).showBacklog

/-- Word 0 of an entry: TYPE, the type-specific field, SEQ. -/
def entryHead (ty spc seq : Nat) : Word := w32 (ty * 268435456 + spc % 4096 * 65536 + seq % 65536)

/-- The words of an entry: word 0 and words 1 to 7, zero where not listed. -/
def entryWords (ty spc seq : Nat) (ws : List Word) : List Word :=
  entryHead ty spc seq :: (List.range 7).map (fun i => ws.getD i 0)

/-- Prism produces an entry (R406, R409). -/
def State.prmEntry (s : State) (ty spc : Nat) (ws : List Word) : State :=
  if s.streams then
    (s.bkPut (entryWords ty spc (s.fld Fld.PRM_SEQ_SEQ 0 0) ws)).wrapF Fld.PRM_SEQ_SEQ 0 0 1
  else s

/-- A GAP entry for the backlog, with its Vertex event (R413). -/
def State.prmGap (s : State) (cause : Nat) (t0 t1 : Int) (entries vals w7 : Nat) : State :=
  if s.streams then
    let a := compact t0
    let b := compact t1
    (s.prmEntry 7 (cause * 256) [a.1, a.2, b.1, b.2, w32 entries, w32 vals, w32 w7]).raise 112 0 0 (w32 vals)
  else s

/-- Whether the STREAM ring can be written. -/
def State.streamUp (s : State) (m : Nat) : Bool :=
  m < 64 && s.cqUp m && s.fld Fld.HIF_CQ_CTRL_TYPE m 0 == 2

/-- The pending GAP entry goes to the ring: cause BACKLOG. -/
def State.deliverGap (s : State) (m : Nat) (g : GapAcc) : State :=
  let ws := entryWords 7 256 (s.fld Fld.PRM_SEQ_SEQ 0 0)
    [g.t0.1, g.t0.2, g.t1.1, g.t1.2, w32 g.entries, w32 g.vals, w32 g.recs]
  let s1 := (s.cqWrite m ws false).wrapF Fld.PRM_SEQ_SEQ 0 0 1
  let s2 := (s1.setPrm { s1.prm with gap := none }).incF Fld.PRM_GAPCNT_BACKLOG 0 0 1
  s2.raise 112 0 0 (w32 g.vals)

/-- The oldest entry, which an uncorrectable error has discarded, joins the pending GAP entry (R604, R412). -/
def State.bkSkip (s : State) : State :=
  let p := s.prm
  let k := p.bkHead
  let s1 := s.setPrm { p with bkHead := k + 1, gap := some (GapAcc.add p.gap (s.bkWords k)),
                              bkBad := p.bkBad.filter (fun b => b != k),
                              bkRecs := p.bkRecs.filter (fun r => k + 1 < r.1 + r.2) }
  let s2 := s1.incF Fld.PRM_DISCARD_COUNT 0 0 1
  if p.gap.isNone then s2.log 0x22C2 0 (w32 (p.bkTail - k)) else s2

/-- Entries move in order into the ring while it has room, at most `n`. -/
def State.deliver (m : Nat) : Nat → State → State
  | 0, s => s
  | n + 1, s =>
    if s.cqFree m = 0 then s
    else match s.prm.gap with
      | some g => State.deliver m n (s.deliverGap m g)
      | none =>
        if s.prm.bkHead < s.prm.bkTail then
          let k := s.prm.bkHead
          if s.prm.bkBad.contains k then State.deliver m n s.bkSkip else
          let s1 := s.cqWrite m (s.bkWords k) false
          State.deliver m n (s1.setPrm { s1.prm with bkHead := k + 1,
                                                     bkRecs := s1.prm.bkRecs.filter (fun r => k + 1 < r.1 + r.2) })
        else s

/-- PRISM_STREAM_DELIVER (R409). -/
def execPrismStreamDeliver (s : State) : Host.Outcome State Fault Refusal :=
  let m := s.cfN Cf.PRM_STREAM_RING 144
  if s.prmOn ∧ s.streamUp m then go (State.deliver m (s.cqFree m) s).showBacklog else go s

/-! ### The raw history (R398 to R400) -/

/-- Whether a channel is recorded. -/
def State.recorded (s : State) (ch : Nat) : Bool := s.cf Cf.PRM_HIST_EN ch 0 == 1 && isAI (s.chMode ch)

/-- A channel's sample interval in ps (R401). -/
def State.chInterval (s : State) (ch : Nat) : Nat := 1600000 * s.cfN Cf.FCT_AI_DECIM ch / Nat.max 1 (s.cfN Cf.FCT_AI_SLOTS ch)

/-- The sum of the sample rates of channels, in units of 625 kS/s, as a fraction. -/
def State.rateSum (s : State) (chs : List Nat) : Nat × Nat :=
  chs.foldl (fun r ch =>
    let d := Nat.max 1 (s.cfN Cf.FCT_AI_DECIM ch)
    (r.1 * d + s.cfN Cf.FCT_AI_SLOTS ch * r.2, r.2 * d)) (0, 1)

/-- The slots of a channel's region: 1,024 × ⌊2^20 × r ÷ Σr⌋. -/
def State.histSlots (s : State) (sum : Nat × Nat) (ch : Nat) : Nat :=
  1024 * (1048576 * s.cfN Cf.FCT_AI_SLOTS ch * sum.2 / Nat.max 1 (Nat.max 1 (s.cfN Cf.FCT_AI_DECIM ch) * sum.1))

/-- The history is allocated anew and empty; event 0x02C0 with the cause. -/
def State.histAlloc (s : State) (cause : Nat) : State :=
  let chs := (List.range 128).filter (fun ch => s.recorded ch)
  let sum := s.rateSum chs
  let r := chs.foldl (fun (r : Tab (Option HistCh) × Nat × Nat) ch =>
    let n := s.histSlots sum ch
    let iv := s.chInterval ch
    (tset none r.1 ch (some ⟨r.2.1, n, iv, 0, 0, []⟩), r.2.1 + 4 * n, Nat.min r.2.2 (n * iv / 1000000000)))
    ([], 0x100000000, 0xFFFFFFFF)
  let depth := if chs = [] then 0 else r.2.2
  let s1 := { s with dram := s.dram.filter (fun c => c.1 < 0x100000000),
                     prm := { s.prm with hist := r.1, realloc := false } }
  (s1.wr Reg.PRM_HISTDEPTH 0 0 (w32 depth)).log 0x02C0 0 (w32 depth) (w32 cause)

/-- An interval in 2^-32 ns. -/
def ivT (iv : Nat) : Int := (iv : Int) * 4294967296 / 1000

/-- The number of intervals nearest to a span, at least one. -/
def slotStep (iv : Nat) (dt : Int) : Nat := Nat.max 1 ((2 * dt + ivT iv) / Int.ofNat (Nat.max 1 (2 * (ivT iv).toNat))).toNat

/-- The address of a slot. -/
def HistCh.addr (h : HistCh) (k : Nat) : Nat := h.base + 4 * (k % Nat.max 1 h.slots)

/-- The time of a slot, counted back from the last. -/
def HistCh.time (h : HistCh) (k : Nat) : Int := h.tLast - ((h.n : Int) - 1 - k) * ivT h.iv

/-- The oldest slot held. -/
def HistCh.oldest (h : HistCh) : Nat := h.n - h.slots

/-- The slot words `k` to `k + n - 1`. -/
def State.slotWords (s : State) (h : HistCh) (k n : Nat) : List Word :=
  (List.range n).map (fun i => memWord s.dram (h.addr (k + i)))

/-- A sample is written to the slot its stamp names; slots passed over are written with VALID = 0. The answer holds the
region after it and how many slots were passed over. -/
def State.histPut (s : State) (ch : Nat) (h : HistCh) (raw : Word) (t : Int) : State × HistCh × Nat :=
  let k := if h.n = 0 then 1 else slotStep h.iv (t - h.tLast)
  let miss := k - 1
  let idx := h.n + miss
  let d1 := (List.range (Nat.min miss h.slots)).foldl (fun d i => memPutWords d (h.addr (idx - 1 - i)) [0]) s.dram
  let d2 := memPutWords d1 (h.addr idx) [w32 (2147483648 + raw.toNat % 1048576)]
  let h1 := { h with n := idx + 1, tLast := t }
  let hdr := (List.range (idx / 1024 + 1 - (h.n + 1023) / 1024)).foldl (fun m i =>
    let b := (h.n + 1023) / 1024 + i
    tset 0 m b (h1.time (1024 * b))) h.hdr
  let h2 := { h1 with hdr := hdr.filter (fun kv => h1.oldest / 1024 ≤ kv.1) }
  ({ s with dram := d2, prm := { s.prm with hist := tset none s.prm.hist ch (some h2) } }, h2, miss)

/-! ### Records in COLLECT (R419) -/

/-- Whether a record holds all its samples. -/
def RecSt.full (r : RecSt) : Bool := r.started && r.total ≤ r.words.length

/-- A record starts with the trigger sample in slot `k`. -/
def State.recStart (s : State) (h : HistCh) (k : Nat) (r : RecSt) : RecSt :=
  let want := s.un Cf.PRM_PRE r.unit
  let pre := Nat.min want (k - h.oldest)
  let total := pre + s.un Cf.PRM_POST r.unit
  { r with started := true, pre := pre, short := pre < want, total := total, t0 := h.time (k - pre), iv := h.iv,
           words := s.slotWords h (k - pre) (Nat.min total (h.n - (k - pre))) }

/-- The trigger sample's slot, if it lies in the history: the first valid slot at or after the instant. -/
def State.trigSlot (s : State) (h : HistCh) (t : Int) : Option Nat :=
  if h.n = 0 ∨ h.tLast < t then none
  else
    let back := ((h.tLast - t) / Int.ofNat (Nat.max 1 (ivT h.iv).toNat)).toNat
    let j := Nat.max h.oldest (h.n - 1 - back)
    ((List.range (h.n - j)).map (fun i => j + i)).find? (fun k => bitOf (memWord s.dram (h.addr k)) 31)

/-- Records that collect a channel take the slots just written: `miss` of them with VALID = 0, then the sample. -/
def State.recFeed (s : State) (ch : Nat) (h : HistCh) (miss : Nat) (raw : Word) (t : Int) : State :=
  let f := fun (r : RecSt) =>
    if r.ch ≠ ch ∨ r.full then r
    else if r.started then
      let room := r.total - r.words.length
      { r with words := r.words ++ (List.replicate (Nat.min miss room) 0 ++
          [w32 (2147483648 + raw.toNat % 1048576)]).take room }
    else if r.trigT ≤ t then s.recStart h (h.n - 1) r else r
  s.setPrm { s.prm with recs := s.prm.recs.map f }

/-! ### Trigger units (R415 to R418) -/

/-- The microsecond of an instant. -/
def usecOf (t : Int) : Int := t / 4294967296 / 1000

/-- A condition is suppressed: it counts, and with SUPP_EVT = 1 logs event 0x22C1 (R417). -/
def State.unitSupp (s : State) (u : Nat) : State :=
  let s1 := s.incF Fld.PRM_USUPP_COUNT u 0 1
  let s2 := s1.setUnit u { s1.unit u with supp := (s1.unit u).supp + 1 }
  if s2.cf Cf.PRM_SUPP_EVT (128 + u) 0 = 1 then
    s2.log 0x22C1 u (s2.rd Reg.PRM_USUPP u 0) (w32 (s2.fld Fld.PRM_USTAT_STATE u 0))
  else s2

/-- A unit in ARMED fires: the next record number, and COLLECT. -/
def State.unitFire (s : State) (u : Nat) (t : Int) : State :=
  let no := s.rd Reg.PRM_NEXTREC 0 0
  let st := compact t
  let s1 := ((s.wr Reg.PRM_NEXTREC 0 0 (no + 1)).wrapF Fld.PRM_UFIRED_COUNT u 0 1).wr Reg.PRM_ULASTREC u 0 no
  let s2 := (((s1.wr Reg.PRM_UTNS u 0 st.1).wr Reg.PRM_UTSEC u 0 st.2).unitTo u 2)
  let s3 := s2.setUnit u { s2.unit u with trigT := t, supp := 0 }
  let ch := s3.un Cf.PRM_REC_CH u
  let r0 : RecSt := ⟨no, u, t, 0, ch, ch == 255, 0, 0, false, [], t, 0⟩
  let r := match tget none s3.prm.hist ch with
    | some h =>
      match s3.trigSlot h t with
      | some k => s3.recStart h k r0
      | none => r0
    | none => r0
  s3.setPrm { s3.prm with recs := s3.prm.recs ++ [r] }

/-- COINC of every record of a microsecond. -/
def State.setCoinc (s : State) (g : Int) : State :=
  let m := (s.prm.recs.filter (fun r => usecOf r.trigT == g)).foldl (fun m r => m ||| 2 ^ r.unit) 0
  s.setPrm { s.prm with recs := s.prm.recs.map (fun r => if usecOf r.trigT = g then { r with coinc := m } else r) }

/-- Conditions met at instants of one microsecond act in ascending unit order (R418). -/
def State.fireGroup (s : State) (us : List (Nat × Int)) (g : Int) : State :=
  let s1 := (List.range 16).foldl (fun s u =>
    match us.find? (fun x => x.1 == u) with
    | some x =>
      let st := s.fld Fld.PRM_USTAT_STATE u 0
      if st = 1 then s.unitFire u x.2 else if st = 0 then s else s.unitSupp u
    | none => s) s
  s1.setCoinc g

/-- A condition of a unit is met: it waits for TRIGGER_FIRE. An IDLE unit has none. -/
def State.unitMet (s : State) (u : Nat) (t : Int) : State :=
  if s.fld Fld.PRM_USTAT_STATE u 0 = 0 then s else s.setPrm { s.prm with fires := s.prm.fires ++ [(u, t)] }

/-- TRIGGER_FIRE (R416 to R418): the oldest condition of the unit acts, with those of other units in its microsecond. -/
def execTriggerFire (u : Nat) (s : State) : Host.Outcome State Fault Refusal :=
  match s.prm.fires.find? (fun x => x.1 == u) with
  | none => go s
  | some x =>
    let g := usecOf x.2
    let us := s.prm.fires.filter (fun y => usecOf y.2 == g)
    go ((s.setPrm { s.prm with fires := s.prm.fires.filter (fun y => usecOf y.2 != g) }).fireGroup us g)

/-- TRG_SRC of a unit: its kind. -/
def State.trgKind (s : State) (u : Nat) : Nat := bitsOf (s.cf Cf.PRM_TRG_SRC (128 + u) 0) 28 4

/-- TRG_SRC of a unit: its operand. -/
def State.trgArg (s : State) (u : Nat) : Nat := bitsOf (s.cf Cf.PRM_TRG_SRC (128 + u) 0) 0 16

/-- The condition of units with an event source (R415): 2 ARC with the generator, 3 MARKER with the code. -/
def State.trgEvent (s : State) (kind arg : Nat) (t : Int) : State :=
  (List.range 16).foldl (fun s u => if s.trgKind u = kind ∧ s.trgArg u = arg then s.unitMet u t else s) s

/-- The detector of R416 for a value `x`: the unit after it, and rise, fall. `l` and `h` are level and hysteresis. -/
def edgeDet (p : UnitSt) (x l h : Fl) : UnitSt × Bool × Bool :=
  let b := p.below || Fl.lt x (Fl.sub fmt32 l h)
  let a := p.above || Fl.lt (Fl.add fmt32 l h) x
  let rise := b && Fl.le l x
  let b1 := if rise then false else b
  let fall := a && Fl.le x l
  ({ p with below := b1, above := if fall then false else a }, rise, fall)

/-- The WINDOW detector: the unit after it, and enter, leave. -/
def winDet (p : UnitSt) (v l h hi : Fl) : UnitSt × Bool × Bool :=
  let inw := Fl.le l v && Fl.le v hi
  if !p.known then ({ p with inside := inw, known := true }, false, false)
  else if p.inside then
    if Fl.lt v (Fl.sub fmt32 l h) || Fl.lt (Fl.add fmt32 hi h) v then ({ p with inside := false }, false, true)
    else (p, false, false)
  else if inw then ({ p with inside := true }, true, false) else (p, false, false)

/-- A unit with a SAMPLE source evaluates a sample of its channel (R416). -/
def State.unitSample (s : State) (u : Nat) (x : PrmIn) : State :=
  let p := s.unit u
  let v := f32 x.val
  if badQ x.q ∨ !v.isFin then s.setUnit u { p with prevValid := false }
  else
    let l := f32 (s.cf Cf.PRM_TRG_LEVEL (128 + u) 0)
    let h := f32 (s.cf Cf.PRM_TRG_HYST (128 + u) 0)
    let cond := s.un Cf.PRM_TRG_COND u
    let r :=
      if cond = 0 then edgeDet p v l h
      else if cond = 1 then
        if p.prevValid then
          let dt := Fl.ofRat fmt32 ((x.t - p.tPrev) * 1000 / 4294967296) 1000000000000
          edgeDet p (Fl.div fmt32 (Fl.sub fmt32 v (f32 p.vPrev)) dt) l h
        else (p, false, false)
      else winDet p v l h (f32 (s.cf Cf.PRM_TRG_HIGH (128 + u) 0))
    let s1 := s.setUnit u { r.1 with prevValid := true, vPrev := x.val, tPrev := x.t }
    let pol := s.un Cf.PRM_TRG_POL u
    if (r.2.1 && pol != 1) || (r.2.2 && pol != 0) then s1.unitMet u x.t else s1

/-- A lost frame of a Facet joins its run; each 1,000 of a run give a GAP entry (R413). -/
def State.linkGap (s : State) (n : Nat) (r : LinkRun) (t1 : Int) : State :=
  let vals := (facetChans n).foldl (fun k ch =>
    match tget none s.prm.hist ch with
    | some h => k + ((t1 - r.t0) / Int.ofNat (Nat.max 1 (ivT h.iv).toNat)).toNat
    | none => k) 0
  let s1 := if s.streams then (s.prmGap 0 r.t0 t1 0 vals n).incF Fld.PRM_GAPCNT_LINK 0 0 1 else s
  s1.log 0x22C3 n (w32 r.n) (w32 vals)

/-- PRISM_SAMPLE (R399, R413, R416): the oldest input from the link ends. -/
def execPrismSample (s : State) : Host.Outcome State Fault Refusal :=
  match s.fct.toPrm with
  | [] => go s
  | x :: rest =>
    let s0 := { s with fct := { s.fct with toPrm := rest } }
    if !s.prmOn then go s0
    else if x.kind = 0 then
      let s1 := match tget none s0.prm.hist x.ch with
        | some h =>
          let r := s0.histPut x.ch h x.raw x.t
          r.1.recFeed x.ch r.2.1 r.2.2 x.raw x.t
        | none => s0
      go ((List.range 16).foldl (fun s u =>
        if s.trgKind u = 1 ∧ s.trgArg u % 128 = x.ch ∧ s.fld Fld.PRM_USTAT_STATE u 0 ≠ 0 then s.unitSample u x else s) s1)
    else
      let run := tget none s0.prm.runs x.ch
      if x.kind = 1 then
        let r : LinkRun := match run with
          | none => ⟨x.t, x.t, 1⟩
          | some r => ⟨if r.n = 0 then x.t else r.t0, x.t, r.n + 1⟩
        if 1000 ≤ r.n then
          let s1 := s0.linkGap x.ch r x.t
          go (s1.setPrm { s1.prm with runs := tset none s1.prm.runs x.ch (some { r with n := 0 }) })
        else go (s0.setPrm { s0.prm with runs := tset none s0.prm.runs x.ch (some r) })
      else
        let s1 := s0.setPrm { s0.prm with runs := tset none s0.prm.runs x.ch none }
        match run with
        | some r => go (if r.n = 0 then s1 else s1.linkGap x.ch r x.t)
        | none => go s1

/-! ### Records in the backlog (R411, R418 to R421) -/

/-- The value of a slot word (R220): AI_V in V, the current modes in mA. -/
def State.slotValue (s : State) (ch : Nat) (w : Word) : Word :=
  let c : Int := if bitOf w 17 then (bitsOf w 0 18 : Int) - 262144 else bitsOf w 0 18
  let den := if s.chMode ch = 1 then 12500
    else if s.chMode ch = 3 ∧ s.cf Cf.FCT_HART_MULTIDROP ch 0 = 1 then 1250 else 5000
  w32f (Fl.ofRat fmt32 c den)

/-- Whether a slot word holds a usable sample: valid, neither OPEN nor HELD. -/
def slotUsable (w : Word) : Bool := bitOf w 31 && bitsOf w 18 2 < 2

/-- The RECDATA entries of the slots from the `i`-th on, five to an entry: type, specific field and words 1 to 7. -/
def State.recData (s : State) (r : RecSt) : Nat → Nat → List Word → List (Nat × Nat × List Word)
  | 0, _, _ => []
  | fuel + 1, i, ws =>
    if ws = [] then []
    else
      let c := ws.take 5
      let mask := (List.range c.length).foldl (fun m j => if slotUsable (c.getD j 0) then m else m + 2 ^ j) 0
      let st := compact (r.t0 + (i : Int) * ivT r.iv)
      (4, c.length * 512 + mask * 16, st.1 :: st.2 :: c.map (fun w => s.slotValue r.ch w)) ::
        s.recData r fuel (i + 5) (ws.drop 5)

/-- The crossings of a record: the unit's EDGE logic over its usable samples, in binary64 seconds from its start, each a
rising (true) or falling one, newest first (R420). -/
def crossings (l h : Fl) : List (Fl × Fl) → UnitSt → Option (Fl × Fl) → List (Bool × Fl) → List (Bool × Fl)
  | [], _, _, acc => acc
  | (t, v) :: xs, p, prev, acc =>
    let r := edgeDet p v l h
    let at' := match prev with
      | some (t0, v0) =>
        if v = v0 then t
        else Fl.add fmt64 t0 (Fl.mul fmt64 (Fl.div fmt64 (Fl.sub fmt64 l v0) (Fl.sub fmt64 v v0)) (Fl.sub fmt64 t t0))
      | none => t
    let acc := if r.2.1 then (true, at') :: acc else acc
    let acc := if r.2.2 then (false, at') :: acc else acc
    crossings l h xs r.1 (some (t, v)) acc

/-- The mean of a list of spans; 0 for none. -/
def meanFl (xs : List Fl) : Fl :=
  if xs = [] then Fl.ofInt 0
  else Fl.div fmt64 (xs.foldl (fun a x => Fl.add fmt64 a x) (Fl.ofInt 0)) (Fl.ofInt xs.length)

/-- The spans between successive instants of an ascending list. -/
def spans : List Fl → List Fl
  | a :: b :: r => Fl.sub fmt64 b a :: spans (b :: r)
  | _ => []

/-- The spans from each rising crossing to the next falling one. -/
def widths : List (Bool × Fl) → List Fl
  | (true, a) :: (false, b) :: r => Fl.sub fmt64 b a :: widths r
  | (true, _) :: r => widths r
  | (false, _) :: r => widths r
  | [] => []

/-- The quiet NaN of an empty measurement. -/
def qNan : Word := 0x7FC00000

/-- MIN, MAX, MEAN and RMS from the sums (R405). -/
def statWords (cnt : Nat) (mn mx sum sq : Fl) : List Word :=
  if cnt = 0 then [qNan, qNan, qNan, qNan]
  else
    let n := Fl.ofInt cnt
    [w32f mn, w32f mx, w32f (Fl.div fmt64 sum n), w32f (Fl.sqrt fmt64 (Fl.div fmt64 sq n))]

/-- The RECMEAS words of a record (R420). -/
def State.recMeas (s : State) (r : RecSt) : List Word :=
  let xs := (List.range r.words.length).filterMap (fun i =>
    let w := r.words.getD i 0
    if slotUsable w then some (Fl.ofRat fmt64 (i * r.iv : Nat) 1000000000000, f32 (s.slotValue r.ch w)) else none)
  let vs := xs.map (fun x => x.2)
  let mn := vs.foldl (fun m v => if Fl.lt v m then v else m) (Fl.inf false)
  let mx := vs.foldl (fun m v => if Fl.lt m v then v else m) (Fl.inf true)
  let sum := vs.foldl (fun a v => Fl.add fmt64 a v) (Fl.ofInt 0)
  let sq := vs.foldl (fun a v => Fl.add fmt64 a (Fl.mul fmt64 v v)) (Fl.ofInt 0)
  let cr := (crossings (f32 (s.cf Cf.PRM_MEAS_LEVEL (128 + r.unit) 0)) (f32 (s.cf Cf.PRM_MEAS_HYST (128 + r.unit) 0)) xs
    unitIdle none []).reverse
  let rises := cr.filterMap (fun c => if c.1 then some c.2 else none)
  statWords vs.length mn mx sum sq ++
    [if vs = [] then qNan else w32f (Fl.sub fmt32 mx mn), w32f (meanFl (spans rises)), w32f (meanFl (widths cr))]

/-- The entries of a trigger record: type, specific field, words 1 to 7. -/
def State.recEntries (s : State) (r : RecSt) : List (Nat × Nat × List Word) :=
  let st := compact r.trigT
  let lost := r.words.any (fun w => !(bitOf w 31))
  let n := r.words.length
  let head := (3, r.unit * 16, [st.1, st.2, r.no,
    w32 (r.coinc * 65536 + (if r.short then 1 else 0) + (if lost then 2 else 0)), w32 (r.ch * 131072 + r.pre), w32 n,
    w32 r.iv])
  let data := s.recData r (n + 1) 0 r.words
  let meas := if s.cf Cf.PRM_MEAS_EN (128 + r.unit) 0 = 1 ∧ 0 < n then [(5, 0, s.recMeas r)] else []
  head :: data ++ meas

/-- The entries of a capture record. -/
def State.capEntries (s : State) (c : CapRec) : List (Nat × Nat × List Word) :=
  let es := c.entries.reverse
  let t0 := match es with
    | e :: _ => e.1
    | [] => 0
  let st := compact t0
  (3, 256, [st.1, st.2, c.no, if c.trunc then 4 else 0, w32 (c.loop * 131072), w32 es.length,
    s.cf Cf.TAN_PERIOD c.loop 0]) ::
    es.map (fun e => (8, c.loop, [(compact e.1).1, (compact e.1).2, e.2.1, e.2.2.1, e.2.2.2.1, e.2.2.2.2]))

/-- The size of the record buffer. -/
def recBufSize : Nat := 268435456

/-- A complete record is kept in the record buffer: newer records overwrite the oldest (R421). -/
def State.recKeep (s : State) (no : Word) (ws : List Word) : State :=
  let len := 4 * ws.length
  let start := if recBufSize < s.prm.rbNext + len then 0 else s.prm.rbNext
  let clear := s.prm.kept.filter (fun k => !(k.2.1 < start + len && start < k.2.1 + k.2.2))
  { s with dram := memPutWords s.dram (0xF0000000 + start) ws,
           prm := { s.prm with kept := (no, start, len) :: clear, rbNext := start + len } }

/-- A record enters the backlog as one block and the record buffer. While Prism produces no entries, the SEQ fields of
the kept copy are a free value. -/
def State.recWrite (s : State) (no : Word) (es : List (Nat × Nat × List Word)) : State :=
  if s.streams then
    let q := s.fld Fld.PRM_SEQ_SEQ 0 0
    let ws := (List.range es.length).flatMap (fun i =>
      let e := es.getD i (0, 0, [])
      entryWords e.1 e.2.1 (q + i) e.2.2)
    let start := s.prm.bkTail
    let s1 := es.foldl (fun s e => s.prmEntry e.1 e.2.1 e.2.2) (s.setPrm { s.prm with bkRecs := s.prm.bkRecs ++ [(start, es.length)] })
    s1.recKeep no ws
  else
    let (f, s1) := s.fresh
    s1.recKeep no ((List.range es.length).flatMap (fun i =>
      let e := es.getD i (0, 0, [])
      entryWords e.1 e.2.1 (f.toNat + i) e.2.2))

/-- A trigger record enters the backlog: its event of R419 and its Vertex source. -/
def State.recEnter (s : State) (r : RecSt) : State :=
  let s1 := s.recWrite r.no (s.recEntries r)
  let s2 := if r.short then s1.log 0x02C5 r.unit r.no (w32 r.pre) else s1
  s2.raise (96 + r.unit) r.unit 0 r.no

/-- Whether the hold-off of a unit has ended (R417). -/
def State.hoDone (s : State) (u : Nat) : Bool :=
  let p := s.unit u
  if s.un Cf.PRM_HO_KIND u = 0 then p.trigT + (s.un Cf.PRM_HO_VALUE u : Int) * 1000 * 4294967296 ≤ s.timeT
  else s.un Cf.PRM_HO_VALUE u ≤ p.supp

/-- Both ends have passed: the unit re-arms or becomes IDLE. -/
def State.unitEnd (s : State) (u : Nat) : State :=
  s.unitTo u (if s.cf Cf.PRM_REARM (128 + u) 0 = 1 then 1 else 0)

/-- The history is reallocated as soon as no unit is in COLLECT, when that is due (R423). -/
def State.prmRealloc (s : State) : State :=
  if s.prm.realloc ∧ s.fld Fld.PRM_STATUS_COLLECT 0 0 = 0 then s.histAlloc 1 else s

/-- RECORD_COMPLETE (R417, R418): a unit's record holds its last sample, and the unit leaves COLLECT; the records of its
microsecond enter the backlog once the last of them is complete. -/
def execRecordComplete (u : Nat) (s : State) : Host.Outcome State Fault Refusal :=
  match s.prm.recs.find? (fun r => r.unit == u && r.trigT == (s.unit u).trigT) with
  | none => go s
  | some r =>
    if s.fld Fld.PRM_USTAT_STATE u 0 = 2 ∧ r.full then
      let s1 := if s.hoDone u then s.unitEnd u else s.unitTo u 3
      let grp := s1.prm.recs.filter (fun x => usecOf x.trigT == usecOf r.trigT)
      let s2 := if grp.all (fun x => x.full) then
          let s2 := s1.setPrm { s1.prm with recs := s1.prm.recs.filter (fun x => usecOf x.trigT != usecOf r.trigT) }
          (List.range 16).foldl (fun s k =>
            match grp.find? (fun x => x.unit == k) with
            | some x => s.recEnter x
            | none => s) s2
        else s1
      go s2.prmRealloc
    else go s

/-- HOLDOFF_END (R417). -/
def execHoldoffEnd (u : Nat) (s : State) : Host.Outcome State Fault Refusal :=
  if s.fld Fld.PRM_USTAT_STATE u 0 = 3 ∧ s.hoDone u then go (s.unitEnd u) else go s

/-- TRIGGER_TIME_REACHED (R415): a TIME unit's T has come; with REARM = AUTO, T advances. -/
def execTriggerTimeReached (u : Nat) (s : State) : Host.Outcome State Fault Refusal :=
  let p := s.unit u
  let st := s.fld Fld.PRM_USTAT_STATE u 0
  if s.prmOn ∧ s.trgKind u = 4 ∧ st ≠ 0 ∧ p.armT ≠ 0 ∧ p.armT ≤ s.timeT then
    let t := p.armT
    let s1 := if s.cf Cf.PRM_REARM (128 + u) 0 = 1 then
        s.setUnit u { p with armT := t + (s.un Cf.PRM_TIME_PERIOD u : Int) * 1000000 * 4294967296 } else s
    if st = 1 then go ((s1.unitFire u t).setCoinc (usecOf t))
    else if s.cf Cf.PRM_REARM (128 + u) 0 = 1 then go (s1.unitSupp u) else go s1
  else go s

/-! ### Markers (R397, R407) -/

/-- A marker: a MARKER entry, and the condition of units with its code. -/
def State.prmMarker (s : State) (soft : Bool) (track code : Nat) (param : Word) (t : Int) : State :=
  if s.prmOn then
    let st := compact t
    (s.prmEntry 6 ((if soft then 2048 else 0) + track) [st.1, st.2, w32 (code % 65536), param]).trgEvent 3 (code % 65536) t
  else s

/-! ### Change-only encoding (R402, R408) -/

/-- An entry of which nothing has been emitted. -/
def chgNone : ChgSt := ⟨false, 0, 0, 0⟩

/-- Word of one change in a CHANGE entry. -/
def changeWord (q dt e : Nat) : Word := w32 (q * 268435456 + dt * 4096 + e)

/-- The open CHANGE entry is written with one change. -/
def State.chgFlush (s : State) : State :=
  match s.prm.opn with
  | none => s
  | some o =>
    let st := compact o.t
    (s.setPrm { s.prm with opn := none }).prmEntry 1 1024 [st.1, st.2, changeWord o.q 0 o.entry, o.val]

/-- A change is emitted (R408). -/
def State.chgEmit (s : State) (e : Nat) (v : Word) (q : Nat) (t : Int) : State :=
  let s0 := s.setPrm { s.prm with chg := tset chgNone s.prm.chg e ⟨true, v, q, s.mer.base⟩ }
  let opened := fun (s : State) => s.setPrm { s.prm with opn := some ⟨e, v, q, t, s.mer.base⟩ }
  match s0.prm.opn with
  | none => opened s0
  | some o =>
    let dt := (t - o.t) / 4294967296
    if 0 ≤ dt ∧ dt ≤ 65535 then
      let st := compact o.t
      (s0.setPrm { s0.prm with opn := none }).prmEntry 1 2048
        [st.1, st.2, changeWord o.q 0 o.entry, o.val, changeWord q dt.toNat e, v]
    else opened s0.chgFlush

/-- CO_CTRL of an entry. -/
def State.coCtrl (s : State) (e : Nat) : Word := s.cf Cf.PRM_CO_CTRL 145 e

/-- MAXINT ms have passed since the entry's last emission. -/
def State.maxintDue (s : State) (e : Nat) : Bool :=
  let m := bitsOf (s.coCtrl e) 0 16
  m != 0 && (tget chgNone s.prm.chg e).base + m * 1000000 ≤ s.mer.base

/-- Whether a value is emitted (R402). -/
def State.chgDue (s : State) (e : Nat) (v : Word) (q : Nat) : Bool :=
  let c := tget chgNone s.prm.chg e
  if !c.has || q != c.qe then true
  else if s.maxintDue e then true
  else if s.coFloat e then
    let x := f32 v
    let y := f32 c.ve
    if x.isFin ∧ y.isFin then
      let a := f32 (s.cf Cf.PRM_DB_ABS 145 e)
      let b := Fl.mul fmt32 (f32 (s.cf Cf.PRM_DB_REL 145 e)) y.abs
      Fl.lt (if Fl.lt a b then b else a) (Fl.sub fmt32 x y).abs
    else v != c.ve
  else v != c.ve

/-- CHANGE_ENTRY_TIMEOUT (R408): 10 us after the entry was opened. -/
def execChangeEntryTimeout (s : State) : Host.Outcome State Fault Refusal :=
  match s.prm.opn with
  | some o => if o.base + 10000 ≤ s.mer.base then go s.chgFlush else go s
  | none => go s

/-- CO_MAXINT_EXPIRY (R402). -/
def execCoMaxintExpiry (e : Nat) (s : State) : Host.Outcome State Fault Refusal :=
  if s.prmOn ∧ bitOf (s.coCtrl e) 31 ∧ (tget chgNone s.prm.chg e).has ∧ s.maxintDue e then
    go (s.chgEmit e (s.co e).val (s.co e).q (s.co e).t)
  else go s

/-! ### Reductions (R404, R405) -/

/-- RED_IVk in ms. -/
def State.redIv (s : State) (k : Nat) : Nat := Nat.max 1 (s.cfN ⟨0xB, 0x101 + k⟩ 144)

/-- An empty interval. -/
def redEmpty (len idx : Nat) (part : Bool) : RedSt :=
  ⟨len, idx, part, 0, .inf false, .inf true, .fin false 0 0, .fin false 0 0, 0⟩

/-- The number of the interval that holds a time. -/
def redIdx (len : Nat) (t : Int) : Nat := (t / 4294967296 / ((len : Int) * 1000000)).toNat

/-- The state with a reduction replaced. -/
def State.setRed (s : State) (e k : Nat) (r : Option RedSt) : State :=
  s.setPrm { s.prm with red := tset none s.prm.red (4 * e + k) r }

/-- Whether an entry is reduced over interval `k`. -/
def State.redOn (s : State) (e k : Nat) : Bool := bitOf (s.coCtrl e) (16 + k)

/-- The end of a reduction's interval, in 2^-32 ns. -/
def RedSt.ends (r : RedSt) : Int := ((r.idx : Int) + 1) * r.len * 1000000 * 4294967296

/-- An interval is complete: its REDUCE entry, and the next interval. -/
def State.redClose (s : State) (e k : Nat) (r : RedSt) : State :=
  let st := compact r.ends
  let w3 := r.qmax * 268435456 + (if r.part then 134217728 else 0) + k * 33554432 + Nat.min 33554431 r.cnt
  let s1 := s.prmEntry 2 e (st.1 :: st.2 :: w32 w3 :: statWords r.cnt r.mn r.mx r.sum r.sq)
  let len := s1.redIv k
  s1.setRed e k (if s1.redOn e k then
      some (if len = r.len then redEmpty len (r.idx + 1) false else redEmpty len (redIdx len r.ends) true) else none)

/-- Intervals that end at or before `t` are completed, at most `fuel`. -/
def State.redTo (e k : Nat) (t : Int) : Nat → State → State
  | 0, s => s
  | n + 1, s =>
    match tget none s.prm.red (4 * e + k) with
    | some r => if r.ends ≤ t then State.redTo e k t n (s.redClose e k r) else s
    | none => s

/-- A value joins a reduction whose interval contains its stamp. -/
def RedSt.add (r : RedSt) (x : Fl) (q : Nat) (ok : Bool) : RedSt :=
  let r1 := { r with qmax := Nat.max r.qmax q }
  if ok then { r1 with cnt := satAdd 1099511627775 r.cnt 1, mn := if Fl.lt x r.mn then x else r.mn,
                       mx := if Fl.lt r.mx x then x else r.mx, sum := Fl.add fmt64 r.sum x,
                       sq := Fl.add fmt64 r.sq (Fl.mul fmt64 x x) }
  else r1

/-- A value of an entry reaches the reduction over interval `k`. -/
def State.redValue (s : State) (e : Nat) (c : CoEntry) (k : Nat) : State :=
  match tget none s.prm.red (4 * e + k) with
  | none => s
  | some r0 =>
    let s1 := State.redTo e k c.t (redIdx r0.len c.t - r0.idx) s
    match tget none s1.prm.red (4 * e + k) with
    | some r =>
      if redIdx r.len c.t = r.idx then
        let x := f32 (s1.coFl e c.val)
        s1.setRed e k (some (r.add x c.q (!(badQ c.q) && x.isFin)))
      else s1
    | none => s1

/-- REDUCTION_COMPLETE (R404): 1 ms after the end of the interval, with no value after it. -/
def execReductionComplete (e k : Nat) (s : State) : Host.Outcome State Fault Refusal :=
  match tget none s.prm.red (4 * e + k) with
  | some r =>
    if s.prmOn ∧ k < 4 ∧ r.ends + 1000000 * 4294967296 ≤ s.timeT then go (s.redClose e k r) else go s
  | none => go s

/-- CO_VALUE (R402, R404): the present value of an entry reaches Prism. -/
def execCoValue (e : Nat) (s : State) : Host.Outcome State Fault Refusal :=
  if s.prmOn ∧ e < 4096 then
    let c := s.co e
    let s1 := [0, 1, 2, 3].foldl (fun s k => s.redValue e c k) s
    go (if bitOf (s1.coCtrl e) 31 ∧ s1.chgDue e c.val c.q then s1.chgEmit e c.val c.q c.t else s1)
  else go s

/-! ### Capture records (R283, R422) -/

/-- The end of an injection: its record closes, with the GAP entry of a truncated one. -/
def State.capEnd (s : State) (c : CapRec) : State :=
  let s1 := s.setPrm { s.prm with caps := s.prm.caps.filter (fun x => !(x.loop == c.loop && x.no == c.no)) }
  if c.trunc then s1.prmGap 4 c.dropFirst c.dropLast c.dropped c.dropped c.loop
  else if c.entries = [] then s1 else s1.recWrite c.no (s1.capEntries c)

/-- CAPTURE_ENTRY (R422): the oldest capture entry, or the end of an injection. -/
def execCaptureEntry (s : State) : Host.Outcome State Fault Refusal :=
  match s.tan.capt with
  | [] => go s
  | x :: rest =>
    let s0 := { s with tan := { s.tan with capt := rest } }
    if !s0.prmOn then go s0
    else
      let c : CapRec := (s0.prm.caps.find? (fun c => c.loop == x.loop && c.no == x.recNo)).getD ⟨x.loop, x.recNo, [], false, 0, 0, 0⟩
      let put := fun (s : State) (c : CapRec) =>
        s.setPrm { s.prm with caps := s.prm.caps.filter (fun y => !(y.loop == c.loop && y.no == c.no)) ++ [c] }
      if x.last then go (s0.capEnd c)
      else if c.trunc then
        go (put s0 { c with dropped := c.dropped + 1, dropFirst := if c.dropped = 0 then x.t else c.dropFirst, dropLast := x.t })
      else
        let c1 : CapRec := { c with entries := (x.t, x.inj, x.spw, x.pv, x.drive) :: c.entries }
        if c1.entries.length < 1048576 then go (put s0 c1)
        else
          let c2 : CapRec := { c1 with trunc := true }
          let s1 := s0.recWrite c2.no (s0.capEntries c2)
          go ((put s1 { c2 with entries := [] }).log 0x22C6 c.loop c.no)

/-! ### The PRM opcodes (R426) -/

/-- The checks of the unit opcodes. -/
def State.unitItem (s : State) (it : Item) (k : State → State) : State :=
  if 15 < it.inst then s.complete it stRange 0xB 0 (w32 it.inst) else k s

/-- PRM_ARM. -/
def execPrmArm (it : Item) (s : State) : Host.Outcome State Fault Refusal :=
  serve it s (fun s => s.unitItem it (fun s =>
    let u := it.inst
    let t := s.fullTime (it.w 4) (it.w 3)
    if s.trgKind u = 4 ∧ 1000000000 ≤ (it.w 3).toNat then s.complete it stFormat 12
    else if s.fld Fld.PRM_USTAT_STATE u 0 ≠ 0 then s.complete it stState 1
    else if s.trgKind u = 0 ∨ (s.trgKind u = 4 ∧ t < s.timeT + 10000 * 4294967296) then s.complete it stState 4
    else
      let s1 := s.setUnit u { s.unit u with armT := t }
      (s1.unitTo u 1).complete it stDone))

/-- PRM_DISARM. -/
def execPrmDisarm (it : Item) (s : State) : Host.Outcome State Fault Refusal :=
  serve it s (fun s => s.unitItem it (fun s =>
    if s.fld Fld.PRM_USTAT_STATE it.inst 0 = 2 then s.complete it stState 1
    else (s.unitTo it.inst 0).complete it stDone))

/-- PRM_TRIGGER: fires an ARMED unit whatever its source. -/
def execPrmTrigger (it : Item) (s : State) : Host.Outcome State Fault Refusal :=
  serve it s (fun s => s.unitItem it (fun s =>
    if s.fld Fld.PRM_USTAT_STATE it.inst 0 ≠ 1 then s.complete it stState 2
    else
      let t := s.timeT
      ((s.unitFire it.inst t).setCoinc (usecOf t)).complete it stDone (s.rd Reg.PRM_NEXTREC 0 0)))

/-- PRM_MARK. -/
def execPrmMark (it : Item) (s : State) : Host.Outcome State Fault Refusal :=
  serve it s (fun s => (s.prmMarker true 0 (bitsOf (it.w 3) 0 16) (it.w 4) s.timeT).complete it stDone)

/-- PRM_READ (R421): whole entries of a kept record, as many as the buffer takes. -/
def execPrmRead (it : Item) (s : State) : Host.Outcome State Fault Refusal :=
  serve it s (fun s =>
    match s.prm.kept.find? (fun k => k.1 == it.w 3) with
    | none => s.complete it stState 3
    | some k =>
      let all := k.2.2 / 32
      let n := Nat.min all ((it.w 6).toNat / 32)
      (s.bufPutBytes it (bufAddr it 4) (memTake s.dram (0xF0000000 + k.2.1) (32 * n))).complete it stDone
        (w32 (32 * n)) (w32 (all - n)))

/-- Blocks of history from slot `k` on, `n` slots, into `room` bytes: the words, and the slots they hold (R401). -/
def State.histBlocks (s : State) (ch : Nat) (h : HistCh) : Nat → Nat → Nat → Nat → List Word × Nat
  | 0, _, _, _ => ([], 0)
  | fuel + 1, k, n, room =>
    if n = 0 ∨ room < 36 then ([], 0)
    else
      let b := k / 1024
      let c := Nat.min (Nat.min n (1024 * (b + 1) - k)) ((room - 32) / 4)
      let st := compact (tget 0 h.hdr b + ((k - 1024 * b : Nat) : Int) * ivT h.iv)
      let den := if s.chMode ch = 1 then 12500
        else if s.chMode ch = 3 ∧ s.cf Cf.FCT_HART_MULTIDROP ch 0 = 1 then 1250 else 5000
      let head := [w32 (ch + s.chMode ch * 256), w32 c, st.1, st.2, w32 h.iv, w32f (Fl.ofRat fmt32 1 den), 0, 0]
      let r := s.histBlocks ch h fuel (k + c) (n - c) (room - 32 - 4 * c)
      (head ++ s.slotWords h k c ++ r.1, c + r.2)

/-- PRM_HIST_READ (R401): from the first slot at or after the start. -/
def execPrmHistRead (it : Item) (s : State) : Host.Outcome State Fault Refusal :=
  serve it s (fun s =>
    let n := (it.w 5).toNat
    if 127 < it.inst then s.complete it stRange 0xB 0 (w32 it.inst)
    else if 1000000000 ≤ (it.w 3).toNat then s.complete it stFormat 12
    else if n = 0 ∨ 1048576 < n then s.complete it stFormat 20
    else match tget none s.prm.hist it.inst with
      | none => s.complete it stState 5
      | some h =>
        let t := s.fullTime (it.w 4) (it.w 3)
        let back := ((h.tLast - t) / Int.ofNat (Nat.max 1 (ivT h.iv).toNat))
        let j : Int := if h.tLast < t then h.n else (h.n : Int) - 1 - back
        let k := Nat.max h.oldest j.toNat
        let r := s.histBlocks it.inst h (n + 1) k (Nat.min n (h.n - k)) (it.w 8).toNat
        (s.bufPut it (bufAddr it 6) r.1).complete it stDone (w32 (4 * r.1.length)) (w32 r.2)
          (if j < (h.oldest : Int) then 1 else 0))

/-! ### Commits, stops and starts (R400, R413, R423, R424) -/

/-- Reductions that a commit or a start begins: PARTIAL intervals (R405). -/
def State.redBegin (s : State) (anew : Bool) : State :=
  let es := s.cfg.active.filterMap (fun kv =>
    if keyBlock kv.1 = 0xB ∧ keyInst kv.1 = 145 ∧ keyFld kv.1 = 0x200 ∧ bitsOf kv.2 16 4 ≠ 0 then some (keyElem kv.1) else none)
  es.foldl (fun s e =>
    [0, 1, 2, 3].foldl (fun s k =>
      if s.redOn e k ∧ (anew ∨ (tget none s.prm.red (4 * e + k)).isNone) then
        s.setRed e k (some (redEmpty (s.redIv k) (redIdx (s.redIv k) s.timeT) true))
      else s) s) s

/-- Units IDLE, or ARMED where ARM_INIT = 1 (R417). A TIME unit armed so has no T until PRM_ARM gives one (R415). -/
def State.armInit (s : State) (us : List Nat) : State :=
  us.foldl (fun s u =>
    if s.cf Cf.PRM_ARM_INIT (128 + u) 0 = 1 ∧ s.trgKind u ≠ 0 ∧ s.fld Fld.PRM_USTAT_STATE u 0 = 0 then
      (s.setUnit u { s.unit u with armT := 0 }).unitTo u 1 else s) s

/-- Whether Prism can take a set of changed keys now: no unit they name is in COLLECT, and none at all when they change
the history (R423). -/
def State.prmReady (s : State) (keys : List Nat) : Bool :=
  let mine := keys.filter (fun k => keyBlock k == 0xB)
  let st := fun u => s.fld Fld.PRM_USTAT_STATE u 0
  mine.all (fun k =>
    if keyInst k < 128 then s.fld Fld.PRM_STATUS_COLLECT 0 0 == 0
    else if keyInst k < 144 then st (keyInst k - 128) != 2 else true)

/-- Prism starts again after a warm restart (cause 2) or the return of its power (cause 3): the GAP entry, and the units
(R413, R424). -/
def State.prmStart (s : State) (cause : Nat) : State :=
  let t := s.timeT
  let vals := s.prm.hist.foldl (fun n kv =>
    match kv.2 with
    | some h => n + ((t - s.prm.offAt) / Int.ofNat (Nat.max 1 (ivT h.iv).toNat)).toNat
    | none => n) 0
  let lost := s.prm.lostRecs
  let s0 := s.prmGap cause s.prm.offAt t 0 vals lost
  let s1 := s0.setPrm { s0.prm with lostRecs := 0 }
  let s2 := if 0 < lost then s1.log 0x22C4 0 (w32 lost) else s1
  (s2.armInit (List.range 16)).redBegin true

/-- Prism has taken the values of changed keys; the first time since PD_ACQ is on again the GAP entry is due (R413):
ARMED units they name re-arm, IDLE ones arm by ARM_INIT, reductions
begin, and the history is reallocated when HIST_EN of a channel recorded before or after the commit has changed (`hist`,
R400). -/
def State.takenPrm (s : State) (keys : List Nat) (hist : Bool) : State :=
  let mine := keys.filter (fun k => keyBlock k == 0xB)
  let s := if s.prm.gapOn then ({ s with prm := { s.prm with gapOn := false } }).prmStart 3 else s
  let us := (List.range 16).filter (fun u => mine.any (fun k => keyInst k == 128 + u))
  let s1 := us.foldl (fun s u => if s.fld Fld.PRM_USTAT_STATE u 0 = 1 then s.unitTo u 1 else s) s
  let s2 := (s1.armInit us).redBegin false
  let off := mine.filterMap (fun k => if keyInst k = 145 ∧ keyFld k = 0x200 then some (keyElem k) else none)
  let s3 := off.foldl (fun s e =>
    if bitOf (s.coCtrl e) 31 then s else s.setPrm { s.prm with chg := tset chgNone s.prm.chg e chgNone }) s2
  if hist then s3.histAlloc 1 else s3

/-- FCT fields of R400 have changed for some channel: the history starts again when no unit is in COLLECT. -/
def State.histFct (s : State) : State := (s.setPrm { s.prm with realloc := true }).prmRealloc

/-- Prism stops: records in COLLECT are lost, and capture records that stand open with them (R424). -/
def State.prmStop (s : State) : State :=
  let s1 := s.setPrm { s.prm with lostRecs := s.prm.lostRecs + s.prm.recs.length + s.prm.caps.length, recs := [], fires := [], opn := none,
                                  chg := [], red := [], units := [], caps := [], offAt := s.timeT }
  (List.range 16).foldl (fun s u => s.unitTo u 0) s1

/-- Prism at a cold start: everything empty, event 0x02C0 with cause 0. -/
def State.prmCold (s : State) : State :=
  let p : PrmSt := ⟨[], false, [], none, [], 0, 0, [], [], none, [], [], [], [], [], 0, [], 0, 0, false⟩
  let s1 := ((s.setPrm p).wr Reg.PRM_SEQ 0 0 0).wr Reg.PRM_NEXTREC 0 0 0
  ((s1.histAlloc 0).armInit (List.range 16)).redBegin true

end Sys2Proof.Machine
end

