-- ==== Sys2Proof/Machine/Arc.lean ====
section
/-! DEFINITION. Arc: the period of a generator, its shadows, omission, carry and refresh, starting and stopping, trips and
events (spec/12_arc_pwm.md). Positions are in steps, sixteen to a tick. -/

namespace Sys2Proof.Machine

/-! ### The parts of the state -/

/-- A generator that has not started. -/
def genIdle : GenSt :=
  { ctl := [], shPer := none, shCmp := none, perItem := none, cmpItem := none, pcount := 0, locReq := false,
    split := false, full := false, prevOn := false, held := 65520, eOn := 0, eOff := 0, eFull := 0, phased := false, pre0 := 0, pre1 := 0, pre2 := 0, pre3 := 0,
    armT := 0, startItem := none, stopItem := none, stopAt := 0, resume := false }

/-- Generator `g`. -/
def State.gen (s : State) (g : Nat) : GenSt := tget genIdle s.arc.gens g

/-- The state with generator `g` replaced. -/
def State.setGen (s : State) (g : Nat) (x : GenSt) : State :=
  { s with arc := { s.arc with gens := tset genIdle s.arc.gens g x } }

/-- A field of a generator as it is in force (R381). -/
def State.gf (s : State) (g : Nat) (c : Cf) : Nat :=
  match (s.gen g).ctl with
  | [] => s.cfN c g
  | l => (l.getD c.fld 0).toNat

/-- The fields of a generator, by field ID, as committed. -/
def State.genCtl (s : State) (g : Nat) : List Word := (List.range 21).map (fun f => s.cf ⟨0xA, f⟩ g 0)

/-- STATE of a generator: 0 IDLE, 1 ARMED, 2 RUN. -/
def State.genState (s : State) (g : Nat) : Nat := s.fld Fld.ARC_GSTAT_STATE g 0

/-- A generator takes a state, and ARC_STATUS shows it. -/
def State.setGenState (s : State) (g st : Nat) : State :=
  let s1 := s.setF Fld.ARC_GSTAT_STATE g 0 st
  s1.wr Reg.ARC_STATUS 0 0 (putBits (s1.rd Reg.ARC_STATUS 0 0) g 1 (if st = 2 then 1 else 0))

/-- Whether a generator has a master. -/
def State.isSlave (s : State) (g : Nat) : Bool := s.gf g Cf.ARC_MASTER < 32

/-- The slaves of a generator. -/
def State.slaves (s : State) (g : Nat) : List Nat :=
  (List.range 32).filter (fun k => s.gf k Cf.ARC_MASTER == g && s.gf k Cf.ARC_EN == 1)

/-- Whether Arc runs: with CK_ARC (R26), not on the standby (R541), and not held (R558). -/
def State.arcOn (s : State) : Bool :=
  s.domOn 7 && s.clkOn 3 && s.sys.mode == .running && !s.standby && !s.mir.hold

/-! ### Enables and trips (R389 to R391) -/

/-- The generators that a trip source affects. -/
def State.tripMask (s : State) (src : Nat) : Nat :=
  if 8 ≤ src then 0xFFFFFFFF
  else (List.range 32).foldl (fun m g => if s.gf g Cf.ARC_FAULT_MASK / 2 ^ src % 2 = 1 then m + 2 ^ g else m) 0

/-- Whether a set latch affects a generator. -/
def State.tripped (s : State) (g : Nat) : Bool :=
  let l := s.fld Fld.ARC_TRIP_LATCH 0 0
  (List.range 10).any (fun n => l / 2 ^ n % 2 == 1 && s.tripMask n / 2 ^ g % 2 == 1)

/-- ARC_GSTAT.TRIPPED of every generator; a trip makes its pair inactive at once. -/
def State.showTrips (s : State) : State :=
  (List.range 32).foldl (fun s g =>
    if s.tripped g then (s.setF Fld.ARC_GSTAT_TRIPPED g 0 1).setF Fld.ARC_GSTAT_ACTIVE g 0 0
    else s.setF Fld.ARC_GSTAT_TRIPPED g 0 0) s

/-- A trip source becomes active beyond its filter, or releases (R390, R391). The latch stays. -/
def State.arcTrip (s : State) (src : Nat) (active : Bool) : State :=
  let inp := s.fld Fld.ARC_TRIP_INPUT 0 0
  let was := inp / 2 ^ src % 2 == 1
  let s1 := s.setF Fld.ARC_TRIP_INPUT 0 0 (putBitsNat inp src 1 (if active then 1 else 0))
  if active && !was then
    let l := s1.fld Fld.ARC_TRIP_LATCH 0 0
    let s2 := (s1.setF Fld.ARC_TRIP_LATCH 0 0 (putBitsNat l src 1 1)).showTrips
    s2.log 0x4282 src (w32 (s2.tripMask src))
  else s1

/-- ARC_TRIP (R390, R391). -/
def execArcTrip (src : Nat) (active : Bool) (s : State) : Host.Outcome State Fault Refusal :=
  if 9 < src then go s else go (s.arcTrip src active)

/-- ARC_CLEAR (R391): the latches whose sources are inactive. -/
def execArcClear (it : Item) (s : State) : Host.Outcome State Fault Refusal :=
  serve it s (fun s =>
    let l := s.fld Fld.ARC_TRIP_LATCH 0 0
    let stay := l &&& s.fld Fld.ARC_TRIP_INPUT 0 0
    let s1 := (s.setF Fld.ARC_TRIP_LATCH 0 0 stay).showTrips
    let s2 := (List.range 10).foldl (fun s n =>
      if l / 2 ^ n % 2 = 1 ∧ stay / 2 ^ n % 2 = 0 then s.log 0x0283 n else s) s1
    s2.complete it stDone (w32 (l - stay)) (w32 stay))

/-- The Locus enable input of a generator (R296): a running one takes it at its next boundary. -/
def State.arcLocEn (s : State) (g : Nat) (on : Bool) : State :=
  let s1 := s.setGen g { s.gen g with locReq := on }
  if s1.genState g = 2 then s1 else s1.setF Fld.ARC_GSTAT_LOC_EN g 0 (if on then 1 else 0)

/-- Every pair is inactive: the module is the standby of a pair (R23). -/
def State.arcQuiet (s : State) : State := (List.range 32).foldl (fun s g => s.setF Fld.ARC_GSTAT_ACTIVE g 0 0) s

/-- Whether a pair may follow its generator at a boundary (R389, R23). -/
def State.pairOk (s : State) (g : Nat) : Bool :=
  !(s.tripped g) && s.arcGate g && !s.standby && s.fld Fld.ARC_TRIP_INPUT 0 0 / 512 % 2 == 0 &&
    (s.gf g Cf.ARC_LOC_USE == 0 || s.bit Fld.ARC_GSTAT_LOC_EN g 0)

/-- The enables take effect at a boundary. -/
def State.arcEnables (s : State) (g : Nat) : State :=
  let s1 := s.setF Fld.ARC_GSTAT_LOC_EN g 0 (if (s.gen g).locReq then 1 else 0)
  let s2 := s1.setF Fld.ARC_GSTAT_LAT_EN g 0 (if s1.arcGate g then 1 else 0)
  s2.setF Fld.ARC_GSTAT_ACTIVE g 0 (if s2.pairOk g then 1 else 0)

/-! ### Events (R392) -/

/-- A passed event reaches Vertex and Prism: `k` 0 ZERO, 1 PERIOD, 2 CMPA, 3 CMPB. -/
def State.arcPass (s : State) (g k : Nat) : State :=
  let s1 := if s.gf g Cf.ARC_IRQ_EN / 2 ^ k % 2 = 1 then s.raise (64 + g) g k (w32 (s.gen g).pcount) else s
  if s1.gf g Cf.ARC_TRIG_SEL = k + 1 ∧ s1.prmOn then s1.trgEvent 2 g s1.timeT else s1

/-- An event goes through its prescaler. -/
def State.arcEvent (s : State) (g k : Nat) : State :=
  let x := s.gen g
  let n := bitsOf (w32 (s.gf g Cf.ARC_IRQDIV)) (8 * k) 8
  let c := if k = 0 then x.pre0 else if k = 1 then x.pre1 else if k = 2 then x.pre2 else x.pre3
  let put := fun (v : Nat) =>
    s.setGen g (if k = 0 then { x with pre0 := v } else if k = 1 then { x with pre1 := v }
      else if k = 2 then { x with pre2 := v } else { x with pre3 := v })
  if n ≤ c then (put 0).arcPass g k else put (c + 1)

/-! ### Shadows (R378, R379) -/

/-- The state of the shadows in ARC_GSTAT. -/
def State.showShadows (s : State) (g : Nat) : State :=
  (s.setF Fld.ARC_GSTAT_SH_PER g 0 (if (s.gen g).shPer.isSome then 1 else 0)).setF Fld.ARC_GSTAT_SH_CMP g 0
    (if (s.gen g).shCmp.isSome then 1 else 0)

/-- The item of an ARC_SET completes, with the clamps its note holds, when no shadow of it is pending. -/
def State.setDone (s : State) (g : Nat) (k : Nat × Word) : State :=
  if (s.gen g).perItem = some k ∨ (s.gen g).cmpItem = some k then s
  else match s.flight k.1 k.2 with
    | some x =>
      let n := x.note
      let cs := (List.range (n.length / 3)).map (fun i =>
        (⟨false, 1, 0xA, (n.getD (3 * i) 0).toNat, 0, g, n.getD (3 * i + 1) 0, n.getD (3 * i + 2) 0, 0⟩ : Clamp))
      s.completeClamped x.item cs
    | none => s

/-- The shadows transfer at a boundary; the answer says whether one did. -/
def State.arcTransfer (s : State) (g : Nat) : State × Bool :=
  let x := s.gen g
  let ok := s.gf g Cf.ARC_PAIRED = 0 || (x.shPer.isSome && x.shCmp.isSome)
  if !ok ∨ (x.shPer.isNone ∧ x.shCmp.isNone) then (s, false)
  else
    let s1 := match x.shPer with
      | some p => s.wr Reg.ARC_PER g 0 (w32 p)
      | none => s
    let s2 := match x.shCmp with
      | some c => (s1.wr Reg.ARC_CMPA g 0 (w32 c.1)).wr Reg.ARC_CMPB g 0 (w32 c.2)
      | none => s1
    let s3 := (s2.setGen g { x with shPer := none, shCmp := none, perItem := none, cmpItem := none }).showShadows g
    let s4 := match x.perItem with
      | some k => s3.setDone g k
      | none => s3
    let s5 := match x.cmpItem with
      | some k => if x.perItem = some k then s4 else s4.setDone g k
      | none => s4
    (s5, true)

/-! ### A period (R375, R376, R380, R383, R384, R386) -/

/-- The compares that a duty gives for a period (R376). -/
def dutyCmp (d : Word) (per : Nat) (centre : Bool) : Nat × Nat :=
  let full := per * 16
  let w := Nat.min full (Fl.scaleInt (f32 d) full 0).toNat
  let a := if centre then (full - w) / 2 else 0
  (a, a + w)

/-- What a period emits: the reference from `on` to `off`, whether R380 held, how many pulses were omitted, and the carry
after it. -/
structure PeriodOut where
  on : Nat
  off : Nat
  split : Bool
  skip : Bool
  carry : Int
  deriving DecidableEq, Repr

/-- The emitted reference of a period of `full` steps. `hold`: the steps of a refresh, 0 none. -/
def periodOut (full a b dtr dtf minp : Nat) (comp useCarry : Bool) (carry : Int) (hold : Nat) : PeriodOut :=
  let split := full < b || full ≤ a
  let a1 := Nat.min a full
  let b1 := if full ≤ a then a1 else Nat.min b full
  let b2 := if useCarry then (max (a1 : Int) (min (full : Int) ((b1 : Int) + carry))).toNat else b1
  let w := b2 - a1
  let v := full - w
  let omitH := 0 < w && w < (dtr + minp) * 16
  let omitL := !omitH && 0 < v && v < (dtf + minp) * 16 && comp
  let c : Int := if !useCarry then 0 else if omitH then w else if omitL then -(v : Int) else 0
  let on0 := if omitL then 0 else a1
  let off := if omitH then on0 else if omitL then full else b2
  let on := if hold = 0 then on0 else Nat.max on0 (Nat.min hold full)
  { on := on, off := off, split := split, skip := omitH || omitL, carry := c }

/-- How long the reference has stood at its level when the present period ends, and whether it is on then. -/
def GenSt.atEnd (x : GenSt) : Bool × Nat :=
  let pulse := x.eOn < x.eOff
  if pulse && x.eOff == x.eFull then (true, x.eFull - x.eOn + (if x.eOn = 0 ∧ x.prevOn then x.held else 0))
  else if pulse then (false, x.eFull - x.eOff)
  else (false, x.eFull + (if x.prevOn then 0 else x.held))

/-- Whether the reference is on at position `p` of the present period, and for how many steps it has stood so. -/
def GenSt.level (x : GenSt) (p : Nat) : Bool × Nat :=
  let pulse := x.eOn < x.eOff
  if pulse && x.eOn ≤ p && p < x.eOff then (true, p - x.eOn + (if x.eOn = 0 ∧ x.prevOn then x.held else 0))
  else if pulse && x.eOff ≤ p then (false, p - x.eOff)
  else (false, p + (if x.prevOn then 0 else x.held))

/-- The steps of the present period for which the low-side gate signal is on: from DTF after the reference turned off
until it turns on (R382). -/
def GenSt.lowSteps (x : GenSt) (dtf : Nat) : Nat :=
  let first := dtf - (if x.prevOn then 0 else x.held)
  if x.eOn < x.eOff then (x.eOn - first) + (x.eFull - x.eOff - dtf) else x.eFull - first

/-- GgH at position `p` of the present period (R382): while the pair is active, DTR after the reference has turned on. -/
def State.gateHigh (s : State) (g p : Nat) : Bool :=
  let l := (s.gen g).level p
  s.bit Fld.ARC_GSTAT_ACTIVE g 0 && l.1 && decide (s.gf g Cf.ARC_DTR * 16 ≤ l.2)

/-- GgL at position `p` of the present period (R382): with COMP = 1, DTF after the reference has turned off. -/
def State.gateLow (s : State) (g p : Nat) : Bool :=
  let l := (s.gen g).level p
  s.bit Fld.ARC_GSTAT_ACTIVE g 0 && s.gf g Cf.ARC_COMP == 1 && !l.1 && decide (s.gf g Cf.ARC_DTF * 16 ≤ l.2)

/-- The period of a generator: its master's for a slave (R377). -/
def State.genPeriod (s : State) (g : Nat) : Nat :=
  if s.isSlave g then (s.rd Reg.ARC_PER (s.gf g Cf.ARC_MASTER) 0).toNat else (s.rd Reg.ARC_PER g 0).toNat

/-- A new period starts with the values in force. -/
def State.startPeriod (s : State) (g : Nat) : State :=
  let x := s.gen g
  let per := s.genPeriod g
  let s1 := if s.gf g Cf.ARC_DUTY_SRC = 1 then
      let c := dutyCmp (tget 0 s.arc.duty g) per (s.gf g Cf.ARC_ALIGN == 1)
      (s.wr Reg.ARC_CMPA g 0 (w32 c.1)).wr Reg.ARC_CMPB g 0 (w32 c.2)
    else s
  let s1 := if s1.isSlave g then s1.wr Reg.ARC_PER g 0 (w32 per) else s1
  let run := if x.full then s1.fld Fld.ARC_GSTAT_FULLRUN g 0 + 1 else 0
  let boot := w32 (s1.gf g Cf.ARC_BOOT)
  let refresh := 0 < bitsOf boot 0 8 && bitsOf boot 0 8 ≤ run
  let dtf := s1.gf g Cf.ARC_DTF
  let hold := if refresh then dtf * 16 + Nat.max 1 (bitsOf boot 16 8) * 256 else 0
  let o := periodOut (per * 16) (s1.rd Reg.ARC_CMPA g 0).toNat (s1.rd Reg.ARC_CMPB g 0).toNat (s1.gf g Cf.ARC_DTR) dtf
    (s1.gf g Cf.ARC_MINP) (s1.gf g Cf.ARC_COMP == 1) (s1.gf g Cf.ARC_CARRY == 1) (sInt (s1.rd Reg.ARC_CARRY g 0)) hold
  let s2 := (s1.setF Fld.ARC_GSTAT_FULLRUN g 0 (if refresh then 0 else Nat.min run 255)).wr Reg.ARC_CARRY g 0 (wInt o.carry)
  let y := { s2.gen g with eOn := o.on, eOff := o.off, eFull := per * 16, split := o.split, prevOn := x.atEnd.1,
                           held := x.atEnd.2 }
  let full := s1.gf g Cf.ARC_COMP == 1 && y.lowSteps (dtf * 16) == 0
  let s3 := (s2.setGen g { y with full := full }).wr Reg.ARC_PCOUNT g 0 (w32 x.pcount)
  let s4 := if o.split then
      let s4 := s3.incF Fld.ARC_CNT_PAIR_SPLIT g 0 1
      if x.split then s4 else s4.log 0x2285 g (w32 (s4.fld Fld.ARC_CNT_PAIR_SPLIT g 0))
    else s3
  if o.skip then (s4.incF Fld.ARC_CNT_SKIP g 0 1).logLim 1000000000 0x2284 g (fun n => (w32 n, 0)) else s4

/-- A generator stops: IDLE, the pair inactive, event 0x0281 with the cause. -/
def State.genStop (s : State) (g cause : Nat) : State :=
  let s1 := (s.setGenState g 0).setF Fld.ARC_GSTAT_ACTIVE g 0 0
  let x := s1.gen g
  (s1.setGen g { x with ctl := [], stopAt := 0, full := false, eOn := 0, eOff := 0, phased := false }).log 0x0281 g (w32 cause)

/-- A generator and its slaves stop. -/
def State.genStopAll (s : State) (g cause : Nat) : State :=
  (s.slaves g).foldl (fun s k => if s.genState k = 2 then s.genStop k 2 else s) (s.genStop g cause)

/-- Period 0 of one generator starts (R387, R388). -/
def State.genStart1 (s : State) (g mode : Nat) : State :=
  let x := s.gen g
  let s1 := (s.setGen g { x with ctl := s.genCtl g, pcount := 0, pre0 := 0, pre1 := 0, pre2 := 0, pre3 := 0,
                                 stopAt := 0, full := false, prevOn := false, held := 65520, eOn := 0, eOff := 0,
                                 eFull := 0, phased := false }).setGenState g 2
  let r := s1.arcTransfer g
  let s2 := (r.1.startPeriod g).arcEnables g
  let s3 := s2.log 0x0280 g (w32 mode) (w32 (s2.genPeriod g))
  let s4 := s3.arcEvent g 0
  if r.2 then s4.arcEvent g 1 else s4

/-- A slave starts with its master: at once, or in RUN with its own period 0 to start PHASE ticks later, modulo the
master's period (R377). -/
def State.slaveStart (s : State) (g mode : Nat) : State :=
  if s.cfN Cf.ARC_PHASE g % Nat.max 1 (s.genPeriod g) = 0 then s.genStart1 g mode
  else (s.setGen g { s.gen g with phased := true }).setGenState g 2

/-- A generator and its slaves start. -/
def State.genStart (s : State) (g mode : Nat) : State :=
  (s.slaves g).foldl (fun s k => s.slaveStart k mode) (s.genStart1 g mode)

/-- The item behind a request of a generator completes DONE, unless it has been aborted. -/
def State.reqComplete (s : State) (k : Option (Nat × Word)) : State :=
  match k with
  | some r =>
    match s.flight r.1 r.2 with
    | some x => s.complete x.item stDone
    | none => s
  | none => s

/-- ARC_PERIOD_BOUNDARY (R379 to R388): the boundary of a running generator, by its own period or its master's. -/
def execArcPeriodBoundary (g : Nat) (s : State) : Host.Outcome State Fault Refusal :=
  if g < 32 ∧ s.arcOn ∧ s.genState g = 2 ∧ (s.gen g).phased then go (s.genStart1 g 0)
  else if g < 32 ∧ s.arcOn ∧ s.genState g = 2 then
    let x := s.gen g
    let stopCmd := x.stopAt = 1 ∧ (s.reqItem x.stopItem).isSome
    if stopCmd ∨ x.stopAt = 2 then
      let s1 := (s.genStopAll g (if x.stopAt = 2 then 1 else 0)).reqComplete x.stopItem
      go ((s1.setGen g { s1.gen g with stopItem := none }).blockStep 0xA g)
    else
      let s0 := (s.setGen g { x with ctl := s.genCtl g, stopAt := 0, stopItem := none,
                                     pcount := (x.pcount + 1) % 281474976710656 })
      let r := s0.arcTransfer g
      let s1 := ((r.1.blockStep 0xA g).startPeriod g).arcEnables g
      let s2 := s1.arcEvent g 0
      go (if r.2 then s2.arcEvent g 1 else s2)
  else go s

/-- Whether the emitted reference of the present period has an edge: turning on (CMPA) or off (CMPB) (R385). -/
def GenSt.hasEdge (x : GenSt) (full : Nat) (off : Bool) : Bool :=
  let pulse := x.eOn < x.eOff
  if off then (pulse && x.eOff < full) || (x.prevOn && !(pulse && x.eOn == 0))
  else pulse && !(x.eOn == 0 && x.prevOn)

/-- ARC_EDGE_EVENT (R392, R385): CMPA when the emitted reference turns on, CMPB when it turns off. -/
def execArcEdgeEvent (g : Nat) (off : Bool) (s : State) : Host.Outcome State Fault Refusal :=
  if g < 32 ∧ s.arcOn ∧ s.genState g = 2 ∧ (s.gen g).hasEdge (s.genPeriod g * 16) off then
    go (s.arcEvent g (if off then 3 else 2))
  else go s

/-! ### The ARC opcodes (R395) -/

/-- The check of a generator's number. While CK_ARC is lost an item waits (R26). -/
def State.arcItem (s : State) (it : Item) (k : State → State) : State :=
  if !(s.clkOn 3) then s else if 31 < it.inst then s.complete it stRange 0xA 0 (w32 it.inst) else k s

/-- A value held to a range, with the note of its clamp: field, requested, applied. -/
def arcClamp (fld lo hi : Nat) (v : Word) : Nat × List Word :=
  let c := if v.toNat < lo then lo else if hi < v.toNat then hi else v.toNat
  (c, if c = v.toNat then [] else [w32 fld, v, w32 c])

/-- ARC_SET as decided (R378). -/
def State.arcSet (s : State) (it : Item) : State :=
  let g := it.inst
  let x := s.gen g
  let per := bitOf (it.w 3) 0
  let cmp := bitOf (it.w 3) 1
  if 3 < (it.w 3).toNat then s.complete it stFormat 12
  else if s.gf g Cf.ARC_DUTY_SRC = 1 then s.complete it stState 1
  else if per ∧ s.isSlave g then s.complete it stState 2
  else if s.gf g Cf.ARC_EN = 0 then s.complete it stState 4
  else if (per ∧ x.shPer.isSome) ∨ (cmp ∧ x.shCmp.isSome) then s
  else if !per ∧ !cmp then s.complete it stDone
  else
    let p := arcClamp 6 40 16777215 (it.w 4)
    let newest := if per then p.1 else x.shPer.getD (s.genPeriod g)
    let a := arcClamp 7 0 (newest * 16 - 1) (it.w 5)
    let b := arcClamp 8 a.1 (newest * 16) (it.w 6)
    let note := (if per then p.2 else []) ++ (if cmp then a.2 ++ b.2 else [])
    let k := (it.ring, it.seq)
    let y := if per then { x with shPer := some p.1, perItem := some k } else x
    let z := if cmp then { y with shCmp := some (a.1, b.1), cmpItem := some k } else y
    ((s.setGen g z).showShadows g).holdItem 0x0A00 it note

/-- The host has aborted an ARC_SET whose shadows have not transferred: they go with it (R125). -/
def State.arcUnset (s : State) (g : Nat) (k : Nat × Word) : State :=
  let x := s.gen g
  let y := if x.perItem = some k then { x with shPer := none, perItem := none } else x
  let z := if y.cmpItem = some k then { y with shCmp := none, cmpItem := none } else y
  (s.setGen g z).showShadows g

/-- ARC_SET. -/
def execArcSet (it : Item) (s : State) : Host.Outcome State Fault Refusal :=
  serve it s (fun s => s.arcItem it (fun s => s.arcSet it))

/-- ARC_START as decided (R387). -/
def State.arcStart (s : State) (it : Item) : State :=
  let g := it.inst
  let t := s.fullTime (it.w 5) (it.w 4)
  if 1 < (it.w 3).toNat then s.complete it stFormat 12
  else if it.w 3 = 1 ∧ 1000000000 ≤ (it.w 4).toNat then s.complete it stFormat 16
  else if s.isSlave g then s.complete it stState 2
  else if s.gf g Cf.ARC_EN = 0 ∨ s.genState g ≠ 0 then s.complete it stState 4
  else if it.w 3 = 0 then (s.genStart g 0).complete it stDone
  else if t < s.timeT + 10000 * 4294967296 then s.complete it stState 3
  else
    let s1 := (s.setGen g { s.gen g with armT := t, startItem := some (it.ring, it.seq) }).setGenState g 1
    s1.holdItem 0x0A01 it []

/-- ARC_START_NOW. -/
def execArcStartNow (it : Item) (s : State) : Host.Outcome State Fault Refusal :=
  serve it s (fun s => s.arcItem it (fun s => s.arcStart it))

/-- ARC_START_AT. -/
def execArcStartAt (it : Item) (s : State) : Host.Outcome State Fault Refusal :=
  serve it s (fun s => s.arcItem it (fun s => s.arcStart it))

/-- ARC_ARMED_START (R387, R556): T is reached. An aborted start leaves the generator IDLE. -/
def execArcArmedStart (g : Nat) (s : State) : Host.Outcome State Fault Refusal :=
  if g < 32 ∧ s.arcOn ∧ s.genState g = 1 ∧ (s.gen g).armT ≤ s.timeT then
    let x := s.gen g
    let s0 := s.setGen g { x with startItem := none }
    if x.resume then go ((s.setGen g { x with resume := false }).genStart g 1)
    else match s.reqItem x.startItem with
    | some _ => go ((s0.genStart g 1).reqComplete x.startItem)
    | none => go (s0.setGenState g 0)
  else go s

/-- An ARMED generator is stopped by an item: its ARC_START completes ABORTED_BY_HOST with the SEQ of that item (R128). -/
def State.disarmGen (s : State) (g : Nat) (seq : Word) : State :=
  let x := s.gen g
  let s1 := (s.setGen g { x with startItem := none }).genStop g 0
  match s.reqItem x.startItem with
  | some i => s1.complete i stAborted seq
  | none => s1

/-- ARC_STOP as decided. A stop at the period end waits behind one that is still to come. -/
def State.arcStop (s : State) (it : Item) : State :=
  let g := it.inst
  if 1 < (it.w 3).toNat then s.complete it stFormat 12
  else if s.isSlave g then s.complete it stState 2
  else if s.gf g Cf.ARC_EN = 0 then s.complete it stState 4
  else if s.genState g = 0 then s.complete it stDone
  else if s.genState g = 1 then (s.disarmGen g it.seq).complete it stDone
  else if it.w 3 = 1 then
    let k := (s.gen g).stopItem
    (((s.setGen g { s.gen g with stopItem := none }).genStopAll g 0).reqComplete k).complete it stDone
  else if (s.gen g).stopAt = 1 ∧ (s.reqItem (s.gen g).stopItem).isSome then s
  else (s.setGen g { s.gen g with stopAt := 1, stopItem := some (it.ring, it.seq) }).holdItem 0x0A02 it []

/-- ARC_STOP_AT_END. -/
def execArcStopAtEnd (it : Item) (s : State) : Host.Outcome State Fault Refusal :=
  serve it s (fun s => s.arcItem it (fun s => s.arcStop it))

/-- ARC_STOP_NOW. -/
def execArcStopNow (it : Item) (s : State) : Host.Outcome State Fault Refusal :=
  serve it s (fun s => s.arcItem it (fun s => s.arcStop it))

/-! ### Commits and stops of the whole block (R26, R378, R381, R387) -/

/-- The committed values of a generator that does not run become its active values. -/
def State.arcLoad (s : State) (g : Nat) : State :=
  let s1 := s.setGen g { s.gen g with ctl := [] }
  ((s1.wr Reg.ARC_PER g 0 (s1.cf Cf.ARC_PERIOD g 0)).wr Reg.ARC_CMPA g 0 (s1.cf Cf.ARC_CMPA g 0)).wr Reg.ARC_CMPB g 0
    (s1.cf Cf.ARC_CMPB g 0)

/-- A generator takes committed values: both shadows while it runs, at once otherwise. The answer says whether the item
waits for its boundary. -/
def State.arcTake (s : State) (g : Nat) (en : Bool) : State × Bool :=
  if s.genState g = 2 then
    let x := s.gen g
    let y := { x with shPer := some (s.cfN Cf.ARC_PERIOD g), shCmp := some (s.cfN Cf.ARC_CMPA g, s.cfN Cf.ARC_CMPB g),
                      stopAt := if s.cfN Cf.ARC_EN g = 0 then 2 else x.stopAt }
    ((s.setGen g y).showShadows g, true)
  else
    let s1 := s.arcLoad g
    if en ∧ s1.cfN Cf.ARC_EN g = 1 ∧ s1.cfN Cf.ARC_AUTOSTART g = 1 ∧ !(s1.isSlave g) ∧ s1.arcOn then (s1.genStart g 0, false)
    else (s1, false)

/-- Arc takes the values of changed keys; the answer lists the generators whose boundary the item waits for. -/
def State.takenArc (s : State) (keys : List Nat) : State × List Nat :=
  (List.range 32).foldl (fun r g =>
    let mine := keys.filter (fun k => keyBlock k == 0xA && keyInst k == g)
    if mine = [] then r
    else
      let t := r.1.arcTake g (mine.any (fun k => keyFld k == 0))
      (t.1, if t.2 then r.2 ++ [g] else r.2)) (s, [])

/-- Every pair inactive and every generator IDLE, with its registers at reset but for the trip latches: PD_FLK goes off
or restarts (R92, R391). -/
def State.arcReset (s : State) : State :=
  let s1 := (List.range 32).foldl (fun s g => s.setGenState g 0) s
  let trip := s1.rd Reg.ARC_TRIP 0 0
  let s2 := { s1 with regs := s1.regs.filter (fun kv => !(0xE0000 ≤ kv.1 && kv.1 < 0xF0000)),
                      arc := { s1.arc with gens := [] } }
  (s2.wr Reg.ARC_TRIP 0 0 trip).showTrips

end Sys2Proof.Machine
end

