-- ==== Sys2Proof/Machine/FctField.lean ====
section
/-! DEFINITION. The field side of a Facet: its contacts, its converter and the samples it makes, the upstream frame it
sends, and the downstream frame it takes (spec/02_module_hardware.md R50 and R51, spec/06_facet_digital.md R174 to R197,
spec/07_facet_analog.md R212 to R246). -/

namespace Sys2Proof.Machine

/-! ### Frames and the scan list (R174, R177, R218) -/

/-- A byte of a frame by its symbol number, 1 to 124. -/
def sym (bs : List Byte) (k : Nat) : Nat := (bs.getD (k - 1) 0).toNat

/-- A little-endian word of a frame. -/
def symWord (bs : List Byte) (k : Nat) : Word :=
  w32 (sym bs k + sym bs (k + 1) * 256 + sym bs (k + 2) * 65536 + sym bs (k + 3) * 16777216)

/-- Whether the CRC of a frame matches: high byte in symbol 123 (R177). -/
def frameCrcOk (bs : List Byte) : Bool := crc16 (bs.take 122) = sym bs 123 * 256 + sym bs 124

/-- The lowest offset at which a channel's slots are all free in a scan list (R218). -/
def scanOffset (list : List (Option Nat)) (slots : Nat) : Option Nat :=
  (List.range (32 / slots)).find? (fun o =>
    (List.range slots).all (fun j => (list.getD (o + j * (32 / slots)) none).isNone))

/-- The scan list with one channel placed. -/
def scanPlace (list : List (Option Nat)) (ch slots : Nat) : List (Option Nat) :=
  if slots = 0 then list
  else match scanOffset list slots with
    | none => list
    | some o => (List.range 32).map (fun i => if i % (32 / slots) = o then some ch else list.getD i none)

/-- The scan list of a Facet (R218): channels in descending AI_SLOTS, ascending local channel among equals. -/
def State.scanList (s : State) (n : Nat) : List (Option Nat) :=
  [32, 16, 8, 4, 2, 1].foldl (fun l k =>
    (List.range 8).foldl (fun l c =>
      if isAI (s.ownMode (8 * n + c)) ∧ (s.own Cf.FCT_AI_SLOTS (8 * n + c)).toNat = k then scanPlace l c k else l) l)
    (List.replicate 32 none)

/-- One FCT_SCAN register of a scan list. -/
def scanWord (l : List (Option Nat)) (j : Nat) : Word :=
  w32 ((List.range 8).foldl (fun w i =>
    match l.getD (8 * j + i) none with
    | some c => w + (8 + c) * 16 ^ i
    | none => w) 0)

/-! ### Contacts (R50, R51) -/

/-- What a contact of a channel serves for. -/
inductive Use where
  | highZ | input | output | sense | ret
  deriving DecidableEq, Repr

/-- SIG in a mode: input, output, or high impedance (R50). -/
def sigUse (m : Nat) : Use := if isIn m then .input else if isOut m then .output else .highZ

/-- SNS: remote sense of AO_V, and the sense contact of a current input in an LX-TB2 (R50, R51). -/
def snsUse (m base : Nat) : Use := if m = 6 ∨ ((m = 2 ∨ m = 3) ∧ base < 2) then .sense else .highZ

/-- RTN: the return of every mode but OFF; COM for DI and PI, field supply 0 V for DO (R50). -/
def rtnUse (m : Nat) : Use := if m = 0 then .highZ else .ret

/-- Whether the 50 Ω resistor inside the module is in the path of a current input: on an LX-TB1; on an LX-TB2 it is open
(R51). Without a base the spec names no path, and the internal one stands (DESIGN CHOICE, notes/assumptions/135.md). -/
def innerSense (m base : Nat) : Bool := (m = 2 || m = 3) && decide (2 ≤ base)

/-- The code of a conversion for a channel: through SIG, or between SNS and RTN where SNS senses an input (R51). -/
def State.pathCode (s : State) (ch : Nat) (x : Int × Int) : Int :=
  let m := s.ownMode ch
  if isAI m && snsUse m s.baseId == .sense then x.2 else x.1

/-! ### Samples (R176, R212 to R222) -/

/-- The scan slot of the `j`-th 50 ns of a frame: a pass starts with every frame whose FSEQ mod 8 is 0 (R212). -/
def slotAt (fseq j : Nat) : Nat := (20 * (fseq % 8) + j) % 32

/-- A conversion by slice `slot mod 4` with the factors the Facet holds (R212, R213). Nominal factors correct nothing
(DEDUCED); the formula for others is open. -/
def State.converted (s : State) (n slot : Nat) (x : Int) : Int :=
  let f := s.slice n (slot % 4)
  if f = (0, 0, 0) then x else Config.sliceFix x f

/-- A finite binary32 in units of 2^-149. -/
def f32Scaled (w : Word) : Int :=
  match f32 w with
  | .fin neg m e => sgn neg (m * 2 ^ (e + 149).toNat)
  | _ => 0

/-- The code of a sample (R219, R220, R226): the mean of `cnt` conversions that sum to `sum`, corrected as
(nominal − A) × B, rounded once and held to 18 bits. -/
def State.calCode (s : State) (ch : Nat) (sum : Int) (cnt : Nat) : Int :=
  let m := s.ownMode ch
  let ab := s.facetCal ch ((calRange m).getD 0)
  let d : Int := codesPer m (s.own Cf.FCT_HART_MULTIDROP ch == 1)
  let num := (sum * 2 ^ 149 - cnt * d * f32Scaled ab.1) * f32Scaled ab.2
  max (-131072) (min 131071 (divEven num (cnt * 2 ^ 298)))

/-- Whether a code lies outside the measuring range of a mode (R221). -/
def outOfRange (m : Nat) (multi : Bool) (code : Int) : Bool :=
  if m = 1 then code < -130000 || 130000 < code
  else if m = 3 && multi then code < -1250 || 82500 < code
  else code < -5000 || 125000 < code

/-- A diagnosis holds the words of a channel (R232). -/
def State.diagHolds (s : State) (ch : Nat) : Bool :=
  match (s.facet (ch / 8)).fdiag with
  | some d => d.ch == ch % 8 && decide (s.timeT < laterBy d.since (s.diagLen ch))
  | none => false

/-- FLAGS and code of a sample: HELD while the Facet calibrates, with code 0 (R214), and during a diagnosis (R232), over
OPEN, over RANGE (R221). -/
def State.sampleWord (s : State) (ch : Nat) (sum : Int) (cnt : Nat) : Nat × Int :=
  if (s.facet (ch / 8)).calBusy then (3, 0)
  else
    let code := s.calCode ch sum cnt
    if s.diagHolds ch then (3, code)
    else if (s.chan ch).openw then (2, code)
    else if outOfRange (s.ownMode ch) (s.own Cf.FCT_HART_MULTIDROP ch == 1) code then (1, code) else (0, code)

/-- The `j`-th conversion of a frame (R212, R219): the last of a window makes a sample, ready 200 ns later. -/
def State.convStep (s : State) (n fseq : Nat) (list : List (Option Nat)) (conv : List (Int × Int)) (j : Nat) : State :=
  match list.getD (slotAt fseq j) none with
  | none => s
  | some k =>
    let ch := 8 * n + k
    let c := s.chan ch
    let sum := c.accSum + s.converted n (slotAt fseq j) (s.pathCode ch (conv.getD j (0, 0)))
    if (s.own Cf.FCT_AI_DECIM ch).toNat ≤ c.accN + 1 then
      let w := s.sampleWord ch sum (c.accN + 1)
      let s1 := s.setChan ch { c with accN := 0, accSum := 0 }
      let f := s1.facet n
      s1.setFacet n { f with queue := f.queue ++ [⟨50 * j + 200, 50 * j, k, w.1, w.2⟩] }
    else s.setChan ch { c with accN := c.accN + 1, accSum := sum }

/-- A sample word (R176): SOFF is the sampling instant in units of 8 ns, the nearest (DESIGN CHOICE,
notes/assumptions/136.md). -/
def ReadySample.word (r : ReadySample) : Word :=
  w32 (2 ^ 31 + r.ch % 8 * 2 ^ 28 + (((r.inst + 4) / 8) % 256).toNat * 2 ^ 20 + r.flags % 4 * 2 ^ 18 +
    (r.code % 262144).toNat)

/-- The sample positions of a frame from position `p` on (R176): each takes the oldest sample that is ready before its
transmission starts, and carries VALID = 0 without one. With them what is left over. -/
def placeSamples : Nat → Nat → List ReadySample → List Word × List ReadySample
  | 0, _, q => ([], q)
  | k + 1, p, [] => let x := placeSamples k (p + 1) []; (0 :: x.1, x.2)
  | k + 1, p, r :: rs =>
    if r.ready < 32 + 32 * (p : Int) then let x := placeSamples k (p + 1) rs; (r.word :: x.1, x.2)
    else let x := placeSamples k (p + 1) (r :: rs); (0 :: x.1, x.2)

/-- The conversions of a frame, and its 20 sample words; what is not placed waits for the next frame. -/
def State.frameSamples (s : State) (n fseq : Nat) (conv : List (Int × Int)) : List Word × State :=
  let l := s.scanList n
  let s1 := (List.range 20).foldl (fun s j => s.convStep n fseq l conv j) s
  let f := s1.facet n
  let x := placeSamples 20 0 f.queue
  (x.1, s1.setFacet n { f with queue := x.2.map (fun r => { r with ready := r.ready - 1000, inst := r.inst - 1000 }) })

/-! ### The upstream frame at the Facet (R173, R175) -/

/-- A byte with bit k set for each local channel that a test holds of. -/
def chanBits (n : Nat) (p : Nat → Bool) : Nat := (List.range 8).foldl (fun w k => if p (8 * n + k) then w + 2 ^ k else w) 0

/-- A digital input channel: DI or PI. -/
def isDig (m : Nat) : Bool := m = 7 || m = 9

/-- DIOFF of a channel: the instant of its change in the microsecond before `t`, in units of 8 ns (R175). -/
def State.diOff (s : State) (ch : Nat) (t : Int) : Nat :=
  match (s.chan ch).chgAt with
  | some x => Nat.min 124 ((x - (t - 1000 * 4294967296)) / (8 * 4294967296)).toNat
  | none => 0

/-- PIE of a channel (R206): the first edge of the selected direction that bounds no pulse shorter than 250 ns. -/
def State.piEdge (s : State) (ch : Nat) (es : List PiEdge) : Nat :=
  let falling := s.own Cf.FCT_PI_EDGE ch == 1
  match es.find? (fun e => e.ch == ch % 8 && e.rising != falling && decide (250 ≤ e.pulse)) with
  | some e => if s.ownMode ch = 9 then 128 + e.at8 % 128 else 0
  | none => 0

/-- CHST of a channel (R175). -/
def State.chst (s : State) (ch : Nat) : Nat :=
  let c := s.chan ch
  let b := fun (x : Bool) (v : Nat) => if x then v else 0
  b c.ovl 1 + b c.mism 2 + b c.safe 4 + b (s.slotOf ch).isSome 8 + b c.comp 16 + b c.therm 32 + b c.openw 64 +
    b (isAI (s.ownMode ch) && ((s.facet (ch / 8)).calBusy || s.diagHolds ch)) 128

/-- FSTAT of a Facet (R175). -/
def State.fstat (s : State) (n : Nat) : Nat :=
  let f := s.facet n
  let b := fun (x : Bool) (v : Nat) => if x then v else 0
  b f.cfgOk 1 + b ((facetChans n).any (fun ch => (s.chan ch).safe)) 2 +
    b (f.slot0.run || f.slot1.run || f.slot2.run || f.slot3.run) 4 + b f.perimOff 8 + b f.supWarn 16 + b f.supLow 32 +
    b f.calBusy 64 + b f.restarted 128

/-- The comparators of the DI and PI channels at a frame boundary (R194, R206). -/
def State.compare (s : State) (n : Nat) (volts : List Int) : State :=
  (List.range 8).foldl (fun s k =>
    let ch := 8 * n + k
    if isDig (s.ownMode ch) then s.setChan ch { s.chan ch with cmp := s.cmpAt ch (s.chan ch).cmp (volts.getD k 0) } else s) s

/-- A byte of a frame. -/
def by8 (n : Nat) : Byte := BitVec.ofNat 8 n

/-- The bytes of some words in a frame. -/
def wBytes (ws : List Word) : List Byte := ws.flatMap bytesOf

/-- The frame that the Facet sends from a frame boundary on, symbols 1 to 124, and the state after it (R175): its
reporting interval ends there. -/
def State.composeUp (s : State) (n : Nat) (x : FieldFrame) : List Byte × State :=
  let s0 := s.compare n x.volts
  let f := s0.facet n
  let t := s.timeT
  let (samples, s1) := s0.frameSamples n f.ffseq x.conv
  let per := fun (g : Nat → Nat) => (facetChans n).map (fun ch => by8 (g ch))
  let di := chanBits n (fun ch =>
    (s0.ownMode ch == 7 && (s0.chan ch).deb) || (s0.ownMode ch == 9 && (s0.chan ch).cmp))
  let rb := chanBits n (fun ch => s0.ownMode ch == 8 && readback (x.volts.getD (ch % 8) 0))
  let chg := chanBits n (fun ch => (s0.chan ch).chgAt.isSome)
  let shed := chanBits n (fun ch => (s0.chan ch).shed)
  let k := f.ffseq % 8
  let body := [by8 f.ffseq, by8 f.dack, by8 (s0.fstat n)] ++ wBytes samples ++ [by8 di, by8 rb, by8 chg, by8 shed] ++
    per (fun ch => s0.diOff ch t) ++ per (fun ch => s0.piEdge ch x.edges) ++ per s0.chst ++
    [by8 x.supply, by8 (x.supply / 256), by8 (x.temp % 256).toNat, by8 x.rxc, by8 x.rxd, by8 f.ack, by8 k] ++
    bytesOf (s0.chan (8 * n + k)).drv
  let crc := crc16 body
  let s2 := (facetChans n).foldl (fun s ch => s.setChan ch { s.chan ch with chgAt := none }) s1
  (body ++ [by8 (crc / 256), by8 crc], s2.setFacet n { s2.facet n with ffseq := (f.ffseq + 1) % 256, perimRel := false })

/-! ### The downstream frame at the Facet (R174, R178, R179, R182, R191) -/

/-- The COM link of a Facet: closed while a channel of its configuration is in DO mode (R52, R193). -/
def State.comLink (s : State) (n : Nat) : Bool := (facetChans n).any (fun ch => s.ownMode ch == 8)

/-- The registers that show a Facet's active configuration: FCT_ACTIVE, FCT_SCAN, FCT_CHSTAT.MODE, and the limit and the
supply of current outputs (R193, R218, R237, R240). -/
def State.showActive (s : State) (n : Nat) : State :=
  let l := s.scanList n
  let s1 := (s.setF Fld.FCT_ACTIVE_FBMAX n 0 (s.own Cf.FCT_FBMAX (128 + n)).toNat).setF Fld.FCT_ACTIVE_WDT n 0 (s.fctWdt n)
  let s2 := (List.range 4).foldl (fun s j => s.wr Reg.FCT_SCAN n j (scanWord l j)) s1
  (List.range 8).foldl (fun s k =>
    let ch := 8 * n + k
    let t := s.setF Fld.FCT_CHSTAT_MODE n k (s.ownMode ch)
    if isAOI (t.ownMode ch) then
      (t.setF Fld.FCT_AOSTAT_ILIM n k (t.chan ch).ilim).setF Fld.FCT_AOSTAT_VSUP n k (t.chan ch).vsup
    else t) s2

/-- A channel whose mode an APPLY frame changes (R193, R196): an output drives off until an owner value comes, and a
channel that is no output leaves safe state; samples of the old mode end; a DI channel takes the comparator state and
gives one sample of it; a diagnosis on the channel is void. -/
def State.modeChange (s : State) (ch m : Nat) (mv t : Int) : State :=
  let on := (m = 7 || m = 9) && s.cmpAt ch false mv
  let v : Word := if on then 1 else 0
  let n := ch / 8
  let c := s.chan ch
  let f := s.facet n
  let s1 := s.setChan ch { c with
    ownHas := false, out := 0, taken := false, safe := c.safe && isOut m, trim := 0, cmp := on, deb := m == 7 && on,
    chgAt := none, gateN := 0, comp := false, openw := false, therm := false, mism := false, accN := 0, accSum := 0,
    oldSeq := some ((f.ffseq + 255) % 256), last := if m = 7 then v else c.last, lastAt := if m = 7 then t else c.lastAt }
  let mine := fun (d : FieldDiag) => d.ch == ch % 8
  let s2 := s1.setFacet n { f with
    diag := f.diag.map (fun d => if d.ch = ch % 8 then { d with aborted := true } else d),
    fdiag := if f.fdiag.any mine then none else f.fdiag,
    queue := f.queue.filter (fun r => r.ch != ch % 8) }
  if m = 7 then s2.sample ch v 0 t else s2

/-- The Facet takes an update whole at an APPLY frame (R182, R229, R552); a slot whose output is not in safe state stops. `volts` holds the voltages on SIG of its
channels in mV. -/
def State.applyUpd (s : State) (n : Nat) (u : FctUpd) (volts : List Int) (t : Int) : State :=
  let old := (facetChans n).map (fun ch => s.ownMode ch)
  let base := if u.full then dropFacet n s.fct.own else s.fct.own
  let own := u.vals.foldl (fun o c => tabSet cfgDefault o c.key c.val) base
  let cals := u.cals.foldl (fun o c => tset none o c.1 (some c.2)) s.fct.cals
  let f := s.facet n
  let s1 := { s with fct := { s.fct with own := own, cals := cals } }.setFacet n
    { f with cfgOk := true, restarted := false, shadow := [], variant := u.variant.getD f.variant }
  let s2 := (List.range 8).foldl (fun s k =>
    let m := s.ownMode (8 * n + k)
    if m ≠ old.getD k 0 then s.modeChange (8 * n + k) m (volts.getD k 0) t else s) s1
  let s3 := (List.range 4).foldl (fun s sl =>
    let x := (s.facet n).slot sl
    if x.run ∧ !(s.chan (8 * n + s.fbOut n sl)).safe then s.setSlot n sl { x with run := false } else s) s2
  s3.showActive n

/-- One output takes its value from a valid frame (R184, R191). -/
def State.takeOut (s : State) (ch : Nat) (cfgValid : Bool) (v : Word) : State :=
  let c := s.chan ch
  if c.safe then
    if cfgValid then
      let s1 := s.setChan ch { c with safe := false, out := v, taken := true }
      match s.slotOf ch with
      | some sl => s1.setSlot (ch / 8) sl { (s1.facet (ch / 8)).slot sl with run := false }
      | none => s1
    else s
  else s.setChan ch { c with out := v, taken := true }

/-- The command of a valid frame, as the Facet takes it (R230 to R233, R246): one that was not in the frame before starts,
and CMDACK answers it. Without a command CMDACK is idle unless one still runs. -/
def State.takeCmd (s : State) (n cmd arg : Nat) : State :=
  let f := s.facet n
  if (cmd, arg) = f.lastCmd then s
  else
    let ack := fun (st : Nat) => st * 64 + cmd
    let s1 := s.setFacet n { f with lastCmd := (cmd, arg) }
    let f1 := s1.facet n
    if cmd = 1 then s1.setFacet n { f1 with calBusy := true, ack := ack 1 }
    else if cmd = 2 ∨ cmd = 3 then
      s1.setFacet n { f1 with fdiag := some ⟨arg % 8, cmd = 3, arg / 16 % 4096, arg / 65536 % 4096, s.timeT⟩, ack := ack 1 }
    else if cmd = 4 then
      let ch := 8 * n + arg % 8
      let p := arg / 256 % 4
      (s1.setFacet n { f1 with ack := ack 2 }).setChan ch
        { s1.chan ch with trim := if p = 0 then 1 else if p = 1 then 2 else 0 }
    else s1.setFacet n { f1 with ack := if f.ack / 64 = 1 then f.ack else 0 }

/-- The HART symbols of a valid frame at the modem (R243, R246): START begins a frame, VALID brings a byte, and CLOSE sends
the frame with its check byte. -/
def State.takeHart (s : State) (n ctl : Nat) (data : Byte) : State :=
  let f := s.facet n
  let m0 : Option ModemTx := if 128 ≤ ctl then some ⟨ctl % 8, ctl / 16 % 2 = 1, []⟩ else f.modem
  let m1 := m0.map (fun m => if ctl / 32 % 2 = 1 then { m with bytes := m.bytes ++ [data] } else m)
  let s1 := s.setFacet n { f with modem := if ctl / 64 % 2 = 1 then none else m1 }
  match m1 with
  | some m =>
    if ctl / 64 % 2 = 1 then
      s1.emit (.hart (8 * n + m.ch) (hartFrame (s.own Cf.FCT_HART_PREAMBLE (128 + n)).toNat m.long m.bytes))
    else s1
  | none => s1

/-- The configuration symbols of a valid frame at the shadow (R182): ABORT discards it, a chunk joins it. -/
def FacetSt.takeChunk (f : FacetSt) (idx : Nat) (abort : Bool) : FacetSt :=
  let sh := if abort then [] else f.shadow
  { f with shadow := if sh.contains idx then sh else sh ++ [idx] }

/-- What a valid downstream frame does. -/
def State.takeDown (s : State) (n : Nat) (bs : List Byte) (volts : List Int) : State :=
  let dctl := sym bs 2
  let wasSafe := (facetChans n).any (fun ch => (s.chan ch).safe)
  let f := (s.facet n).takeChunk (sym bs 52 % 32) (4 ≤ dctl % 8)
  let apply := dctl / 2 % 2 = 1
  let s1 := s.setFacet n { f with
    lastFrame := s.mer.base, released := false, rampNs := 0, dack := sym bs 1, ffseq := (sym bs 1 + 1) % 256,
    updates := if apply then f.updates.drop 1 else f.updates,
    fbsp := (List.range 4).map (fun i => symWord bs (36 + 4 * i)) }
  let s2 := match f.updates.head? with
    | some u => if apply then s1.applyUpd n u volts s.timeT else s1
    | none => s1
  let s3 := (List.range 8).foldl (fun s k =>
    if sym bs 3 / 2 ^ k % 2 = 1 ∧ isOut (s.ownMode (8 * n + k)) then
      s.takeOut (8 * n + k) (dctl % 2 = 1) (symWord bs (4 + 4 * k))
    else s) s2
  let s4 := (s3.takeCmd n (sym bs 85) (symWord bs 86).toNat).takeHart n (sym bs 90) (by8 (sym bs 91))
  let s5 := s4.redriveAll n
  if wasSafe ∧ !((facetChans n).any (fun ch => (s5.chan ch).safe)) then
    s5.log 0x0484 n (w32 ((s5.mer.base - f.safeAt) / 1000))
  else s5

/-- DOWNSTREAM_FRAME_RX (R173, R178, R179, R182): at the boundary at which the frame arrives the Facet starts its own, and
outputs that the Perimeter line has released return (R172). An invalid frame is ignored entirely; FSEQ may follow by any
amount. A Facet without power sends and takes nothing. -/
def execDownstreamFrameRx (n : Nat) (sof codeErr : Bool) (bytes : List Byte) (x : FieldFrame) (s : State) :
    Host.Outcome State Fault Refusal :=
  if n < 16 ∧ !(s.facet n).unfed then
    let (up, s1) := s.composeUp n x
    let s2 := if (s.facet n).perimRel then s1.redriveAll n else s1
    let s3 := s2.emit (.facetUp n up)
    if sof ∧ !codeErr ∧ bytes.length = 124 ∧ frameCrcOk bytes then go (s3.takeDown n bytes x.volts) else go s3
  else go s

end Sys2Proof.Machine
end

