-- ==== Sys2Proof/Machine/Loc.lean ====
section
/-! DEFINITION. Locus: the tick, tracks and steps, actions, counters, ramp generators, holds and aborts, and scheduled
commits (spec/09_locus_recipes.md). -/

namespace Sys2Proof.Machine

/-! ### The parts of the state -/

/-- A track that has not started. -/
def trackIdle : TrackSt := ⟨[], [], 0, 0, false, 0, 0, 0, []⟩

/-- Track `t`. -/
def State.track (s : State) (t : Nat) : TrackSt := tget trackIdle s.loc.tracks t

/-- The state with track `t` replaced. -/
def State.setTrack (s : State) (t : Nat) (x : TrackSt) : State :=
  { s with loc := { s.loc with tracks := tset trackIdle s.loc.tracks t x } }

/-- STATE of a track: 0 IDLE, 1 RUN, 2 WAIT_SCHED, 3 HELD, 4 ENDED, 5 ABORTED. -/
def State.trkState (s : State) (t : Nat) : Nat := s.fld Fld.LOC_TSTAT_STATE t 0

/-- The track runs its abort chain. -/
def State.aborting (s : State) (t : Nat) : Bool := s.bit Fld.LOC_TSTAT_ABORTING t 0

/-- TRK_ENABLE. -/
def State.trkEn (s : State) (t : Nat) : Bool := s.cf Cf.LOC_TRK_ENABLE t 0 == 1

/-- A track field in force (R292): 1 TIMING, 2 ABORT_STEP, 3 HOLD_BIT, 4 ABORT_BIT, 5 VTX_EN. -/
def State.tf' (s : State) (t k : Nat) : Nat :=
  match (s.track t).flds with
  | [] => s.cfN ⟨8, k⟩ t
  | l => (l.getD (k - 1) 0).toNat

/-- The fields as committed. -/
def State.trkFlds (s : State) (t : Nat) : List Word := [1, 2, 3, 4, 5].map (fun k => s.cf ⟨8, k⟩ t 0)

/-- Word `w` of step `p` in the step table, as committed. -/
def State.stepWord (s : State) (p w : Nat) : Word := s.cf Cf.LOC_STEP 16 (4 * p + w)

/-- Word `w` of action `a`. -/
def State.actWord (s : State) (a w : Nat) : Word := s.cf Cf.LOC_ACTION 16 (4 * a + w)

/-- Whether a step has VALID. -/
def State.stepValid (s : State) (p : Nat) : Bool := p < 4096 && bitOf (s.stepWord p 0) 31

/-- A marker that a track field names reads 1. -/
def State.bitSet (s : State) (k : Nat) : Bool := k < 4096 && s.marker k

/-- LOC_STATUS as the tracks stand. -/
def State.locShow (s : State) : State :=
  let m := fun (p : Nat → Bool) => (List.range 16).foldl (fun n t => if p (s.trkState t) then n + 2 ^ t else n) 0
  (s.setF Fld.LOC_STATUS_HELD 0 0 (m (fun x => x == 3))).setF Fld.LOC_STATUS_ACTIVE 0 0
    (m (fun x => x == 1 || x == 2 || x == 3))

/-- The Locus tick index of an instant (R287). -/
def locTickOf (t : Int) : Nat := (t / 4294967296 / 100000).toNat

/-! ### Counters (R299 to R301) -/

/-- The value of a counter. -/
def State.cnt (s : State) (c : Nat) : Int :=
  let v := s.fld Fld.LOC_CNT_VALUE c 0
  if v < 32768 then v else (v : Int) - 65536

/-- A counter held to 16 bits. -/
def satInt16 (v : Int) : Int := if v < -32768 then -32768 else if 32767 < v then 32767 else v

/-- A counter takes a value; a saturating change logs event 0x2209. -/
def State.cntSet (s : State) (c : Nat) (v : Int) : State :=
  let w := satInt16 v
  let s1 := s.setF Fld.LOC_CNT_VALUE c 0 (w % 65536).toNat
  if w = v then s1 else s1.log 0x2209 c (wInt w)

/-- One counter write of step 1; its item completes with the value after it and the stamp of the tick. An aborted item
has no effect. -/
def State.cntOp (s : State) (st : Stamp) (o : CntOp) : State :=
  let it := match o.item with
    | some k => (s.flight k.1 k.2).map (fun x => x.item)
    | none => none
  if o.item.isSome ∧ it.isNone then s
  else if !(s.bit Fld.LOC_CNT_DEF o.ctr 0) then
    match it with
    | some i => s.completeAt i st stState 4 0 0 0
    | none => s
  else
    let cur := s.cnt o.ctr
    let s1 := s.cntSet o.ctr (if o.kind = 0 then cur - o.val else if o.kind = 1 then o.val else cur + o.val)
    match it with
    | some i => s1.completeAt i st stDone (wInt (s1.cnt o.ctr)) 0 0 0
    | none => s1

/-- The counter writes of a tick; one for which the redo list has no room waits for the next (R90). -/
def State.cntOps (st : Stamp) : List CntOp → State → State
  | [], s => s
  | o :: os, s =>
    if o.item.any (fun k => s.redoFull k.1 k.2) then
      State.cntOps st os { s with loc := { s.loc with cq := s.loc.cq ++ [o] } }
    else State.cntOps st os (s.cntOp st o)

/-- A counter write joins those of the next tick. -/
def State.cntPut (s : State) (o : CntOp) : State := { s with loc := { s.loc with cq := s.loc.cq ++ [o] } }

/-! ### Ramp generators (R302 to R305) -/

/-- STATE of a generator: 0 FREE, 1 RUN, 2 FROZEN. -/
def State.rampState (s : State) (g : Nat) : Nat := s.fld Fld.LOC_RAMP_CTRL_STATE g 0

/-- The generators that are not free, in ascending order. -/
def State.ramps (s : State) : List Nat := (List.range 256).filter (fun g => s.rampState g != 0)

/-- The generator that ramps a loop. -/
def State.rampOf (s : State) (l : Nat) : Option Nat := s.ramps.find? (fun g => s.fld Fld.LOC_RAMP_CTRL_LOOP g 0 == l)

/-- LOC_RAMPS.RUNNING. -/
def State.rampShow (s : State) : State := s.setF Fld.LOC_RAMPS_RUNNING 0 0 s.ramps.length

/-- A loop's setpoint target as Locus has left it: a write that waits for the next sample counts. -/
def State.locTarget (s : State) (l : Nat) : Word :=
  (s.loop l).reqs.foldl (fun v r => if r.kind = 1 then r.val else v) (s.loop l).sp

/-- Locus writes a loop's setpoint target (R268); a later write before the sample replaces it. -/
def State.locSet (s : State) (l : Nat) (v : Word) : State :=
  let p := s.loop l
  s.setLoop l { p with reqs := p.reqs.filter (fun r => !(r.kind == 1 && r.locus)) ++ [⟨1, v, none, true⟩] }

/-- A generator becomes free. -/
def State.rampFree (s : State) (g : Nat) : State :=
  let l := s.fld Fld.LOC_RAMP_CTRL_LOOP g 0
  let s1 := (s.wr Reg.LOC_RAMP_CTRL g 0 0).rampShow
  (s1.setLoop l { s1.loop l with ramp := false }).tanShow l

/-- Any ramp on a loop stops. -/
def State.rampStop (s : State) (l : Nat) : State :=
  match s.rampOf l with
  | some g => s.rampFree g
  | none => s

/-- The generators of a track. -/
def State.trkRamps (s : State) (t : Nat) : List Nat := s.ramps.filter (fun g => s.fld Fld.LOC_RAMP_CTRL_TRACK g 0 == t)

/-- Every generator of a track stops (R304). -/
def State.rampsStop (s : State) (t : Nat) : State := (s.trkRamps t).foldl (fun s g => s.rampFree g) s

/-- The generators of a track become FROZEN (2) or run on (1) from the tick after `n`. -/
def State.rampsTo (s : State) (t st n : Nat) : State :=
  (s.trkRamps t).foldl (fun s g =>
    let s1 := s.setF Fld.LOC_RAMP_CTRL_STATE g 0 st
    { s1 with loc := { s1.loc with born := tset 0 s1.loc.born g (n + 1) } }) s

/-- A RAMP action (R302, R303). -/
def State.rampAct (s : State) (t n l : Nat) (tgt rate : Word) : State :=
  let (g, s1) := match s.rampOf l with
    | some g => (g, s)
    | none =>
      let g := ((List.range 256).find? (fun g => s.rampState g == 0)).getD 0
      (g, s.wr Reg.LOC_RAMP_POS g 0 (s.locTarget l))
  let s2 := s1.wr Reg.LOC_RAMP_CTRL g 0 (w32 (1073741824 + t * 65536 + l))
  let s3 := ((s2.wr Reg.LOC_RAMP_TGT g 0 tgt).wr Reg.LOC_RAMP_RATE g 0 rate).rampShow
  let s4 := { s3 with loc := { s3.loc with born := tset 0 s3.loc.born g (n + 1) } }
  (s4.setLoop l { s4.loop l with ramp := true }).tanShow l

/-- The position one tick on: towards the target by rate × 0.0001 s without passing it. -/
def rampMove (pos tgt rate : Word) : Word :=
  let d := Fl.mul fmt32 (f32 rate) (f32 0x38D1B717)
  if Fl.lt (f32 pos) (f32 tgt) then
    let p := Fl.add fmt32 (f32 pos) d
    if Fl.le (f32 tgt) p then tgt else w32f p
  else
    let p := Fl.sub fmt32 (f32 pos) d
    if Fl.le p (f32 tgt) then tgt else w32f p

/-- A generator at a tick (step 5 of R289). -/
def State.rampTick (s : State) (n g : Nat) : State :=
  let l := s.fld Fld.LOC_RAMP_CTRL_LOOP g 0
  let pos := s.rd Reg.LOC_RAMP_POS g 0
  if !(s.loopEn l) then
    (s.rampFree g).log 0x220B l (w32 (s.fld Fld.LOC_RAMP_CTRL_TRACK g 0)) pos
  else if s.rampState g = 2 then s.locSet l pos
  else if tget 0 s.loc.born g = n + 1 then s
  else
    let tgt := s.rd Reg.LOC_RAMP_TGT g 0
    let p := rampMove pos tgt (s.rd Reg.LOC_RAMP_RATE g 0)
    let s1 := (s.wr Reg.LOC_RAMP_POS g 0 p).locSet l p
    if p = tgt then s1.rampFree g else s1

/-! ### Schedule slots (R311 to R315) -/

/-- STATE of a slot: 0 FREE, 1 ARMED, 2 STARTED, 3 FAILED, 4 WITHDRAWN. -/
def State.slotState (s : State) (k : Nat) : Nat := s.fld Fld.LOC_SCHED_CTRL_STATE k 0

/-- The armed slot of a track. -/
def State.slotOfTrack (s : State) (t : Nat) : Option Nat :=
  (List.range 8).find? (fun k => s.slotState k == 1 && s.fld Fld.LOC_SCHED_CTRL_TRACK k 0 == t)

/-- The armed slot of a group and T. -/
def State.slotOfGroup (s : State) (g : Nat) (t : Int) : Option Nat :=
  (List.range 8).find? (fun k => s.slotState k == 1 && s.fld Fld.LOC_SCHED_CTRL_GROUP k 0 == g && tget 0 s.loc.slotT k == t)

/-- TR of a slot: T − LEAD × 100 us. -/
def State.slotTR (s : State) (k : Nat) : Int :=
  tget 0 s.loc.slotT k - (s.fld Fld.LOC_SCHED_STEP_LEAD k 0 : Int) * 100000 * 4294967296

/-- A slot leaves ARMED. -/
def State.slotTo (s : State) (k st : Nat) : State :=
  (s.setF Fld.LOC_SCHED_CTRL_STATE k 0 st).setF Fld.LOC_TSTAT_ARMED (s.fld Fld.LOC_SCHED_CTRL_TRACK k 0) 0 0

/-- The other participants of a slot. -/
def State.slotOthers (s : State) (k : Nat) : List Nat := (tget [] s.loc.slotPart k).filter (fun d => d != s.device)

/-- An abort, a hold or a disable of a track withdraws its armed slot before TR; from TR on the slot stays armed and will
not start its step at T (R292, R315). -/
def State.slotWithdraw (s : State) (t : Nat) : State :=
  match s.slotOfTrack t with
  | some k =>
    if s.timeT < s.slotTR k then
      let st := stampOf (tget 0 s.loc.slotT k)
      let g := s.fld Fld.LOC_SCHED_CTRL_GROUP k 0
      let i := s.fld Fld.LOC_SCHED_CTRL_SELF k 0
      ((s.slotOthers k).foldl (fun s d => s.emit (.withdraw d g st i)) s).slotTo k 4
    else { s with loc := { s.loc with slotDead := k :: s.loc.slotDead } }
  | none => s

/-! ### States and transitions (R291, R294, R306, R308) -/

/-- A track takes a state; a change logs event 0x0201. -/
def State.trkTo (s : State) (t new : Nat) : State :=
  let old := s.trkState t
  if old = new then s
  else
    let vtx := s.tf' t 5
    let s1 := (s.setF Fld.LOC_TSTAT_STATE t 0 new).locShow
    let s2 := if new = 3 then s1 else s1.setF Fld.LOC_TSTAT_HOLD_CAUSE t 0 0
    let s3 := if new = 0 ∨ new = 4 ∨ new = 5 then
        (s2.setF Fld.LOC_TSTAT_ABORTING t 0 0).setTrack t { s2.track t with flds := [] } else s2
    let s4 := s3.log 0x0201 t (w32 old) (w32 new)
    if vtx / 2 % 2 = 1 then s4.raise (32 + t) 1 new (w32 old) else s4

/-- A transition of a track: pending fields take effect, and items that waited for it go on (R292, R318). -/
def State.trkTrans (s : State) (t n : Nat) : State :=
  let s1 := s.setTrack t { s.track t with flds := s.trkFlds t, tn := n + 1 }
  ({ s1 with sys := { s1.sys with chkPeriodDue := true } }).blockStep 8 t

/-- A track becomes HELD (R306): its ramps freeze, an armed slot is withdrawn before TR. -/
def State.trkHold (s : State) (t n cause : Nat) : State :=
  let s1 := s.setTrack t { s.track t with held := s.trkState t }
  let s2 := ((s1.slotWithdraw t).rampsTo t 2 n).trkTo t 3
  (s2.setF Fld.LOC_TSTAT_HOLD_CAUSE t 0 cause).log 0x2204 t (w32 cause) (w32 (s2.fld Fld.LOC_TSTAT_STEP t 0))

/-- An action failure (R297). -/
def State.actFail (s : State) (t a reason : Nat) (failhold : Bool) : State :=
  let s1 := (s.incF Fld.LOC_ACTERR_COUNT 0 0 1).log 0x2205 t (w32 a) (w32 reason)
  if failhold ∧ !(s1.aborting t) then s1.setTrack t { s1.track t with fail := true } else s1

/-- A SETPOINT, RAMP or MODE action on a loop: the failure reason, 0 none. -/
def State.actLoop (s : State) (t n ty l : Nat) (b c : Word) : State × Nat :=
  if !(s.loopEn l) then (s, 1)
  else if ty = 3 then
    if b = 3 ∧ !(s.named l) then (s, 6)
    else
      let s1 := if b = 3 then s.rampStop l else s
      let p := s1.loop l
      (s1.setLoop l { p with reqs := p.reqs ++ [⟨0, b, none, true⟩] }, 0)
  else if (s.loop l).st = 5 then (s, 2)
  else if ty = 1 then ((s.rampStop l).locSet l b, 0)
  else (s.rampAct t n l b c, 0)

/-- A remote TOKEN (R298); without admission, or to a module that is not admitted, it fails at once. -/
def State.actToken (s : State) (t a : Nat) (w1 w2 : Word) (failhold : Bool) : State × Nat :=
  let dev := bitsOf w1 16 10
  if s.admitted ∧ s.vxl.members.contains dev then
    let no := s.loc.tokNo
    let out : TokOut := ⟨no, t, a, failhold⟩
    let s1 : State := { s with loc := { s.loc with tokNo := no + 1, tokens := s.loc.tokens ++ [out] } }
    (s1.emit (.token no dev (bitsOf w1 0 10) w2.toNat), 0)
  else (s, 3)

/-- One action of a step (R296): its effect and its failure reason. -/
def State.action (s : State) (t n a : Nat) (failhold : Bool) : State × Nat :=
  let w1 := s.actWord a 1
  let w2 := s.actWord a 2
  let ctr := bitsOf w1 0 10
  match bitsOf (s.actWord a 0) 0 8 with
  | 0x01 => s.actLoop t n 1 (bitsOf w1 0 8) w2 0
  | 0x02 => s.actLoop t n 2 (bitsOf w1 0 8) w2 (s.actWord a 3)
  | 0x03 => s.actLoop t n 3 (bitsOf w1 0 8) w2 0
  | 0x04 => (s.ownerWrite (bitsOf w1 0 7) w2, 0)
  | 0x05 => (s.arcLocEn (bitsOf w1 0 5) (w2 == 1), 0)
  | 0x06 => (s.prmMarker false t (bitsOf w1 0 16) w2 ((n : Int) * 100000 * 4294967296), 0)
  | 0x07 => if bitOf w1 31 then s.actToken t a w1 w2 failhold else (s.cntPut ⟨0, ctr, w2.toNat, none⟩, 0)
  | 0x08 => (s.cntPut ⟨1, ctr, sInt w2, none⟩, 0)
  | 0x09 => (s.cntPut ⟨2, ctr, sInt w2, none⟩, 0)
  | 0x0A => (s.raise (32 + t) 2 (bitsOf w1 0 16) w2, 0)
  | _ => (s, 0)

/-- The actions of a step in ascending order; a failed one has no effect, and the rest still execute. -/
def State.actions (s : State) (t n first k : Nat) (failhold : Bool) : State :=
  (List.range k).foldl (fun s i =>
    let r := s.action t n (first + i) failhold
    if r.2 = 0 then r.1 else s.actFail t (first + i) r.2 failhold) s

/-- A step starts on a track, or waits for its scheduled commit (R294). `sched`: a slot starts it. LOC_TSTAT.STEP shows
the step that waits; the step before it is the one that event 0x0200 will name as previous. -/
def State.stepStart (s : State) (t p cause n : Nat) (sched : Bool) : State :=
  let st := s.trkState t
  let waited := st = 2 ∨ (st = 3 ∧ (s.track t).held = 2)
  let prev := if waited then (s.track t).prev else s.fld Fld.LOC_TSTAT_STEP t 0
  let s1 := s.trkTrans t n
  let e := [0, 1, 2, 3].map (fun w => s1.stepWord p w)
  let w0 := e.getD 0 0
  let s2 := (s1.setTrack t { s1.track t with entry := e, prev := prev }).setF Fld.LOC_TSTAT_STEP t 0 p
  if bitOf w0 30 ∧ !sched ∧ !(s2.aborting t) then s2.trkTo t 2
  else
    let s3 := ((s2.wr Reg.LOC_ELAPSED t 0 0).wrapF Fld.LOC_TRANS_COUNT t 0 1).trkTo t 1
    let s4 := s3.log 0x0200 t (w32 p) (w32 prev) (w32 cause)
    let s5 := if s4.tf' t 5 % 2 = 1 then s4.raise (32 + t) 0 p (w32 prev) else s4
    s5.actions t n (bitsOf w0 0 14) (bitsOf w0 14 8) (bitOf w0 29)

/-- A track aborts (R308): cause 0 command, 1 Lattice, 2 step. -/
def State.trkAbort (s : State) (t n cause : Nat) : State :=
  let ab := s.tf' t 2
  let s1 := ((s.rampsStop t).slotWithdraw t).log 0x3203 t (w32 cause) (w32 (s.fld Fld.LOC_TSTAT_STEP t 0))
  if ab < 4096 ∧ s1.stepValid ab then (s1.setF Fld.LOC_TSTAT_ABORTING t 0 1).stepStart t ab 5 n false
  else (s1.trkTrans t n).trkTo t 5

/-- The successor of a step: kind 0 STEP, 1 END, 2 HOLD, 3 ABORT (R294, R309). -/
def State.successor (s : State) (t n kind p cause : Nat) : State :=
  let ab := s.aborting t
  if kind = 0 then s.stepStart t p cause n false
  else if kind = 3 ∧ !ab then s.trkAbort t n 2
  else if kind = 2 ∧ !ab then
    let s1 := s.trkTrans t n
    (s1.setTrack t { s1.track t with next := p }).trkHold t n 5
  else
    let s1 := s.trkTrans t n
    if ab then s1.trkTo t 5 else (s1.trkTo t 4).log 0x0202 t (w32 (s1.fld Fld.LOC_TSTAT_STEP t 0))

/-- The end condition of the present step at `el` elapsed ticks (R293): successor kind, step and cause. -/
def State.endCond (s : State) (t el : Nat) : Option (Nat × Nat × Nat) :=
  let e := (s.track t).entry
  let w1 := e.getD 1 0
  let w2 := e.getD 2 0
  let w3 := e.getD 3 0
  let ramps : List Bool := if bitOf w2 29 then [!((s.trkRamps t).any (fun g => s.rampState g == 1))] else []
  let cnts : List Bool := if bitOf w2 28 then [decide (s.cnt (bitsOf w2 18 10) ≤ 0)] else []
  let lats : List Bool := if bitOf w2 17 then [s.marker (bitsOf w2 0 12) == bitOf w2 16] else []
  let terms := ramps ++ cnts ++ lats
  let timeUp := w1.toNat ≤ el
  let next := some (bitsOf w3 12 2, bitsOf w3 0 12, 0)
  if bitsOf w2 30 2 = 2 then
    if terms.all id then next
    else if timeUp then some (bitsOf w3 26 2, bitsOf w3 14 12, 1) else none
  else
    let terms := terms ++ (if w1 = 0 then [] else [decide timeUp])
    if terms = [] then next
    else if bitsOf w2 30 2 = 0 then (if terms.all id then next else none)
    else (if terms.any id then next else none)

/-- The end condition of a running track is evaluated, but not in the tick of a transition (R289, R290). A tick counts
once toward the elapsed time. -/
def State.trkEval (s : State) (t n : Nat) : State :=
  let x := s.track t
  if s.trkState t = 1 ∧ x.tn ≠ n + 1 then
    let el := s.fld Fld.LOC_ELAPSED_TICKS t 0 + (if x.evalN = n + 1 then 0 else 1)
    let s1 := (s.wr Reg.LOC_ELAPSED t 0 (w32 el)).setTrack t { x with evalN := n + 1 }
    match s1.endCond t el with
    | some r => s1.successor t n r.1 r.2.1 r.2.2
    | none => s1
  else s

/-! ### Scheduled commits: arming and firing (R312, R314) -/

/-- The device IDs of a participant list (R320). -/
def armList (it : Item) (n : Nat) : List Nat := (List.range n).map (fun i => bitsOf (it.w (7 + i / 3)) (10 * (i % 3)) 10)

/-- The first readiness check that fails; 0 none. -/
def State.armCheck (s : State) (t p : Nat) (tt : Int) (lead : Nat) : Nat :=
  if !(s.trkEn t) then 1
  else if s.trkState t = 3 ∨ s.aborting t then 2
  else if !(s.stepValid p && bitOf (s.stepWord p 0) 30) then 0x13
  else if (s.slotOfTrack t).isSome ∨ (List.range 8).all (fun k => s.slotState k == 1) then 0x14
  else if !s.locked then 0x10
  else if tt - ((lead : Int) * 100000 + 100000) * 4294967296 < s.timeT then 0x11
  else if s.timeT + 60000000000 * 4294967296 < tt then 0x12 else 0

/-- LOC_SCHED_ARM as decided: the slot is armed, takes its waiting tokens, and sends its own. -/
def State.slotArm (s : State) (it : Item) (st : Stamp) : State :=
  let t := it.inst
  let p := bitsOf (it.w 3) 0 12
  let grp := bitsOf (it.w 3) 16 16
  let lead := bitsOf (it.w 6) 0 16
  let n := bitsOf (it.w 6) 16 5
  let devs := armList it n
  let tt := s.fullTime (it.w 5) (it.w 4)
  let why := s.armCheck t p tt lead
  if why ≠ 0 then s.completeAt it st stState (w32 why) 0 0 0
  else
    let k := ((List.range 8).find? (fun k => s.slotState k != 1)).getD 0
    let self := devs.findIdx (fun d => d == s.device)
    let s1 := s.wr Reg.LOC_SCHED_CTRL k 0 (w32 (536870912 + self * 16777216 + t * 1048576 + grp))
    let s2 := (s1.wr Reg.LOC_SCHED_STEP k 0 (w32 (lead * 65536 + p))).wr Reg.LOC_SCHED_TNS k 0 (it.w 4)
    let s3 := { s2.wr Reg.LOC_SCHED_TSEC k 0 (it.w 5) with
      loc := { s2.loc with slotT := tset 0 s2.loc.slotT k tt, slotPart := tset [] s2.loc.slotPart k devs,
                           slotDead := s2.loc.slotDead.filter (fun j => j != k) } }
    let mine := s3.loc.pend.filter (fun q => q.group == grp && q.t == tt)
    let recv := mine.foldl (fun m q => if q.sent ≤ s3.slotTR k then m ||| 2 ^ q.idx else m) (2 ^ self)
    let s4 := { s3.wr Reg.LOC_SCHED_MASK k 0 (w32 (recv * 65536 + (2 ^ n - 1))) with
      loc := { s3.loc with pend := s3.loc.pend.filter (fun q => !(q.group == grp && q.t == tt)) } }
    let s5 := (s4.slotOthers k).foldl (fun s d => s.emit (.readiness d grp (stampOf tt) self st)) s4
    let s6 := (s5.setF Fld.LOC_TSTAT_ARMED t 0 1).log 0x0206 k (w32 grp) (it.w 5) (it.w 4)
    s6.completeAt it st stDone (w32 k) (w32 self) 0 0

/-- A slot at its tick T (R314, R315). -/
def State.slotFire (s : State) (k n : Nat) : State :=
  let t := s.fld Fld.LOC_SCHED_CTRL_TRACK k 0
  let grp := s.fld Fld.LOC_SCHED_CTRL_GROUP k 0
  let p := s.fld Fld.LOC_SCHED_STEP_STEP k 0
  let recv := s.fld Fld.LOC_SCHED_MASK_RECV k 0
  let ex := s.fld Fld.LOC_SCHED_MASK_EXPECT k 0
  let st := s.trkState t
  let able := s.trkEn t && !(s.aborting t) && (st == 0 || st == 1 || st == 2 || st == 4) && !(s.loc.slotDead.contains k)
  if able ∧ recv = ex then
    ((s.slotTo k 2).stepStart t p 4 n true).log 0x0207 t (w32 grp) (w32 p)
  else
    let s1 := (s.slotTo k 3).log 0x2208 t (w32 grp) (w32 ex) (w32 recv)
    if able then s1.trkHold t n 4 else s1

/-- Whether an armed slot's T is tick `n`. -/
def State.slotDue (s : State) (k n : Nat) : Bool := s.slotState k == 1 && locTickOf (tget 0 s.loc.slotT k) == n

/-- SCHED_SLOT_FIRE (R314): the slot's tick T is the present one. -/
def execSchedSlotFire (k : Nat) (s : State) : Host.Outcome State Fault Refusal :=
  if k < 8 ∧ s.engOn ∧ s.slotDue k (locTickOf s.timeT) then go (s.slotFire k (locTickOf s.timeT)) else go s

/-- READINESS_TOKEN_RX (R313). -/
def execReadinessTokenRx (grp : Nat) (t : Stamp) (idx : Nat) (sent : Stamp) (s : State) : Host.Outcome State Fault Refusal :=
  let tt := stTime t
  match s.slotOfGroup grp tt with
  | some k =>
    if stTime sent ≤ s.slotTR k then
      go (s.setF Fld.LOC_SCHED_MASK_RECV k 0 (s.fld Fld.LOC_SCHED_MASK_RECV k 0 ||| 2 ^ idx))
    else go s
  | none =>
    let p := s.loc.pend ++ [⟨grp, tt, idx, stTime sent, s.mer.base⟩]
    go { s with loc := { s.loc with pend := p.drop (p.length - 16) } }

/-- PENDING_TOKEN_EXPIRY (R313): tokens that have waited for 1 s. -/
def execPendingTokenExpiry (s : State) : Host.Outcome State Fault Refusal :=
  go { s with loc := { s.loc with pend := s.loc.pend.filter (fun q => s.mer.base < q.base + 1000000000) } }

/-- WITHDRAW_NOTICE_RX (R315): the sender's bit clears. -/
def execWithdrawNoticeRx (grp : Nat) (t : Stamp) (idx : Nat) (s : State) : Host.Outcome State Fault Refusal :=
  let tt := stTime t
  let s1 := { s with loc := { s.loc with
    pend := s.loc.pend.filter (fun q => !(q.group == grp && q.t == tt && q.idx == idx)) } }
  match s1.slotOfGroup grp tt with
  | some k =>
    let r := s1.fld Fld.LOC_SCHED_MASK_RECV k 0
    go (s1.setF Fld.LOC_SCHED_MASK_RECV k 0 (putBitsNat r idx 1 0))
  | none => go s1

/-- REMOTE_TOKEN_OUTCOME (R298): any status but DONE is a failure. -/
def execRemoteTokenOutcome (no status : Nat) (s : State) : Host.Outcome State Fault Refusal :=
  match s.loc.tokens.find? (fun x => x.no == no) with
  | none => go s
  | some x =>
    let s1 := { s with loc := { s.loc with tokens := s.loc.tokens.filter (fun y => y.no != no) } }
    if status = stDone then go s1
    else
      let why := if status = stAbsent then 3 else if status = stState then 5 else 4
      go (s1.actFail x.track x.action why x.failhold)

/-! ### Commands (R306 to R310, R320) -/

/-- Whether an opcode makes a transition of its track. -/
def makesMove (op : Nat) : Bool := op == 0x800 || op == 0x803 || op == 0x804 || op == 0x805 || op == 0x802

/-- The reason for which a track refuses a command; 0 none. -/
def State.trkRefuse (s : State) (t op : Nat) : Nat :=
  let st := s.trkState t
  let live := st = 1 ∨ st = 2 ∨ st = 3
  let ok : Bool := if op = 0x800 then st == 0 || st == 4 || st == 5
    else if op = 0x805 then st == 3 || st == 4 || st == 5
    else if op = 0x802 then st == 3 else decide live
  if !(s.trkEn t) then 1
  else if s.aborting t ∧ op ≠ 0x805 ∧ op ≠ 0x800 then 5
  else if !ok then 2
  else if op = 0x802 ∧ s.bitSet (s.tf' t 3) then 3 else 0

/-- A command takes effect at tick `n`. -/
def State.trkCmd (s : State) (t n op : Nat) (it : Item) : State :=
  let st := stampOf ((n : Int) * 100000 * 4294967296)
  if op = 0x808 then s.slotArm it st
  else if op = 0x809 then
    match s.slotOfTrack t with
    | some k =>
      if s.timeT < s.slotTR k then (s.slotWithdraw t).completeAt it st stDone 0 0 0 0
      else s.completeAt it st stState 0x15 0 0 0
    | none => s.completeAt it st stState 0x15 0 0 0
  else
    let why := s.trkRefuse t op
    if why ≠ 0 then s.completeAt it st stState (w32 why) 0 0 0
    else if (op = 0x800 ∨ op = 0x804) ∧ !(s.stepValid (it.w 3).toNat) then
      s.completeAt it st stRange 8 0x102 (it.w 3) 0
    else
      let s1 :=
        if op = 0x800 then s.stepStart t (it.w 3).toNat 3 n false
        else if op = 0x804 then (if s.trkState t = 3 then s.rampsTo t 1 n else s).stepStart t (it.w 3).toNat 2 n false
        else if op = 0x801 then (if s.trkState t = 3 then s else s.trkHold t n 1)
        else if op = 0x803 then s.trkAbort t n 0
        else if op = 0x805 then ((s.rampsStop t).trkTrans t n).trkTo t 0
        else if s.fld Fld.LOC_TSTAT_HOLD_CAUSE t 0 = 5 then
          (s.rampsTo t 1 n).stepStart t (s.track t).next 6 n false
        else
          let s2 := (s.rampsTo t 1 n).trkTo t (s.track t).held
          s2.setTrack t { s2.track t with evalN := n + 1 }
      s1.completeAt it st stDone 0 0 0 0

/-- The commands of a track in arrival order; one that would make a second transition in the tick waits, or one for which
the redo list has no room (R90), and those behind it. Aborted items have no effect. -/
def State.trkCmds (t n : Nat) : List (Nat × Word) → State → State
  | [], s => s
  | k :: r, s =>
    match s.flight k.1 k.2 with
    | none => State.trkCmds t n r s
    | some x =>
      if ((s.track t).tn = n + 1 ∧ makesMove x.opcode) ∨ s.redoFull k.1 k.2 then
        s.setTrack t { s.track t with cmds := k :: r }
      else State.trkCmds t n r (s.trkCmd t n x.opcode x.item)

/-- One track at a tick (step 4 of R289). A track whose slot has fired in the tick has made its transition, and an abort
waits for the next tick (R290). -/
def State.trkTick (s : State) (n t : Nat) : State :=
  let s1 := if !(s.trkEn t) ∧ s.trkState t ≠ 0 then
      (((s.rampsStop t).slotWithdraw t).trkTrans t n).trkTo t 0 else s
  let live := fun (s : State) => (s.trkState t = 1 ∨ s.trkState t = 2 ∨ s.trkState t = 3)
  let s2 := if live s1 ∧ !(s1.aborting t) ∧ s1.bitSet (s1.tf' t 4) ∧ (s1.track t).tn ≠ n + 1 then
      s1.trkAbort t n 1 else s1
  let cmds := (s2.track t).cmds
  let s3 := if cmds = [] then s2 else State.trkCmds t n cmds (s2.setTrack t { s2.track t with cmds := [] })
  let st := s3.trkState t
  let s4 := if (st = 1 ∨ st = 2) ∧ !(s3.aborting t) ∧ s3.bitSet (s3.tf' t 3) then s3.trkHold t n 2 else s3
  s4.trkEval t n

/-- The failures that became known hold their tracks at the end of the tick (R297). -/
def State.failHold (s : State) (n t : Nat) : State :=
  let x := s.track t
  if x.fail then
    let s1 := s.setTrack t { x with fail := false }
    if (s1.trkState t = 1 ∨ s1.trkState t = 2) ∧ !(s1.aborting t) then s1.trkHold t n 3 else s1
  else s

/-- A tick (R289). -/
def State.locTick (s : State) (n : Nat) : State :=
  let cq := s.loc.cq
  let sa : State := { s with loc := { s.loc with cq := [], lastN := n + 1 } }
  let s0 : State := sa.setF Fld.LOC_TICK_N 0 0 n
  let s1 := State.cntOps (stampOf ((n : Int) * 100000 * 4294967296)) cq s0
  let s2 := (List.range 8).foldl (fun s k => if s.slotDue k n then s.slotFire k n else s) s1
  let s3 := (List.range 16).foldl (fun s t => s.trkTick n t) s2
  let s4 := s3.ramps.foldl (fun s g => s.rampTick n g) s3
  let s5 := (List.range 16).foldl (fun s t => s.failHold n t) s4
  if n % 10 = 0 ∧ s5.ramps.any (fun g => s5.rampState g == 1) then
    { s5 with sys := { s5.sys with chkPeriodDue := true } } else s5

/-- LOCUS_TICK (R287 to R289): the tick of this instant, if Meridian time has passed the last one served. -/
def execLocusTick (s : State) : Host.Outcome State Fault Refusal :=
  let n := locTickOf s.timeT
  if s.engOn ∧ s.loc.lastN ≤ n then go (s.expireRemote.locTick n) else go s

/-- STEP_TIMEOUT (R293): the duration of a track's present step expires at this tick, and the track takes its turn of
R289: ABORT_BIT, commands, HOLD_BIT, then the end condition. -/
def execStepTimeout (t : Nat) (s : State) : Host.Outcome State Fault Refusal :=
  let n := locTickOf s.timeT
  let dur := ((s.track t).entry.getD 1 0).toNat
  if t < 16 ∧ s.engOn ∧ s.trkState t = 1 ∧ 0 < dur ∧ dur ≤ s.fld Fld.LOC_ELAPSED_TICKS t 0 + 1 then go (s.trkTick n t)
  else go s

/-- A track command joins those of its track's next tick. -/
def State.locQueue (s : State) (op : Nat) (it : Item) : State :=
  if 15 < it.inst then s.complete it stRange 8 0 (w32 it.inst)
  else
    let s1 := s.holdItem op it []
    let x := s1.track it.inst
    s1.setTrack it.inst { x with cmds := x.cmds ++ [(it.ring, it.seq)] }

/-- LOC_START. -/
def execLocStart (it : Item) (s : State) : Host.Outcome State Fault Refusal := serve it s (fun s => s.locQueue 0x800 it)
/-- LOC_HOLD. -/
def execLocHold (it : Item) (s : State) : Host.Outcome State Fault Refusal := serve it s (fun s => s.locQueue 0x801 it)
/-- LOC_RESUME. -/
def execLocResume (it : Item) (s : State) : Host.Outcome State Fault Refusal := serve it s (fun s => s.locQueue 0x802 it)
/-- LOC_ABORT. -/
def execLocAbort (it : Item) (s : State) : Host.Outcome State Fault Refusal := serve it s (fun s => s.locQueue 0x803 it)
/-- LOC_JUMP. -/
def execLocJump (it : Item) (s : State) : Host.Outcome State Fault Refusal := serve it s (fun s => s.locQueue 0x804 it)
/-- LOC_RESET. -/
def execLocReset (it : Item) (s : State) : Host.Outcome State Fault Refusal := serve it s (fun s => s.locQueue 0x805 it)

/-- A counter item joins the writes of the next tick. -/
def State.cntItem (s : State) (op : Nat) (it : Item) (kind : Nat) (v : Int) : State :=
  if 1023 < it.inst then s.complete it stRange 8 0x100 (w32 it.inst)
  else (s.holdItem op it []).cntPut ⟨kind, it.inst, v, some (it.ring, it.seq)⟩

/-- LOC_TOKEN (R301). -/
def execLocToken (it : Item) (s : State) : Host.Outcome State Fault Refusal :=
  serve it s (fun s =>
    if it.w 3 = 0 ∨ 255 < (it.w 3).toNat then s.complete it stFormat 12
    else s.cntItem 0x806 it 0 (it.w 3).toNat)

/-- LOC_COUNTER as decided: word 3 selects SET or ADD. -/
def State.locCounter (s : State) (it : Item) : State :=
  if 1 < (it.w 3).toNat then s.complete it stFormat 12 else s.cntItem 0x807 it (1 + (it.w 3).toNat) (sInt (it.w 4))

/-- LOC_COUNTER_SET (R301). -/
def execLocCounterSet (it : Item) (s : State) : Host.Outcome State Fault Refusal := serve it s (fun s => s.locCounter it)
/-- LOC_COUNTER_ADD (R301). -/
def execLocCounterAdd (it : Item) (s : State) : Host.Outcome State Fault Refusal := serve it s (fun s => s.locCounter it)

/-- The first malformed word of LOC_SCHED_ARM, as a byte offset (R312, R320); 0 none. -/
def State.armFormat (s : State) (it : Item) : Nat :=
  let n := bitsOf (it.w 6) 16 5
  let lead := bitsOf (it.w 6) 0 16
  let devs := armList it n
  if bitsOf (it.w 3) 16 16 = 0 then 12
  else if 1000000000 ≤ (it.w 4).toNat ∨ (it.w 4).toNat % 100000 ≠ 0 then 16
  else if lead < 2 ∨ 10000 < lead ∨ n < 2 ∨ 16 < n then 24
  else if devs.eraseDups.length ≠ n ∨ !(devs.contains s.device) then 28 else 0

/-- LOC_SCHED_ARM (R312). -/
def execLocSchedArm (it : Item) (s : State) : Host.Outcome State Fault Refusal :=
  serve it s (fun s =>
    let f := s.armFormat it
    if f ≠ 0 then s.complete it stFormat (w32 f) else s.locQueue 0x808 it)

/-- LOC_SCHED_CANCEL (R315). -/
def execLocSchedCancel (it : Item) (s : State) : Host.Outcome State Fault Refusal :=
  serve it s (fun s => s.locQueue 0x809 it)

/-! ### Commits and stops (R292, R299, R316, R318) -/

/-- Whether a track runs an entry that a set of keys changes. -/
def State.runsChanged (s : State) (t : Nat) (keys : List Nat) : Bool :=
  let st := s.trkState t
  let w0 := (s.track t).entry.getD 0 0
  let p := s.fld Fld.LOC_TSTAT_STEP t 0
  (st == 1 || st == 2 || st == 3) && keys.any (fun k => keyBlock k == 8 && keyInst k == 16 &&
    ((keyFld k == 0x102 && keyElem k / 4 == p) ||
     (keyFld k == 0x101 && bitsOf w0 0 14 ≤ keyElem k / 4 && keyElem k / 4 < bitsOf w0 0 14 + bitsOf w0 14 8)))

/-- Counter definitions take effect (R299): `old` tells which counters were defined before. -/
def State.cntDefs (s : State) (keys : List Nat) : State :=
  keys.foldl (fun s k =>
    if keyBlock k = 8 ∧ keyFld k = 0x100 then
      let c := keyElem k
      let w := s.cf Cf.LOC_CNT_DEF 16 c
      if !(bitOf w 31) then s.wr Reg.LOC_CNT c 0 0
      else if s.bit Fld.LOC_CNT_DEF c 0 then s
      else s.wr Reg.LOC_CNT c 0 (w32 (2147483648 + bitsOf w 0 16))
    else s) s

/-- Locus takes the values of changed keys; the answer lists the tracks whose next transition the item waits for. -/
def State.takenLoc (s : State) (keys : List Nat) : State × List Nat :=
  let s1 := s.cntDefs keys
  (s1, (List.range 16).filter (fun t =>
    let st := s1.trkState t
    let mine := keys.filter (fun k => keyBlock k == 8 && keyInst k == t)
    let dis := mine.any (fun k => keyFld k == 0) && !(s1.trkEn t) && st != 0
    let fields := mine.any (fun k => keyFld k != 0) && (st == 1 || st == 2 || st == 3)
    dis || fields || s1.runsChanged t keys))

/-- Armed slots become FAILED at a restart (R316). -/
def State.slotsFail (s : State) : State :=
  (List.range 8).foldl (fun s k =>
    if s.slotState k = 1 then
      (s.slotTo k 3).log 0x2208 (s.fld Fld.LOC_SCHED_CTRL_TRACK k 0) (w32 (s.fld Fld.LOC_SCHED_CTRL_GROUP k 0))
        (w32 (s.fld Fld.LOC_SCHED_MASK_EXPECT k 0)) (w32 (s.fld Fld.LOC_SCHED_MASK_RECV k 0))
    else s) s

/-- Every counter that is defined takes its initial value, every track is IDLE and every generator free (R84, R98). -/
def State.locCold (s : State) : State :=
  let keep := (List.range 16).map (fun t => s.rd Reg.LOC_TRANS t 0)
  let s1 := { s with regs := s.regs.filter (fun kv => !(0xA0000 ≤ kv.1 && kv.1 < 0xC0000)),
                     loc := { s.loc with tracks := [], cq := [], born := [], slotT := [], slotPart := [], slotDead := [], pend := [] } }
  let s2 := (List.range 16).foldl (fun s t => s.wr Reg.LOC_TRANS t 0 (keep.getD t 0)) s1
  let cs := s2.cfg.active.filterMap (fun kv =>
    if keyBlock kv.1 = 8 ∧ keyFld kv.1 = 0x100 ∧ bitOf kv.2 31 then some kv.1 else none)
  s2.cntDefs cs

end Sys2Proof.Machine
end

