-- ==== Sys2Proof/Machine/FctLink.lean ====
section
/-! DEFINITION. The link end of a Facet: its downstream frames, the upstream frames it takes, and the link going DOWN
and UP (spec/06_facet_digital.md R173 to R184, spec/07_facet_analog.md R220 to R246). -/

namespace Sys2Proof.Machine

/-! ### Delivery of the configuration (R182, R229) -/

/-- The Facet that an FCT instance belongs to: its channels and its own instance 128 + n. -/
def facetOf (inst : Nat) : Nat := if inst < 128 then inst / 8 else inst - 128

/-- The update that gives a Facet its whole committed configuration and its calibration sets. -/
def State.fullUpd (s : State) (n : Nat) : FctUpd :=
  { full := true, variant := some (s.bit Fld.MIR_STATUS_PAIRVAR 0 0),
    vals := (s.cfg.active.filter (fun kv => keyBlock kv.1 == 0x12 && facetOf (keyInst kv.1) == n)).map
      (fun kv => ⟨kv.1, kv.2⟩),
    cals := (List.range 32).filterMap (fun k =>
      (s.calSet (8 * n + k / 4) (k % 4)).map (fun ab => (32 * n + k, ab.1, ab.2))) }

/-- An update is on its way to a Facet whose link is UP; another Facet takes its configuration at its next training. -/
def State.pushUpd (s : State) (n : Nat) (u : FctUpd) : State :=
  let f := s.facet n
  if s.linkUp n then s.setFacet n { f with updates := f.updates ++ [u] } else s.setFacet n { f with delivered := false }

/-- The chunks of a shadow (R182, R246). -/
def allChunks : List Nat := List.range 32

/-- A validated item that has not been journaled changes the configuration of a Facet (R182). -/
def State.shadowDue (s : State) (n : Nat) : Bool :=
  s.cfg.jobs.any (fun j => !j.journaled && j.changes.any (fun c => keyBlock c.key == 0x12 && facetOf (keyInst c.key) == n))

/-- FCT_CALINFO of a channel as its records stand. -/
def State.showCal (s : State) (ch : Nat) : State :=
  s.setF Fld.FCT_CALINFO_ORIGIN (ch / 8) (ch % 8)
    ((List.range 4).foldl (fun w r => w + calOrigin r (s.calRec ch r) * 4 ^ r) 0)

/-! ### Items that take effect with the next downstream frame (R210, R203, R229, R230) -/

/-- FCT_OUTPUT takes effect: an AO value outside the mode's range is clamped. -/
def State.frameOutput (s : State) (it : Item) : State :=
  let m := s.chMode it.inst
  let v := it.w 3
  if isAO m then
    let x := clamp32 (modeLo m) (modeHi m) v
    (s.ownerWrite it.inst x).completeClamped it (if x = v then [] else [⟨true, 1, 0x12, 0xFFFF, 0, it.inst, v, x, 0⟩])
  else (s.ownerWrite it.inst v).completeClamped it []

/-- FCT_RESTORE takes effect: the shed and overloaded outputs that its mask names. -/
def State.frameRestore (s : State) (it : Item) : State :=
  let ks := (List.range 8).filter (fun k => bitOf (it.w 3) k && s.isShed (8 * it.inst + k))
  (ks.foldl (fun s k => s.restoreOut (8 * it.inst + k) 0) s).complete it stDone (w32 (ks.foldl (fun w k => w + 2 ^ k) 0))

/-- FCT_CALSET_WRITE takes effect: the record in MRAM, and its set on the way to the Facet. -/
def State.frameCalset (s : State) (it : Item) : State :=
  let ch := it.inst
  let r := (it.w 3).toNat
  let old := calOrigin r (s.calRec ch r)
  let s1 : State := { s with mram := memPutWords s.mram (calAddr ch r) (s.calUser ch r (it.w 4) (it.w 5)) }
  let s2 := (s1.pushUpd (ch / 8) ⟨false, none, [], [(4 * ch + r, it.w 4, it.w 5)]⟩).showCal ch
  (s2.log 0x1499 ch (w32 r) (w32 old)).complete it stDone

/-- FCT_TRIMDRIVE takes effect: the command follows in the frames to come. -/
def State.frameTrim (s : State) (it : Item) : State :=
  let f := s.facet (it.inst / 8)
  (s.setFacet (it.inst / 8) { f with cmds := f.cmds ++ [(4, it.inst % 8 + (it.w 3).toNat % 4 * 256)] }).complete it stDone

/-- One held item of a Facet; FCT_OUTPUT waits for room on the redo list (R90). -/
def State.frameItem (s : State) (x : Inflight) : State :=
  if s.redoFull x.item.ring x.item.seq then s
  else if x.opcode = 0x1200 then s.frameOutput x.item
  else if x.opcode = 0x1201 then s.frameRestore x.item
  else if x.opcode = 0x1213 then s.frameCalset x.item
  else s.frameTrim x.item

/-- Whether an item is held for the next frame of a Facet. -/
def heldFor (n : Nat) (x : Inflight) : Bool :=
  x.phase == .waiting && ((x.opcode == 0x1201 && x.item.inst == n) ||
    ((x.opcode == 0x1200 || x.opcode == 0x1213 || x.opcode == 0x1214) && x.item.inst / 8 == n))

/-- The held items of a Facet take effect, oldest first. -/
def State.frameItems (s : State) (n : Nat) : State :=
  (s.hif.inflight.filter (fun x => heldFor n x && !(s.frozen x.item))).foldl State.frameItem s

/-! ### The downstream frame (R22, R174, R184, R270, R541, R552, R555) -/

/-- A value on a ramp of 40 frames, `j` the frame of the ramp counted from 1. -/
def rampPart (v : Word) (j : Nat) : Word := rampOf v j 40

/-- The frame of a ramp that began at base counter `b`, counted from 1; 0 before it begins. -/
def State.rampFrame (s : State) (b : Nat) : Nat := if s.mer.base < b then 0 else (s.mer.base - b) / 1000 + 1

/-- A value under the ramps of a takeover or handover (R555, R557, R558): current and voltage outputs follow the ramp;
a digital output closes with the first frame of the rising ramp and opens at the end of the falling one. -/
def State.pairRamp (s : State) (m : Nat) (v : Word) : Word :=
  match s.mir.rampUp with
  | some b =>
    let j := s.rampFrame b
    if isAO m then (if 40 ≤ j then v else rampPart v j) else if j = 0 then 0 else v
  | none =>
    match s.mir.rampDown with
    | some b =>
      let j := s.rampFrame b
      if isAO m then rampPart v (40 - j) else if 40 < j then 0 else v
    | none => if s.standby then 0 else v

/-- OUT of a channel: the Lattice gate over the owner's latest value (orders 4 and 5 of R22). -/
def State.frameOut (s : State) (ch : Nat) : Word :=
  s.pairRamp (s.chMode ch) ((s.gate ch).getD (s.chan ch).own)

/-- Whether the owner of an output is out of reset (R184). -/
def State.ownerUp (s : State) (ch : Nat) : Bool := s.cfN Cf.FCT_OWNER ch == 0 || s.domOn 3

/-- CFG_VALID: the Facet holds its committed configuration, and nothing of it is on its way. -/
def State.cfgValid (s : State) (n : Nat) : Bool :=
  s.fct.linkCfg && (s.facet n).delivered && (s.facet n).updates.isEmpty

/-- OWNER_VALID of a channel. The standby drives 0 mA and open (R541). -/
def State.ownerValid (s : State) (ch : Nat) : Bool :=
  s.cfgValid (ch / 8) && s.baseId != 3 && isOut (s.chMode ch) && ((s.chan ch).ownHas || s.standby) && s.ownerUp ch

/-- FBSP of a slot (R270). -/
def State.frameFbsp (s : State) (n sl : Nat) : Word :=
  let src := (tabGet cfgDefault s.cfg.active (cfgKey 0x12 (128 + n) (0x114 + 8 * sl) 0)).toNat
  if src < 256 then 0
  else
    let l := src - 256
    let p := s.loop l
    let sp := if p.sampled then p.spw else s.cf Cf.TAN_SP_INIT l 0
    w32f (Fl.div fmt32 (Fl.sub fmt32 (f32 sp) (s.tf Cf.TAN_IN_OFFSET l)) (s.tf Cf.TAN_IN_SCALE l))

/-- CFGDATA of a chunk: 24 + k holds the factors of local channel k (R246); the layout of the others is not stated, and
their words are free. -/
def State.frameChunk (s : State) (n i : Nat) : List Word × State :=
  if 24 ≤ i then
    ((List.range 4).flatMap (fun r =>
      let ab := (s.calSet (8 * n + (i - 24)) r).getD (calNominal r)
      [ab.1, ab.2]), s)
  else ((List.range 8).map (fun k => Config.freeWord (s.free + k)), { s with free := s.free + 8 })

/-- What the HART modem of a frame carries (R243, R244, R246): the control and data symbols, and the state after it. -/
def State.frameHart (s : State) (n : Nat) : Nat × Nat × State :=
  let f := s.facet n
  match f.hart with
  | none => (0, 0, s)
  | some t =>
    match s.flight t.ring t.seq with
    | none => (0, 0, s.hartEnd n)
    | some x =>
      let len := (x.item.w 6).toNat
      let ctl := t.ch + (if bitOf (x.item.w 3) 0 then 16 else 0)
      if t.closed ∨ !t.ready then (0, 0, s)
      else if t.sent < len then
        let b := ((s.bufTake x.item (bufAddr x.item 4 + t.sent) 1).getD 0 0).toNat
        (ctl + 32 + (if t.sent = 0 then 128 else 0), b,
          s.setFacet n { f with hart := some { t with sent := t.sent + 1, ready := false } })
      else
        if s.frozen x.item then (0, 0, s) else if s.mirWait x.item then (0, 0, s.intend x.item)
        else
          let s1 := s.commitItem x.item stDone
          let now := s1.now
          let note := [w32 now.sec, w32 (now.sec / 4294967296), w32 now.ns]
          (ctl + 64, 0, { s1 with hif := { s1.hif with
              inflight := flightUpd t.ring t.seq (fun y => { y with note := note }) s1.hif.inflight } }.setFacet n
            { f with hart := some { t with closed := true, closedAt := s1.mer.base } })

/-- Whether the next frame carries APPLY: an update is on its way, and the Facet's shadow holds a whole configuration
before it is taken (R182); a direct write travels alone (R183). -/
def FacetSt.applies (f : FacetSt) : Bool :=
  match f.updates with
  | u :: _ => !u.full || f.need.isEmpty
  | [] => false

/-- The chunk of the next frame: those that the Facet has not confirmed in turn, else all in turn (R182). -/
def FacetSt.nextChunk (f : FacetSt) : Nat := f.need.headD f.cfgIdx

/-- A frame with a given FSEQ has gone out: its chunk waits for its confirmation, and a pause between two commands, CMD 0,
goes out once. -/
def FacetSt.sentFrame (f : FacetSt) (fseq : Nat) : FacetSt :=
  { f with fseq := (fseq + 1) % 256, cfgIdx := (f.nextChunk + 1) % 32, abort := false,
           sent := (f.sent ++ [(fseq, f.nextChunk)]).drop (f.sent.length - 31),
           need := match f.need with
             | c :: cs => cs ++ [c]
             | [] => [],
           cmds := if f.cmds.headD (1, 0) = (0, 0) then f.cmds.drop 1 else f.cmds }

/-- The frame that a link end sends, symbols 1 to 124, and the state after it. -/
def State.composeFrame (s : State) (n : Nat) : List Byte × State :=
  let f := s.facet n
  let ov := (List.range 8).foldl (fun w k => if s.ownerValid (8 * n + k) then w + 2 ^ k else w) 0
  let dctl := (if s.cfgValid n then 1 else 0) + (if f.applies then 2 else 0) + (if f.abort then 4 else 0)
  let outs := (List.range 8).map (fun k => s.frameOut (8 * n + k))
  let sps := (List.range 4).map (fun sl => s.frameFbsp n sl)
  let cmd := f.cmds.headD (0, 0)
  let (chunk, s1) := s.frameChunk n f.nextChunk
  let (hc, hd, s2) := s1.frameHart n
  let body := [by8 f.fseq, by8 dctl, by8 ov] ++ wBytes outs ++ wBytes sps ++ [by8 f.nextChunk] ++ wBytes chunk ++
    [by8 cmd.1] ++ bytesOf (w32 cmd.2) ++ [by8 hc, by8 hd] ++ List.replicate 31 0
  let crc := crc16 body
  (body ++ [by8 (crc / 256), by8 crc], s2.setFacet n ((s2.facet n).sentFrame f.fseq))

/-- FACET_FRAME_TICK (R173, R174, R544): the held items of the Facet take effect, and the link end sends its frame; the
active member of a pair sends a TICK. A link end
in reset or without power sends none (R612). -/
def execFacetFrameTick (n : Nat) (s : State) : Host.Outcome State Fault Refusal :=
  if n < 16 ∧ s.domOn 7 ∧ s.sys.mode = .running then
    let (bs, s1) := (s.expireRemote.frameItems n).composeFrame n
    let tick : List Out :=
      if s.mirState = 2 then [.tick ((s.timeT / 4294967296 / 1000) % 256).toNat] else []
    go { s1 with out := tick ++ Out.facet n bs :: s1.out, mir := { s1.mir with ownFrame := s.timeT } }
  else go s

/-! ### The link DOWN and UP (R181, R204, R234, R612) -/

/-- Every channel of a Facet keeps its value with quality BAD. -/
def State.facetBad (s : State) (n : Nat) : State :=
  (facetChans n).foldl (fun s ch =>
    let s1 := if isIn (s.chMode ch) || isOut (s.chMode ch) then s.setCo ch { s.co ch with q := 15 } else s
    (s1.setF Fld.FCT_CHSTAT_QUALITY n (ch % 8) 15).setChan ch { s1.chan ch with presNew := false }) s

/-- A diagnosis that the link going DOWN ends (R234): its item completes with the event of the link. -/
def State.diagLost (s : State) (n : Nat) (seq : Word) : State :=
  match (s.facet n).diag with
  | none => s
  | some d =>
    let s1 := ((s.setFacet n { s.facet n with diag := none }).setF Fld.FCT_DIAGSTAT_BUSY n 0 0).setF
      Fld.FCT_DIAGSTAT_VERDICT n 0 5
    match s1.flight d.ring d.seq with
    | some x => s1.complete x.item stFault 0x4481 seq
    | none => s1

/-- The link end declares the link DOWN and starts training again. An update that has not been taken is void, and the
Facet takes its configuration at the training; commands of a diagnosis are dropped, and the Facet reconnects SIG
(R234). -/
def State.linkDown (s : State) (n : Nat) : State :=
  let f := s.facet n
  let s1 := ((s.setF Fld.FCT_LINK_STATE n 0 1).incF Fld.FCT_LINKDOWN_DOWNS n 0 1).facetBad n
  let s2 := s1.setFacet n { f with upSeq := none, invalid := 0, updates := [], need := [], sent := [],
                                   cmds := f.cmds.filter (fun c => c.1 != 2 && c.1 != 3), fdiag := none,
                                   delivered := f.delivered && f.updates.isEmpty }
  let seq := s2.tr.hlx.seq
  (s2.log 0x4481 n (w32 (s2.fld Fld.FCT_LINKERR_CRCERR n 0)) (w32 (s2.fld Fld.FCT_LINKERR_CODEERR n 0))).diagLost n seq

/-- FACET_LINK_DOWN (R181): 8 µs without a comma. -/
def execFacetLinkDown (n : Nat) (s : State) : Host.Outcome State Fault Refusal :=
  if n < 16 ∧ s.linkUp n then go (s.linkDown n) else go s

/-- The link end holds the Facet's committed configuration and calibration sets and delivers them, unless the Facet has
them already; a Facet that its supply has reset runs FCT_CAL (R182, R204). -/
def State.linkDeliver (s : State) (n : Nat) : State :=
  let f := s.facet n
  let s1 := (facetChans n).foldl (fun s ch => s.showCal ch) s
  if s.fct.linkCfg ∧ !f.delivered then
    s1.setFacet n { f with delivered := true, updates := [s.fullUpd n], need := allChunks,
                           cmds := if f.restarted then f.cmds ++ [(1, 0)] else f.cmds }
  else if s1.shadowDue n then s1.setFacet n { f with need := allChunks }
  else s1

/-- A link has trained, with the delay it measured (R181). The slice factors that the Facet has kept show again. -/
def State.linkTrained (s : State) (n delay : Nat) : State :=
  let s1 := (s.setF Fld.FCT_LINK_STATE n 0 2).setF Fld.FCT_LINK_DELAY n 0 delay
  let s2 := (s1.setFacet n { s1.facet n with upSeq := none, invalid := 0, spot := s1.fld Fld.FCT_SPOT_SEL_CH n 0 }).showSlices n
  let s3 := (facetChans n).foldl (fun s ch => s.setChan ch { s.chan ch with ownHas := false }) s2
  (s3.linkDeliver n).log 0x0480 n (w32 (s3.fld Fld.FCT_LINK_DELAY n 0))

/-- FACET_LINK_UP. -/
def execFacetLinkUp (n delay : Nat) (s : State) : Host.Outcome State Fault Refusal :=
  if n < 16 ∧ s.domOn 7 ∧ s.sys.mode = .running ∧ !(s.linkUp n) then go (s.linkTrained n delay) else go s

/-! ### The upstream frame (R175, R176, R178, R180) -/

/-- Low bits of a number as a signed value. -/
def signBits (n wd : Nat) : Int :=
  let m := n % 2 ^ wd
  if m < 2 ^ (wd - 1) then (m : Int) else (m : Int) - 2 ^ wd

/-- A code of a sample word as binary32 (R220). -/
def State.codeVal (s : State) (ch code : Nat) : Word :=
  w32f (Fl.ofRat fmt32 (signBits code 18) (codesPer (s.ownMode ch) (s.own Cf.FCT_HART_MULTIDROP ch == 1)))

/-- Whether a channel has no valid set for its range, or the last FCT_CAL of its Facet failed. -/
def State.uncal (s : State) (ch : Nat) : Bool :=
  s.bit Fld.FCT_CALSTAT_FAIL (ch / 8) 0 ||
    (match calRange (s.ownMode ch) with
     | some r => s.fld Fld.FCT_CALINFO_ORIGIN (ch / 8) (ch % 8) / 4 ^ r % 4 == 0
     | none => false)

/-- The quality of an input sample with given FLAGS (R223). -/
def State.inputQ (s : State) (ch flags : Nat) : Nat :=
  if flags = 2 then 15 else if flags = 3 then 3 else if s.uncal ch then 8 else if flags = 1 then 1 else 0

/-- The quality of an output's present value with its CHST flags. -/
def State.outputQ (s : State) (ch chst : Nat) : Nat :=
  if chst % 2 = 1 ∨ chst / 64 % 2 = 1 then 15 else if s.uncal ch then 8
  else if chst / 16 % 4 ≠ 0 then 1 else 0

/-- The word of the spot channel reaches FCT_SPOT (R224). -/
def State.spotWord (s : State) (n ch flags code : Nat) : State :=
  if s.bit Fld.FCT_SPOT_NEW n 0 then s.wr Reg.FCT_SPOT n 0 (w32 (3 * 2 ^ 30 + ch * 2 ^ 20 + flags * 2 ^ 18 + code))
  else s.wr Reg.FCT_SPOT n 0 (w32 (2 ^ 31 + s.fld Fld.FCT_SPOT_OVR n 0 * 2 ^ 30 + ch * 2 ^ 20 + flags * 2 ^ 18 + code))

/-- The code of a HELD word reaches the diagnosis of its channel (R222, R232). -/
def FacetSt.diagWord (f : FacetSt) (k : Nat) (t : Int) (code : Nat) : FacetSt :=
  { f with diag := f.diag.map (fun d =>
      if d.ch = k ∧ d.since.isSome then { d with codes := d.codes ++ [(t, signBits code 18)] } else d) }

/-- One sample word of a frame that started at `t0` (R176, R29). A HELD word gives the value and the code of the last word
that was not HELD; its own code reaches the diagnosis and FCT_SPOT only (R222). -/
def State.takeSample (s : State) (n fseq : Nat) (t0 : Int) (w : Word) : State :=
  let k := bitsOf w 28 3
  let ch := 8 * n + k
  let flags := bitsOf w 18 2
  let code := bitsOf w 0 18
  if bitOf w 31 && isAI (s.ownMode ch) && (s.chan ch).oldSeq != some fseq then
    let t := t0 + signBits (bitsOf w 20 8) 8 * 8 * 4294967296
    let s1 := if k = (s.facet n).spot then s.spotWord n k flags code else s
    if flags = 3 then
      let s2 := s1.setFacet n ((s1.facet n).diagWord k t code)
      s2.sample ch (s2.chan ch).last (s2.inputQ ch 3) t (w32 (3 * 2 ^ 18 + (s2.chan ch).lastCode))
    else
      let v := s1.codeVal ch code
      let s2 := s1.setChan ch { s1.chan ch with last := v, lastCode := code }
      s2.sample ch v (s2.inputQ ch flags) t (w32 (flags * 2 ^ 18 + code))
  else s

/-- An edge of a PI channel (R206, R207): the count and the edges of its gate. -/
def State.takeEdge (s : State) (ch : Nat) (t : Int) : State :=
  let c := s.chan ch
  (s.setChan ch { c with gateN := c.gateN + 1, gateFirst := if c.gateN = 0 then t else c.gateFirst, gateLast := t }).wr
    Reg.FCT_PICOUNT (ch / 8) (ch % 8) (s.rd Reg.FCT_PICOUNT (ch / 8) (ch % 8) + 1)

/-- A bit from each of the eight CHST bytes. -/
def chstBits (bs : List Byte) (b : Nat) : Nat :=
  (List.range 8).foldl (fun w k => if sym bs (104 + k) / 2 ^ b % 2 = 1 then w + 2 ^ k else w) 0

/-- The status registers as a valid frame gives them. -/
def State.takeStatus (s : State) (n : Nat) (bs : List Byte) : State :=
  let s1 := s.wr Reg.FCT_STATUS n 0 (w32 (2 * sym bs 3))
  let volt := sym bs 112 + 256 * sym bs 113
  let low := s.fld Fld.FCT_SUPPLY_MIN n 0
  let s2 := (s1.setF Fld.FCT_SUPPLY_VOLT n 0 volt).setF Fld.FCT_SUPPLY_MIN n 0 (if low = 0 then volt else Nat.min low volt)
  let f := s2.facet n
  let temp := sym bs 114
  let peak := s.fld Fld.FCT_TEMP_PEAK n 0
  let peak := if f.tempSeen && decide (signBits temp 8 ≤ signBits peak 8) then peak else temp
  let s3 := ((s2.setF Fld.FCT_TEMP_TEMP n 0 temp).setF Fld.FCT_TEMP_PEAK n 0 peak).setFacet n { f with tempSeen := true }
  let outs := (List.range 8).foldl (fun w k => if isOut (s.chMode (8 * n + k)) then w + 2 ^ k else w) 0
  let s4 := s3.wr Reg.FCT_OUTSTAT n 0
    (w32 ((chstBits bs 0 &&& outs) * 2 ^ 24 + chstBits bs 1 * 2 ^ 16 + sym bs 87 * 256 + chstBits bs 2))
  let s5 := (List.range 8).foldl (fun s k => s.setF Fld.FCT_CHSTAT_FLAGS n k (sym bs (104 + k))) s4
  s5.wr Reg.FCT_DICUR n 0 (w32 (sym bs 84 + 256 * sym bs 85))

/-- The present value of one output (R175, R223, R274). -/
def State.takePresent (s : State) (n : Nat) (t0 : Int) (bs : List Byte) : State :=
  let k := sym bs 118 % 8
  let ch := 8 * n + k
  let v := symWord bs 119
  let s0 := (facetChans n).foldl (fun s c =>
    if isOut (s.chMode c) && s.outCond c then s.setChan c { s.chan c with presNew := false } else s) s
  if isOut (s.chMode ch) then
    let q := s.outputQ ch (sym bs (104 + k))
    let s1 := ((s0.coPut ch v q t0).wr Reg.FCT_VALUE n k v).setF Fld.FCT_CHSTAT_QUALITY n k q
    if s.outCond ch then s1 else s1.setChan ch { s1.chan ch with presNew := true }
  else s0

/-- A frame confirms the downstream frame that its DACK names: the chunk of that frame is in the shadow (R175, R182). -/
def FacetSt.confirmed (f : FacetSt) (dack : Nat) : FacetSt :=
  match f.sent.find? (fun x => x.1 == dack) with
  | some x => { f with need := f.need.filter (fun c => c != x.2), sent := f.sent.filter (fun y => y.1 != dack) }
  | none => f

/-- The debounced states that a frame reports changed, in a reporting interval that began at `b`, reach their consumers
(R175, R196, R197); a change that has reached them is not repeated. -/
def State.takeDi (s : State) (n : Nat) (b : Int) (bs : List Byte) : State :=
  (List.range 8).foldl (fun s k =>
    let ch := 8 * n + k
    let on := sym bs 84 / 2 ^ k % 2 = 1
    let t := b + ((sym bs (88 + k) % 128 : Nat) : Int) * 8 * 4294967296
    let c := s.chan ch
    if sym bs 86 / 2 ^ k % 2 = 1 ∧ s.ownMode ch = 7 ∧ c.oldSeq ≠ some (sym bs 1) ∧ c.lastAt < t ∧
        c.last ≠ (if on then 1 else 0) then s.diDeliver ch on t
    else s) s

/-- The HART receive symbols of a frame (R243, R246): TX_READY, a byte, and the end of a frame, in error or not. -/
def State.takeHartRx (s : State) (n rxc rxd : Nat) : State :=
  let f := s.facet n
  let s1 := match f.hart with
    | some h => s.setFacet n { f with hart := some { h with
        ready := h.ready || decide (128 ≤ rxc), rx := if rxc / 32 % 2 = 1 then h.rx ++ [by8 rxd] else h.rx } }
    | none => s
  if rxc / 16 % 2 = 1 then
    s1.hartReply n (match (s1.facet n).hart with
      | some h => h.rx
      | none => []) (rxc / 8 % 2 = 0)
  else s1

/-- The commands still to be sent behind one that is acknowledged: a pause lets the Facet see the next as a new one. -/
def cmdsAfter (cs : List (Nat × Nat)) : List (Nat × Nat) := if cs.isEmpty then [] else (0, 0) :: cs

/-- The acknowledgement of a command (R246): the first BUSY is the commit point of FCT_CAL and FCT_DIAG. -/
def State.takeAck (s : State) (n ack : Nat) : State :=
  let f := s.facet n
  match f.cmds with
  | [] => s
  | c :: cs =>
    if ack % 64 = c.1 ∧ ack / 64 ≠ 0 then
      let s1 := s.setFacet n { f with cmds := cmdsAfter cs }
      if ack / 64 = 1 ∧ c.1 = 1 then
        let s2 := s1.setF Fld.FCT_CALSTAT_BUSY n 0 1
        match s2.begun 0x1210 (fun i => i == n) with
        | some x => s2.commitItem x.item stDone
        | none => s2
      else if ack / 64 = 1 ∧ (c.1 = 2 ∨ c.1 = 3) then
        match f.diag with
        | some d =>
          let began := (f.fdiag.map (fun x => x.since)).getD s.timeT
          let s2 := s1.setFacet n { s1.facet n with diag := some { d with since := some began } }
          match s2.flight d.ring d.seq with
          | some x => s2.commitItem x.item stDone
          | none => s2
        | none => s1
      else s1
    else s

/-- A valid upstream frame. Its samples carry the time of the frame start less the propagation delay (R29). -/
def State.takeUp (s : State) (n : Nat) (bs : List Byte) : State :=
  let f := s.facet n
  let t0 := s.timeT - (s.fld Fld.FCT_LINK_DELAY n 0 : Int) * 4294967296
  let s0 := if f.invalid ≠ 0 ∧ s.domOn 4 then
      { s with fct := { s.fct with toPrm := s.fct.toPrm ++ [⟨2, n, 0, 0, 0, t0⟩] } } else s
  let g := (s0.facet n).confirmed (sym bs 2)
  let s1 := (s0.setFacet n { g with upSeq := some (sym bs 1), invalid := 0 }).takeStatus n bs
  let s2 := (List.range 20).foldl (fun s j => s.takeSample n (sym bs 1) t0 (symWord bs (4 + 4 * j))) s1
  let s3 := s2.setFacet n { s2.facet n with spot := s2.fld Fld.FCT_SPOT_SEL_CH n 0 }
  let b := t0 - 1000 * 4294967296
  let s4 := (List.range 8).foldl (fun s k =>
    let e := sym bs (96 + k)
    if 128 ≤ e ∧ s.ownMode (8 * n + k) = 9 then
      s.takeEdge (8 * n + k) (b + ((e % 128 : Nat) : Int) * 8 * 4294967296)
    else s) s3
  let s5 := (((s4.takeDi n b bs).takePresent n t0 bs).takeAck n (sym bs 117)).takeHartRx n (sym bs 115) (sym bs 116)
  (facetChans n).foldl (fun s ch => s.setChan ch { s.chan ch with oldSeq := none }) s5

/-- An invalid upstream frame (R180, R181). -/
def State.badUp (s : State) (n : Nat) (codeErr : Bool) : State :=
  let f := s.facet n
  let t0 := s.timeT - (s.fld Fld.FCT_LINK_DELAY n 0 : Int) * 4294967296
  let s1 := (s.incF (if codeErr then Fld.FCT_LINKERR_CODEERR else Fld.FCT_LINKERR_CRCERR) n 0 1).lostMark n t0
  let s2 := (s1.setFacet n { f with invalid := f.invalid + 1, spot := s1.fld Fld.FCT_SPOT_SEL_CH n 0 }).logLim 1000000000 0x2482 n (fun k => (w32 k, 0))
  if 8 ≤ f.invalid + 1 then s2.linkDown n else s2

/-- UPSTREAM_FRAME_RX (R175, R178): while the link is UP. FSEQ is that of the last valid frame plus 1. -/
def execUpstreamFrameRx (n : Nat) (sof codeErr : Bool) (bytes : List Byte) (s : State) :
    Host.Outcome State Fault Refusal :=
  if n < 16 ∧ s.domOn 7 ∧ s.sys.mode = .running ∧ s.linkUp n then
    let seqOk := match (s.facet n).upSeq with
      | some q => sym bytes 1 == (q + 1) % 256
      | none => true
    if sof && !codeErr && bytes.length == 124 && frameCrcOk bytes && seqOk then go (s.takeUp n bytes)
    else go (s.badUp n codeErr)
  else go s

end Sys2Proof.Machine
end

