-- ==== Sys2Proof/Machine/Can.lean ====
section
/-! DEFINITION. The CAN FD controllers (spec/15_canfd.md), and the receive entries that CAN and Ethernet share. -/

namespace Sys2Proof.Machine

/-! ### Receive entries (R453, R472) -/

/-- A word of four bytes, the first in its low byte; missing bytes are zero. -/
def packWord (bs : List Byte) : Word :=
  w32 ((bs.getD 0 0).toNat + 256 * (bs.getD 1 0).toNat + 65536 * (bs.getD 2 0).toNat + 16777216 * (bs.getD 3 0).toNat)

/-- `n` words of bytes. -/
def packWords (bs : List Byte) : Nat → List Word
  | 0 => []
  | n + 1 => packWord bs :: packWords (bs.drop 4) n

/-- Continuation entries of a frame whose header entry holds `k` of its bytes. -/
def contCount (len k : Nat) : Nat := (len - k + 27) / 28

/-- The words of `n` continuation entries with their word 0. -/
def contEntries (w0 : Word) (bs : List Byte) : Nat → List (List Word)
  | 0 => []
  | n + 1 => (w0 :: packWords bs 7) :: contEntries w0 (bs.drop 28) n

/-- The LOST entry of a run (R453, R472): KIND 3 with the port or controller in `w`. -/
def lostEntry (w : Nat) (x : NetRx) : List Word :=
  [w32 (3 * 2 ^ 28 + w + x.seq), stNs x.st, stSec x.st, w32 x.lost, w32 x.last, 0, 0, 0]

/-- Entries written to adjacent slots of a ring. -/
def State.putEntries (s : State) (m : Nat) (es : List (List Word)) : State := es.foldl (fun s e => s.cqWrite m e false) s

/-- A run of lost frames with one more. -/
def lostMore (r : Option NetRx) (seq : Nat) (st : Stamp) : NetRx :=
  match r with
  | none => ⟨1, seq, seq, st, 0, 0, []⟩
  | some x => { x with lost := satAdd 0xFFFFFFFF x.lost 1, last := seq }

/-! ### Controllers -/

/-- A controller at rest. -/
def canIdle : CanCtl := ⟨[], none, 0, [], 0, none, 0⟩

/-- Controller `c`. -/
def State.canc (s : State) (c : Nat) : CanCtl := tget canIdle s.can c

/-- The state with a controller replaced. -/
def State.setCan (s : State) (c : Nat) (x : CanCtl) : State := { s with can := tset canIdle s.can c x }

/-- The active mode of a controller: 0 OFF, 1 NORMAL, 2 LISTEN. -/
def State.canMode (s : State) (c : Nat) : Nat := s.fld Fld.CAN_STAT_MODE c 0

/-- The mode that a controller takes: LISTEN on the standby of a pair (R459). -/
def State.canWants (s : State) (c : Nat) : Nat := if s.standby then 2 else s.cfN Cf.CAN_MODE c

/-- The error state of a controller: 0 ACTIVE, 1 PASSIVE, 2 BUSOFF, 3 RECOVERING. -/
def State.canErr (s : State) (c : Nat) : Nat := s.fld Fld.CAN_STAT_ERRSTATE c 0

/-- The frames of a controller whose items still stand: HIF_ABORT takes an item away. -/
def State.canFrames (s : State) (c : Nat) : List CanTx :=
  (s.canc c).frames.filter (fun f => (s.flight f.ring f.seq).isSome)

/-- Data bytes of a frame by its DLC (R444, R461). -/
def dlcLen (fdf : Bool) (dlc : Nat) : Nat :=
  if dlc ≤ 8 then dlc
  else if !fdf then 8
  else if dlc = 9 then 12 else if dlc = 10 then 16 else if dlc = 11 then 20 else if dlc = 12 then 24
  else if dlc = 13 then 32 else if dlc = 14 then 48 else 64

/-- The byte offset of the first field of a CAN_TX that is malformed (R461). -/
def canTxBad (it : Item) : Option Nat :=
  let w3 := it.w 3
  let w4 := it.w 4
  if bitOf w3 29 then some 12
  else if !(bitOf w3 31) ∧ 0x7FF < bitsOf w3 0 29 then some 12
  else if bitOf w3 30 ∧ bitOf w4 4 then some 12
  else if bitOf w4 5 ∧ !(bitOf w4 4) then some 16
  else if w4 &&& 0xFFFFFEC0 ≠ 0 then some 16
  else none

/-- The lowest number from `lo` on, of `n`, that no frame holds. -/
def freeEntry (fs : List CanTx) (lo n : Nat) : Option Nat :=
  ((List.range n).map (fun k => lo + k)).find? (fun e => !(fs.any (fun f => f.entry == e)))

/-- The data bytes of a CAN_TX. -/
def State.canData (s : State) (it : Item) : List Byte :=
  let w4 := it.w 4
  let n := dlcLen (bitOf w4 4) (bitsOf w4 0 4)
  if bitOf (it.w 3) 30 then []
  else if n ≤ 32 then ((List.range 8).flatMap (fun k => bytesOf (it.w (5 + k)))).take n
  else s.bufTake it (bufAddr it 5) n

/-- CAN_TX as decided (R446, R448). -/
def State.canTx (s : State) (it : Item) : State :=
  let c := it.inst
  let slot := bitOf (it.w 4) 8
  if 3 < c then s.complete it stRange 0xE 0 (w32 c)
  else match canTxBad it with
    | some off => s.complete it stFormat (w32 off)
    | none =>
      if s.canMode c ≠ 1 ∨ s.standby then s.complete it stState 3
      else
        let fs := s.canFrames c
        match if slot then freeEntry fs 64 8 else freeEntry fs 0 64 with
        | none => s.complete it stState (if slot then 2 else 1)
        | some e =>
          let f : CanTx := ⟨e, it.ring, it.seq, it.w 3, it.w 4, s.canData it, 0⟩
          (s.setCan c { s.canc c with frames := fs ++ [f] }).holdItem 0x0E00 it [0, 0, 0, w32 e]

/-- CAN_TX. -/
def execCanTx (it : Item) (s : State) : Host.Outcome State Fault Refusal := serve it s (fun s => s.canTx it)

/-- The HIF_ABORT items that have waited for the end of an attempt complete: detail 1 where their target was aborted
(R451). -/
def State.abortsDone (s : State) (f : CanTx) (aborted : Bool) : State :=
  (s.hif.inflight.filter (fun x => x.opcode == 0x0201 && x.phase == .waiting && x.note == [w32 f.ring, f.seq])).foldl
    (fun s x => s.complete x.item stDone (if aborted then 1 else 0)) s

/-- A frame leaves its controller and its item completes, with the Vertex event of R450. -/
def State.canDone (s : State) (c : Nat) (f : CanTx) (st : Stamp) (status : Nat) (d0 d1 : Word) : State :=
  let x := s.canc c
  let s1 := s.setCan c { x with frames := x.frames.filter (fun g => g.entry != f.entry) }
  let s2 := match s1.flight f.ring f.seq with
    | some y => s1.completeAt y.item st status d0 d1 0 0
    | none => s1
  (s2.raise (124 + c) c status (w32 f.entry)).abortsDone f (status == stAborted)

/-- CAN_FLUSH (R451). -/
def execCanFlush (it : Item) (s : State) : Host.Outcome State Fault Refusal :=
  serve it s (fun s =>
    let c := it.inst
    if 3 < c then s.complete it stRange 0xE 0 (w32 c)
    else
      let x := s.canc c
      let out := (s.canFrames c).filter (fun f =>
        x.att != some f.entry && (if f.entry < 64 then bitOf (it.w 3) 0 else bitOf (it.w 3) 1))
      (out.foldl (fun s f => s.canDone c f s.now stAborted it.seq 0) s).complete it stDone (w32 out.length))

/-! ### Attempts (R449, R450) -/

/-- How a frame arbitrates: the lower number wins the bus. The base identifier comes first, then the bit that is RTR in
a base frame and recessive in an extended one, then IDE, the rest of the identifier, and RTR. -/
def arbKey (id : Word) : Nat :=
  let rtr := if bitOf id 30 then 1 else 0
  if bitOf id 31 then bitsOf id 18 11 * 2 ^ 21 + 2 ^ 20 + 2 ^ 19 + bitsOf id 0 18 * 2 + rtr
  else bitsOf id 0 11 * 2 ^ 21 + rtr * 2 ^ 20

/-- The frame that wins arbitration against the others. -/
def arbBest : List CanTx → Option CanTx
  | [] => none
  | f :: fs =>
    match arbBest fs with
    | none => some f
    | some g => if arbKey f.id ≤ arbKey g.id then some f else some g

/-- The frame of the next attempt (R449): the best of the expedite slots, else the queue head. -/
def canNext (fs : List CanTx) : Option CanTx :=
  match arbBest (fs.filter (fun f => 64 ≤ f.entry)) with
  | some f => some f
  | none => (fs.filter (fun f => f.entry < 64)).head?

/-- The words an item of CAN keeps: whether it is in an attempt, whether the host has aborted it, and by which item. -/
def State.canNote (s : State) (f : CanTx) (on : Bool) : State :=
  { s with hif := { s.hif with
      inflight := flightUpd f.ring f.seq (fun x => { x with note := [if on then 1 else 0, 0, 0, w32 f.entry] })
        s.hif.inflight } }

/-- Whether the controllers have power and CK_CAN (R26). -/
def State.canUp (s : State) : Bool := s.domOn 5 && s.clkOn 8

/-- Whether a controller may transmit now. -/
def State.canSends (s : State) (c : Nat) : Bool :=
  c < 4 && s.canUp && s.canMode c == 1 && !s.standby && !s.mir.hold && s.canErr c < 2

/-- Word 4 of a frame as it is sent: an FDF frame carries the controller's error state as ESI in bit 6 (R444). -/
def State.canSent (s : State) (c : Nat) (f : CanTx) : Word :=
  if bitOf f.ctl 4 ∧ s.canErr c = 1 then f.ctl ||| 0x40 else f.ctl

/-- CAN_TX_ATTEMPT (R449): at a bus-idle point. -/
def execCanTxAttempt (c : Nat) (s : State) : Host.Outcome State Fault Refusal :=
  let x := s.canc c
  let fs := s.canFrames c
  if s.canSends c ∧ x.att = none then
    match canNext fs with
    | none => go s
    | some f => go ((s.setCan c { x with frames := fs, att := some f.entry, last := f.entry }).canNote f true)
  else go s

/-- The error counters of a controller, and error passive entered or error active regained (R456). In LISTEN they stay
at 0 (R446). -/
def State.canErrors (s : State) (c tec rc : Nat) : State :=
  if s.canMode c ≠ 1 then s
  else
    let s1 := (s.setF Fld.CAN_ERRCNT_TEC c 0 tec).setF Fld.CAN_ERRCNT_REC c 0 rc
    let passive := 128 ≤ tec || 128 ≤ rc
    if passive ∧ s.canErr c = 0 then (s1.setF Fld.CAN_STAT_ERRSTATE c 0 1).log 0x2382 c (w32 tec) (w32 rc)
    else if !passive ∧ s.canErr c = 1 then (s1.setF Fld.CAN_STAT_ERRSTATE c 0 0).log 0x0387 c (w32 tec) (w32 rc)
    else s1

/-- A failed attempt (R450, R451). -/
def State.canFailed (s : State) (c : Nat) (f : CanTx) : State :=
  let max := s.cfN Cf.CAN_RETRY_MAX c
  match s.flight f.ring f.seq with
  | none => s.setCan c { s.canc c with frames := (s.canc c).frames.filter (fun g => g.entry != f.entry) }
  | some y =>
    if y.note.getD 1 0 = 1 then s.canDone c f s.now stAborted (y.note.getD 2 0) 0
    else if max ≠ 0 ∧ max ≤ f.fails then
      let seq := s.tr.hlx.seq
      let s1 := s.log 0x2381 c (w32 f.entry) (w32 (bitsOf f.id 0 29)) (w32 f.fails)
      s1.canDone c f s1.now stFault 0x2381 seq
    else
      let x := s.canc c
      (s.setCan c { x with frames := x.frames.map (fun g => if g.entry = f.entry then { g with fails := g.fails + 1 } else g) }).canNote
        f false

/-- CAN_ATTEMPT_END (R450, R451, R456): the attempt succeeded or not; `st` is its start of frame, `tec` and `rec_` the
error counters after it. -/
def execCanAttemptEnd (c : Nat) (ok : Bool) (st : Stamp) (tec rec_ : Nat) (s : State) :
    Host.Outcome State Fault Refusal :=
  let x := s.canc c
  if !s.canUp then go s
  else match x.att with
  | none => go s
  | some e =>
    let s1 := s.setCan c { x with att := none }
    match x.frames.find? (fun f => f.entry == e) with
    | none => go (s1.canErrors c tec rec_)
    | some f =>
      let s2 := if ok then
          let s2 := (s1.wrapF Fld.CAN_TXCNT_COUNT c 0 1).canDone c f st stDone (w32 f.fails) (w32 f.entry)
          { s2 with out := Out.can c f.id (s.canSent c f) f.data :: s2.out }
        else s1.canFailed c f
      go (s2.canErrors c tec rec_)

/-! ### Receive (R452 to R455) -/

/-- Whether a frame matches the mailbox (R455). -/
def State.mbxMatch (s : State) (c : Nat) (id : Word) : Bool :=
  let want := s.cf Cf.CAN_MBX_ID c 0
  let mask := s.cf Cf.CAN_MBX_MASK c 0
  bitsOf (id &&& mask) 0 29 == bitsOf (want &&& mask) 0 29 && (!(bitOf mask 31) || bitOf id 31 == bitOf want 31)

/-- The frame is written to the mailbox; NEW is set, and OVR as well when NEW was still set. -/
def State.mbxWrite (s : State) (c : Nat) (id ctl : Word) (bytes : List Byte) (st : Stamp) : State :=
  let new := s.bit Fld.CAN_MBX_STAT_NEW c 0
  let ovr := new || s.bit Fld.CAN_MBX_STAT_OVR c 0
  let s1 := s.wr Reg.CAN_MBX_STAT c 0
    (w32 (2 ^ 31 + (if ovr then 2 ^ 30 else 0) + (if bitOf id 31 then 2 ^ 29 else 0) + bitsOf id 0 29))
  let s2 := s1.wr Reg.CAN_MBX_INFO c 0
    (w32 (bytes.length * 256 + (if bitOf id 30 then 128 else 0) + bitsOf ctl 6 1 * 64 + bitsOf ctl 5 1 * 32 +
      bitsOf ctl 4 1 * 16 + bitsOf ctl 0 4))
  let s3 := (s2.wr Reg.CAN_MBX_NS c 0 (stNs st)).wr Reg.CAN_MBX_SEC c 0 (stSec st)
  (List.range 16).foldl (fun s i => s.wr Reg.CAN_MBX_DATA c i ((packWords bytes 16).getD i 0)) s3

/-- A received frame enters the FIFO of 256 frames, or is counted as lost (R454). -/
def State.canFifo (s : State) (c : Nat) (own : Bool) (id ctl : Word) (bytes : List Byte) (st : Stamp) : State :=
  let x := s.canc c
  let seq := x.rxSeq
  let nx := (seq + 1) % 16777216
  if s.cf Cf.CAN_RX_RING c 0 = 255 then s.setCan c { x with rxSeq := nx }
  else if x.rx.length < 256 ∧ x.lost = none then
    let info := w32 (bitsOf ctl 0 7 + (if own then 128 else 0) + bytes.length * 256)
    s.setCan c { x with rxSeq := nx, rx := x.rx ++ [⟨0, seq, seq, st, id &&& 0xDFFFFFFF, info, bytes⟩] }
  else (s.setCan c { x with rxSeq := nx, lost := some (lostMore x.lost seq st) }).incF Fld.CAN_RXLOST_COUNT c 0 1

/-- CAN_FRAME_RX (R452): a frame that has completed without error, `id` and `ctl` laid out as payload words 3 and 4 of
CAN_TX with ESI in bit 6; the controller's own frame when RX_OWN = 1. -/
def execCanFrameRx (c : Nat) (own : Bool) (id ctl : Word) (bytes : List Byte) (st : Stamp) (tec rec_ : Nat) (s : State) :
    Host.Outcome State Fault Refusal :=
  if c < 4 ∧ s.canUp ∧ s.canMode c ≠ 0 ∧ s.canErr c < 2 ∧ (!own ∨ s.cf Cf.CAN_RX_OWN c 0 = 1) then
    let bs := bytes.take 64
    let s1 := (s.wrapF Fld.CAN_RXCNT_COUNT c 0 1).canFifo c own id ctl bs st
    let s2 := if s.mbxMatch c id then s1.mbxWrite c id ctl bs st else s1
    go (s2.canErrors c tec rec_)
  else go s

/-- The entries of an element of the FIFO (R453). -/
def canEntries (c : Nat) (x : NetRx) : List (List Word) :=
  let base := c * 2 ^ 24
  if x.lost ≠ 0 then [lostEntry base x]
  else
    let n := contCount x.data.length 12
    ([w32 (2 ^ 28 + n * 2 ^ 26 + base + x.seq), stNs x.st, stSec x.st, x.id, x.info] ++ packWords x.data 3) ::
      contEntries (w32 (2 * 2 ^ 28 + base + x.seq)) (x.data.drop 12) n

/-- A run of lost frames is told once the FIFO has room: its LOST entry, and event 0x2385 (R454). -/
def State.canLost (s : State) (c : Nat) : State :=
  let x := s.canc c
  match x.lost with
  | none => s
  | some r =>
    if x.rx.length < 256 then
      (s.setCan c { x with rx := x.rx ++ [r], lost := none }).log 0x2385 c (w32 r.lost) (w32 r.seq) (w32 r.last)
    else s

/-- CAN_RX_DELIVER (R452, R453): the oldest element of the FIFO goes to the STREAM ring, all its entries together, once
the ring has room for them. -/
def execCanRxDeliver (c : Nat) (s : State) : Host.Outcome State Fault Refusal :=
  let m := s.cfN Cf.CAN_RX_RING c
  let x := s.canc c
  if !s.canUp then go s
  else match x.rx with
  | [] => go (s.canLost c)
  | f :: fs =>
    let es := canEntries c f
    if s.streamUp m ∧ es.length ≤ s.cqFree m then
      let s1 := (s.setCan c { x with rx := fs }).putEntries m es
      let s2 := if f.lost = 0 then
          s1.report [Work.src (120 + c) c 0 (f.id &&& 0x9FFFFFFF) f.st] else s1
      go (s2.canLost c)
    else go s

/-! ### Bus-off (R456, R457) -/

/-- CAN_BUS_OFF (R456). With HOLD = 0 recovery starts at once (R457). -/
def execCanBusOff (c tec : Nat) (s : State) : Host.Outcome State Fault Refusal :=
  if s.canSends c then
    let x := s.canc c
    let hold := s.bit Fld.CAN_BUSOFF_HOLD c 0
    let s1 := ((s.incF Fld.CAN_BUSOFF_COUNT c 0 1).setF Fld.CAN_STAT_ERRSTATE c 0 (if hold then 2 else 3)).setF
      Fld.CAN_ERRCNT_TEC c 0 tec
    let s2 := s1.setCan c { x with att := none, boAt := s.mer.base }
    let seq := s2.tr.hlx.seq
    let s3 := s2.log 0x4383 c (w32 tec) (w32 (s2.fld Fld.CAN_BUSOFF_COUNT c 0))
    match x.att with
    | none => go s3
    | some e =>
      match x.frames.find? (fun f => f.entry == e) with
      | none => go s3
      | some f =>
        let note := ((s3.flight f.ring f.seq).map (fun y => y.note)).getD []
        if note.getD 1 0 = 1 then go (s3.canDone c f s3.now stAborted (note.getD 2 0) 0)
        else go (s3.canDone c f s3.now stFault 0x4383 seq)
  else go s

/-- CAN_RECOVER (R457): RECOVER is written. It acts in bus-off with HOLD = 1 only, and reads 1 until the recovery that it
starts ends (SC, R14). -/
def execCanRecover (c : Nat) (s : State) : Host.Outcome State Fault Refusal :=
  if c < 4 ∧ s.canUp ∧ s.canErr c = 2 ∧ s.bit Fld.CAN_BUSOFF_HOLD c 0 then
    go ((s.setF Fld.CAN_STAT_ERRSTATE c 0 3).setF Fld.CAN_BUSOFF_RECOVER c 0 1)
  else go s

/-- CAN_BUSOFF_RECOVERED (R457): the controller is error active again with its counters at 0, as ISO 11898-1 has it. -/
def execCanBusoffRecovered (c : Nat) (s : State) : Host.Outcome State Fault Refusal :=
  if c < 4 ∧ s.canUp ∧ s.canErr c = 3 then
    let s1 := ((s.setF Fld.CAN_STAT_ERRSTATE c 0 0).setF Fld.CAN_BUSOFF_RECOVER c 0 0).wr Reg.CAN_ERRCNT c 0 0
    go (s1.log 0x0384 c (w32 ((s.mer.base - (s.canc c).boAt) / 1000000)))
  else go s

/-! ### Committed values, restarts and pairs (R447, R458, R459) -/

/-- An attempt in progress ends without counting, for a change of configuration. -/
def State.canCut (s : State) (c : Nat) : State :=
  let x := s.canc c
  match x.att with
  | none => s
  | some e =>
    let s1 := s.setCan c { x with att := none }
    match x.frames.find? (fun f => f.entry == e) with
    | none => s1
    | some f =>
      let s2 := s1.log 0x1386 c (w32 e) (w32 (bitsOf f.id 0 29))
      match s2.flight f.ring f.seq with
      | none => s2
      | some y => if y.note.getD 1 0 = 1 then s2.canDone c f s2.now stAborted (y.note.getD 2 0) 0 else s2.canNote f false

/-- Every waiting frame of a controller completes with a status. -/
def State.canClear (s : State) (c : Nat) (status : Nat) (d0 d1 : Word) : State :=
  (s.canFrames c).foldl (fun s f => s.canDone c f s.now status d0 d1) s

/-- A controller takes its mode: the change is logged, and OFF clears it (R447). -/
def State.canTakeMode (s : State) (c : Nat) : State :=
  let old := s.canMode c
  let new := s.canWants c
  if old = new then s
  else
    let s1 := (((s.setF Fld.CAN_STAT_MODE c 0 new).setF Fld.CAN_STAT_ERRSTATE c 0 0).setF Fld.CAN_BUSOFF_RECOVER c 0
      0).wr Reg.CAN_ERRCNT c 0 0
    let s2 := s1.log 0x0380 c (w32 old) (w32 new)
    let fs := s2.canFrames c
    if new = 0 ∧ fs ≠ [] then
      let seq := s2.tr.hlx.seq
      (s2.log 0x2388 c (w32 fs.length)).canClear c stAbsent 0x2388 seq
    else s2

/-- The controllers take committed values (R447): `keys` are the fields that changed. -/
def State.takenCan (s : State) (keys : List Nat) : State :=
  (List.range 4).foldl (fun s c =>
    let ks := keys.filter (fun k => keyInst k == c)
    let s1 := if ks.any (fun k => keyFld k ≤ 0xA) then s.canCut c else s
    s1.canTakeMode c) s

/-- Frames that are in no attempt are discarded at a restart trigger; their items complete under R89 (R458). -/
def State.canRestart (s : State) : State :=
  (List.range 4).foldl (fun s c =>
    let x := s.canc c
    s.setCan c { x with frames := x.frames.filter (fun f => x.att == some f.entry) }) s

end Sys2Proof.Machine
end

