-- ==== Sys2Proof/Machine/Eth.lean ====
section
/-! DEFINITION. The Ethernet ports, PRP and the cyclic frame engine (spec/16_ethernet_prp.md). -/

namespace Sys2Proof.Machine

/-- A port at rest. -/
def ethIdle : EthPort := ⟨[], 0, none⟩

/-- Port `p`. -/
def State.ethp (s : State) (p : Nat) : EthPort := tget ethIdle s.eth.ports p

/-- The state with a port replaced. -/
def State.setEthp (s : State) (p : Nat) (x : EthPort) : State :=
  { s with eth := { s.eth with ports := tset ethIdle s.eth.ports p x } }

/-- PRP mode (R467). -/
def State.prpOn (s : State) : Bool := s.cf Cf.ETH_PRP 2 0 == 1

/-- Whether a port's link is up. -/
def State.ethUp (s : State) (p : Nat) : Bool := s.bit Fld.ETH_PSTAT_LINK p 0

/-- Bit `p` of a mask of ports. -/
def inMask (m p : Nat) : Bool := m / 2 ^ p % 2 == 1

/-! ### Frames -/

/-- A byte of a frame. -/
def octet (bs : List Byte) (k : Nat) : Nat := (bs.getD k 0).toNat

/-- A 16-bit field of a frame, high byte first. -/
def half (bs : List Byte) (k : Nat) : Nat := octet bs k * 256 + octet bs (k + 1)

/-- A 48-bit address of a frame, high byte first. -/
def addr48 (bs : List Byte) (k : Nat) : Nat := half bs k * 2 ^ 32 + half bs (k + 2) * 2 ^ 16 + half bs (k + 4)

/-- Where the EtherType of a frame stands: past one 802.1Q tag. -/
def typeAt (bs : List Byte) : Nat := if half bs 12 = 0x8100 then 16 else 12

/-- The place of the PTP header of a recognised event message (R466). -/
def ptpAt (bs : List Byte) : Option Nat :=
  let t := typeAt bs
  let p := if half bs t = 0x88F7 then some (t + 2)
    else if half bs t = 0x0800 ∧ octet bs (t + 2) / 16 = 4 ∧ octet bs (t + 11) = 17 then
      let u := t + 2 + octet bs (t + 2) % 16 * 4
      if half bs (u + 2) = 319 then some (u + 8) else none
    else none
  match p with
  | none => none
  | some h => if h < bs.length ∧ octet bs h % 16 < 4 then some h else none

/-- The address in use at a port (R464), byte 0 first: the base address, which the registers of ETH0 hold, or the base
address plus 1 at ETH1 outside PRP mode. -/
def State.ethAddr (s : State) (p : Nat) : List Byte :=
  let b := bytesOf (s.rd Reg.ETH_MACLO 0 0) ++ (bytesOf (s.rd Reg.ETH_MACHI 0 0)).take 2
  if p = 0 ∨ s.prpOn then b
  else
    let n := b.foldl (fun n x => n * 256 + x.toNat) 0 + 1
    (List.range 6).map (fun k => BitVec.ofNat 8 (n / 256 ^ (5 - k)))

/-- The redundancy control trailer of a frame without it on a LAN (R468). The LSDU runs from behind the EtherType to the
end of the trailer, as IEC 62439-3 counts it. -/
def prpTrailer (seq lan len tag : Nat) : List Byte :=
  let size := len - 14 - tag + 6
  [by8 (seq / 256), by8 seq, by8 (lan * 16 + size / 256 % 16), by8 size, 0x88, 0xFB]

/-- A frame padded to the 60 bytes that, with FCS, make the smallest frame. -/
def ethPad (bs : List Byte) : List Byte := bs ++ List.replicate (60 - bs.length) 0

/-- The bytes that leave port `p` for a frame: padded, with the trailer when it carries a PRP sequence number. -/
def portBytes (p : Nat) (prp : Option Nat) (bs : List Byte) : List Byte :=
  let b := ethPad bs
  match prp with
  | none => b
  | some q => b ++ prpTrailer q (10 + p) b.length (typeAt b - 12)

/-- The trailer of a received frame, when it carries a valid one (R469): sequence number and LAN identifier. -/
def trailerOf (bs : List Byte) : Option (Nat × Nat) :=
  let n := bs.length
  let lan := octet bs (n - 4) / 16
  let size := half bs (n - 4) % 4096
  if 20 ≤ n ∧ half bs (n - 2) = 0x88FB ∧ (lan = 10 ∨ lan = 11) ∧ size + typeAt bs + 2 = n then some (half bs (n - 6), lan)
  else none

/-! ### Transmit (R474, R475) -/

/-- Whether a frame is still to be sent on a port. -/
def EthTx.on (f : EthTx) (p : Nat) : Bool := inMask f.left p

/-- The transmit queue of a port, oldest first. -/
def State.ethQueue (s : State) (p : Nat) : List EthTx := s.eth.tx.filter (fun f => f.on p)

/-- The queue with the frame of an item replaced, or removed. -/
def State.ethSet (s : State) (ring : Nat) (seq : Word) (g : Option EthTx) : State :=
  { s with eth := { s.eth with
      tx := s.eth.tx.filterMap (fun f => if f.ring = ring ∧ f.seq = seq then g else some f) } }

/-- A frame none of whose copies is left: DONE with the mask of ports sent, or FAILED_TARGET_ABSENT with event 0x2341. -/
def State.ethFinish (s : State) (f : EthTx) (p : Nat) : State :=
  let s1 := s.ethSet f.ring f.seq none
  match s1.flight f.ring f.seq with
  | none => s1
  | some x =>
    if f.sent = 0 then s1.completeEv x.item stAbsent 0x2341 p f.seq
    else s1.completeAt x.item f.st stDone (w32 f.sent) (w32 (f.prp.getD 0)) 0 0

/-- The copy of a frame for port `p` is gone: sent or dropped. -/
def State.ethCopyGone (s : State) (f : EthTx) (p : Nat) : State :=
  let g := { f with left := f.left - 2 ^ p }
  if g.left = 0 then s.ethFinish g p else s.ethSet f.ring f.seq (some g)

/-- Every waiting copy of a port whose link is down is dropped (R474). -/
def State.ethDrop (s : State) (p : Nat) : State := (s.ethQueue p).foldl (fun s f => s.ethCopyGone f p) s

/-- Whether a frame is in transmission on a port. -/
def State.ethBusy (s : State) (p : Nat) : Bool := (s.ethQueue p).any (fun f => inMask f.started p)

/-- The cyclic frames that wait for a port start on it, ahead of the queue (R476). -/
def State.cycGo (s : State) (p : Nat) : State :=
  if s.ethUp p ∧ !(s.ethBusy p) then
    let mine := s.eth.cyc.filter (fun c => inMask c.left p)
    let rest := (s.eth.cyc.map (fun c => if inMask c.left p then { c with left := c.left - 2 ^ p } else c)).filter
      (fun c => c.left != 0)
    let s1 : State := { s with eth := { s.eth with cyc := rest } }
    mine.foldl (fun s c =>
      let s2 : State := { s with out := Out.eth p (portBytes p c.prp c.data) :: s.out }
      s2.wrapF Fld.ETH_TXCNT_COUNT p 0 1) s1
  else s

/-- The head of a port's queue starts transmission: its item reaches its commit point with its first copy (R475). -/
def State.ethStart (s : State) (p : Nat) : State :=
  if !(s.ethUp p) then s.ethDrop p
  else
    let s1 := s.cycGo p
    match s1.ethQueue p with
    | [] => s1
    | f :: _ =>
      if inMask f.started p then s1
      else
        let s2 := s1.ethSet f.ring f.seq (some { f with started := f.started + 2 ^ p })
        if f.started = 0 then
          match s2.flight f.ring f.seq with
          | some x => s2.commitItem x.item stDone
          | none => s2
        else s2

/-- Ports of ETH_TX word 3 as a mask. -/
def portMask (n : Nat) : Nat := if n = 0 then 1 else if n = 1 then 2 else 3

/-- ETH_TX as decided (R474, R479). -/
def State.ethTx (s : State) (it : Item) : State :=
  let n := (it.w 3).toNat
  let len := (it.w 4).toNat
  let m := portMask n
  if it.inst ≠ 0 then s.complete it stRange 0xD 0 (w32 it.inst)
  else if 2 < n ∨ (n = 2 ∧ !(s.prpOn)) then s.complete it stFormat 12
  else if len < 14 ∨ (if n = 2 then 2038 else 2044) < len then s.complete it stFormat 16
  else if (List.range 2).any (fun p => inMask m p && 256 ≤ (s.ethQueue p).length) then s.complete it stState 1
  else
    let bs := s.bufTake it (bufAddr it 5) len
    let prp := if n = 2 then some s.eth.prpSeq else none
    let f : EthTx := ⟨it.ring, it.seq, m, 0, 0, bs, ⟨0, 0⟩, prp⟩
    let s1 := s.holdItem 0x0D00 it []
    let s2 : State := { s1 with eth := { s1.eth with
      tx := s1.eth.tx ++ [f], prpSeq := if n = 2 then (s1.eth.prpSeq + 1) % 65536 else s1.eth.prpSeq } }
    (List.range 2).foldl (fun s p => if inMask m p then s.ethStart p else s) s2

/-- ETH_TX. -/
def execEthTx (it : Item) (s : State) : Host.Outcome State Fault Refusal := serve it s (fun s => s.ethTx it)

/-- Frames whose items no longer stand leave the queues: HIF_ABORT takes an item away before its frame has started. -/
def State.ethClean (s : State) : State :=
  { s with eth := { s.eth with tx := s.eth.tx.filter (fun f => f.started != 0 || (s.flight f.ring f.seq).isSome) } }

/-- ETH_TX_FLUSH (R479): a frame that has started on no port and waits on a port named is removed whole. -/
def execEthTxFlush (it : Item) (s : State) : Host.Outcome State Fault Refusal :=
  serve it s (fun s =>
    if it.inst ≠ 0 then s.complete it stRange 0xD 0 (w32 it.inst)
    else
      let s0 := s.ethClean
      let out := s0.eth.tx.filter (fun f => f.started = 0 &&
        ((f.on 0 && bitOf (it.w 3) 0) || (f.on 1 && bitOf (it.w 3) 1)))
      (out.foldl (fun s f =>
        let s1 := s.ethSet f.ring f.seq none
        match s1.flight f.ring f.seq with
        | some x => s1.complete x.item stAborted it.seq
        | none => s1) s0).complete it stDone (w32 out.length))

/-- ETH_TX_SENT (R474, R496): the frame in transmission on a port has been sent, with the stamp of R465. -/
def execEthTxSent (port : Nat) (st : Stamp) (s : State) : Host.Outcome State Fault Refusal :=
  let s0 := s.ethClean
  match (s0.ethQueue port).find? (fun f => inMask f.started port) with
  | none => go (s0.ethStart port)
  | some f =>
    let g := { f with sent := f.sent + 2 ^ port, st := if f.sent = 0 then st else f.st }
    let bs := portBytes port f.prp f.data
    let s1 : State := { s0 with out := Out.eth port bs :: s0.out }
    let s2 := (s1.wrapF Fld.ETH_TXCNT_COUNT port 0 1).ethCopyGone g port
    let s3 := match ptpAt f.data with
      | some h => s2.txtsAdd port ⟨st, octet f.data h % 16, half f.data (h + 30), octet f.data (h + 4)⟩
      | none => s2
    go (s3.ethStart port)

/-! ### Receive (R463, R469, R471 to R473) -/

/-- The broadcast address. -/
def bcast : Nat := 0xFFFFFFFFFFFF

/-- The PRP supervision address (R470), and the address of PAUSE frames. -/
def supAddr : Nat := 0x01154E000100
/-- The address of PAUSE frames (IEEE 802.3). -/
def pauseAddr : Nat := 0x0180C2000001

/-- An address from its words: bytes 0 to 3 and 4 to 5, byte 0 lowest. -/
def wordsAddr (lo hi : Word) : Nat := addr48 (bytesOf lo ++ bytesOf hi) 0

/-- Whether an address is one of a port's MCAST entries. -/
def State.mcast (s : State) (p a : Nat) : Bool :=
  (List.range 16).any (fun k =>
    let hi := s.cf Cf.ETH_MCAST p (2 * k + 1)
    bitOf hi 31 && wordsAddr (s.cf Cf.ETH_MCAST p (2 * k)) (hi &&& 0xFFFF) == a)

/-- The address filter of R471. -/
def State.ethAccepts (s : State) (p : Nat) (bs : List Byte) : Bool :=
  let a := addr48 bs 0
  s.cf Cf.ETH_PROMISC p 0 == 1 || a == addr48 (s.ethAddr p) 0 || a == bcast || s.mcast p a || (s.prpOn && a == supAddr)

/-- The entries of the duplicate table made ENTRY_FORGET ms ago are forgotten (R469). -/
def State.dupForget (s : State) : State :=
  { s with eth := { s.eth with
    dup := s.eth.dup.filter (fun d => s.mer.base < d.base + s.cfN Cf.ETH_ENTRY_FORGET 2 * 1000000) } }

/-- The duplicate table takes the frame of a source address and sequence number; the answer is whether it is new (R469). -/
def State.prpNew (s : State) (src seq : Nat) : State × Bool :=
  if s.eth.dup.any (fun d => d.src == src && d.seq == seq) then (s.incF Fld.ETH_PRPCNT_DUP 0 0 1, false)
  else
    let full := 1024 ≤ s.eth.dup.length
    let d := (if full then s.eth.dup.drop 1 else s.eth.dup) ++ [⟨src, seq, s.mer.base⟩]
    let s1 : State := { s with eth := { s.eth with dup := d } }
    (if full then s1.incF Fld.ETH_PRPCNT_REPL 0 0 1 else s1, true)

/-- A frame whose trailer names the other LAN is counted, and the first in any second is logged. -/
def State.prpWrong (s : State) (p : Nat) (bs : List Byte) : State :=
  (s.incF Fld.ETH_PRPCNT_WRONGLAN 0 0 1).logLim 1000000000 0x2343 p
    (fun _ => (packWord (bs.drop 6), packWord ((bs.drop 10).take 2)))

/-- Bytes that the receive FIFO holds. -/
def fifoBytes (l : List NetRx) : Nat := l.foldl (fun n x => n + x.data.length) 0

/-- The STREAM ring of a port (R471). -/
def State.ethRing (s : State) (p : Nat) : Nat := s.cfN Cf.ETH_RX_RING (if s.prpOn then 0 else p)

/-- An accepted frame enters the FIFO of 64 KiB, or is counted as lost (R473). -/
def State.ethFifo (s : State) (p : Nat) (bs : List Byte) (lan : Nat) (st : Stamp) : State :=
  let x := s.ethp p
  let seq := x.rxSeq
  let nx := (seq + 1) % 1048576
  let s1 := s.wrapF Fld.ETH_RXCNT_COUNT p 0 1
  if s.ethRing p = 255 then s1.setEthp p { x with rxSeq := nx }
  else if fifoBytes x.rx + bs.length ≤ 65536 ∧ x.lost = none then
    let sup := if addr48 bs 0 = supAddr ∧ half bs (typeAt bs) = 0x88FB then 1 else 0
    let w3 := w32 (bs.length + (if (ptpAt bs).isSome then 65536 else 0) + lan * 131072 + sup * 524288)
    s1.setEthp p { x with rxSeq := nx, rx := x.rx ++ [⟨0, seq, seq, st, w3, 0, bs⟩] }
  else (s1.setEthp p { x with rxSeq := nx, lost := some (lostMore x.lost seq st) }).incF Fld.ETH_RXLOST_COUNT p 0 1

/-- ETH_FRAME_RX (R463, R469, R471): a frame without its FCS. -/
def execEthFrameRx (port : Nat) (bytes : List Byte) (fcsOk : Bool) (st : Stamp) (s : State) :
    Host.Outcome State Fault Refusal :=
  if port < 2 ∧ s.domOn 5 ∧ s.ethUp port then
    if !fcsOk then go (s.incF Fld.ETH_RXERR_FCS port 0 1)
    else if 2044 < bytes.length then go (s.incF Fld.ETH_RXERR_LONG port 0 1)
    else if addr48 bytes 0 = pauseAddr ∧ half bytes 12 = 0x8808 then go s
    else if !(s.ethAccepts port bytes) then go s
    else if !(s.prpOn) then go (s.ethFifo port bytes 0 st)
    else match trailerOf bytes with
      | none => go (s.ethFifo port bytes 0 st)
      | some (seq, lan) =>
        let s1 := if lan = 10 + port then s else s.prpWrong port bytes
        let (s2, new) := s1.dupForget.prpNew (addr48 bytes 6) seq
        go (if new then s2.ethFifo port bytes (lan - 9) st else s2)
  else go s

/-- The entries of an element of the FIFO (R472). -/
def ethEntries (p : Nat) (x : NetRx) : List (List Word) :=
  let base := p * 2 ^ 20
  if x.lost ≠ 0 then [lostEntry base x]
  else
    let n := contCount x.data.length 16
    ([w32 (2 ^ 28 + n * 2 ^ 21 + base + x.seq), stNs x.st, stSec x.st, x.id] ++ packWords x.data 4) ::
      contEntries (w32 (2 * 2 ^ 28 + base + x.seq)) (x.data.drop 16) n

/-- A run of lost frames is told once the FIFO has room (R473). -/
def State.ethLost (s : State) (p : Nat) : State :=
  let x := s.ethp p
  match x.lost with
  | none => s
  | some r =>
    if fifoBytes x.rx < 65536 then
      (s.setEthp p { x with rx := x.rx ++ [r], lost := none }).log 0x2342 p (w32 r.lost) (w32 r.seq) (w32 r.last)
    else s

/-- ETH_RX_DELIVER (R471, R472): the oldest element of the FIFO goes to the STREAM ring, all its entries together, once
the ring has room for them. -/
def execEthRxDeliver (port : Nat) (s : State) : Host.Outcome State Fault Refusal :=
  let m := s.ethRing port
  let x := s.ethp port
  match x.rx with
  | [] => go (s.ethLost port)
  | f :: fs =>
    let es := ethEntries port f
    if s.streamUp m ∧ es.length ≤ s.cqFree m then
      let pi := s.rd Reg.HIF_CQ_PI m 0
      let s1 := (s.setEthp port { x with rx := fs }).putEntries m es
      let s2 := if f.lost = 0 then s1.report [Work.src (128 + port) port 0 pi f.st] else s1
      go (s2.ethLost port)
    else go s

/-! ### PRP (R469, R470) -/

/-- PRP_ENTRY_FORGET (R469). -/
def execPrpEntryForget (s : State) : Host.Outcome State Fault Refusal := go s.dupForget

/-- PRP_SUPERVISION (R470). -/
def execPrpSupervision (s : State) : Host.Outcome State Fault Refusal :=
  if s.domOn 5 ∧ s.prpOn ∧ s.cf Cf.ETH_PRP_SUP 2 0 = 1 then go { s with out := Out.prpSup :: s.out } else go s

/-! ### The cyclic frame engine (R476, R477) -/

/-- The cycle count at this instant (R476): the system cycle, or multiples of CYC_PERIOD on a STANDALONE module. -/
def State.cycCount (s : State) : Nat :=
  if s.isAlone then (s.timeT / 4294967296 / 1000000).toNat / Nat.max 1 (s.cfN Cf.ETH_CYC_PERIOD 2) else s.vxl.cycle

/-- The entry list of frame `f`: to the first element without USE, at most 92. -/
def State.cycList (s : State) (f : Nat) : List Nat :=
  (((List.range 92).map (fun i => s.cf Cf.ETH_CYC_LIST 2 (92 * f + i))).takeWhile (fun w => bitOf w 31)).map
    (fun w => bitsOf w 0 22)

/-- The four words of an entry of a cyclic frame. -/
def State.cycEntry (s : State) (coord : Nat) : List Word :=
  let c := s.coordVal coord
  let fl := match s.entryOf coord with
    | some e => s.coFloat e
    | none => false
  let st := stampOf c.t
  [w32 (c.q * 2 ^ 28 + (if fl then 2 ^ 27 else 0) + coord), c.val, stNs st, stSec st]

/-- The bytes of cyclic frame `f` at cycle count `n`. -/
def State.cycBytes (s : State) (p f n : Nat) (list : List Nat) : List Byte :=
  let i := 3 + f
  let dst := bytesOf (s.cf Cf.ETH_CYC_DST_LO i 0) ++ (bytesOf (s.cf Cf.ETH_CYC_DST_HI i 0)).take 2
  let vlan := s.cfN Cf.ETH_CYC_VLAN i
  let ety := s.cfN Cf.ETH_CYC_ETYPE i
  let tag := if 32768 ≤ vlan then [by8 0x81, by8 0, by8 (vlan % 32768 / 256), by8 vlan] else []
  let ws := [w32 (0x4C58 * 65536 + 256 + f), w32 (s.coordDevice * 65536 + list.length), w32 n, stNs s.now, stSec s.now, 0]
  dst ++ s.ethAddr p ++ tag ++ [by8 (ety / 256), by8 ety] ++ wBytes (ws ++ list.flatMap s.cycEntry)

/-- Whether frame `f` is enabled and the engine sends (R477). -/
def State.cycOn (s : State) (f : Nat) : Bool := s.engOn && s.domOn 5 && s.cf Cf.ETH_CYC_EN (3 + f) 0 == 1

/-- The cyclic frames that have not started by the next mark are dropped (R477). -/
def State.cycLate (s : State) : State :=
  match s.eth.cyc with
  | [] => s
  | c :: _ =>
    let first := !s.eth.lateEp
    let s1 := s.incF Fld.ETH_CYCSTAT_LATE 0 0 s.eth.cyc.length
    let s2 : State := { s1 with eth := { s1.eth with cyc := [], lateEp := true, lateN := s.cycCount + 1 } }
    if first then s2.log 0x2344 0 (w32 c.idx) else s2

/-- CYCLIC_FRAME_LATE (R477). -/
def execCyclicFrameLate (s : State) : Host.Outcome State Fault Refusal := go s.cycLate

/-- CYCLIC_FRAME_SEND (R476): at a cycle mark the values of all due frames are taken at once, and the frames start in
ascending order as far as their ports are free. An episode of dropped frames goes on while each mark drops some. A frame
whose list is empty is not sent. -/
def execCyclicFrameSend (s : State) : Host.Outcome State Fault Refusal :=
  let n := s.cycCount
  let s0 := s.cycLate
  let due := (List.range 8).filter (fun f => s.cycOn f && n % Nat.max 1 (s.cfN Cf.ETH_CYC_DIV (3 + f)) == 0)
  let due := due.filter (fun f => s.cycList f != [])
  let frames := due.zipIdx.map (fun fi =>
    let p := s.cfN Cf.ETH_CYC_PORT (3 + fi.1)
    (⟨fi.1, if s.prpOn then 3 else 2 ^ p, if s.prpOn then some ((s.eth.prpSeq + fi.2) % 65536) else none,
      s.cycBytes p fi.1 n (s.cycList fi.1)⟩ : CycTx))
  let act := (List.range 8).foldl (fun w f => if s.cycOn f then w + 2 ^ f else w) 0
  let s1 : State := { s0 with eth := { s0.eth with
    cyc := frames, lateEp := s0.eth.lateEp && s0.eth.lateN == n + 1,
    prpSeq := if s.prpOn then (s0.eth.prpSeq + frames.length) % 65536 else s0.eth.prpSeq } }
  go (((s1.setF Fld.ETH_CYCSTAT_ACTIVE 0 0 act).cycGo 0).cycGo 1)

/-! ### Links (R480) -/

/-- ETH_LINK_UP: SPEED as ETH_PSTAT codes it, 1 to 3. -/
def execEthLinkUp (port speed : Nat) (s : State) : Host.Outcome State Fault Refusal :=
  if port < 2 ∧ s.domOn 5 ∧ s.clkOn 7 ∧ !(s.ethUp port) then
    let s1 := (s.setF Fld.ETH_PSTAT_LINK port 0 1).setF Fld.ETH_PSTAT_SPEED port 0 speed
    go ((s1.log 0x0340 port (w32 speed)).ethStart port)
  else go s

/-- A port's link goes down: its waiting copies are dropped. -/
def State.ethLinkDown (s : State) (p : Nat) : State :=
  if s.ethUp p then
    ((((s.setF Fld.ETH_PSTAT_LINK p 0 0).setF Fld.ETH_PSTAT_SPEED p 0 0).log 0x2341 p 0).ethClean).ethDrop p
  else s

/-- ETH_LINK_DOWN. -/
def execEthLinkDown (port : Nat) (s : State) : Host.Outcome State Fault Refusal :=
  if port < 2 then go (s.ethLinkDown port) else go s

/-- The ports take committed values (R478): a change of SPEED_MAX or PRP restarts auto-negotiation. -/
def State.takenEth (s : State) (keys : List Nat) : State :=
  let prp := keys.any (fun k => keyFld k == 0x100)
  (List.range 2).foldl (fun s p =>
    if prp || keys.any (fun k => keyFld k == 0 && keyInst k == p) then s.ethLinkDown p else s) s

/-- Frames that have not started are discarded at a restart trigger (R475). -/
def State.ethRestart (s : State) : State :=
  { s with eth := { s.eth with tx := s.eth.tx.filter (fun f => f.started != 0), cyc := [] } }

end Sys2Proof.Machine
end

