-- ==== Sys2Proof/Machine/Per.lean ====
section
/-! DEFINITION. Perimeter: the safety inputs, functions, outputs and lines, the reset, the stop requests, and what the
Nimurec die sees of them (spec/20_perimeter_safety.md). Its clock is read from the base counter. -/

namespace Sys2Proof.Machine

/-- The state with the Perimeter die replaced. -/
def State.setPer (s : State) (p : PerSt) : State := { s with per := p }

/-! ### Slots and their functions (R573 to R575) -/

/-- A slot without a function. -/
def slotNone : SafeSlot := ⟨0, 0, 0, 0, 0, false, false, false, false, none, false, 0, 0, 0, 0⟩

/-- Whether `n` ns have passed since `at0`; an instant before the base counter last restarted has long passed. -/
def since (base at0 n : Nat) : Bool := decide (base < at0) || decide (at0 + n ≤ base)

/-- Slot `k`. -/
def PerSt.slot (p : PerSt) (k : Nat) : SafeSlot := p.slots.getD k slotNone

/-- The die with slot `k` replaced. -/
def PerSt.setSlot (p : PerSt) (k : Nat) (x : SafeSlot) : PerSt := { p with slots := p.slots.set k x }

/-- Pairs that a function code claims. -/
def funcWidth (f : Nat) : Nat := if f = 0 ∨ 8 < f then 0 else if f = 3 ∨ f = 5 then 2 else 1

/-- Global functions: EOFF and GAS_EXH. -/
def funcGlobal (f : Nat) : Bool := f = 1 || f = 4

/-- Functions that restart on their own: ENABLE and GUARD. -/
def funcAuto (f : Nat) : Bool := f = 6 || f = 7

/-- Functions whose first pair is antivalent: TWO_HAND and PRESSURE. -/
def funcAnti (f : Nat) : Bool := f = 3 || f = 8

/-- The slots of a pattern, each claiming pairs behind those before it, in WAIT_RESET or OFF (R573, R584). -/
def slotsOf (pat : Nat) : List SafeSlot :=
  let f := fun k => pat / 16 ^ k % 16
  let w := fun k => funcWidth (f k)
  let mk := fun k p => { slotNone with func := f k, pair := p, width := w k, st := if f k = 0 then 0 else 2, need := true }
  [mk 0 0, mk 1 (w 0), mk 2 (w 0 + w 1), mk 3 (w 0 + w 1 + w 2)]

/-- Whether a contact is closed. -/
def PerSt.contact (p : PerSt) (c : Nat) : Bool := p.closed / 2 ^ c % 2 == 1

/-- Whether pair `i` permits as its type has it. -/
def PerSt.pairPermits (p : PerSt) (anti : Bool) (i : Nat) : Bool :=
  p.contact (2 * i) && (if anti then !(p.contact (2 * i + 1)) else p.contact (2 * i + 1))

/-- Whether pair `i` is in its demand state: both contacts open, or A open and B closed. -/
def PerSt.pairDemands (p : PerSt) (anti : Bool) (i : Nat) : Bool :=
  !(p.contact (2 * i)) && (if anti then p.contact (2 * i + 1) else !(p.contact (2 * i + 1)))

/-- The two-hand rule (R574) after a change of a contact: the slot with its timing and `perm`. -/
def handRule (p : PerSt) (now : Nat) (x : SafeSlot) : SafeSlot :=
  let h0 := p.pairPermits true x.pair
  let h1 := p.pairPermits true (x.pair + 1)
  if p.pairDemands true x.pair && p.pairDemands true (x.pair + 1) then { x with rel := true, hand := none, perm := false }
  else if h0 && h1 then
    if x.perm then x
    else
      let t := x.hand.getD now
      if x.rel && decide (now ≤ t + 500000000) then { x with perm := true, rel := false } else { x with rel := false }
  else if h0 || h1 then { x with perm := false, hand := some (x.hand.getD now) }
  else { x with perm := false }

/-- Whether a slot's function permits (R574), with what it keeps. -/
def funcRule (p : PerSt) (now : Nat) (x : SafeSlot) : SafeSlot :=
  if x.func = 3 then handRule p now x
  else { x with perm := p.pairPermits (funcAnti x.func) x.pair || x.muting }

/-- Whether a stop request acts on slot `k` (R582). -/
def PerSt.stopOn (p : PerSt) (k : Nat) : Bool := p.act / 2 ^ k % 2 == 1 || p.act / 16 % 2 == 1

/-- A slot demands: event 0x5443 with its cause and pair. -/
def State.slotDemand (s : State) (k cause : Nat) : State :=
  let x := s.per.slot k
  (s.setPer (s.per.setSlot k { x with st := 1 })).log 0x5443 k (w32 cause) (w32 x.pair)

/-- Where a slot goes from DEMAND once its function permits (R575, R582). -/
def afterDemand (x : SafeSlot) : Nat :=
  if x.stop then 2 else if (funcAuto x.func || x.func = 3) && !x.need then 3 else 2

/-- A slot is judged after a change of contacts, with the cause a demand of it would have. A TWO_HAND slot waits in
WAIT_RESET whatever the hands do. -/
def State.slotJudge (s : State) (cause k : Nat) : State :=
  let x := s.per.slot k
  let y := funcRule s.per s.mer.base x
  let s1 := s.setPer (s.per.setSlot k y)
  if x.func = 0 ∨ x.st = 4 then s1
  else if !y.perm then
    if x.st = 3 ∨ (x.st = 2 ∧ x.perm ∧ x.func ≠ 3) then s1.slotDemand k cause else s1
  else if x.st = 1 ∧ !(s.per.stopOn k) then
    s1.setPer (s1.per.setSlot k { y with st := afterDemand y, stop := false })
  else s1

/-! ### Outputs and lines (R567, R568, R576) -/

/-- Whether every global slot is ON. -/
def PerSt.globalsOn (p : PerSt) : Bool := p.slots.all (fun x => !(funcGlobal x.func) || x.st == 3)

/-- Whether a global slot exists and is ON, or none does, and nothing stops all: the lines are inactive. -/
def PerSt.linesOff (p : PerSt) : Bool := p.state == 3 && p.globalsOn && p.act / 16 % 2 == 0

/-- Whether SOk is energised. -/
def PerSt.outOn (p : PerSt) (k : Nat) : Bool := p.state == 3 && (p.slot k).st == 3 && p.globalsOn && !(p.stopOn k)

/-- Whether a switch of SOk is held off for its test: the P-switch for 200 us from the start of the test, the M-switch
for 200 us from 5 s later (R577; DESIGN CHOICE: the pulse lasts as long as it may, notes/assumptions/112.md). -/
def PerSt.underTest (p : PerSt) (m : Bool) (k base : Nat) : Bool :=
  match tget none p.tested k with
  | some t =>
    let t := if m then t + 5000000000 else t
    decide (t ≤ base) && decide (base < t + 200000)
  | none => false

/-- Whether the P-switch or the M-switch of SOk is on: the channel that controls it commands the output on, and no test
holds it off (R567, R577). -/
def PerSt.switchOn (p : PerSt) (m : Bool) (k base : Nat) : Bool := p.outOn k && !(p.underTest m k base)

/-- The TRIP line reaches Arc (R391). The Facets take the other line by PERIM_OFF_LINE and PERIM_OFF_RELEASE. -/
def State.perLines (s : State) : State := s.arcTrip 9 (!s.per.linesOff)

/-- Every slot is judged, and the lines follow. -/
def State.perJudge (s : State) (cause : Nat) : State := ((List.range 4).foldl (fun s k => s.slotJudge cause k) s).perLines

/-! ### Contacts (R570 to R574) -/

/-- Muting of a slot ends (R574). -/
def State.muteEnd (s : State) (k cause : Nat) : State :=
  (s.setPer (s.per.setSlot k { s.per.slot k with muting := false })).log 0x044B k (w32 cause)

/-- A muting slot whose sensors are not both closed stops muting. -/
def State.muteCheck (s : State) (k : Nat) : State :=
  let x := s.per.slot k
  if x.muting && !(s.per.pairPermits false (x.pair + 1)) then s.muteEnd k 0 else s

/-- The clearing of a DISCREPANCY moves on: the demand state, then permitting (R586). -/
def clearStep (p : PerSt) (x : SafeSlot) : SafeSlot :=
  let anti := funcAnti x.func
  if x.st = 4 ∧ x.cause = 1 then
    if x.clr = 0 ∧ p.pairDemands anti x.fPair then { x with clr := 1 }
    else if x.clr = 1 ∧ p.pairPermits anti x.fPair then { x with clr := 2 } else x
  else x

/-- The slot that claims a pair. -/
def PerSt.claims (p : PerSt) (pair : Nat) : Option Nat :=
  (List.range 4).find? (fun k => (p.slot k).pair ≤ pair && pair < (p.slot k).pair + (p.slot k).width)

/-- Whether a pair is the one of two mute sensors: two single contacts, which no combination of theirs makes a fault. -/
def PerSt.mutePair (p : PerSt) (pair : Nat) : Bool := p.slots.any (fun x => x.func == 5 && x.pair + 1 == pair)

/-- Whether the contacts of a claimed pair stand in a combination that its type does not allow (R573). -/
def PerSt.pairOdd (p : PerSt) (pair : Nat) : Bool :=
  match p.claims pair with
  | none => false
  | some k =>
    let same := p.contact (2 * pair) == p.contact (2 * pair + 1)
    if p.mutePair pair then false else if funcAnti (p.slot k).func then same else !same

/-- The contacts of a pair are judged anew. -/
def State.perContacts (s : State) (pair : Nat) (a b : Bool) : State :=
  if s.per.state = 0 ∨ 7 < pair then s
  else
    let c := putBitsNat (putBitsNat s.per.closed (2 * pair) 1 (if a then 1 else 0)) (2 * pair + 1) 1 (if b then 1 else 0)
    let p0 := { s.per with closed := c }
    let p := { p0 with oddAt := if p0.pairOdd pair && !(s.per.pairOdd pair) then tset 0 s.per.oddAt pair s.mer.base
                                else s.per.oddAt }
    let s1 := s.setPer { p with slots := p.slots.map (clearStep p) }
    if s1.per.state = 3 then ((List.range 4).foldl State.muteCheck s1).perJudge 0 else s1

/-- SAFETY_INPUT_DEMAND (R571): the contacts of a pair as they are judged when one of them has been open for 300 µs, or
an antivalent pair has left its permitting state. -/
def execSafetyInputDemand (pair : Nat) (a b : Bool) (s : State) : Host.Outcome State Fault Refusal :=
  go (s.perContacts pair a b)

/-- SAFETY_INPUT_PERMIT (R575): the contacts of a pair as they are judged when they return. -/
def execSafetyInputPermit (pair : Nat) (a b : Bool) (s : State) : Host.Outcome State Fault Refusal :=
  go (s.perContacts pair a b)

/-- MUTING_START (R574): both mute sensors of a slot have closed within 3 s of each other. -/
def execMutingStart (slot : Nat) (s : State) : Host.Outcome State Fault Refusal :=
  let x := s.per.slot slot
  if s.per.state = 3 ∧ x.func = 5 ∧ x.st ≠ 4 ∧ !x.muting ∧ s.per.pairPermits false x.pair then
    let c := putBitsNat s.per.closed (2 * (x.pair + 1)) 2 3
    go ((s.setPer ({ s.per with closed := c }.setSlot slot { x with muting := true, muteAt := s.mer.base })).log 0x044A slot)
  else go s

/-- MUTING_LIMIT (R574): 60 s after muting started. -/
def execMutingLimit (slot : Nat) (s : State) : Host.Outcome State Fault Refusal :=
  let x := s.per.slot slot
  if x.muting && since s.mer.base x.muteAt 60000000000 then go ((s.muteEnd slot 1).perJudge 2) else go s

/-! ### Faults (R571 to R573, R577, R586) -/

/-- An input fault of a pair: its slot is in FAULT. A pair that no slot claims is not evaluated. -/
def State.inputFault (s : State) (pair cause chans : Nat) : State :=
  match s.per.claims pair with
  | none => s
  | some k =>
    if s.per.state ≠ 3 then s
    else
      let x := s.per.slot k
      let p := s.per.setSlot k { x with st := 4, cause := cause, need := true, muting := false, fPair := pair,
                                        fAt := s.mer.base, clr := 0 }
      ((s.setPer { p with flt := some (false, cause, pair, chans) }).log 0x5445 pair (w32 cause) (w32 chans)).perLines

/-- Whether a TP output is in its dark pulse `t` ns after the test cycle began: 400 us every 20 ms, that of TPn from
n x 5 ms on (R570). -/
def tpDark (n t : Nat) : Bool := decide (n * 5000000 ≤ t % 20000000) && decide (t % 20000000 < n * 5000000 + 400000)

/-- Whether TPn supplies 24 V at a base counter value: outside its dark pulse, and only while 24VSO is there (R57, R570). -/
def PerSt.tpOn (p : PerSt) (n base : Nat) : Bool := p.state != 0 && decide (n < 4) && !(tpDark n (base - p.cycleAt))

/-- The test-pulse supply that a contact expects: SIiA TP0 or TP2, SIiB TP1 or TP3, for i even or odd (R570). -/
def expectedTp (pair : Nat) (b : Bool) : Nat := (if b then 1 else 0) + pair % 2 * 2

/-- Whether a pair is fed from outside Perimeter: the first of LC_MUTE, an OSSD pair (R571, R573). -/
def PerSt.ossd (p : PerSt) (pair : Nat) : Bool := p.slots.any (fun x => x.func == 5 && x.pair == pair)

/-- TP_FAULT (R571, R572): cause 2 TP_MISSING or 3 TP_FOREIGN, as a contact of the pair shows it against the dark pulse of
the supply it expects. An OSSD pair carries no test pulses. -/
def execTpFault (pair cause chans : Nat) (s : State) : Host.Outcome State Fault Refusal :=
  if (s.per.claims pair).isSome ∧ !(s.per.ossd pair) ∧ s.per.state = 3 then
    go ((s.incF Fld.PER_CNT_TP_ERR 0 0 1).inputFault pair cause chans)
  else go s

/-- DISCREPANCY (R573): the pair has stood in a combination that its type does not allow for more than 500 ms, an OSSD
pair for more than 10 ms. -/
def execDiscrepancy (pair chans : Nat) (s : State) : Host.Outcome State Fault Refusal :=
  let ms := if s.per.ossd pair then 10 else 500
  if s.per.pairOdd pair && since s.mer.base (tget 0 s.per.oddAt pair) (ms * 1000000) then go (s.inputFault pair 1 chans)
  else go s

/-- A die fault (R586): all outputs off, lines active. It clears only with 24VSO. -/
def State.dieFault (s : State) (cause chans : Nat) : State :=
  if s.per.state = 0 ∨ s.per.state = 4 then s
  else
    ((s.setPer { s.per with state := 4, flt := some (true, cause, 0, chans) }).log 0x5446 0 (w32 cause)
      (w32 chans)).perLines

/-- CHANNEL_DISAGREE (R569). -/
def execChannelDisagree (s : State) : Host.Outcome State Fault Refusal := go (s.dieFault 1 3)

/-- READBACK_FAULT (R577). -/
def execReadbackFault (chans : Nat) (s : State) : Host.Outcome State Fault Refusal := go (s.dieFault 2 chans)

/-- DIE_FAULT (R586): cause 3 CLOCK, 4 SUPPLY or 5 MEMORY. -/
def execDieFault (cause chans : Nat) (s : State) : Host.Outcome State Fault Refusal := go (s.dieFault cause chans)

/-- CROSS_LINK_EXCHANGE (R569): the two channels compare their decisions; a difference of more than 20 ms is
CHANNEL_DISAGREE. -/
def execCrossLinkExchange (s : State) : Host.Outcome State Fault Refusal := go s

/-- Whether a test of SOk is due: it is energised, and the last test began 10 s or more ago (R577). -/
def PerSt.testDue (p : PerSt) (k base : Nat) : Bool :=
  decide (k < 4) && p.outOn k && (match tget none p.tested k with
    | some t => since base t 10000000000
    | none => true)

/-- SWITCH_TEST (R577): the test of an energised output begins: its P-switch is off for 200 us, and 5 s later its M-switch.
A readback that does not follow is READBACK_FAULT. -/
def execSwitchTest (out : Nat) (s : State) : Host.Outcome State Fault Refusal :=
  if s.per.testDue out s.mer.base then
    go (s.setPer { s.per with tested := tset none s.per.tested out (some s.mer.base) })
  else go s

/-! ### Supply and start (R57, R584, R585) -/

/-- The die without 24VSO; the nonvolatile pattern and the count of applications stay. -/
def perOff (stored runs : Nat) : PerSt :=
  { state := 0, read := 0, stored := stored, pfw := 0, runs := runs, closed := 0, slots := [], req := 0, act := 0,
    lost := none, stuck := false, changed := false, flt := none, cycleAt := 0, reqAt := none,
    oddAt := [], frameAt := 0, viewAt := 0, tested := [] }

/-- SAFETY_SUPPLY_ON (R584): the self-test starts, outputs off and lines active. -/
def execSafetySupplyOn (s : State) : Host.Outcome State Fault Refusal :=
  if s.per.state = 0 then
    let b := s.mer.base
    let p := perOff s.per.stored (satAdd 65535 s.per.runs 1)
    go (s.setPer { p with state := 1, cycleAt := b, frameAt := b, viewAt := b }).perLines
  else go s

/-- SAFETY_SUPPLY_LOSS (R57). -/
def execSafetySupplyLoss (s : State) : Host.Outcome State Fault Refusal :=
  go (s.setPer (perOff s.per.stored s.per.runs)).perLines

/-- A slot on which a stop request acts is in DEMAND, not in WAIT_RESET: no reset turns it ON while the request stands,
and the request's withdrawal leads to WAIT_RESET (R8, R582). -/
def State.stopHold (s : State) (k : Nat) : State :=
  let x := s.per.slot k
  if x.func ≠ 0 ∧ x.st = 2 ∧ s.per.stopOn k then (s.setPer (s.per.setSlot k { x with stop := true })).slotDemand k 1 else s

/-- Perimeter enters RUN with a pattern: every slot other than NONE in WAIT_RESET. -/
def State.perRun (s : State) (pat : Nat) : State :=
  let p := { s.per with state := 3, read := pat, stored := pat, slots := slotsOf pat }
  let s1 := s.setPer { p with slots := p.slots.map (funcRule p s.mer.base) }
  ((List.range 4).foldl State.stopHold s1).perLines

/-- SELFTEST_DONE (R584): the pattern as each channel reads it, the cause of a failed self-test or 0, the channels that
found it, and the firmware version of the processor channel. -/
def execSelftestDone (patH patP cause chans pfw : Nat) (s : State) : Host.Outcome State Fault Refusal :=
  if s.per.state ≠ 1 then go s
  else
    let s1 := s.setPer { s.per with read := patH % 65536, pfw := pfw }
    if cause ≠ 0 then go (s1.dieFault cause chans)
    else if patH ≠ patP then go (s1.dieFault 6 3)
    else if (List.range 4).any (fun k => 9 ≤ patH / 16 ^ k % 16) then go (s1.dieFault 7 3)
    else if patH = s.per.stored then go ((s1.perRun patH).log 0x0440 0 (w32 patH) (w32 pfw))
    else go (s1.setPer { s1.per with state := 2 })

/-- PATTERN_CHANGE (R585). -/
def execPatternChange (pattern : Nat) (s : State) : Host.Outcome State Fault Refusal :=
  if s.per.state = 3 ∧ pattern ≠ s.per.read then
    go ((s.setPer { s.per with changed := true, read := pattern }).log 0x2442 0 (w32 s.per.stored) (w32 pattern))
  else go s

/-! ### Reset (R578 to R580) -/

/-- A rejected reset: reason 1 SHORT, 2 ONE_CHANNEL. -/
def State.resetRejected (s : State) (reason ms : Nat) : State :=
  (s.incF Fld.PER_CNT_RESET_REJ 0 0 1).log 0x2447 0 (w32 reason) (w32 ms)

/-- Whether the clearing condition of a slot's fault holds (R586). -/
def faultClears (now : Nat) (x : SafeSlot) : Bool :=
  x.st == 4 && (if x.cause = 1 then x.clr == 2 else decide (x.fAt + 2000000000 ≤ now))

/-- What an accepted reset does to a slot: WAIT_RESET to ON, a TWO_HAND slot to its two-hand rule (R579, R582), a fault
whose condition holds to WAIT_RESET, or to DEMAND where the function does not permit. -/
def resetSlot (now : Nat) (x : SafeSlot) : SafeSlot :=
  if x.st = 2 then { x with st := if x.func = 3 then 1 else 3, need := false, stop := false, rel := false, hand := none }
  else if faultClears now x then { x with st := if x.perm ∨ x.func = 3 then 2 else 1, cause := 0 } else x

/-- An accepted reset in RUN: faults and demands come first. -/
def State.resetRun (s : State) : State :=
  let s1 := (List.range 4).foldl (fun s k =>
    let x := s.per.slot k
    if x.st = 2 ∧ x.func ≠ 3 ∧ !(funcRule s.per s.mer.base x).perm then s.slotDemand k 0 else s.stopHold k) s
  let old := s1.per.slots
  let new := old.map (resetSlot s1.mer.base)
  let mask := (List.range 4).foldl (fun w k =>
    if (new.getD k slotNone).st = 3 ∧ (old.getD k slotNone).st = 2 then w + 2 ^ k else w) 0
  let flt := if new.any (fun x => x.st == 4) then s1.per.flt else none
  let s2 := (s1.setPer { s1.per with slots := new, flt := flt }).log 0x0444 0 (w32 mask)
  ((List.range 4).foldl State.stopHold s2).perLines

/-- RESET_PULSE (R578, R579, R584): the falling edge after `ms` of a high level, as both channels read it. -/
def execResetPulse (ms : Nat) (s : State) : Host.Outcome State Fault Refusal :=
  if (s.per.state ≠ 2 ∧ s.per.state ≠ 3) ∨ s.per.stuck ∨ 2000 < ms then go s
  else if ms < 100 then go (s.resetRejected 1 ms)
  else if s.per.state = 2 then
    go ((s.perRun s.per.read).log 0x1441 0 (w32 s.per.stored) (w32 s.per.read))
  else go s.resetRun

/-- RESET_STUCK (R578). -/
def execResetStuck (ms : Nat) (s : State) : Host.Outcome State Fault Refusal :=
  if s.per.state = 0 ∨ s.per.stuck then go s
  else go ((s.setPer { s.per with stuck := true }).log 0x5448 0 (w32 ms))

/-- RESET_STUCK_CLEAR (R578): RESET has been low for 1 s. -/
def execResetStuckClear (s : State) : Host.Outcome State Fault Refusal := go (s.setPer { s.per with stuck := false })

/-- RESET_ONE_CHANNEL (R580): the effect is withdrawn before it has come about; no output changes. -/
def execResetOneChannel (ms : Nat) (s : State) : Host.Outcome State Fault Refusal :=
  if s.per.state = 0 then go s else go (s.resetRejected 2 ms)

/-! ### Stop requests (R581 to R583, R592) -/

/-- The five request bits that the Nimurec die sends: STOP0 to STOP3 and ALL. -/
def State.stopBits (s : State) : Nat :=
  (List.range 4).foldl (fun w j =>
    if s.pubQ (128 + j) || s.fld Fld.PER_STOP_REQ 0 0 / 2 ^ j % 2 == 1 then w + 2 ^ j else w)
    (s.fld Fld.PER_STOP_REQ 0 0 / 16 % 2 * 16)

/-- The slots on which a request line acts. -/
def lineSlots (j : Nat) : List Nat := if j = 4 then [0, 1, 2, 3] else [j]

/-- A newly active line: its event, and the slots it makes demand. -/
def State.stopLine (s : State) (source j : Nat) : State :=
  (lineSlots j).foldl (fun s k =>
    let x := s.per.slot k
    if x.func = 0 ∨ x.st = 4 then s
    else
      let s1 := s.setPer (s.per.setSlot k { x with stop := true })
      if x.st = 1 then s1 else s1.slotDemand k 1) (s.log 0x5449 j (w32 source))

/-- A slot on which no line acts any more leaves DEMAND for WAIT_RESET, once its function permits; TWO_HAND at once. -/
def State.stopGone (s : State) (k : Nat) : State :=
  let x := s.per.slot k
  if x.stop ∧ x.st = 1 ∧ !(s.per.stopOn k) ∧ (x.perm ∨ x.func = 3) then
    s.setPer (s.per.setSlot k { x with st := 2, stop := false })
  else s

/-- The set of lines acted on changes. `src` gives the source of each new one. -/
def State.stopAct (s : State) (act : Nat) (src : Nat → Nat) : State :=
  let old := s.per.act
  let s1 := s.setPer { s.per with act := act }
  let s2 := (List.range 5).foldl (fun s j =>
    if act / 2 ^ j % 2 = 1 ∧ old / 2 ^ j % 2 = 0 then s.stopLine (src j) j else s) s1
  ((List.range 4).foldl State.stopGone s2).perLines

/-- STOP_REQUEST_FRAME (R581 to R583): a frame with the present requests; a bit acts once it has been set in two
consecutive valid frames. -/
def execStopRequestFrame (ok : Bool) (s : State) : Host.Outcome State Fault Refusal :=
  if !ok ∨ s.per.state = 0 ∨ !s.alive then go s
  else
    let bits := s.stopBits
    let s1 := match s.per.lost with
      | some t => s.log 0x544D 0 (w32 ((s.mer.base - t) / 1000000))
      | none => s
    let act := bits &&& (s.per.req ||| s.per.act)
    let b := s.mer.base
    let p := { s1.per with req := bits, lost := none, frameAt := b, reqAt := some (s.per.reqAt.getD b) }
    go ((s1.setPer p).stopAct act (fun j => if j < 4 && s.pubQ (128 + j) then 0 else 1))

/-- STOP_CHANNEL_LOSS (R583): no valid frame for 1 ms. -/
def execStopChannelLoss (s : State) : Host.Outcome State Fault Refusal :=
  if s.per.state = 0 ∨ s.per.lost.isSome ∨ !(since s.mer.base s.per.frameAt 1000000) then go s
  else go ((s.setPer { s.per with lost := some s.mer.base, req := 0 }).stopAct (s.per.act ||| 15) (fun _ => 2))

/-- PER_STOP_WRITE (R581): the requests for the next frames. -/
def execPerStopWrite (value : Word) (s : State) : Host.Outcome State Fault Refusal :=
  if s.alive then go (s.setF Fld.PER_STOP_REQ 0 0 (bitsOf value 0 5)) else go s

/-- A new stop request: no frame with it has reached the die yet (R592). -/
def State.reqAsked (s : State) : State := s.setPer { s.per with reqAt := none }

/-- PER_STOP_REQ (R592). -/
def execPerStopReq (it : Item) (s : State) : Host.Outcome State Fault Refusal :=
  serve it s (fun s =>
    let v := (it.w 3).toNat
    let old := s.fld Fld.PER_STOP_REQ 0 0
    if it.inst ≠ 0 then s.complete it stRange 0x11 0 (w32 it.inst)
    else if 31 < v then s.complete it stFormat 12
    else
      let s1 := (s.setF Fld.PER_STOP_REQ 0 0 v).reqAsked
      if v &&& old = v then s1.complete it stDone else s1.holdItem 0x1100 it [w32 old, w32 v])

/-! ### The status view (R588) -/

/-- A mask of slots in a state. -/
def PerSt.inState (p : PerSt) (st : Nat) : Nat :=
  (List.range 4).foldl (fun w k => if (p.slot k).st = st then w + 2 ^ k else w) 0

/-- Whether a claimed pair permits by the type its slot gives it. -/
def PerSt.pairView (p : PerSt) (i : Nat) : Bool :=
  match p.claims i with
  | none => false
  | some k => p.pairPermits (funcAnti (p.slot k).func && !((p.slot k).func = 5)) i

/-- The 32 bits of a status frame sent at a base counter value; VALID is the Nimurec side's. SO_ON shows the switches as
they read back. -/
def PerSt.view (p : PerSt) (base : Nat) : Nat :=
  let so := (List.range 4).foldl (fun w k =>
    if p.switchOn false k base && p.switchOn true k base then w + 2 ^ k else w) 0
  let permit := (List.range 8).foldl (fun w i => if p.pairView i then w + 2 ^ i else w) 0
  let b := fun (c : Bool) k => if c then 2 ^ k else 0
  so + p.inState 2 * 16 + b (!p.linesOff) 8 + b p.flt.isSome 9 + b p.stuck 10 + b p.changed 11 + b (p.state == 1) 12 +
    b (p.slots.any (fun x => x.muting)) 13 + b (p.act != 0) 14 + permit * 2 ^ 16 + p.inState 4 * 2 ^ 24 + p.state * 2 ^ 28

/-- The registers as a status frame gives them. -/
def State.showPer (s : State) : State :=
  let p := s.per
  let s1 := s.wr Reg.PER_STATE 0 0 (w32 (p.state * 2 ^ 28 + p.pfw % 256 * 65536 + p.runs))
  let s2 := s1.wr Reg.PER_PATTERN 0 0 (w32 (p.stored * 65536 + p.read))
  let s3 := (List.range 4).foldl (fun s k =>
    let x := p.slot k
    s.wr Reg.PER_SLOT k 0 (w32 (x.func * 2 ^ 28 + x.st * 2 ^ 24 + x.pair * 65536 + x.width * 256 + x.cause))) s2
  match p.flt with
  | none => s3.wr Reg.PER_FAULT 0 0 0
  | some (die, cause, pair, chans) =>
    s3.wr Reg.PER_FAULT 0 0 (w32 (2 ^ 31 + (if die then 2 ^ 30 else 0) + cause * 256 + pair % 16 * 16 + chans % 4))

/-- A waiting PER_STOP_REQ completes at a view that shows STOPREQ, sent 44 µs or more after the first frame with its
value (R592). -/
def State.stopDone (s : State) : State :=
  match s.per.reqAt with
  | none => s
  | some t =>
    if s.per.act ≠ 0 ∧ t + 44000 ≤ s.mer.base then
      (s.hif.inflight.filter (fun x => x.opcode == 0x1100 && x.phase == .waiting)).foldl
        (fun s x => s.complete x.item stDone) s
    else s

/-- A status frame has arrived now (R588). -/
def State.viewSeen (s : State) : State := s.setPer { s.per with viewAt := s.mer.base }

/-- STATUS_FRAME (R588): a frame of the Perimeter die; one that is not valid is counted. -/
def execStatusFrame (ok : Bool) (s : State) : Host.Outcome State Fault Refusal :=
  if s.per.state = 0 ∨ !s.alive then go s
  else if !ok then go (s.incF Fld.PER_LINK_CRCERR 0 0 1)
  else
    let v := w32 (s.per.view s.mer.base + 32768)
    let s1 := (((s.showPer).wr Reg.PER_VIEW 0 0 v).setF Fld.PER_LINK_UP 0 0 1).viewSeen
    let s2 := if v = s.rd Reg.PER_VIEW 0 0 then s1 else s1.raise 139 0 0 v
    go s2.stopDone

/-- STATUS_CHANNEL_LOSS (R588): no valid status frame for 4 µs. -/
def execStatusChannelLoss (s : State) : Host.Outcome State Fault Refusal :=
  if s.bit Fld.PER_LINK_UP 0 0 ∧ since s.mer.base s.per.viewAt 4000 then
    let s1 := ((s.wr Reg.PER_VIEW 0 0 0).setF Fld.PER_STATE_STATE 0 0 0).setF Fld.PER_LINK_UP 0 0 0
    go ((s1.raise 139 0 0 0).log 0x244C 0 (w32 (s1.fld Fld.PER_LINK_CRCERR 0 0)))
  else go s

end Sys2Proof.Machine
end

