-- ==== Sys2Proof/Machine/Deps.lean ====
section
/-! DEFINITION. Validation of configuration values: ranges, dependencies, budgets and table capacities (R141 to R156,
R169, and the field tables of the blocks' chapters). -/

namespace Sys2Proof.Machine

/-! ### Values under validation -/

/-- The machine with the values under validation as its active ones. -/
def Val.view (v : Val) (s : State) : State := { s with cfg := { s.cfg with active := v.tab } }

/-- A value as it will stand. -/
def Val.get (v : Val) (k : Nat) : Word := tabGet cfgDefault v.tab k

/-- Whether a clamp is that of a field. -/
def Clamp.isOf (c : Clamp) (k : Nat) : Bool := cfgKey c.block c.inst c.fld c.elem == k

/-- A number put in its place in an ascending list without repeats. -/
def addSorted (x : Nat) : List Nat → List Nat
  | [] => [x]
  | y :: ys => if x = y then y :: ys else if x < y then x :: y :: ys else y :: addSorted x ys

/-- A field or element takes a clamped value: one report each, at the place of its first clamp (R156). -/
def Val.clamp (v : Val) (flt : Bool) (k : Nat) (new : Word) (reason : Nat) (cause : Word) : Val :=
  let cs := if v.clamps.any (fun c => c.isOf k) then
      v.clamps.map (fun c => if c.isOf k then { c with reason := reason, app := new, cause := cause } else c)
    else v.clamps ++ [⟨flt, reason, keyBlock k, keyFld k, keyElem k, keyInst k, v.get k, new, cause⟩]
  { v with tab := tabSet cfgDefault v.tab k new, clamps := cs }

/-- CAUSE of a dependency: the block and field that constrained the value. -/
def cause (b f : Nat) : Word := w32 (b * 65536 + f)

/-- A value held by a dependency; nothing happens when it stands. -/
def Val.dep (v : Val) (flt : Bool) (k : Nat) (new : Word) (c : Word) : Val :=
  if new = v.get k then v else v.clamp flt k new 2 c

/-- The value that was requested of a field: the one staged, or for a field that is checked again its active one; a clamp
that has acted on it keeps it (R156). -/
def Val.asked (v : Val) (k : Nat) : Word :=
  match v.clamps.find? (fun c => c.isOf k) with
  | some c => c.req
  | none => v.get k

/-- The entry for a field or element that is left out of an image, with reason OMITTED (R169). -/
def Val.omitted (v : Val) (k : Nat) : Clamp :=
  ⟨false, 5, keyBlock k, keyFld k, keyElem k, keyInst k, v.asked k, cfgDefault k, 0⟩

/-- A field that cannot be clamped rejects the item (R152). While an image is loaded it is left out instead and takes its
default (R169): a table field as a whole, each element that the image gave it with an entry of its own (DESIGN CHOICE: R169
does not say whether one bad element leaves out the element or the field; notes/assumptions/137.md). -/
def Val.reject (v : Val) (k : Nat) (req : Word) : Val :=
  if v.load then
    let mine := fun (x : Nat) => x / 65536 == k / 65536
    let ks := v.tab.foldl (fun l kv => if mine kv.1 then addSorted kv.1 l else l) [k]
    { v with tab := v.tab.filter (fun kv => !(mine kv.1)),
             clamps := v.clamps.filter (fun c => !(mine (cfgKey c.block c.inst c.fld c.elem))) ++ ks.map v.omitted }
  else match v.fail with
    | some _ => v
    | none => { v with fail := some (k, req) }

/-- A check that a value passes or that rejects it, with the value requested. -/
def Val.need (v : Val) (k : Nat) (ok : Bool) : Val := if ok then v else v.reject k (v.asked k)

/-! ### Ranges (pass 1: R148, R151, R152) -/

/-- A number held to a range. -/
def holdNat (lo hi n : Nat) : Nat := if n < lo then lo else if hi < n then hi else n

/-- The nearest of ascending values, a tie to the lower. -/
def nearestOf (n : Nat) : List Nat → Nat → Nat
  | [], b => b
  | x :: xs, b =>
    let dist := fun (a : Nat) => if a < n then n - a else a - n
    nearestOf n xs (if dist x < dist b then x else b)

/-- A binary32 held to a range; none for NaN. -/
def holdF (lo hi w : Word) : Option Word := if isNan32 w then none else some (clamp32 lo hi w)

/-- The nearest legal value of a field kind; none where the value cannot be clamped. -/
def rangeOf (k : FieldKind) (w : Word) : Option Word :=
  let n := w.toNat
  match k with
  | .int lo hi => some (w32 (holdNat lo hi n))
  | .sint lo hi => some (if sInt w < lo then wInt lo else if hi < sInt w then wInt hi else w)
  | .intOr lo hi x =>
    if n = x then some w
    else if n ≤ hi then some (w32 (holdNat lo hi n))
    else some (w32 (if x < n then x else if 2 * n ≤ hi + x then hi else x))
  | .step lo hi st =>
    let d := n / st * st
    some (w32 (holdNat lo hi (if n - d ≤ d + st - n then d else d + st)))
  | .set vals => some (w32 (nearestOf n vals (vals.headD 0)))
  | .enum codes => if codes.contains n then some w else none
  | .f32 lo hi => holdF lo hi w
  | .f32any => holdF 0xFF7FFFFF 0x7F7FFFFF w
  | .any => some w
  | .fbsp => if n = 0 ∨ (256 ≤ n ∧ n < 512) then some w else none
  | .route01 => if n ≤ 1 then some 0 else if n = 2 then some w else none
  | .deadline => some (w32 (if n ≤ 2 then 0 else if n < 5 then 5 else if 100000 < n then 100000 else n))
  | .arcBoot =>
    let m := w &&& 0x00FF00FF
    some (if bitsOf m 16 8 = 0 then m + 0x10000 else m)
  | .trgSrc =>
    let kd := bitsOf w 28 4
    let op := bitsOf w 0 28
    if 5 < kd ∨ (kd = 1 ∧ 127 < op) ∨ (kd = 2 ∧ 31 < op) ∨ (kd = 3 ∧ 65535 < op) then none else some w
  | .table => some w

/-- The Vertex sources that are reserved (R352). -/
def srcReserved (n : Nat) : Bool := (49 ≤ n && n ≤ 63) || (113 ≤ n && n ≤ 119) || (140 ≤ n && n ≤ 143)

/-- The bits of a QINIT element that name output bits (R326). -/
def qinitMask (e : Nat) : Word := if e < 4 then 0xFFFFFFFF else if e = 4 then 0xF else if e = 8 then 0xFFFF else 0

/-- The nearest legal value of a table element (R333, R336, R337, R349, R371, R425, R478, R533); reserved bits are
cleared (DEDUCED, notes/assumptions/14.md). -/
def State.tableRange (s : State) (b f e : Nat) (w : Word) : Option Word :=
  if b = 0xF ∧ f = 0x200 then
    if e < 128 then (if w = 0 then some w else none)
    else
      let kd := bitsOf w 28 4
      if 3 < kd ∨ (kd = 3 ∧ bitsOf w 8 2 = 3) then none else some w
  else if b = 0xF ∧ f = 0x201 then some (w &&& 0x80000000)
  else if b = 0xF ∧ f = 0x202 then
    some (w32 (let n := holdNat 1 31 w.toNat; if n = 16 then 15 else n))
  else if b = 0xF ∧ f = 0x203 then (if s.coFloat e then holdF 0xFF7FFFFF 0x7F7FFFFF w else some w)
  else if b = 0xD ∧ f = 0x104 then some (w &&& 0x803FFFFF)
  else if b = 0x9 ∧ f = 0x104 then
    let k := e % 4
    if k = 0 then some (w &&& 0x80000FFF)
    else if k = 1 then (if bitsOf w 4 2 = 3 then none else some (w &&& 0x31))
    else if k = 2 then holdF 0xFF7FFFFF 0x7F7FFFFF w
    else holdF 0 0x4E6E6B28 w
  else if b = 0x9 ∧ f = 0x106 then some (w &&& qinitMask e)
  else if b = 0x9 ∧ (f = 0x107 ∨ f = 0x109) then some (w &&& 0x80000FFF)
  else if b = 0x8 ∧ f = 0x100 then some (w &&& 0x8000FFFF)
  else if b = 0x6 ∧ f = 0x100 then
    if e % 2 = 0 then
      if bitOf w 31 ∧ srcReserved (e / 2) then none
      else some (putBits (w &&& 0x803F3FFF) 0 14 (holdNat 1 8192 (bitsOf w 0 14)))
    else some (putBits (w &&& 0xFFF007FF) 0 11 (holdNat 1 1024 (bitsOf w 0 11)))
  else if b = 0xB ∧ f = 0x200 then some (w &&& 0x800FFFFF)
  else some w

/-- The elements of a table field that fit (R154): those beyond are refused in pass 4, or reject the Lattice program. -/
def tableCap (b f : Nat) : Option (Nat × Nat) :=
  if b = 0xF ∧ f = 0x200 then some (4096, 1)
  else if b = 0x8 ∧ f = 0x100 then some (1024, 2)
  else if b = 0x8 ∧ f = 0x102 then some (16384, 4)
  else if b = 0x9 ∧ f = 0x100 then some (16384, 6)
  else none

/-- Whether an element lies beyond its table. -/
def overCap (k : Nat) : Bool :=
  match tableCap (keyBlock k) (keyFld k) with
  | some c => c.1 ≤ keyElem k
  | none => false

/-- Whether a field's values are binary32. -/
def State.isFloat (s : State) (k : Nat) : Bool :=
  let b := keyBlock k
  let f := keyFld k
  match (fieldRow b (keyInst k) f).map FieldRow.kind with
  | some (.f32 _ _) => true
  | some .f32any => true
  | some .table =>
    (b == 9 && f == 0x104 && 2 ≤ keyElem k % 4) || (b == 9 && f == 0x108 && isAO (s.chMode (keyElem k))) ||
      (b == 0xF && f == 0x203 && s.coFloat (keyElem k))
  | _ => false

/-- Pass 1 on one staged field or element. -/
def State.pass1 (s : State) (v : Val) (k : Nat) : Val :=
  let w := v.get k
  let b := keyBlock k
  let f := keyFld k
  let t := v.view s
  if overCap k then v
  else
    let r := match (fieldRow b (keyInst k) f).map FieldRow.kind with
      | some .table => t.tableRange b f (keyElem k) w
      | some kd => rangeOf kd w
      | none => some w
    match r with
    | none => v.reject k w
    | some x => if x = w then v else v.clamp (t.isFloat k) k x 1 0

/-! ### Helpers of pass 2 -/

/-- The instances of a block that some key names, ascending. -/
def instsOf (b : Nat) (ks : List Nat) : List Nat :=
  (ks.filter (fun k => keyBlock k == b)).foldl (fun l k => addSorted (keyInst k) l) []

/-- The elements of a table field that the values list. -/
def Val.elems (v : Val) (b i f : Nat) : List Nat :=
  v.tab.filterMap (fun kv => if keyBlock kv.1 = b ∧ keyInst kv.1 = i ∧ keyFld kv.1 = f then some (keyElem kv.1) else none)

/-- The coordinate table as it will stand holds a coordinate. -/
def State.hasCoord (t : State) (c : Nat) : Bool := (t.entryOf c).isSome

/-- The coordinate table as it will stand defines an entry. -/
def State.hasEntry (t : State) (e : Nat) : Bool := e < 128 || (e < 4096 && t.ctKind e != 0)

/-! ### FCT (R21, R186, R187, R194, R209, R216, R217, R249, R537) -/

/-- Pass 2 on a channel. `chg` tells of a field whether the item changes it, or stages it with a value that stands for
itself: DI_HYST, which direct writes may have left beyond DI_THR (R163), is checked only with one of the two (R150). -/
def State.depChan (s : State) (chg : Nat → Bool) (v : Val) (ch : Nat) : Val :=
  let key := fun (f : Nat) => cfgKey 0x12 ch f 0
  let v0 := v.need (key 0) (!(s.inPair && v.get (key 0) == 6))
  let m := (v0.get (key 0)).toNat
  let cm := cause 0x12 0
  let ss := v0.get (key 2)
  let v1 := if (isAO m && ss == 1) || (m == 8 && ss == 3) then v0.dep false (key 2) 0 cm else v0
  let v2 := if isAO m then v1.dep true (key 3) (clamp32 (modeLo m) (modeHi m) (v1.get (key 3))) cm else v1
  let thr := (v2.get (key 6)).toNat
  let v3 := if (chg (key 6) || chg (key 7)) && decide (thr < (v2.get (key 7)).toNat + 5) then v2.dep false (key 7) (w32 (thr - 5)) (cause 0x12 6) else v2
  let v4 := if chg (key 0x10) || chg (key 0) then
      if !(isAI m) then v3.dep false (key 0x10) 0 cm
      else if v3.get (key 0x10) = 0 then v3.dep false (key 0x10) 1 cm else v3
    else v3
  if m = 3 then v4 else v4.dep false (key 0x14) 0 cm

/-- AI_SLOTS of a channel as budget 3 counts it: a channel that is no analog input takes no slot (R216). -/
def Val.slots (v : Val) (ch : Nat) : Nat :=
  if isAI (v.get (cfgKey 0x12 ch 0 0)).toNat then (v.get (cfgKey 0x12 ch 0x10 0)).toNat else 0

/-- Budget 3 of a Facet (R217): the channel with the most slots is halved, the highest among equals, until the sum
fits. -/
def budget3 (n : Nat) : Nat → Val → Val
  | 0, v => v
  | fuel + 1, v =>
    let chs := facetChans n
    if chs.foldl (fun a c => a + v.slots c) 0 ≤ 32 then v
    else
      let c := chs.foldl (fun b c => if v.slots b ≤ v.slots c then c else b) (8 * n)
      budget3 n fuel (v.clamp false (cfgKey 0x12 c 0x10 0) (w32 (v.slots c / 2)) 3 3)

/-- Pass 2 on a fallback slot of a Facet (R187). -/
def depSlot (n : Nat) (v : Val) (sl : Nat) : Val :=
  let key := fun (j : Nat) => cfgKey 0x12 (128 + n) (0x110 + 8 * sl + j) 0
  let mode := fun (v : Val) (c : Word) => (v.get (cfgKey 0x12 (8 * n + c.toNat % 8) 0 0)).toNat
  let out := v.get (key 0)
  let dup := [0, 1, 2, 3].any (fun j => j != sl && v.get (cfgKey 0x12 (128 + n) (0x110 + 8 * j) 0) == out)
  let v1 := v.need (key 0) (out == 255 || (isAO (mode v out) && !dup))
  let v2 := v1.need (key 1) (v1.get (key 0) == 255 || isAI (mode v1 (v1.get (key 1))))
  if Fl.lt (f32 (v2.get (key 7))) (f32 (v2.get (key 6))) then
    v2.dep true (key 7) (v2.get (key 6)) (cause 0x12 (0x110 + 8 * sl + 6))
  else v2

/-- Pass 2 on FCT. -/
def State.depFct (s : State) (chg : Nat → Bool) (is : List Nat) (v : Val) : Val :=
  let chs := is.filter (fun i => i < 128)
  let v1 := chs.foldl (fun v ch => s.depChan chg v ch) v
  let fs := chs.foldl (fun l c => addSorted (c / 8) l) []
  let v2 := fs.foldl (fun v n => budget3 n 64 v) v1
  let ns := is.foldl (fun l i => addSorted (facetOf i) l) []
  ns.foldl (fun v n => [0, 1, 2, 3].foldl (fun v sl => depSlot n v sl) v) v2

/-! ### MER, VXL, ETH and CAN (R445, R460, R478, R494, R498, R523, R533) -/

/-- Pass 2 on MER. -/
def State.depMer (s : State) (is : List Nat) (v : Val) : Val :=
  is.foldl (fun v i =>
    if i < 3 then
      let lo := v.get (cfgKey 5 i 3 0)
      if (v.get (cfgKey 5 i 4 0)).toNat < lo.toNat then v.dep false (cfgKey 5 i 4 0) lo (cause 5 3) else v
    else v.need (cfgKey 5 3 0x100 0) (!(v.get (cfgKey 5 3 0x100 0) == 1 && s.role != 3))) v

/-- The shortest cycle from `us` on, in steps of 100 µs, at which every grant still fits (R523). -/
def State.fitCycle (s : State) : Nat → Nat → Nat
  | 0, us => us
  | fuel + 1, us =>
    if (s.setF Fld.VXL_CYCPER_US 0 0 us).grantsFit s.vxl.grants ∨ 1000000 ≤ us then us else s.fitCycle fuel (us + 100)

/-- Pass 2 on VXL. -/
def State.depVxl (s : State) (v : Val) : Val :=
  let k := cfgKey 0xF 4 0x101 0
  let v1 := if s.isManager then v.dep false k (w32 (s.fitCycle 10000 (v.get k).toNat)) (cause 0xF 0x201) else v
  (v1.elems 0xF 5 0x201).foldl (fun v e =>
    let kd := bitsOf (v.get (cfgKey 0xF 5 0x200 e)) 28 4
    v.need (cfgKey 0xF 5 0x201 e) (e < 128 || kd == 2 || kd == 3 || !(bitOf (v.get (cfgKey 0xF 5 0x201 e)) 31))) v1

/-- The coordinates of the cyclic frames (R478). -/
def State.depEth (s : State) (v : Val) : Val :=
  (v.elems 0xD 2 0x104).foldl (fun v e =>
    let w := v.get (cfgKey 0xD 2 0x104 e)
    v.need (cfgKey 0xD 2 0x104 e) (!(bitOf w 31) || (v.view s).hasCoord (bitsOf w 0 22))) v

/-- Pass 2 on a CAN controller (R445). -/
def depCan (v : Val) (c : Nat) : Val :=
  let key := fun (f : Nat) => cfgKey 0xE c f 0
  let n := fun (v : Val) (f : Nat) => (v.get (key f)).toNat
  let nq := 1 + n v 3 + n v 4
  let v1 := v.dep false (key 2) (w32 (holdNat ((79 + nq) / nq) (Nat.min 512 (8000 / nq)) (n v 2))) (cause 0xE 3)
  let v2 := if n v1 4 < n v1 5 then v1.dep false (key 5) (v1.get (key 4)) (cause 0xE 4) else v1
  let dq := 1 + n v2 7 + n v2 8
  let v3 := v2.dep false (key 6) (w32 (holdNat ((9 + dq) / dq) (Nat.min 32 (n v2 2 * nq / dq)) (n v2 6))) (cause 0xE 7)
  if n v3 8 < n v3 9 then v3.dep false (key 9) (v3.get (key 8)) (cause 0xE 8) else v3

/-! ### ARC (R377, R379, R382, R394) -/

/-- Pass 2 on a generator. -/
def depArc (v : Val) (g : Nat) : Val :=
  let key := fun (f : Nat) => cfgKey 0xA g f 0
  let n := fun (v : Val) (f : Nat) => (v.get (key f)).toNat
  let m := n v 4
  let v1 := v.need (key 4) (!(m < 32 && (m == g || (v.get (cfgKey 0xA m 4 0)).toNat < 32)))
  let per := n v1 6
  let full := per * 16
  let v2 := if full ≤ n v1 7 then v1.dep false (key 7) (w32 (full - 1)) (cause 0xA 6) else v1
  let v3 := if full < n v2 8 then v2.dep false (key 8) (w32 full) (cause 0xA 6)
    else if n v2 8 < n v2 7 then v2.dep false (key 8) (v2.get (key 7)) (cause 0xA 7) else v2
  let v4 := if n v3 2 = 1 then v3.dep false (key 9) 0 (cause 0xA 2) else v3
  if per / 2 < n v4 0xB + n v4 0xC then v4.dep false (key 0xC) (w32 (per / 2 - n v4 0xB)) (cause 0xA 6) else v4

/-! ### TAN (R21, R252, R255, R284, R376) -/

/-- A source of a loop names an input that exists; the mode and the coordinate count only for an enabled loop (R255). -/
def State.srcOk (t : State) (w : Word) (en : Bool) : Bool :=
  if bitOf w 31 then bitsOf w 22 9 == 0 && (!en || t.hasCoord (bitsOf w 0 22))
  else w.toNat < 128 && (!en || isAI (t.chMode w.toNat) || t.chMode w.toNat == 9)

/-- The least PERIOD for a local channel: not shorter than its sample interval, at most 100 ms (R255); and the FCT field
that sets it. -/
def State.leastPeriod (t : State) (ch : Nat) : Nat × Nat :=
  if t.chMode ch = 9 then (Nat.min 100000 (t.cfN Cf.FCT_PI_GATE ch * 1000), 0xD)
  else
    let d := Nat.max 1 (t.cfN Cf.FCT_AI_SLOTS ch) * 5000
    (Nat.min 100000 ((1600 * t.cfN Cf.FCT_AI_DECIM ch + d - 1) / d * 5), 0x11)

/-- The destination of a loop is one that Tangent may write, and no other loop names it (R21, R284). -/
def State.dstOk (t : State) (v : Val) (l : Nat) (w : Word) : Bool :=
  let kd := bitsOf w 28 4
  let no := bitsOf w 0 28
  let mine := match kd with
    | 0 => no == 0
    | 1 => no < 128 && isAO (t.chMode no) && t.cfN Cf.FCT_OWNER no == 1
    | 2 => no < 32 && t.cfN Cf.ARC_DUTY_SRC no == 1
    | 3 => no < 256
    | _ => false
  mine && (kd == 0 || (instsOf 7 (v.tab.map (fun kv => kv.1))).all (fun k => k == l || v.get (cfgKey 7 k 0xE 0) != w))

/-- The limits of a destination's values (R284). -/
def State.dstLimits (t : State) (w : Word) : Option (Word × Word) :=
  match bitsOf w 28 4 with
  | 1 => some (modeLo (t.chMode (bitsOf w 0 7)), modeHi (t.chMode (bitsOf w 0 7)))
  | 2 => some (0, 0x3F800000)
  | _ => none

/-- A limit of a loop's output held to its destination's range. -/
def State.depOutLim (s : State) (v : Val) (l f : Nat) : Val :=
  match (v.view s).dstLimits (v.get (cfgKey 7 l 0xE 0)) with
  | some lim => v.dep true (cfgKey 7 l f 0) (clamp32 lim.1 lim.2 (v.get (cfgKey 7 l f 0)))
      (if bitsOf (v.get (cfgKey 7 l 0xE 0)) 28 4 = 1 then cause 0x12 0 else cause 7 0xE)
  | none => v

/-- A value of a loop held between two of its fields. -/
def depBetween (v : Val) (l f fLo fHi : Nat) : Val :=
  let x := v.get (cfgKey 7 l f 0)
  let lo := v.get (cfgKey 7 l fLo 0)
  let hi := v.get (cfgKey 7 l fHi 0)
  if Fl.lt (f32 x) (f32 lo) then v.dep true (cfgKey 7 l f 0) lo (cause 7 fLo)
  else if Fl.lt (f32 hi) (f32 x) then v.dep true (cfgKey 7 l f 0) hi (cause 7 fHi) else v

/-- Pass 2 on a loop. -/
def State.depLoop (s : State) (v : Val) (l : Nat) : Val :=
  let key := fun (f : Nat) => cfgKey 7 l f 0
  let en := v.get (key 2) == 1
  let v0 := v.need (key 0) ((v.view s).srcOk (v.get (key 0)) en)
  let pv := v0.get (key 0)
  let v1 := if en && !(bitOf pv 31) then
      let p := (v0.view s).leastPeriod pv.toNat
      if (v0.get (key 1)).toNat < p.1 then v0.dep false (key 1) (w32 p.1) (cause 0x12 p.2) else v0
    else v0
  let per := (v1.get (key 1)).toNat
  let v2 := if per / 5 ≤ (v1.get (key 4)).toNat then v1.dep false (key 4) (w32 (per / 5 - 1)) (cause 7 1) else v1
  let v3 := if per < (v2.get (key 5)).toNat then v2.dep false (key 5) (w32 per) (cause 7 1) else v2
  let v4 := if Fl.lt (f32 (v3.get (key 0xA))) (f32 (v3.get (key 9))) then
      v3.dep true (key 0xA) (v3.get (key 9)) (cause 7 9) else v3
  let v5 := depBetween v4 l 0xB 9 0xA
  let v6 := v5.need (key 0xE) ((v5.view s).dstOk v5 l (v5.get (key 0xE)))
  let v7 := s.depOutLim v6 l 0xF
  let v8 := s.depOutLim v7 l 0x10
  let v9 := if Fl.lt (f32 (v8.get (key 0x10))) (f32 (v8.get (key 0xF))) then
      v8.dep true (key 0x10) (v8.get (key 0xF)) (cause 7 0xF) else v8
  let ff := v9.get (key 0x12)
  let v10 := v9.need (key 0x12) (ff == 0xFFFFFFFF || (v9.view s).srcOk ff en)
  depBetween v10 l 0x32 0xF 0x10

/-! ### LAT (R334, R336, R349) -/

/-- The spaces an opcode accepts: 1 those of LD, 2 Q and M, 3 none, 4 + the space for one space, 0 for a reserved
opcode (R328). -/
def opSpaces (op : Nat) : Nat :=
  if (1 ≤ op ∧ op ≤ 7) ∨ (9 ≤ op ∧ op ≤ 12) then 1
  else if 0x10 ≤ op ∧ op ≤ 0x13 then 2
  else if op = 0 ∨ op = 8 ∨ op = 0xD ∨ (0x28 ≤ op ∧ op ≤ 0x2A) ∨ op = 0x3F then 3
  else if 0x18 ≤ op ∧ op ≤ 0x1A then 8
  else if 0x1C ≤ op ∧ op ≤ 0x1F then 9
  else if op = 0x20 ∨ op = 0x21 then 10
  else if op = 0x24 then 11 else 0

/-- Whether an opcode accepts a space. -/
def spaceOk (op sp : Nat) : Bool :=
  match opSpaces op with
  | 0 => false
  | 1 => 1 ≤ sp && sp ≤ 9
  | 2 => sp == 2 || sp == 3
  | 3 => sp == 0
  | n => sp + 4 == n

/-- Whether an address lies in its space and is not reserved (R326). -/
def addrOk (sp a : Nat) : Bool :=
  match sp with
  | 1 => a ≤ 296 || (304 ≤ a && a ≤ 355)
  | 2 => a ≤ 131 || (256 ≤ a && a ≤ 271)
  | 3 => a < 4096
  | 4 => a < 1024
  | 5 => a < 512
  | 6 => a < 1024
  | 7 => a < 1024
  | 8 => a < 4096
  | 9 => a < 2048
  | _ => false

/-- A jump. -/
def isJump (op : Nat) : Bool := 0x28 ≤ op && op ≤ 0x2A

/-- A word by itself (R326 to R328, R334): its opcode, space, modifier and address, and what it names. -/
def State.wordOk (t : State) (w : Word) : Bool :=
  let op := latOp w
  let sp := latSp w
  let a := latAd w
  spaceOk op sp && (if sp = 8 then latMod w < 5 && t.hasEntry a else latMod w == 0) &&
    (if sp = 0 then (if isJump op then 1 ≤ a && a < 16384 else a == 0) else addrOk sp a) &&
    (!(sp == 2 && a < 128 && opSpaces op == 2) || (t.chMode a == 8 && t.cfN Cf.FCT_OWNER a == 3)) &&
    (!(op == 0x24) || (bitOf (t.cf Cf.LAT_CMPDEF 0 (4 * a)) 31 && t.hasEntry (t.cmpDef a).1))

/-- What a word calls that may be called once: timers, edge detectors and comparators, CTU and CTD apart. -/
def callOf (w : Word) : Option (Nat × Nat) :=
  let op := latOp w
  if 0x18 ≤ op ∧ op ≤ 0x1A then some (0, latAd w)
  else if op = 0x1C ∨ op = 0x1D then some (op, latAd w)
  else if op = 0x20 ∨ op = 0x21 then some (1, latAd w)
  else if op = 0x24 then some (2, latAd w) else none

/-- The stack depth after a word; none where the word breaks it (R334). -/
def depthAfter (w : Word) (d : Nat) : Option Nat :=
  let op := latOp w
  if 9 ≤ op ∧ op ≤ 12 then (if d = 16 then none else some (d + 1))
  else if op = 0xD then (if d = 0 then none else some (d - 1))
  else if (isJump op ∨ op = 0x3F) ∧ d ≠ 0 then none
  else some d

/-- The words checked one by one: the first offending word, or the depth before each word. -/
def State.scanProg (t : State) : List Word → Nat → List (Nat × Nat) → List Nat → Option Word ⊕ List Nat
  | [], _, _, ds => .inr ds.reverse
  | w :: ws, d, calls, ds =>
    if !(t.wordOk w) then .inl (some w)
    else
      match depthAfter w d with
      | none => .inl (some w)
      | some d1 =>
        match callOf w with
        | some c => if calls.contains c then .inl (some w) else t.scanProg ws d1 (c :: calls) (d :: ds)
        | none => t.scanProg ws d1 calls (d :: ds)

/-- The first jump whose target is not later, lies beyond the END, or lies at a depth other than 0. -/
def badJump (n : Nat) (ds : List Nat) : List Word → Nat → Option Word
  | [], _ => none
  | w :: ws, i =>
    if isJump (latOp w) ∧ (latAd w ≤ i ∨ n ≤ latAd w ∨ ds.getD (latAd w) 0 ≠ 0) then some w else badJump n ds ws (i + 1)

/-- The offending word of the program, if it has one (R334). Where no END comes, it is the last word of the table. -/
def State.progBad (t : State) : Option Word :=
  match toEnd (progTable t.cfg.active) with
  | none => some (t.cf Cf.LAT_PROGRAM 0 16383)
  | some ws =>
    match t.scanProg ws 0 [] [] with
    | .inl w => w
    | .inr ds => badJump ws.length ds ws 0

/-- The program as a whole: an empty table that nothing stages passes (R349). -/
def State.depProg (s : State) (staged : Bool) (v : Val) : Val :=
  if !staged ∧ v.elems 9 0 0x100 = [] then v
  else
    match (v.view s).progBad with
    | some w => v.reject (cfgKey 9 0 0x100 0) w
    | none => v

/-- Pass 2 on LAT. -/
def State.depLat (s : State) (staged : Bool) (v : Val) : Val :=
  let p := (v.get (cfgKey 9 0 0 0)).toNat / 50
  let v1 := if p ≤ (v.get (cfgKey 9 0 1 0)).toNat then v.dep false (cfgKey 9 0 1 0) (w32 (p - 1)) (cause 9 0) else v
  let v2 := s.depProg staged v1
  let mode := fun (v : Val) (c : Nat) => (v.get (cfgKey 0x12 c 0 0)).toNat
  let v3 := (v2.elems 9 0 0x107).foldl (fun v c =>
    v.need (cfgKey 9 0 0x107 c) (!(bitOf (v.get (cfgKey 9 0 0x107 c)) 31) || isOut (mode v c))) v2
  (v3.elems 9 0 0x108).foldl (fun v c =>
    let k := cfgKey 9 0 0x108 c
    let w := v.get k
    if mode v c = 8 then (if 1 < w.toNat then v.dep false k (if bitOf w 31 then 0 else 1) (cause 0x12 0) else v)
    else if isAO (mode v c) then
      if isNan32 w then v.reject k (v.asked k) else v.dep true k (clamp32 (modeLo (mode v c)) (modeHi (mode v c)) w) (cause 0x12 0)
    else v) v3

/-! ### LOC (R294, R295, R299) -/

/-- Counter `c` is defined. -/
def State.cntDefd (t : State) (c : Nat) : Bool := c < 1024 && bitOf (t.cf Cf.LOC_CNT_DEF 16 c) 31

/-- The word of an action entry that is invalid (R295). -/
def State.actBad (t : State) (a : Nat) : Option Nat :=
  let w0 := t.actWord a 0
  let w1 := t.actWord a 1
  let w2 := t.actWord a 2
  let w3 := t.actWord a 3
  let fin := fun (w : Word) => (f32 w).isFin
  if 10 < w0.toNat then some 0
  else if w3 ≠ 0 ∧ w0 ≠ 2 then some 3
  else match w0.toNat with
    | 0 => if w1 ≠ 0 then some 1 else if w2 ≠ 0 then some 2 else none
    | 1 => if 255 < w1.toNat then some 1 else if fin w2 then none else some 2
    | 2 => if 255 < w1.toNat then some 1 else if fin w3 && Fl.lt (Fl.ofInt 0) (f32 w3) then none else some 3
    | 3 => if 255 < w1.toNat then some 1 else if w2 = 0 ∨ 3 < w2.toNat then some 2 else none
    | 4 =>
      let m := t.chMode w1.toNat
      if 127 < w1.toNat ∨ !(isOut m) ∨ t.cfN Cf.FCT_OWNER w1.toNat ≠ 2 then some 1
      else if m = 8 then (if 1 < w2.toNat then some 2 else none)
      else if Fl.le (f32 (modeLo m)) (f32 w2) && Fl.le (f32 w2) (f32 (modeHi m)) then none else some 2
    | 5 => if 31 < w1.toNat then some 1 else if 1 < w2.toNat then some 2 else none
    | 7 =>
      if w1 &&& 0x83FF03FF ≠ w1 ∨ (!(bitOf w1 31) ∧ !(t.cntDefd (bitsOf w1 0 10))) then some 1
      else if w2 = 0 ∨ 255 < w2.toNat then some 2 else none
    | 8 => if t.cntDefd w1.toNat then none else some 1
    | 9 => if t.cntDefd w1.toNat then none else some 1
    | _ => if 65535 < w1.toNat then some 1 else none

/-- The word of a step entry that is invalid (R294, R295); an entry without VALID defines no step. -/
def State.stepBad (t : State) (p : Nat) : Option Nat :=
  let w0 := t.stepWord p 0
  let w2 := t.stepWord p 2
  let w3 := t.stepWord p 3
  let first := bitsOf w0 0 14
  let n := bitsOf w0 14 8
  let acts := (List.range n).all (fun j => first + j < 16384 && t.actWord (first + j) 0 != 0)
  let kindOk := fun (kd st : Nat) => kd = 1 || kd = 3 || t.stepValid st
  if !(bitOf w0 31) then none
  else if bitsOf w0 22 7 ≠ 0 ∨ !acts then some 0
  else if bitsOf w2 30 2 = 2 ∧ t.stepWord p 1 = 0 then some 1
  else if bitsOf w2 30 2 = 3 ∨ bitsOf w2 12 4 ≠ 0 ∨ (bitOf w2 28 ∧ !(t.cntDefd (bitsOf w2 18 10))) then some 2
  else if bitsOf w3 28 4 ≠ 0 ∨ !(kindOk (bitsOf w3 12 2) (bitsOf w3 0 12)) ∨
      (bitsOf w2 30 2 = 2 ∧ !(kindOk (bitsOf w3 26 2) (bitsOf w3 14 12))) then some 3
  else none

/-- The entries of a table of four-word entries that the values list. -/
def Val.entries (v : Val) (f : Nat) : List Nat :=
  (v.elems 8 16 f).foldl (fun l e => addSorted (e / 4) l) []

/-- Pass 2 on LOC: actions, steps, the counters of steps in progress, and the abort steps. -/
def State.depLoc (s : State) (is : List Nat) (v : Val) : Val :=
  let v1 := (v.entries 0x101).foldl (fun v a =>
    match (v.view s).actBad a with
    | some w => v.reject (cfgKey 8 16 0x101 (4 * a + w)) (v.asked (cfgKey 8 16 0x101 (4 * a + w)))
    | none => v) v
  let v2 := (v1.entries 0x102).foldl (fun v p =>
    match if p < 4096 then (v.view s).stepBad p else none with
    | some w => v.reject (cfgKey 8 16 0x102 (4 * p + w)) (v.asked (cfgKey 8 16 0x102 (4 * p + w)))
    | none => v) v1
  let v3 := (List.range 16).foldl (fun v t =>
    let w2 := (s.track t).entry.getD 2 0
    let c := bitsOf w2 18 10
    if (s.trkState t = 1 ∨ s.trkState t = 2 ∨ s.trkState t = 3) ∧ bitOf w2 28 then
      v.need (cfgKey 8 16 0x100 c) ((v.view s).cntDefd c) else v) v2
  (is.filter (fun i => i < 16)).foldl (fun v i =>
    let st := (v.get (cfgKey 8 i 2 0)).toNat
    v.need (cfgKey 8 i 2 0) (4095 < st || (v.view s).stepValid st)) v3

/-! ### PRM (R398, R415, R425) -/

/-- Pass 2 on PRM. -/
def State.depPrm (s : State) (is : List Nat) (v : Val) : Val :=
  let v1 := (is.filter (fun i => 128 ≤ i && i < 144)).foldl (fun v i =>
    let key := fun (f : Nat) => cfgKey 0xB i f 0
    let src := v.get (key 0x10)
    let v0 := v.need (key 0x10) (!(bitsOf src 28 4 == 1) || isIn ((v.view s).chMode (bitsOf src 0 7)))
    let v1 := if Fl.lt (f32 (v0.get (key 0x14))) (f32 (v0.get (key 0x13))) then
        v0.dep true (key 0x14) (v0.get (key 0x13)) (cause 0xB 0x13) else v0
    let ch := (v1.get (key 0x16)).toNat
    v1.need (key 0x16) (127 < ch || (v1.view s).recorded ch)) v
  (v1.elems 0xB 145 0x200).foldl (fun v e =>
    let w := v.get (cfgKey 0xB 145 0x200 e)
    v.need (cfgKey 0xB 145 0x200 e) (!(bitOf w 31 || bitsOf w 16 4 != 0) || (v.view s).hasEntry e)) v1

/-! ### Pass 2 as a whole (R148 to R150) -/

/-- Pass 2: the blocks in the order of R148, which puts every block after those it depends on; active fields that depend
on a changed one are checked with them (R150). Only direct writes to DI_THR and DI_HYST can leave active fields at odds; any
other field whose dependencies stand agrees with them, so that a check of it changes nothing. `staged` are the keys of the item, `old` the values before it. -/
def State.pass2 (s : State) (staged : List Nat) (old : Tab Word) (v : Val) : Val :=
  let ks := v.tab.map (fun kv => kv.1) ++ staged
  let chg := fun (k : Nat) => (keyFld k != 0 && staged.contains k) || tabGet cfgDefault old k != v.get k
  let v1 := s.depEth (s.depVxl (s.depMer (instsOf 5 ks) (s.depFct chg (instsOf 0x12 ks) v)))
  let v2 := ((instsOf 0xE ks).filter (fun c => c < 4)).foldl depCan v1
  let v3 := ((instsOf 0xA ks).filter (fun g => g < 32)).foldl depArc v2
  let v4 := (instsOf 7 ks).foldl (fun v l => s.depLoop v l) v3
  let v5 := s.depLat (staged.any (fun k => keyBlock k == 9 && keyFld k == 0x100)) v4
  s.depPrm (instsOf 0xB ks) (s.depLoc (instsOf 8 ks) v5)

/-! ### Budget 1 (R153) -/

/-- The sum of 1 / PERIOD over some loops, in evaluations per second, as a fraction. -/
def evalSum (v : Val) (ls : List Nat) : Nat × Nat :=
  rateSum (ls.map (fun l => (v.get (cfgKey 7 l 1 0)).toNat))

/-- The loop that budget 1 takes next: lowest PRIO, then highest number. -/
def budgetLoop (v : Val) : List Nat → Option Nat
  | [] => none
  | l :: ls =>
    match budgetLoop v ls with
    | none => some l
    | some m => if (v.get (cfgKey 7 l 3 0)).toNat < (v.get (cfgKey 7 m 3 0)).toNat then some l else some m

/-- Budget 1 over the enabled loops: `ls` are those not yet taken, ascending. -/
def budget1 (all : List Nat) : Nat → List Nat → Val → Val
  | 0, _, v => v
  | fuel + 1, ls, v =>
    let sum := evalSum v all
    if sum.1 ≤ 40000000 * sum.2 then v
    else
      match budgetLoop v ls with
      | none => v
      | some l =>
        let o := evalSum v (all.filter (fun x => x != l))
        let room := 40000000 * o.2 - o.1
        let p := if room = 0 then 100000 else
          Nat.min 100000 ((1000000 * o.2 + 5 * room - 1) / (5 * room) * 5)
        let k := cfgKey 7 l 1 0
        let v1 := if (v.get k).toNat < p then v.clamp false k (w32 p) 3 1 else v
        budget1 all fuel (ls.filter (fun x => x != l)) v1

/-- Budget 1. -/
def Val.tanBudget (v : Val) : Val :=
  let all := (instsOf 7 (v.tab.map (fun kv => kv.1))).filter (fun l => v.get (cfgKey 7 l 2 0) == 1)
  budget1 all 257 all v

/-! ### Budget 2 (R149, R153, R521, R522) -/

/-- What a grant reply takes away: publications become unpublished, subscriptions become NONE, and an entry that cannot
be clamped. -/
def State.grantClamp (s : State) (pubs subs : List Nat) (bad : Option Nat) (v : Val) : Val :=
  let v1 := pubs.foldl (fun v e => v.clamp false (cfgKey 0xF 5 0x201 e) 0 3 2) v
  let v2 := subs.foldl (fun v e => v.clamp false (cfgKey 0xF 5 0x200 e) 0 3 2) v1
  let v3 := match bad with
    | some e => v2.reject (cfgKey 0xF 5 0x200 e) (v2.asked (cfgKey 0xF 5 0x200 e))
    | none => v2
  if subs = [] then v3
  else
    let ks := v3.tab.map (fun kv => kv.1)
    let v4 := (instsOf 7 ks).foldl (fun v l => s.depLoop v l) (s.depEth v3)
    s.depPrm (instsOf 0xB ks) (s.depLat false v4)

/-- The publications of the module as they will stand, highest entry first. -/
def Val.pubList (v : Val) : List Nat :=
  ((v.elems 0xF 5 0x201).filter (fun e => bitOf (v.get (cfgKey 0xF 5 0x201 e)) 31)).reverse

/-- The subscriptions of other rings as they will stand: entry and coordinate, highest entry first. -/
def State.subList (s : State) (v : Val) : List (Nat × Nat) :=
  ((v.view s).subs.filter (fun p => p.2 / 131072 != (v.view s).device / 32)).reverse

/-- Whether an item changes a publication, or a subscription of another ring (R521). -/
def State.wantsGrant (s : State) (old : Tab Word) (v : Val) : Bool :=
  let o : Val := { v with tab := old }
  o.pubList != v.pubList || s.subList o != s.subList v

/-- The active manager decides its own changes by its grant table (R521, R522). -/
def State.ownGrant (s : State) (old : Tab Word) (v : Val) : Val :=
  if s.wantsGrant old v then
    let ps := v.pubList
    let cs := s.subList v
    let g := s.grantFor s.device ps (cs.map (fun p => p.2))
    s.grantClamp (ps.filter (fun e => !(g.pubs.contains e))) ((cs.filter (fun p => !(g.subs.contains p.2))).map (fun p => p.1))
      none v
  else v

/-! ### Pass 4 (R154, R362) -/

/-- A table entry that does not fit is not added. -/
def Val.full (v : Val) (old : Tab Word) (k table : Nat) : Val :=
  let v1 := v.clamp false k 0xFFFFFFFF 4 (w32 table)
  { v1 with tab := tabSet cfgDefault v1.tab k (tabGet cfgDefault old k) }

/-- Pass 4 on one staged element. -/
def pass4 (old : Tab Word) (staged : List Nat) (v : Val) (k : Nat) : Val :=
  match if overCap k then tableCap (keyBlock k) (keyFld k) else none with
  | some c => if c.2 = 6 then v.reject k (v.asked k) else v.full old k c.2
  | none =>
    if keyBlock k = 6 ∧ keyFld k = 0x100 then
      let w := v.get (cfgKey 6 64 0x100 (keyElem k / 2 * 2 + 1))
      if 1024 < bitsOf w 20 10 + bitsOf w 0 11 then
        if keyElem k % 2 = 0 ∧ staged.contains (k + 1) then
          (v.full old k 3).full old (k + 1) 3
        else v.full old k 3
      else v
    else v

/-! ### Validation (R147 to R155, R169) -/

/-- The staged fields in the order in which validation takes them (R148). -/
def orderKeys (ks : List Nat) : List Nat := cfgOrder.flatMap (fun b => ks.filter (fun k => keyBlock k == b))

/-- Passes 1 and 2 and budget 1 over some changes to the values `old`. -/
def State.validateA (s : State) (old : Tab Word) (staged : List Change) (load : Bool) : Val :=
  let keys := orderKeys (staged.map (fun c => c.key))
  let v0 : Val := ⟨cfgPut old staged, [], none, load⟩
  (s.pass2 keys old (keys.foldl (fun v k => s.pass1 v k) v0)).tanBudget

/-- Pass 4. -/
def Val.finish (v : Val) (old : Tab Word) (staged : List Change) : Val :=
  let keys := orderKeys (staged.map (fun c => c.key))
  keys.foldl (fun v k => pass4 old keys v k) v

end Sys2Proof.Machine
end

