-- ==== Sys2Proof/Machine/Hif.lean ====
section
/-! DEFINITION. The host interface: link, ring enables, doorbells, entries that wait, and the HIF opcodes
(spec/04_host_rings.md). -/

namespace Sys2Proof.Machine

/-! ### Configuration space (R106). The layout of its words is that of PCI Express (PRESUMED, notes/assumptions/127.md). -/

/-- The capabilities that the endpoint lists, with their places; it lists no other. -/
inductive PciCap where
  | powerManagement | msix | pciExpress | advancedErrorReporting
  deriving DecidableEq, Repr

/-- Their places in configuration space, in the order of the list. -/
def pciCaps : List (Nat × PciCap) :=
  [(0x40, .powerManagement), (0x50, .msix), (0x60, .pciExpress), (0x100, .advancedErrorReporting)]

/-- Word `n` of configuration space: the identifiers, a type 0 header of one function, BAR0 and BAR2 as 64-bit
non-prefetchable memory, and the capabilities. -/
def State.pciConfig (s : State) (n : Nat) : Word :=
  if n = 0 then Config.pciId
  else if n = 4 ∨ n = 6 then 0x4
  else if n = 13 then 0x40
  else if n = 16 then 0x00035001
  else if n = 17 then (if s.hif.d3hot then 3 else 0)
  else if n = 20 then (if s.hif.msixOn then 0x803F6011 else 0x003F6011)
  else if n = 21 then 0x28000
  else if n = 22 then 0x29000
  else if n = 24 then 0x00020010
  else if n = 25 then 0x2
  else if n = 27 then 0x44
  else if n = 28 then w32 ((s.fld Fld.HIF_LINK_WIDTH 0 0 * 16 + s.fld Fld.HIF_LINK_SPEED 0 0) * 65536)
  else if n = 64 then 0x00010001
  else 0

/-- Every presented fault entry's vector is raised again (R599). -/
def State.raiseFaults (s : State) : State :=
  let t1 := if s.tr.flt.pres1.isSome then s.tr.raiseVec s 1 else s.tr
  let t2 := if s.tr.flt.pres2.isSome then t1.raiseVec s 2 else t1
  let t3 := if s.tr.flt.pres3.isSome then t2.raiseVec s 3 else t2
  { s with tr := t3 }

/-- PCIE_LINK_UP (R140, R599). There is a link where PD_NET and CK_PCIE are. -/
def execPcieLinkUp (speed width : Nat) (s : State) : Host.Outcome State Fault Refusal :=
  if !(s.domOn 5) ∨ !(s.clkOn 5) then go s else
  let s1 := ((s.setF Fld.HIF_LINK_UP 0 0 1).setF Fld.HIF_LINK_SPEED 0 0 speed).setF Fld.HIF_LINK_WIDTH 0 0 width
  go (s1.log 0x0080 0 (w32 speed) (w32 width)).raiseFaults

/-- A submission ring is disabled: it drains while fetched items of it have not completed (R112). -/
def State.sqOff (s : State) (n : Nat) : State :=
  (s.setF Fld.HIF_SQ_CTRL_ENABLE n 0 0).setF Fld.HIF_SQ_STAT_STATE n 0 (if s.sqBusy n then 2 else 0)

/-- Every submission ring that drains and has no uncompleted item left becomes IDLE (R112). -/
def State.sqSettleAll (s : State) : State := (List.range 64).foldl (fun s n => s.sqSettle n) s

/-- A module-to-host ring is disabled, and what waited for it is discarded (R107, R112). -/
def State.cqOff (s : State) (m : Nat) : State :=
  let s1 := (s.setF Fld.HIF_CQ_CTRL_ENABLE m 0 0).setF Fld.HIF_CQ_STAT_STATE m 0 0
  ({ s1 with hif := { s1.hif with held := s1.hif.held.filter (fun h => h.cq != m),
                                  stalled := s1.hif.stalled.filter (fun n => n != m) } }).sqSettleAll

/-- The enabled host rings of one number are disabled (R107). -/
def hostRingOff (s : State) (n : Nat) : State :=
  let s1 := if s.bit Fld.HIF_SQ_CTRL_ENABLE n 0 && !(s.sqCores n) then s.sqOff n else s
  if s1.bit Fld.HIF_CQ_CTRL_ENABLE n 0 && !(s1.cqCores n) then s1.cqOff n else s1

/-- The fetched, uncompleted items of all rings (R121): those in flight, and those whose completion record waits. -/
def State.openItems (s : State) : Nat := s.hif.inflight.length + (s.hif.held.filter (fun h => h.record)).length

/-- PCIE_LINK_DOWN (R107). MSI-X must be enabled again after the link returns. HIF_LINK keeps WIDTH and SPEED, and the
pending-bit array its bits (DESIGN CHOICE: the spec does not say; notes/assumptions/126.md). -/
def execPcieLinkDown (s : State) : Host.Outcome State Fault Refusal :=
  let n := s.openItems
  let s1 := (List.range 64).foldl hostRingOff s
  let s2 := (s1.setF Fld.HIF_LINK_UP 0 0 0)
  go ({ s2 with hif := { s2.hif with msixOn := false } }.log 0x2081 0 (w32 n))

/-- MSIX_ENABLE (R107, R599). -/
def execMsixEnable (s : State) : Host.Outcome State Fault Refusal :=
  go ({ s with hif := { s.hif with msixOn := true } }).raiseFaults

/-- Whether a ring's memory lies within the module DRAM that rings may use (R111). -/
def inRingWindow (base len : Nat) : Bool := base + len ≤ 0xC0000000

/-- The base address of a submission ring. -/
def State.sqBase (s : State) (n : Nat) : Nat :=
  (s.rd Reg.HIF_SQ_BASE_HI n 0).toNat * 4294967296 + (s.rd Reg.HIF_SQ_BASE_LO n 0).toNat

/-- The size of a submission ring. -/
def State.sqSize (s : State) (n : Nat) : Nat := 2 ^ s.fld Fld.HIF_SQ_CTRL_SIZE_LOG2 n 0

/-- The first enable check of R111 that a submission ring fails; 0 none. -/
def State.sqCheck (s : State) (n : Nat) : Nat :=
  let cq := s.fld Fld.HIF_SQ_CTRL_CQ n 0
  let rpt := s.fld Fld.HIF_SQ_CTRL_RPT n 0
  if s.fld Fld.HIF_SQ_CTRL_SIZE_LOG2 n 0 < 4 then 1
  else if s.sqBase n % 4096 ≠ 0 then 2
  else if s.sqCores n && !(inRingWindow (s.sqBase n) (s.sqSize n * 64)) then 3
  else if s.bit Fld.HIF_CQ_CTRL_ENABLE cq 0 && s.fld Fld.HIF_CQ_CTRL_TYPE cq 0 == 0 &&
      s.bit Fld.HIF_CQ_CTRL_ENABLE rpt 0 && s.fld Fld.HIF_CQ_CTRL_TYPE rpt 0 == 1 &&
      s.cqCores cq == s.sqCores n && s.cqCores rpt == s.sqCores n then 0
  else 4

/-- The first enable check of R111 that a module-to-host ring fails; 0 none. -/
def State.cqCheck (s : State) (m : Nat) : Nat :=
  if s.fld Fld.HIF_CQ_CTRL_SIZE_LOG2 m 0 < 4 then 1
  else if s.cqBase m % 4096 ≠ 0 then 2
  else if s.cqCores m && !(inRingWindow (s.cqBase m) (s.cqSize m * 32 + 32)) then 3
  else if s.cqCores m && 15 < s.fld Fld.HIF_CQ_CTRL_VECTOR m 0 then 7
  else 0

/-- The enable of a submission ring whose other fields stand (R111, R113). A ring that still drains is enabled like one that
is IDLE (DESIGN CHOICE: the spec does not say; notes/assumptions/126.md). -/
def State.sqEnable (s : State) (n : Nat) : State :=
  match s.sqCheck n with
  | 0 =>
    let s := { s with mir := { s.mir with ackIdx := tset 0 s.mir.ackIdx n 0 } }
    ((((s.setF Fld.HIF_SQ_CTRL_ENABLE n 0 1).wr Reg.HIF_SQ_PI n 0 0).wr Reg.HIF_SQ_CI n 0 0).setF
      Fld.HIF_SQ_STAT_ERR n 0 0).setF Fld.HIF_SQ_STAT_STATE n 0 1
  | e => (s.setF Fld.HIF_SQ_STAT_ERR n 0 e).log 0x2083 n (w32 e)

/-- The enable of a module-to-host ring whose other fields stand (R111, R113). -/
def State.cqEnable (s : State) (m : Nat) : State :=
  match s.cqCheck m with
  | 0 =>
    let s1 := ((((s.setF Fld.HIF_CQ_CTRL_ENABLE m 0 1).wr Reg.HIF_CQ_PI m 0 0).wr Reg.HIF_CQ_CI m 0 0).setF
      Fld.HIF_CQ_STAT_ERR m 0 0).setF Fld.HIF_CQ_STAT_STATE m 0 1
    let c := s1.cqCores m
    let s2 := s1.setRingMem c (memPutWords (s1.ringMem c) (s1.cqBase m + s1.cqSize m * 32) [0])
    { s2 with hif := { s2.hif with unsig := tset 0 s2.hif.unsig m 0 } }
  | e => (s.setF Fld.HIF_CQ_STAT_ERR m 0 e).log 0x2083 (64 + m) (w32 e)

/-- RING_ENABLE (R111 to R113): a write of `value` with ENABLE set to the CTRL register of ring 0 to 127. An enabled
ring ignores the other fields (R112). -/
def execRingEnable (ring : Nat) (value : Word) (s : State) : Host.Outcome State Fault Refusal :=
  if !(s.domOn 5) then go s
  else if ring < 64 then
    if s.bit Fld.HIF_SQ_CTRL_ENABLE ring 0 then go s
    else go ((s.wr Reg.HIF_SQ_CTRL ring 0 (value &&& Reg.HIF_SQ_CTRL.rw &&& 0xFFFFFFFE)).sqEnable ring)
  else if ring < 128 then
    let m := ring - 64
    if s.bit Fld.HIF_CQ_CTRL_ENABLE m 0 then go s
    else go ((s.wr Reg.HIF_CQ_CTRL m 0 (value &&& Reg.HIF_CQ_CTRL.rw &&& 0xFFFFFFFE)).cqEnable m)
  else go s

/-- Whether a submission ring that is enabled or still draining names a module-to-host ring (R112). -/
def State.cqBound (s : State) (m : Nat) : Bool :=
  (List.range 64).any (fun n =>
    (s.bit Fld.HIF_SQ_CTRL_ENABLE n 0 || s.fld Fld.HIF_SQ_STAT_STATE n 0 == 2) &&
      (s.fld Fld.HIF_SQ_CTRL_CQ n 0 == m || s.fld Fld.HIF_SQ_CTRL_RPT n 0 == m))

/-- RING_DISABLE (R112). -/
def execRingDisable (ring : Nat) (s : State) : Host.Outcome State Fault Refusal :=
  if !(s.domOn 5) then go s
  else if ring < 64 then
    if s.bit Fld.HIF_SQ_CTRL_ENABLE ring 0 then go (s.sqOff ring) else go s
  else if ring < 128 then
    let m := ring - 64
    if !(s.bit Fld.HIF_CQ_CTRL_ENABLE m 0) then go s
    else if s.cqBound m then go (s.setF Fld.HIF_CQ_STAT_ERR m 0 4)
    else go (s.cqOff m)
  else go s

/-- A malformed access is counted, and the first since HIF_BADACC was read is captured and logged (R108). -/
def State.malformed (s : State) (bar2 : Bool) (offset : Nat) : State :=
  let s1 := s.incF Fld.HIF_BADCNT_COUNT 0 0 1
  if s1.bit Fld.HIF_BADACC_VALID 0 0 then s1
  else
    let s2 := ((s1.setF Fld.HIF_BADACC_VALID 0 0 1).setF Fld.HIF_BADACC_BAR 0 0 (if bar2 then 1 else 0)).setF
      Fld.HIF_BADACC_OFFSET 0 0 offset
    s2.log 0x2084 0 (s2.rd Reg.HIF_BADACC 0 0)

/-- A ring enters ERROR: its ERR, the first such ring in HIF_QERR, and event 0x2082 (R115, R139). -/
def State.ringError (s : State) (ring err : Nat) : State :=
  let s1 := if ring < 64 then (s.setF Fld.HIF_SQ_STAT_STATE ring 0 3).setF Fld.HIF_SQ_STAT_ERR ring 0 err
    else (s.setF Fld.HIF_CQ_STAT_STATE (ring - 64) 0 3).setF Fld.HIF_CQ_STAT_ERR (ring - 64) 0 err
  let s2 := if s1.bit Fld.HIF_QERR_VALID 0 0 then s1
    else (s1.setF Fld.HIF_QERR_VALID 0 0 1).setF Fld.HIF_QERR_RING 0 0 ring
  s2.log 0x2082 ring (w32 err)

/-- SQ_DOORBELL (R115, and R108 for a ring that is disabled). On a standby, which fetches nothing, a shared ring records PI
alone (R133). A ring in ERROR takes doorbells like one that runs (DESIGN CHOICE: the spec does not say;
notes/assumptions/126.md). -/
def execSqDoorbell (ring : Nat) (value : Word) (s : State) : Host.Outcome State Fault Refusal :=
  if !(s.domOn 5) then go s
  else if 64 ≤ ring ∨ !(s.bit Fld.HIF_SQ_CTRL_ENABLE ring 0) then go (s.malformed true (ring * 0x100))
  else if 2147483648 ≤ (value - s.rd Reg.HIF_SQ_PI ring 0).toNat then go (s.incF Fld.HIF_SQ_STAT_BACKSTEP ring 0 1)
  else if s.standby ∧ !(s.ringLocal ring) then go (s.wr Reg.HIF_SQ_PI ring 0 value)
  else if s.sqSize ring < (value - s.rd Reg.HIF_SQ_CI ring 0).toNat then go (s.ringError ring 5)
  else go (s.wr Reg.HIF_SQ_PI ring 0 value)

/-- CQ_DOORBELL (R116, and R108 for a ring that is disabled). -/
def execCqDoorbell (m : Nat) (value : Word) (s : State) : Host.Outcome State Fault Refusal :=
  if !(s.domOn 5) then go s
  else if 64 ≤ m ∨ !(s.bit Fld.HIF_CQ_CTRL_ENABLE m 0) then go (s.malformed true ((64 + m) * 0x100))
  else if (value - s.rd Reg.HIF_CQ_CI m 0).toNat < 2147483648 ∧
      (s.rd Reg.HIF_CQ_PI m 0 - value).toNat ≤ s.cqSize m then
    let s0 := s.wr Reg.HIF_CQ_CI m 0 value
    let s1 := { s0 with hif := { s0.hif with stalled := s0.hif.stalled.filter (fun n => n != m) } }
    go (if s1.fld Fld.HIF_CQ_STAT_STATE m 0 = 2 ∧ s1.cqFree m ≠ 0 then s1.setF Fld.HIF_CQ_STAT_STATE m 0 1 else s1)
  else go (s.incF Fld.HIF_CQ_STAT_BACKSTEP m 0 1)

/-- An uncorrectable read is counted and captured (R604): region, and address / 64 or word index; rebuilt, or not. -/
def State.ueNote (s : State) (region addr : Nat) (rebuilt : Bool) : State :=
  let s1 := s.incF (if rebuilt then Fld.FLT_ECC_UE_REBUILT else Fld.FLT_ECC_UE_NOT_REBUILT) 0 0 1
  (((s1.setF Fld.FLT_ECC_LAST_VALID 0 0 1).setF Fld.FLT_ECC_LAST_UE 0 0 1).setF Fld.FLT_ECC_LAST_REGION 0 0 region).wr
    Reg.FLT_ECC_ADDR 0 0 (w32 addr)

/-- A read of a poisoned burst of the DRAM core region (R604). -/
def State.uePoison (s : State) (addr : Nat) : State := (s.ueNote 0 addr false).log 0x4102 0 (w32 addr) 0

/-! ### Waiting entries -/

/-- A held completion record has been written: the intake log says so, and its ring has one uncompleted item less. -/
def State.heldWritten (s : State) (h : HeldEntry) : State :=
  match h.sq with
  | some n =>
    if h.record then { s with hif := { s.hif with
      intake := intakeUpd n (h.words.headD 0) (fun e => { e with written := true }) s.hif.intake } } else s
  | none => s

/-- Held entries are written in order; one that finds no room keeps back what waits behind it (R130). `kept` are those kept
back so far. -/
def flushHeld : List HeldEntry → List HeldEntry → State → State
  | [], kept, s => ({ s with hif := { s.hif with held := kept } }).sqSettleAll
  | h :: hs, kept, s =>
    if kept.any (fun k => heldBefore k h.cq h.sq h.record) then flushHeld hs (kept ++ [h]) s
    else if !(s.cqUp h.cq) then flushHeld hs kept s
    else if s.cqFree h.cq = 0 then flushHeld hs (kept ++ [h]) s
    else flushHeld hs kept ((s.cqWrite h.cq h.words h.irq).heldWritten h)

/-- REPORT_ROOM_RESUME (R130): the entries and completions that waited for room are written as far as it goes. -/
def execReportRoomResume (m : Nat) (s : State) : Host.Outcome State Fault Refusal :=
  if s.hif.held.any (fun h => h.cq == m) then go (flushHeld s.hif.held [] s) else go s

/-- CQ_COALESCE_TIMEOUT (R131): the oldest unsignalled entry has waited TIME us. -/
def execCqCoalesceTimeout (m : Nat) (s : State) : Host.Outcome State Fault Refusal :=
  if s.cqUp m && s.bit Fld.HIF_CQ_CTRL_IRQ_EN m 0 && s.fld Fld.HIF_CQ_COAL_TIME m 0 != 0 &&
      tget 0 s.hif.unsig m != 0 then go (s.cqIrq m) else go s

/-- HOST_DMA_ERROR (R139). -/
def execHostDmaError (ring : Nat) (s : State) : Host.Outcome State Fault Refusal := go (s.ringError ring 6)

/-! ### HIF opcodes (R124) -/

/-- HIF_NOP. The HIF opcodes take any INSTANCE (DESIGN CHOICE: the table gives 0 and names no rejection;
notes/assumptions/126.md). -/
def execHifNop (it : Item) (s : State) : Host.Outcome State Fault Refusal := serve it s (fun s => s.complete it stDone)

/-- HIF_QUERY as decided (R132): detail word 0 is the verdict, word 1 the status, word 2 whether the record has been
written. -/
def State.hifQuery (s : State) (it : Item) : State :=
  if 63 < (it.w 3).toNat then s.complete it stFormat 12
  else match s.intakeOf (it.w 3).toNat (it.w 4) with
  | none => s.complete it stDone 0
  | some e =>
    let wr : Word := if e.written then 1 else 0
    match e.verdict with
    | .applied st => s.complete it stDone 1 (w32 st) wr
    | .notApplied st => s.complete it stDone 2 (w32 st) wr
    | .inFlight => s.complete it stDone 3 0 wr

/-- HIF_QUERY. -/
def execHifQuery (it : Item) (s : State) : Host.Outcome State Fault Refusal := serve it s (fun s => s.hifQuery it)

end Sys2Proof.Machine
end

