-- ==== Sys2Proof/Machine/Vtx.lean ====
section
/-! DEFINITION. Vertex: readiness, dispatch, the cores' registers and the VTX opcodes (spec/11_vertex_dispatch.md). The
entry of an event as an item is in Trace.lean. -/

namespace Sys2Proof.Machine

/-- The 16-bit handle of an item (R354). -/
def VtxItem.handle (i : VtxItem) : Nat := i.gen % 8 * 8192 + i.slot

/-- The state with Vertex replaced. -/
def State.setVtx (s : State) (v : VtxSt) : State := { s with tr := { s.tr with vtx := v } }

/-- Whether a queue is in DEP mode. -/
def State.isDep (s : State) (q : Nat) : Bool := s.cfN Cf.VTX_Q_MODE q = 1

/-- The counter of a queue (R357). -/
def State.depCnt (s : State) (q : Nat) : Int := tget 0 s.tr.vtx.cnt q

/-- The counter of a queue takes a value, held to 16 bits; a saturating change logs event 0x2185 (R357). -/
def State.setCnt (s : State) (q : Nat) (v : Int) : State :=
  let w := if v < -32768 then -32768 else if 32767 < v then 32767 else v
  let s1 := s.setVtx { s.tr.vtx with cnt := tset 0 s.tr.vtx.cnt q w }
  if w = v then s1 else s1.log 0x2185 q (wInt w)

/-- Vertex starts empty, and the counter of each DEP queue takes DEP_INIT (R359, R370). -/
def State.vtxStart (s : State) : State :=
  (List.range 64).foldl (fun s q => if s.isDep q then s.setCnt q (sInt (s.cf Cf.VTX_DEP_INIT q 0)) else s)
    (s.setVtx { s.tr.vtx with running := true })

/-- The waiting items of a queue committed into DEP mode are held under its counter (R359). -/
def VtxSt.hold (v : VtxSt) (q : Nat) : VtxSt :=
  { v with items := v.items.map (fun i => if i.queue = q ∧ i.phase = .released then { i with phase := .waiting } else i) }

/-- An item's phase as readiness sees it (R354, R357, R359). -/
def State.vtxReady (s : State) (i : VtxItem) : Bool := i.phase = .released || (i.phase = .waiting && !(s.isDep i.queue))

/-- Whether an item waits, ready or not. -/
def VtxItem.waits (i : VtxItem) : Bool := i.phase = .waiting || i.phase = .released

/-- The first item that `p` holds of, replaced by what `f` makes of it. -/
def updFirst {α : Type} (p : α → Bool) (f : α → α) : List α → List α
  | [] => []
  | x :: xs => if p x then f x :: xs else x :: updFirst p f xs

/-- VERTEX_EVENT (R352 to R356). -/
def execVertexEvent (source inst code : Nat) (param : Word) (st : Stamp) (s : State) :
    Host.Outcome State Fault Refusal := go (s.report [Work.src source inst code param st])

/-- DEP_RELEASE (R357): the head item of a DEP queue whose counter is zero or below is released, and the counter is
rearmed. -/
def execDepRelease (queue : Nat) (s : State) : Host.Outcome State Fault Refusal :=
  if s.isDep queue ∧ s.depCnt queue ≤ 0 ∧ s.tr.vtx.items.any (fun i => i.queue == queue && i.phase == .waiting) then
    let items := updFirst (fun i => i.queue == queue && i.phase == .waiting) (fun i => { i with phase := .released })
      s.tr.vtx.items
    let s1 := s.setVtx { s.tr.vtx with items := items }
    go (s1.setCnt queue (s.depCnt queue + s.cfN Cf.VTX_DEP_REARM queue))
  else go s

/-- The items in service on a core. -/
def State.inServ (s : State) (c : Nat) : Nat :=
  (s.tr.vtx.items.filter (fun i => i.phase == .inService c)).length

/-- The free slots of a core's dispatch ring (R116, R365). -/
def State.coreFree (s : State) (c : Nat) : Nat :=
  2 ^ s.fld Fld.VTX_CORE_CTRL_SIZE_LOG2 c 0 - (s.rd Reg.VTX_CORE_PI c 0 - s.rd Reg.VTX_CORE_CI c 0).toNat

/-- Whether a core can take an item of a queue (R363). -/
def State.coreTakes (s : State) (c q : Nat) : Bool :=
  bitOf (s.cf Cf.VTX_Q_CORES q 0) c && s.bit Fld.VTX_CORE_CTRL_ENABLE c 0 && s.coreFree c != 0 &&
    s.inServ c < s.fld Fld.VTX_CORE_CTRL_MAXSERV c 0

/-- The core an item of a queue goes to: the one with the fewest items in service, the lowest number among equals
(R363). -/
def State.coreFor (s : State) (q : Nat) : Option Nat :=
  ((List.range 4).filter (fun c => s.coreTakes c q)).foldl (fun b c =>
    match b with
    | none => some c
    | some d => if s.inServ c < s.inServ d then some c else some d) none

/-- Whether an item's flow lets it go (R360): no item of the flow is in service, and none of it arrived before. -/
def flowFree (i : VtxItem) (before : List VtxItem) (all : List VtxItem) : Bool :=
  match i.flow with
  | none => true
  | some _ => !(before.any (fun j => j.flow == i.flow)) && !(all.any (fun j => j.flow == i.flow && !j.waits))

/-- The item dispatched next, with its core: the highest Q_PRIO, then the earliest arrival, of those a core can take. -/
def State.vtxBest (s : State) : List VtxItem → List VtxItem → Option (Nat × VtxItem × Nat)
  | _, [] => none
  | before, i :: rest =>
    let later := s.vtxBest (before ++ [i]) rest
    if s.vtxReady i && flowFree i before s.tr.vtx.items then
      match s.coreFor i.queue with
      | none => later
      | some c =>
        let p := s.cfN Cf.VTX_Q_PRIO i.queue
        match later with
        | some (p', i', c') => if p < p' then some (p', i', c') else some (p, i, c)
        | none => some (p, i, c)
    else later

/-- The eight words of a work item (R354). -/
def vtxWords (prio : Nat) (i : VtxItem) : List Word :=
  let fl := match i.flow with
    | some f => 2147483648 + f * 65536
    | none => 0
  [w32 (i.queue * 65536 + prio * 256 + i.source), w32 (fl + i.handle), w32 (i.inst * 65536 + i.code % 65536), i.param,
   i.ns, i.sec, i.seq, w32 ((if i.first then 2147483648 else 0) + i.lost)]

/-- The base address of a core's dispatch ring. -/
def State.coreBase (s : State) (c : Nat) : Nat :=
  (s.rd Reg.VTX_CORE_BASE_HI c 0).toNat * 4294967296 + (s.rd Reg.VTX_CORE_BASE_LO c 0).toNat

/-- A core's interrupt line is asserted and its counters restart (R368). -/
def State.assertLine (s : State) (c : Nat) : State :=
  (s.setF Fld.VTX_CORE_STAT_LINE c 0 1).setVtx { s.tr.vtx with unsig := tset 0 s.tr.vtx.unsig c 0 }

/-- An item goes to a core: entry, shadow producer index, line (R364, R365, R368). -/
def State.dispatchTo (s : State) (prio : Nat) (i : VtxItem) (c : Nat) : State :=
  let pi := s.rd Reg.VTX_CORE_PI c 0
  let size := 2 ^ s.fld Fld.VTX_CORE_CTRL_SIZE_LOG2 c 0
  let m := memPutWords s.dram (s.coreBase c + pi.toNat % size * 32) (vtxWords prio i)
  let m := memPutWords m (s.coreBase c + size * 32) [pi + 1]
  let v := s.tr.vtx
  let n := tget 0 v.unsig c + 1
  let v1 := { v with items := updFirst (fun j => j.slot == i.slot) (fun j => { j with phase := .inService c }) v.items
                     qDisp := tset 0 v.qDisp i.queue (tget 0 v.qDisp i.queue + 1)
                     unsig := tset 0 v.unsig c n }
  let s1 := ((s.setDram m).wr Reg.VTX_CORE_PI c 0 (pi + 1)).setVtx v1
  if Nat.max 1 (s.fld Fld.VTX_CORE_COAL_COUNT c 0) ≤ n ∨ s.fld Fld.VTX_CORE_CTRL_URGENT c 0 ≤ prio then s1.assertLine c
  else s1

/-- VERTEX_DISPATCH (R363, R364). With no eligible item, nothing happens. -/
def execVertexDispatch (s : State) : Host.Outcome State Fault Refusal :=
  if !s.tr.vtx.running then go s
  else match s.vtxBest [] s.tr.vtx.items with
    | none => go s
    | some (p, i, c) => go (s.dispatchTo p i c)

/-- An item finishes: it leaves, and the next item of its slot takes another generation (R366). -/
def VtxSt.finish (v : VtxSt) (i : VtxItem) : VtxSt :=
  { v with items := v.items.filter (fun j => j.slot != i.slot)
           slotGen := tset 0 v.slotGen i.slot ((tget 0 v.slotGen i.slot + 1) % 8) }

/-- Whether DEP_PRED of queue `q` includes queue `p` (R371). -/
def State.depPred (s : State) (q p : Nat) : Bool :=
  if p < 32 then bitOf (s.cf Cf.VTX_DEP_PRED_LO q 0) p else bitOf (s.cf Cf.VTX_DEP_PRED_HI q 0) (p - 32)

/-- VTX_CORE_DONE (R366, R358). -/
def execVtxCoreDone (core : Nat) (value : Word) (s : State) : Host.Outcome State Fault Refusal :=
  if 4 ≤ core ∨ !s.domOn 3 then go s else
  let h := bitsOf value 0 16
  match s.tr.vtx.items.find? (fun i => i.phase == .inService core && i.handle == h) with
  | none =>
    let s1 := s.setVtx { s.tr.vtx with badCnt := satAdd 65535 s.tr.vtx.badCnt 1, badHandle := h }
    go (s1.log 0x2183 core (w32 h))
  | some i =>
    let s1 := s.setVtx (s.tr.vtx.finish i)
    if bitOf value 16 then
      go ((List.range 64).foldl (fun st q =>
        if st.isDep q && st.depPred q i.queue then st.setCnt q (st.depCnt q - 1) else st) s1)
    else go s1

/-- VTX_CORE_RAISE (R369). -/
def execVtxCoreRaise (core source : Nat) (s : State) : Host.Outcome State Fault Refusal :=
  if 4 ≤ core ∨ !s.domOn 3 then go s else
  if source < 144 then go (s.setVtx { s.tr.vtx with badCnt := satAdd 65535 s.tr.vtx.badCnt 1 })
  else
    let rc := s.rd Reg.VTX_CORE_RCODE core 0
    go (s.raise source (bitsOf rc 16 16) (bitsOf rc 0 16) (s.rd Reg.VTX_CORE_RPARAM core 0))

/-- MAXSERV as it is taken: 0 is clamped to 1, above 64 to 64. -/
def clampServ (n : Nat) : Nat := if n = 0 then 1 else if 64 < n then 64 else n

/-- The write of a core's CTRL fields but ENABLE and FLUSH; SIZE_LOG2 stands while the ring is enabled (R365). -/
def State.coreCtrl (s : State) (c : Nat) (value : Word) : State :=
  let s1 := (s.setF Fld.VTX_CORE_CTRL_MAXSERV c 0 (clampServ (bitsOf value 24 8))).setF Fld.VTX_CORE_CTRL_URGENT c 0
    (bitsOf value 20 3)
  if s.bit Fld.VTX_CORE_CTRL_ENABLE c 0 then s1 else s1.setF Fld.VTX_CORE_CTRL_SIZE_LOG2 c 0 (bitsOf value 8 4)

/-- The first enable check of R365 that a core's ring fails; 0 none. -/
def State.coreCheck (s : State) (c : Nat) : Nat :=
  let k := s.fld Fld.VTX_CORE_CTRL_SIZE_LOG2 c 0
  if k < 4 ∨ 12 < k then 1
  else if s.coreBase c % 4096 ≠ 0 then 2
  else if 0xC0000000 < s.coreBase c + 2 ^ k * 32 + 32 then 3
  else 0

/-- VTX_CORE_ENABLE (R365): a write of `value` with ENABLE set to a core's CTRL register. -/
def execVtxCoreEnable (core : Nat) (value : Word) (s : State) : Host.Outcome State Fault Refusal :=
  if 4 ≤ core ∨ !s.domOn 3 then go s else
  let s1 := s.coreCtrl core value
  if s.bit Fld.VTX_CORE_CTRL_ENABLE core 0 then go s1
  else match s1.coreCheck core with
    | 0 => go ((s1.setF Fld.VTX_CORE_CTRL_ENABLE core 0 1).setF Fld.VTX_CORE_STAT_ERR core 0 0)
    | e => go ((s1.setF Fld.VTX_CORE_STAT_ERR core 0 e).log 0x2187 core (w32 e))

/-- VTX_CORE_DISABLE (R367). -/
def execVtxCoreDisable (core : Nat) (s : State) : Host.Outcome State Fault Refusal :=
  if 4 ≤ core ∨ !s.domOn 3 then go s else
  go (s.setF Fld.VTX_CORE_CTRL_ENABLE core 0 0)

/-- VTX_CORE_FLUSH (R367). -/
def execVtxCoreFlush (core : Nat) (s : State) : Host.Outcome State Fault Refusal :=
  if 4 ≤ core ∨ !s.domOn 3 then go s else
  let mine := s.tr.vtx.items.filter (fun i => i.phase == .inService core)
  go ((s.setVtx (mine.foldl (fun v i => v.finish i) s.tr.vtx)).log 0x2184 core (w32 mine.length))

/-- VTX_CORE_CI_WRITE (R368, R116). -/
def execVtxCoreCiWrite (core : Nat) (value : Word) (s : State) : Host.Outcome State Fault Refusal :=
  if 4 ≤ core ∨ !s.domOn 3 then go s else
  let pi := s.rd Reg.VTX_CORE_PI core 0
  if (value - s.rd Reg.VTX_CORE_CI core 0).toNat < 2147483648 ∧
      (pi - value).toNat ≤ 2 ^ s.fld Fld.VTX_CORE_CTRL_SIZE_LOG2 core 0 then
    let s1 := s.wr Reg.VTX_CORE_CI core 0 value
    go (if value = pi then s1.setF Fld.VTX_CORE_STAT_LINE core 0 0 else s1)
  else go (s.incF Fld.VTX_CORE_STAT_BACKSTEP core 0 1)

/-- VTX_COALESCE_TIMEOUT (R368). -/
def execVtxCoalesceTimeout (core : Nat) (s : State) : Host.Outcome State Fault Refusal :=
  if 4 ≤ core ∨ !s.domOn 3 then go s else
  if s.fld Fld.VTX_CORE_COAL_TIME core 0 ≠ 0 ∧ tget 0 s.tr.vtx.unsig core ≠ 0 then go (s.assertLine core) else go s

/-- VTX_POST (R369, R372): word 3 holds CODE and INSTANCE, word 4 PARAM. -/
def execVtxPost (it : Item) (s : State) : Host.Outcome State Fault Refusal :=
  serve it s (fun s =>
    if it.inst < 144 ∨ 255 < it.inst then s.complete it stRange 6 0 (w32 it.inst)
    else (s.raise it.inst (bitsOf (it.w 3) 16 16) (bitsOf (it.w 3) 0 16) (it.w 4)).complete it stDone)

/-- The signed 16-bit range of a VTX_SIGNAL value (R372). -/
def signalOk (w : Word) : Bool := -32768 ≤ sInt w && sInt w ≤ 32767

/-- VTX_SIGNAL (R358, R372). -/
def execVtxSignal (it : Item) (s : State) : Host.Outcome State Fault Refusal :=
  serve it s (fun s =>
    if !(signalOk (it.w 3)) then s.complete it stFormat 12
    else if 63 < it.inst then s.complete it stRange 6 0 (w32 it.inst)
    else if !(s.isDep it.inst) then s.complete it stState 1
    else
      let s1 := s.setCnt it.inst (s.depCnt it.inst + sInt (it.w 3))
      s1.complete it stDone (wInt (s1.depCnt it.inst)))

end Sys2Proof.Machine
end

