-- ==== Sys2Proof/Machine/Cfg.lean ====
section
/-! DEFINITION. CFG: staging, commits, the journal, block commit points, images and direct writes
(spec/05_configuration.md). -/

namespace Sys2Proof.Machine

/-! ### Staging (R143 to R145) -/

/-- Why a field or element cannot be staged (R143): 1 its block, 2 its field, 3 its instance, 4 its element; 0 none. -/
def stageErr (b i f e : Nat) : Nat :=
  if !(cfgOrder.contains b) then 1
  else match fieldRow b i f with
    | none => if (fieldsOf b).any (fun r => r.fld == f) then 3 else 2
    | some r =>
      if r.nElem = 1 then (if e = 0 then 0 else 4)
      else if b = 0xF ∧ (f = 0x202 ∨ f = 0x203) ∧ e < 128 then 4
      else if e < r.nElem ∨ (tableCap b f).isSome then 0 else 4

/-- The staged value of a key. -/
def State.stagedAt (s : State) (k : Nat) : Option Word := tget none s.cfg.staged k

/-- Values staged; a later one replaces an earlier one in place (R144, R145). -/
def State.stagePut (s : State) (cs : List Change) : State :=
  { s with cfg := { s.cfg with staged := cs.foldl (fun t c => tset none t c.key (some c.val)) s.cfg.staged } }

/-- Values that return to the staging area, unless later writes stand there (R152, R155). All of them return, even where
later writes have filled the area (DESIGN CHOICE: R144 does not say; notes/assumptions/138.md). -/
def State.stageBack (s : State) (cs : List Change) : State :=
  s.stagePut (cs.filter (fun c => (s.stagedAt c.key).isNone))

/-- The staging area without some keys. -/
def State.stageDrop (s : State) (ks : List Nat) : State :=
  { s with cfg := { s.cfg with staged := ks.foldl (fun t k => tset none t k none) s.cfg.staged } }

/-- The staging area holds no more than its 131,072 values (R144). -/
def State.stageFits (s : State) : Bool := s.cfg.staged.length ≤ 131072

/-- The staged values of some blocks. -/
def State.stagedOf (s : State) (bs : List Nat) : List Change :=
  s.cfg.staged.filterMap (fun kv =>
    if bs.contains (keyBlock kv.1) then kv.2.map (fun w => ⟨kv.1, w⟩) else none)

/-- The first word from `n` to 14 of an item that is not zero, as a byte offset (R118). -/
def tailOff (it : Item) (n : Nat) : Option Nat := (firstNonzero n ((List.range (15 - n)).map (fun k => it.w (n + k)))).map (fun m => 4 * m)

/-- The first offset of a list of checks, in order. -/
def firstOff : List (Option Nat) → Option Nat
  | [] => none
  | x :: xs => match x with
    | some n => some n
    | none => firstOff xs

/-- A check: the offset it reports when `bad` holds. -/
def chk (bad : Bool) (off : Nat) : Option Nat := if bad then some off else none

/-- The offset that a word of block, instance or element errors report: word 3 for all but a field. -/
def errOff (e head fld : Nat) : Option Nat := if e = 0 then none else some (if e = 2 then fld else head)

/-- Values go to the staging area, or the item completes REJECTED_STATE with none of them staged (R144). -/
def State.stageItem (s : State) (it : Item) (cs : List Change) (detail : Nat) : State :=
  let s1 := s.stagePut cs
  if s1.stageFits then s1.complete it stDone (w32 detail) else s.complete it stState 2

/-- The checks of CFG_STAGE's format. -/
def stageFormat (it : Item) : Option Nat :=
  let b := bitsOf (it.w 3) 0 6
  let i := bitsOf (it.w 3) 6 15
  let n := bitsOf (it.w 3) 21 3
  let js := List.range n
  firstOff ([chk (it.inst != 0) 8, chk (bitsOf (it.w 3) 24 8 != 0 || n == 0 || decide (5 < n)) 12] ++
    js.map (fun j => chk (bitsOf (it.w (4 + 2 * j)) 16 16 != 0) (16 + 8 * j)) ++ [tailOff it (4 + 2 * n)] ++
    js.map (fun j => errOff (stageErr b i (it.w (4 + 2 * j)).toNat 0) 12 (16 + 8 * j)))

/-- CFG_STAGE: pairs of field and value; element 0 of a table field. -/
def execCfgStage (it : Item) (s : State) : Host.Outcome State Fault Refusal :=
  serve it s (fun s =>
    let b := bitsOf (it.w 3) 0 6
    let i := bitsOf (it.w 3) 6 15
    let js := List.range (bitsOf (it.w 3) 21 3)
    match stageFormat it with
    | some off => s.complete it stFormat (w32 off)
    | none => s.stageItem it (js.map (fun j => ⟨cfgKey b i (it.w (4 + 2 * j)).toNat 0, it.w (5 + 2 * j)⟩)) 0)

/-- The checks of CFG_STAGE_TABLE's format. -/
def tableFormat (it : Item) : Option Nat :=
  let b := bitsOf (it.w 6) 0 6
  let i := bitsOf (it.w 6) 6 15
  let f := (it.w 7).toNat
  let len := (it.w 5).toNat
  let n := len / 4
  let first := (it.w 8).toNat
  let scalar := match fieldRow b i f with
    | some r => r.nElem == 1
    | none => false
  let e0 := stageErr b i f first
  let e1 := stageErr b i f (first + n - 1)
  firstOff [chk (it.inst != 0) 8, chk (len == 0 || len % 4 != 0 || decide (262144 < len)) 20,
    chk (bitsOf (it.w 6) 21 11 != 0) 24, chk (decide (65535 < f)) 28, chk (decide (65536 < first + n)) 32,
    chk (e0 == 1 || e0 == 3) 24, chk (e0 == 2 || scalar) 28, chk (e0 == 4 || e1 == 4) 32]

/-- CFG_STAGE_TABLE: elements of one table field from a buffer. -/
def execCfgStageTable (it : Item) (s : State) : Host.Outcome State Fault Refusal :=
  serve it s (fun s =>
    match tableFormat it with
    | some off => s.complete it stFormat (w32 off)
    | none =>
      let b := bitsOf (it.w 6) 0 6
      let i := bitsOf (it.w 6) 6 15
      let f := (it.w 7).toNat
      let n := (it.w 5).toNat / 4
      let first := (it.w 8).toNat
      let ws := s.bufWords it (bufAddr it 3) n
      s.stageItem it ((List.range n).map (fun k => ⟨cfgKey b i f (first + k), ws.getD k 0⟩)) n)

/-- The key that CFG_SEL and CFG_FIELD name, and its error. -/
def State.cfgNamed (s : State) : Nat × Nat :=
  let b := s.fld Fld.CFG_SEL_BLOCK 0 0
  let i := s.fld Fld.CFG_SEL_INSTANCE 0 0
  let f := s.fld Fld.CFG_FIELD_FIELD 0 0
  let e := s.fld Fld.CFG_FIELD_ELEMENT 0 0
  (cfgKey b i f e, stageErr b i f e)

/-- CFG_DATA_WRITE: staging by registers. CFG lies in PD_ENG. -/
def execCfgDataWrite (value : Word) (s : State) : Host.Outcome State Fault Refusal :=
  if !(s.domOn 3) then go s
  else
    let n := s.cfgNamed
    let s1 := s.stagePut [⟨n.1, value⟩]
    if n.2 = 0 ∧ s1.stageFits then go s1 else go { s with cfg := { s.cfg with regErr := true, regErrAt := some s.mer.base } }

/-- The mask of the blocks of R142. -/
def cfgMask : Nat := cfgOrder.foldl (fun m b => m + 2 ^ b) 0

/-- The blocks that a mask word names, in the order of R148. -/
def maskBlocks (w : Word) : List Nat := cfgOrder.filter (fun b => bitOf w b)

/-- A mask word names only blocks of R142 (R143). -/
def maskOk (w : Word) : Bool := w &&& w32 cfgMask == w

/-- The checks of CFG_DISCARD's format. -/
def discardFormat (it : Item) : Option Nat := firstOff [chk (it.inst != 0) 8, chk (!(maskOk (it.w 3))) 12]

/-- CFG_DISCARD. -/
def execCfgDiscard (it : Item) (s : State) : Host.Outcome State Fault Refusal :=
  serve it s (fun s =>
    match discardFormat it with
    | some off => s.complete it stFormat (w32 off)
    | none =>
      let ks := (s.stagedOf (maskBlocks (it.w 3))).map (fun c => c.key)
      (s.stageDrop ks).complete it stDone (w32 ks.length))

/-- The checks of CFG_READ's format. -/
def readFormat (it : Item) : Option Nat :=
  let b := bitsOf (it.w 3) 0 6
  let i := bitsOf (it.w 3) 6 15
  let e := stageErr b i (it.w 4).toNat (it.w 5).toNat
  firstOff [chk (it.inst != 0) 8, chk (bitsOf (it.w 3) 24 8 != 0 || bitsOf (it.w 3) 21 3 != 1) 12,
    chk (bitsOf (it.w 4) 16 16 != 0) 16, chk (bitsOf (it.w 5) 16 16 != 0) 20, if e = 4 then some 20 else errOff e 12 16]

/-- CFG_READ. -/
def execCfgRead (it : Item) (s : State) : Host.Outcome State Fault Refusal :=
  serve it s (fun s =>
    let b := bitsOf (it.w 3) 0 6
    let i := bitsOf (it.w 3) 6 15
    match readFormat it with
    | some off => s.complete it stFormat (w32 off)
    | none =>
      let k := cfgKey b i (it.w 4).toNat (it.w 5).toNat
      let st := s.stagedAt k
      s.complete it stDone (tabGet cfgDefault s.cfg.active k) (st.getD 0) (if st.isSome then 1 else 0))

/-! ### Items that end before their commit point (R125, R152, R182) -/

/-- The Facets that some changes name. -/
def facetsOf (cs : List Change) : List Nat :=
  cs.foldl (fun l c => if keyBlock c.key = 0x12 then addSorted (facetOf (keyInst c.key)) l else l) []

/-- The affected Facets discard their shadows (R182). -/
def State.facetAbort (s : State) (cs : List Change) : State :=
  (facetsOf cs).foldl (fun s n =>
    if s.linkUp n then s.setFacet n { s.facet n with abort := true, need := [] } else s) s

/-- The link ends send the new configuration of the affected Facets into their shadows (R182). -/
def State.facetShadow (s : State) (cs : List Change) : State :=
  (facetsOf cs).foldl (fun s n => if s.linkUp n then s.setFacet n { s.facet n with need := allChunks } else s) s

/-- Every affected Facet whose link is UP holds its whole shadow (R182). -/
def State.shadowsHeld (s : State) (cs : List Change) : Bool :=
  (facetsOf cs).all (fun n => !(s.linkUp n) || (s.facet n).need.isEmpty)

/-- What an item was given returns to the staging area if it came from there. -/
def State.giveBack (s : State) (moved : Bool) (given : List Change) : State :=
  if moved then s.stageBack given else s

/-- Commits whose items have ended before their commit points are void: what they were given returns. -/
def State.cfgSweep (s : State) : State :=
  let gone := fun (it : Item) => (s.flight it.ring it.seq).isNone
  let dead := s.cfg.jobs.filter (fun j => !j.journaled && gone j.item)
  let s1 := { s with cfg := { s.cfg with jobs := s.cfg.jobs.filter (fun j => j.journaled || !(gone j.item)) } }
  let s2 := dead.foldl (fun s j => (s.giveBack j.moved j.given).facetAbort j.changes) s1
  match s2.cfg.grant with
  | some g =>
    if gone g.item then (({ s2 with cfg := { s2.cfg with grant := none } }).giveBack g.moved g.given).facetAbort g.given
    else s2
  | none => s2

/-! ### Validation (R147 to R155) -/

/-- The values as they stand before an item: the active ones, and what committed or validated items have yet to bring. -/
def State.cfgOld (s : State) : Tab Word := s.cfg.jobs.foldl (fun t j => cfgPut t j.changes) s.cfg.active

/-- The keys whose values differ between two sets of values. -/
def cfgDiff (old new : Tab Word) : List Change :=
  ((old.map (fun kv => kv.1) ++ new.map (fun kv => kv.1)).foldl (fun l k =>
    if tabGet cfgDefault old k = tabGet cfgDefault new k then l else addSorted k l) []).map
    (fun k => ⟨k, tabGet cfgDefault new k⟩)

/-- What an item with SOURCE_IMAGE is given: the committed image of its blocks, and the default of every value that is
active and not in the image (R161). -/
def State.imageOf (s : State) (bs : List Nat) : List Change :=
  let mine := fun (k : Nat) => bs.contains (keyBlock k)
  let ks := (s.cfg.image ++ s.cfgOld).foldl (fun l kv => if mine kv.1 then addSorted kv.1 l else l) []
  ks.map (fun k => ⟨k, tabGet cfgDefault s.cfg.image k⟩)

/-- A rejected item (R152): its event, what it was given returns, and its completion. -/
def State.cfgReject (s : State) (it : Item) (given : List Change) (moved : Bool) (k : Nat) (w : Word) : State :=
  let s1 := ((s.giveBack moved given).facetAbort given).log 0x20C5 (keyInst k) (w32 (keyBlock k)) (w32 (keyFld k)) w
  s1.complete it stRange (w32 (keyBlock k)) (w32 (keyFld k)) w

/-- The fields that direct writes change (R162). -/
def directKey (k : Nat) : Bool :=
  let f := keyFld k
  (keyBlock k == 7 && (f == 0x13 || f == 0x14 || (0x20 ≤ f && f ≤ 0x25))) || (keyBlock k == 0xA && (f == 0x13 || f == 0x14)) ||
    (keyBlock k == 0x12 && (f == 6 || f == 7 || f == 9))

/-- What an item changes: the values that differ, and the values given for fields that direct writes change, which replace
what is written there before the block's commit point (R164). -/
def jobChanges (old new : Tab Word) (given : List Change) : List Change :=
  let cs := cfgDiff old new
  cs ++ (given.filter (fun c => directKey c.key && !(cs.any (fun d => d.key == c.key)))).map
    (fun c => ⟨c.key, tabGet cfgDefault new c.key⟩)

/-- Pass 4, the reports, and what follows them: a dry run completes, a commit goes on to its journal entry. -/
def State.cfgEnd (s : State) (it : Item) (given : List Change) (moved dry : Bool) (old : Tab Word) (ints : List Nat)
    (v0 : Val) : State :=
  let v := v0.finish old given
  match v.fail with
  | some (k, w) => s.cfgReject it given moved k w
  | none =>
    let m := s.rptRing it.ring
    let first := s.nextIndex m
    let now := s.now
    let s1 := v.clamps.foldl (fun s c => s.postClamp it now c) s
    let n := v.clamps.length
    if dry then (s1.giveBack moved given).complete it stDone (w32 m) first (w32 n)
    else
      let cs := jobChanges old v.tab given
      let bs := cfgOrder.filter (fun b => bitOf (it.w 3) b || cs.any (fun c => keyBlock c.key == b))
      let job : CfgJob := { item := it, changes := cs, blocks := bs, rptRing := m, rptFirst := first, rptCount := n,
                            journaled := false, given := given, moved := moved, ints := ints }
      (({ s1 with cfg := { s1.cfg with jobs := s1.cfg.jobs ++ [job] } }).facetShadow cs).holdItem 0x0302 it []

/-- An earlier CFG_VALIDATE_COMMIT has not been validated, or the present one has not reached its commit point (R147). -/
def State.cfgBusy (s : State) (it : Item) : Bool :=
  let before := s.hif.inflight.takeWhile (fun f => !(f.is it.ring it.seq))
  s.cfg.grant.isSome || s.cfg.jobs.any (fun j => !j.journaled) ||
    ((s.flight it.ring it.seq).isSome && before.any (fun f => f.opcode == 0x0302 && f.phase == .fetched))

/-- One CFG_VALIDATE_COMMIT item whose format is right. -/
def State.cfgRun (s : State) (it : Item) (dry : Bool) : State :=
  let bs := maskBlocks (it.w 3)
  match bs.find? (fun b => s.blockOff b) with
  | some b => s.complete it stAbsent (tget 0 s.sys.domCode (blockDomain b)) (tget 0 s.sys.domSeq (blockDomain b))
  | none =>
    if bs.contains 9 ∧ s.latRefuse ≠ 0 then s.complete it stState (w32 s.latRefuse)
    else
      let src := bitOf (it.w 4) 1
      let given := if src then s.imageOf bs else s.stagedOf bs
      let s1 := if src then s else s.stageDrop (given.map (fun c => c.key))
      let old := s.cfgOld
      let v := s1.validateA old given false
      match v.fail with
      | some (k, w) => s1.cfgReject it given (!src) k w
      | none =>
        if s1.role = 3 ∧ s1.wantsGrant old v then
          let ask := s1.sendTo 5 0 kGrant ([w32 v.pubList.length, w32 (s1.subList v).length] ++ v.pubList.map w32 ++
            (s1.subList v).map (fun p => w32 p.2))
          ({ ask with cfg := { ask.cfg with grant := some ⟨it, given, !src, old, v⟩ } }).holdItem 0x0302 it
            [if dry then 1 else 0]
        else s1.cfgEnd it given (!src) dry old [] (if s1.role = 2 then s1.ownGrant old v else v)

/-- The checks of a CFG_VALIDATE_COMMIT's format. -/
def commitFormat (it : Item) : Option Nat :=
  firstOff [chk (it.inst != 0) 8, chk (bitsOf (it.w 4) 2 30 != 0) 16, chk (!(maskOk (it.w 3))) 12]

/-- CFG_VALIDATE_COMMIT (R147 to R156). -/
def execCfgValidateCommit (it : Item) (s : State) : Host.Outcome State Fault Refusal :=
  serve it s (fun s =>
    match commitFormat it with
    | some off => s.complete it stFormat (w32 off)
    | none => if s.cfgBusy it then s else s.cfgRun it (bitOf (it.w 4) 0))

/-- CFG_DRY_RUN (R155). -/
def execCfgDryRun (it : Item) (s : State) : Host.Outcome State Fault Refusal :=
  serve it s (fun s =>
    match commitFormat it with
    | some off => s.complete it stFormat (w32 off)
    | none => if s.cfgBusy it then s else s.cfgRun it true)

/-- Entries that a grant types as integers, at once. -/
def State.typeSubs (s : State) (ints : List Nat) : State :=
  { s with vxl := { s.vxl with subInt := ints.foldl (fun t e => tset false t e true) s.vxl.subInt } }

/-- GRANT_REPLY_RX (R521, R522, R514): the publications and the SUB entries that do not fit, an entry that cannot be
clamped, and the SUB entries whose publishers give integers. A reply that no commit waits for brings the types alone. -/
def execGrantReplyRx (pubs subs ints : List Nat) (bad : Option Nat) (s : State) : Host.Outcome State Fault Refusal :=
  match s.cfg.grant with
  | none => go (s.typeSubs ints)
  | some g =>
    let s1 := { s with cfg := { s.cfg with grant := none } }
    let dry := match s.flight g.item.ring g.item.seq with
      | some f => f.note.headD 0 == 1
      | none => false
    let v := s1.grantClamp pubs subs bad g.val
    go (match v.fail with
      | some (k, w) => s1.cfgReject g.item g.given g.moved k w
      | none => s1.cfgEnd g.item g.given g.moved dry g.old ints v)

/-- GRANT_TIMEOUT (R521): no reply has come within 10 ms. -/
def execGrantTimeout (s : State) : Host.Outcome State Fault Refusal :=
  match s.cfg.grant with
  | none => go s
  | some g =>
    let s1 := ({ s with cfg := { s.cfg with grant := none } }).giveBack g.moved g.given
    go ((s1.facetAbort g.given).complete g.item stAbsent)

/-! ### The commit point (R157, R165, R168) -/

/-- The direct writes of some blocks that the committed image does not hold (R165). Values that a commit has yet to
bring to their block are none. -/
def State.directDiff (s : State) (bs : List Nat) : List Change :=
  (cfgDiff s.cfg.image s.cfg.active).filter (fun c => directKey c.key && bs.contains (keyBlock c.key) &&
    !(s.cfg.jobs.any (fun j => j.changes.any (fun d => d.key == c.key))))

/-- The journal entry of an item stands: the image takes its changes and the direct writes of its blocks, and the item
is applied. -/
def State.cfgCommit (s : State) (j : CfgJob) : State :=
  let st := if j.rptCount = 0 then stDone else stClamped
  let rpt := if j.rptCount = 0 then [] else [w32 j.rptRing, j.rptFirst, w32 j.rptCount]
  let s1 := ((s.commitItem j.item st).noteItem j.item rpt).commitChanges (s.directDiff j.blocks ++ j.changes)
  let up := fun (x : CfgJob) => if x.is j.item.ring j.item.seq then { x with journaled := true } else x
  let s2 := { s1 with cfg := { s1.cfg with jobs := s1.cfg.jobs.map up } }
  let s3 := s2.log 0x10C0 0 j.item.seq (j.item.w 3) (w32 j.rptCount) (w32 s2.cfg.imageId)
  if j.blocks = [] then s3.jobDone j else s3

/-- CFG_JOURNAL_WRITTEN (R157, R182, R549): the journal write starts once every affected Facet whose link is UP holds its
shadow; on the active member of a pair the item waits until its intent is mirrored. -/
def execCfgJournalWritten (ring : Nat) (seq : Word) (s : State) : Host.Outcome State Fault Refusal :=
  match s.cfg.jobs.find? (fun j => j.is ring seq && !j.journaled) with
  | none => go s
  | some j =>
    if (s.flight ring seq).isNone then go s.cfgSweep
    else if !(s.shadowsHeld j.changes) then go s
    else if s.frozen j.item then go s
    else if s.mirWait j.item then go (s.intend j.item)
    else go (s.cfgCommit j)

/-! ### Block commit points (R158 to R160) -/

/-- The Facets get what an item changes of them, and an owner's value from before a change of mode or of owner does not
count (R184); link ends that held no configuration hold it from now on and deliver it
whole (R37, R182). -/
def State.takenFct (s : State) (cs : List Change) : State :=
  let mode := cs.filter (fun c => keyBlock c.key == 0x12 && keyInst c.key < 128 && keyFld c.key ≤ 1)
  let s0 := mode.foldl (fun s c => s.setChan (keyInst c.key) { s.chan (keyInst c.key) with ownHas := false }) s
  if s0.fct.linkCfg then
    (facetsOf cs).foldl (fun s n => s.pushUpd n
      { full := false, variant := none, vals := cs.filter (fun c => keyBlock c.key == 0x12 && facetOf (keyInst c.key) == n),
        cals := [] }) s0
  else
    let s1 : State := { s0 with fct := { s0.fct with linkCfg := true } }
    (List.range 16).foldl (fun s n =>
      let t := s.setFacet n { s.facet n with delivered := false }
      if t.linkUp n then t.linkDeliver n else t) s1

/-- An entry of the coordinate table that an item defines anew: a SUB entry is STALE or SUBSTITUTED, any other BAD
(R513, R514). -/
def State.coFresh (s : State) (ints : List Nat) (e : Nat) : State :=
  let s1 := { s with vxl := { s.vxl with subInt := tset false s.vxl.subInt e (ints.contains e),
                                         got := tset [] s.vxl.got e [], turned := tset false s.vxl.turned e true } }
  if s1.ctKind e = 1 then
    if bitOf (s1.cf Cf.VXL_STALE 5 e) 4 then s1.setCo e ⟨s1.cf Cf.VXL_SUBST_VAL 5 e, 2, s1.timeT, 0, 0⟩
    else s1.setCo e ⟨0, 4, s1.timeT, 0, 0⟩
  else s1.setCo e coNone

/-- The first mark, counted in the present cycle, that is a multiple of a new CYCLE and lies at least 16 present cycles
ahead (R523). -/
def firstMark (old new : Nat) : Nat → Nat → Nat
  | 0, n => n
  | fuel + 1, n => if n * old % new = 0 then n else firstMark old new fuel (n + 1)

/-- Vexlink takes an item's values: new entries, the granted publications and a new CYCLE. -/
def State.takenVxl (s : State) (j : CfgJob) : State :=
  let mine := j.changes.filter (fun c => keyBlock c.key == 0xF)
  let elems := fun (f : Nat) => mine.filterMap (fun c => if keyFld c.key = f ∧ keyInst c.key = 5 then some (keyElem c.key) else none)
  let s0 := (mine.filter (fun c => keyFld c.key == 0 && keyInst c.key < 4)).foldl (fun s c =>
    if s.portUp (keyInst c.key) then s.portFall (keyInst c.key) else s) s
  let s1 := (elems 0x200).foldl (fun s e => s.coFresh j.ints e) s0
  let s2 := (elems 0x201).foldl (fun s e =>
    { s with vxl := { s.vxl with granted := tset false s.vxl.granted e (bitOf (s.cf Cf.VXL_PUB 5 e) 31) } }) s1
  let s3 := if s2.isManager then
      let v : Val := ⟨s2.cfg.active, [], none, false⟩
      let g : Grant := ⟨s2.device, v.pubList, (s2.subList v).map (fun p => p.2)⟩
      let gs := g :: s2.vxl.grants.filter (fun x => x.device != g.device)
      let s3 := { s2 with vxl := { s2.vxl with grants := gs, fwd := forwards gs } }
      if forwards gs = s2.vxl.fwd then s3 else s3.sendTable (forwards gs)
    else s2
  if s3.isManager ∧ mine.any (fun c => keyFld c.key == 0x101) then
    let old := s3.fld Fld.VXL_CYCPER_US 0 0
    let new := s3.cfN Cf.VXL_CYCLE 4
    let n := (s3.timeT / 4294967296).toNat / (old * 1000) + 17
    { s3 with vxl := { s3.vxl with newCycle := some (new, firstMark old new 10000 n) } }
  else s3

/-- Vertex takes an item's values: a queue committed into DEP mode counts from DEP_INIT (R359). `was` are the queues that
were in DEP mode. -/
def State.takenVtx (s : State) (was : List Nat) : State :=
  (List.range 64).foldl (fun s q =>
    if s.isDep q ∧ !(was.contains q) then (s.setVtx (s.tr.vtx.hold q)).setCnt q (sInt (s.cf Cf.VTX_DEP_INIT q 0)) else s) s

/-- Helix takes FF_PRE unless the region is FILLING or LATCHED (R441). -/
def State.takenHlx (s : State) : State :=
  if s.tr.hlx.ff = .armed then
    { s with tr := { s.tr with hlx := { s.tr.hlx with ffPreLen := s.cfN Cf.HLX_FF_PRE 0 } } }
  else s

/-- The channels whose history a change of FCT fields starts again (R400): recorded before or after. -/
def histKeys (cs : List Change) : List Nat :=
  cs.filterMap (fun c =>
    if keyBlock c.key = 0x12 ∧ keyInst c.key < 128 ∧ (keyFld c.key = 0 ∨ keyFld c.key = 0x10 ∨ keyFld c.key = 0x11) then
      some (keyInst c.key) else none)

/-- A block takes an item's values at its commit point; the answer lists its objects that take theirs later. -/
def State.blockTakes (s : State) (j : CfgJob) (b : Nat) : State × List Nat :=
  let cs := j.changes.filter (fun c => keyBlock c.key == b)
  let keys := cs.map (fun c => c.key)
  let was := (List.range 64).filter (fun q => s.isDep q)
  let rec0 := (histKeys cs).any (fun ch => s.recorded ch)
  let t := s.takeChanges cs
  if b = 7 then s.takenTan cs
  else if b = 0xA then t.takenArc keys
  else if b = 8 then t.takenLoc keys
  else if b = 0x12 then
    let t1 := t.takenFct cs
    (if rec0 || (histKeys cs).any (fun ch => t1.recorded ch) then t1.histFct else t1, [])
  else if b = 5 then
    ((if j.given.any (fun c => keyBlock c.key == 5 && keyFld c.key == 0x100) then
      t.switchTo (t.cfN Cf.MER_SRC 3) 0 else t).restate, [])
  else if b = 0xF then (t.takenVxl j, [])
  else if b = 0xD then (t.takenEth keys, [])
  else if b = 0xE then (t.takenCan keys, [])
  else if b = 9 then (t.takenLat (cs.any (fun c => keyFld c.key == 0x100)), [])
  else if b = 6 then (t.takenVtx was, [])
  else if b = 0xB then
    (t.takenPrm ((j.given.filter (fun c => keyBlock c.key == 0xB)).map (fun c => c.key) ++ keys)
      (keys.any (fun k => keyInst k < 128 && (s.recorded (keyInst k) || t.recorded (keyInst k)))), [])
  else if b = 0xC then (t.takenHlx, [])
  else (t, [])

/-- Whether a block is at its commit point for an item: Prism is at a record boundary while no trigger unit that the item
names is in COLLECT, and none at all where it names HIST_EN (R158, R423); the others are where the command says. -/
def State.atBoundary (s : State) (j : CfgJob) (b : Nat) : Bool :=
  b != 0xB || s.prmReady ((j.given ++ j.changes).map (fun c => c.key))

/-- BLOCK_VALUES_TAKEN (R158 to R160): a block reaches its commit point for an item. A block whose domain is off counts
as having taken its values. -/
def execBlockValuesTaken (ring : Nat) (seq : Word) (block : Nat) (s : State) : Host.Outcome State Fault Refusal :=
  match s.cfg.jobs.find? (fun j => j.is ring seq && j.journaled && j.blocks.contains block) with
  | none => go s
  | some j =>
    if s.cfg.waits.any (fun w => w.1 == ring && w.2.1 == seq && w.2.2.1 == block) then go s
    else if s.blockOff block then go (s.blockTaken ring seq block)
    else if !(s.atBoundary j block) then go s
    else
      let r := s.blockTakes j block
      go (r.1.blockWait ring seq block r.2)

/-- The blocks of a power domain that goes off count as having taken what has been committed (R160). -/
def State.blocksGone (s : State) (n : Nat) : State :=
  let bs := cfgOrder.filter (fun b => blockDomain b == n)
  let s1 := { s with cfg := { s.cfg with waits := s.cfg.waits.filter (fun w => !(bs.contains w.2.2.1)) } }
  (s1.cfg.jobs.filter (fun j => j.journaled)).foldl (fun s j =>
    (j.blocks.filter (fun b => bs.contains b)).foldl (fun s b => s.blockTaken j.item.ring j.item.seq b) s) s1

/-! ### Images (R165 to R168) -/

/-- CFG_PERSIST (R165, R168): the direct writes enter the committed image. -/
def execCfgPersist (it : Item) (s : State) : Host.Outcome State Fault Refusal :=
  serve it s (fun s =>
    if it.inst ≠ 0 then s.complete it stFormat 8
    else
      let s1 := s.commitChanges (s.directDiff cfgOrder)
      s1.complete it stDone (w32 s1.cfg.imageId) (w32 (s1.cfg.imageId / 4294967296)))

/-- The bytes of an exported image, in a layout the spec does not state (free, notes/assumptions/15.md). -/
def imageBytes (t : Tab Word) : List Byte := (List.range (Config.imageLen t % 7340033)).map (Config.imageByte t)

/-- The values that the bytes given to CFG_IMAGE_IMPORT hold: those of an image exported earlier, or as the layout of the
configuration builder reads (free, notes/assumptions/15.md); none where they hold no image. -/
def State.imageGiven (s : State) (bs : List Byte) : Option (List Change) :=
  match s.cfg.exports.find? (fun t => imageBytes t == bs) with
  | some t => some (t.map (fun kv => ⟨kv.1, kv.2⟩))
  | none => match Config.imageRead bs with
    | some l =>
      if l.all (fun kv => stageErr (keyBlock kv.1) (keyInst kv.1) (keyFld kv.1) (keyElem kv.1) == 0) then
        some (l.map (fun kv => ⟨kv.1, kv.2⟩)) else none
    | none => none

/-- The committed image has been exported. -/
def State.noteExport (s : State) : State := { s with cfg := { s.cfg with exports := s.cfg.image :: s.cfg.exports } }

/-- CFG_IMAGE_EXPORT. -/
def execCfgImageExport (it : Item) (s : State) : Host.Outcome State Fault Refusal :=
  serve it s (fun s =>
    let bs := imageBytes s.cfg.image
    if it.inst ≠ 0 then s.complete it stFormat 8
    else if (it.w 5).toNat < bs.length then s.complete it stFormat 20
    else (s.noteExport.bufPutBytes it (bufAddr it 3) bs).complete it stDone (w32 bs.length))

/-- CFG_IMAGE_IMPORT. -/
def execCfgImageImport (it : Item) (s : State) : Host.Outcome State Fault Refusal :=
  serve it s (fun s =>
    if it.inst ≠ 0 then s.complete it stFormat 8
    else match s.imageGiven (s.bufTake it (bufAddr it 3) (it.w 5).toNat) with
      | none => s.complete it stFormat 20
      | some cs => s.stageItem it cs cs.length)

/-- FULL_IMAGE_WRITTEN (R167): the background image stands, its marker last, and a new journal starts. -/
def execFullImageWritten (s : State) : Host.Outcome State Fault Refusal :=
  if s.cfg.writingImage then
    let sl := 1 - s.cfg.slot
    let s1 := { s with cfg := { s.cfg with slots := tset none s.cfg.slots sl (some (s.cfg.imageId, s.cfg.image)),
                                           slot := sl, journal := [], journalUsed := 0, writingImage := false, imageBad := false } }
    go (s1.log 0x10C3 0 (w32 s1.cfg.imageId) (w32 sl))
  else go s

/-! ### Direct writes (R162 to R164, R183, R225, R279) -/

/-- A direct write that was clamped (R163): CFG_DCLAMP and event 0x10C2. -/
def State.directClamp (s : State) (off : Nat) (req app : Word) : State :=
  if req = app then s
  else
    ((s.incF Fld.CFG_DCLAMP_COUNT 0 0 1).setF Fld.CFG_DCLAMP_OFFSET 0 0 off).log 0x10C2 0 (w32 off) req app

/-- A direct write to a register that shows one active value: it is clamped to its field's range, and a NaN is replaced
by the present value (R279). -/
def State.directWord (s : State) (off : Nat) (c : Cf) (i e : Nat) (w : Word) : State :=
  let k := cfgKey c.block i c.fld e
  let now := tabGet cfgDefault s.cfg.active k
  let v := match (fieldRow c.block i c.fld).map FieldRow.kind with
    | some kd => (rangeOf kd w).getD now
    | none => w
  (s.setCf c i e v).directClamp off w v

/-- TAN_GAIN_WRITE: element `i` of table `t` of loop TAN_GSEL.LOOP. -/
def execTanGainWrite (t i : Nat) (value : Word) (s : State) : Host.Outcome State Fault Refusal :=
  if s.domOn 3 ∧ t < 6 ∧ i < 64 then
    go (s.directWord (Reg.TAN_GAIN.addr t i) ⟨7, 0x20 + t⟩ (s.fld Fld.TAN_GSEL_LOOP 0 0) i value)
  else go s

/-- TAN_KFF_WRITE. -/
def execTanKffWrite (l : Nat) (value : Word) (s : State) : Host.Outcome State Fault Refusal :=
  if s.domOn 3 ∧ l < 256 then go (s.directWord (Reg.TAN_KFF.addr l 0) Cf.TAN_KFF l 0 value) else go s

/-- TAN_DFILT_WRITE. -/
def execTanDfiltWrite (l : Nat) (value : Word) (s : State) : Host.Outcome State Fault Refusal :=
  if s.domOn 3 ∧ l < 256 then go (s.directWord (Reg.TAN_DFILT.addr l 0) Cf.TAN_DFILT l 0 value) else go s

/-- ARC_BOOT_WRITE: the reserved bits are discarded. -/
def execArcBootWrite (g : Nat) (value : Word) (s : State) : Host.Outcome State Fault Refusal :=
  if s.domOn 7 ∧ g < 32 then
    go (s.directWord (Reg.ARC_BOOT.addr g 0) Cf.ARC_BOOT g 0 (value &&& Reg.ARC_BOOT.rw))
  else go s

/-- ARC_IRQDIV_WRITE. -/
def execArcIrqdivWrite (g : Nat) (value : Word) (s : State) : Host.Outcome State Fault Refusal :=
  if s.domOn 7 ∧ g < 32 then go (s.directWord (Reg.ARC_IRQDIV.addr g 0) Cf.ARC_IRQDIV g 0 value) else go s

/-- One active field of a Facet changes, and the Facet gets it alone (R183). -/
def State.directFct (s : State) (ch : Nat) (vals : List (Cf × Nat)) : State :=
  let cs := vals.map (fun v => (⟨cfgKey 0x12 ch v.1.fld 0, w32 v.2⟩ : Change))
  (s.takeChanges cs).pushUpd (ch / 8) ⟨false, none, cs, []⟩

/-- FCT_DITHR_WRITE: threshold and hysteresis, each held to its own range. -/
def execFctDithrWrite (ch : Nat) (value : Word) (s : State) : Host.Outcome State Fault Refusal :=
  if s.domOn 7 ∧ ch < 128 then
    let req := value &&& Reg.FCT_DITHR.rw
    let thr := holdNat 10 250 (bitsOf value 0 8)
    let hyst := holdNat 1 50 (bitsOf value 8 8)
    go ((s.directFct ch [(Cf.FCT_DI_THR, thr), (Cf.FCT_DI_HYST, hyst)]).directClamp (Reg.FCT_DITHR.addr (ch / 8) (ch % 8))
      req (w32 (thr + 256 * hyst)))
  else go s

/-- FCT_DEBOUNCE_WRITE: 0 is clamped to 1. -/
def execFctDebounceWrite (ch : Nat) (value : Word) (s : State) : Host.Outcome State Fault Refusal :=
  if s.domOn 7 ∧ ch < 128 then
    let req := value &&& Reg.FCT_DEBOUNCE.rw
    let t := Nat.max 1 req.toNat
    go ((s.directFct ch [(Cf.FCT_DI_DEBOUNCE, t)]).directClamp (Reg.FCT_DEBOUNCE.addr (ch / 8) (ch % 8)) req (w32 t))
  else go s

/-- FCT_SPOT_SEL_WRITE (R225): the link end follows the new channel from the next upstream frame. -/
def execFctSpotSelWrite (n : Nat) (value : Word) (s : State) : Host.Outcome State Fault Refusal :=
  if s.domOn 7 ∧ n < 16 then go (s.wr Reg.FCT_SPOT_SEL n 0 (value &&& Reg.FCT_SPOT_SEL.rw)) else go s

end Sys2Proof.Machine
end

