-- ==== Sys2Proof/Machine/Abort.lean ====
section
/-! DEFINITION. HIF_ABORT (R125): what becomes of an item that has not reached its commit point. -/

namespace Sys2Proof.Machine

/-- Whether an item can still be aborted: not past its commit point, and not sent to another module (R125). -/
def Inflight.abortable (f : Inflight) : Bool :=
  f.phase != .committed && !(f.item.remote && f.item.origin.isNone && f.phase == .waiting)

/-- A PER_STOP_REQ that no status view has answered takes its bits back, unless a later write has replaced them
(R125, R126, R592; DEDUCED, notes/assumptions/128.md). -/
def State.stopUnset (s : State) (f : Inflight) : State :=
  match f.note with
  | [old, v] => if s.fld Fld.PER_STOP_REQ 0 0 = v.toNat then s.setF Fld.PER_STOP_REQ 0 0 old.toNat else s
  | _ => s

/-- What an aborted item has prepared goes with it: the shadows of an ARC_SET, the bits of a PER_STOP_REQ, what a
CFG_VALIDATE_COMMIT was given (R125, R182). -/
def State.withdraw (s : State) (f : Inflight) : State :=
  if f.phase ≠ .waiting then s
  else if f.opcode = 0x0A00 then s.arcUnset f.item.inst (f.item.ring, f.item.seq)
  else if f.opcode = 0x1100 then s.stopUnset f
  else s

/-- Whether an item is a frame of CAN in an attempt (R451). -/
def Inflight.inAttempt (f : Inflight) : Bool := f.opcode == 0x0E00 && f.phase == .waiting && f.note.head? == some 1

/-- The item is aborted: it completes ABORTED_BY_HOST, and the abort with detail 1. -/
def State.abortNow (s : State) (it : Item) (f : Inflight) : State :=
  let s1 := (s.withdraw f).complete f.item stAborted it.seq
  let s2 := if f.opcode = 0x0E00 ∧ f.phase = .waiting then
      s1.raise (124 + f.item.inst) f.item.inst stAborted (f.note.getD 3 0) else s1
  s2.cfgSweep.complete it stDone 1

/-- HIF_ABORT (R125). It is exempt from the order of R120 and from FENCE. For a frame of CAN in an attempt it takes
effect when the attempt ends (R451). -/
def execHifAbort (it : Item) (s : State) : Host.Outcome State Fault Refusal :=
  let ring := (it.w 3).toNat
  if !(s.serving it.block) ∨ !(s.undecided it) then go s
  else if s.mirWait it then go (s.intend it)
  else if 63 < ring then go (s.complete it stFormat 12)
  else match s.flight ring (it.w 4) with
  | none => go (s.complete it stDone (if (s.intakeOf ring (it.w 4)).isNone then 2 else 0))
  | some f =>
    if !(f.abortable) then go (s.complete it stDone 0)
    else if f.inAttempt then
      let by' := if f.note.getD 1 0 = 1 then f.note.getD 2 0 else it.seq
      go ((s.noteItem f.item [1, 1, by', f.note.getD 3 0]).holdItem 0x0201 it [w32 ring, it.w 4])
    else go (s.abortNow it f)

end Sys2Proof.Machine
end

