-- ==== Sys2Proof/Machine/Sha.lean ====
section
/-! DEFINITION. SHA-256, the digest of the firmware images (R86). The spec names the function; its steps are those of
FIPS 180-4 (PRESUMED, notes/assumptions/16.md). -/

namespace Sys2Proof.Machine

/-- The round constants. -/
def shaK : List Word :=
  [0x428A2F98, 0x71374491, 0xB5C0FBCF, 0xE9B5DBA5, 0x3956C25B, 0x59F111F1, 0x923F82A4, 0xAB1C5ED5,
   0xD807AA98, 0x12835B01, 0x243185BE, 0x550C7DC3, 0x72BE5D74, 0x80DEB1FE, 0x9BDC06A7, 0xC19BF174,
   0xE49B69C1, 0xEFBE4786, 0x0FC19DC6, 0x240CA1CC, 0x2DE92C6F, 0x4A7484AA, 0x5CB0A9DC, 0x76F988DA,
   0x983E5152, 0xA831C66D, 0xB00327C8, 0xBF597FC7, 0xC6E00BF3, 0xD5A79147, 0x06CA6351, 0x14292967]
   ++
  [0x27B70A85, 0x2E1B2138, 0x4D2C6DFC, 0x53380D13, 0x650A7354, 0x766A0ABB, 0x81C2C92E, 0x92722C85,
   0xA2BFE8A1, 0xA81A664B, 0xC24B8B70, 0xC76C51A3, 0xD192E819, 0xD6990624, 0xF40E3585, 0x106AA070,
   0x19A4C116, 0x1E376C08, 0x2748774C, 0x34B0BCB5, 0x391C0CB3, 0x4ED8AA4A, 0x5B9CCA4F, 0x682E6FF3,
   0x748F82EE, 0x78A5636F, 0x84C87814, 0x8CC70208, 0x90BEFFFA, 0xA4506CEB, 0xBEF9A3F7, 0xC67178F2]

/-- The initial hash value. -/
def shaInit : List Word :=
  [0x6A09E667, 0xBB67AE85, 0x3C6EF372, 0xA54FF53A, 0x510E527F, 0x9B05688C, 0x1F83D9AB, 0x5BE0CD19]

/-- A word rotated right. -/
def rotr (w : Word) (n : Nat) : Word := (w >>> n) ||| (w <<< (32 - n))

/-- The schedule extended by `n` words, newest first. -/
def shaExtend : Nat → List Word → List Word
  | 0, l => l
  | n + 1, l =>
    let a := l.getD 14 0
    let b := l.getD 1 0
    let s0 := rotr a 7 ^^^ rotr a 18 ^^^ (a >>> 3)
    let s1 := rotr b 17 ^^^ rotr b 19 ^^^ (b >>> 10)
    shaExtend n ((s1 + l.getD 6 0 + s0 + l.getD 15 0) :: l)

/-- The eight working words. -/
structure ShaSt where
  a : Word
  b : Word
  c : Word
  d : Word
  e : Word
  f : Word
  g : Word
  h : Word
  deriving DecidableEq, Repr

/-- The rounds, one for each pair of a constant and a schedule word. -/
def shaRounds : List (Word × Word) → ShaSt → ShaSt
  | [], x => x
  | kw :: r, x =>
    let s1 := rotr x.e 6 ^^^ rotr x.e 11 ^^^ rotr x.e 25
    let ch := (x.e &&& x.f) ^^^ (~~~x.e &&& x.g)
    let t1 := x.h + s1 + ch + kw.1 + kw.2
    let s0 := rotr x.a 2 ^^^ rotr x.a 13 ^^^ rotr x.a 22
    let maj := (x.a &&& x.b) ^^^ (x.a &&& x.c) ^^^ (x.b &&& x.c)
    shaRounds r ⟨t1 + (s0 + maj), x.a, x.b, x.c, x.d + t1, x.e, x.f, x.g⟩

/-- The hash value after one block of sixteen words. -/
def shaBlock (h : List Word) (ws : List Word) : List Word :=
  let w := (shaExtend 48 ws.reverse).reverse
  let x := shaRounds (shaK.zip w) ⟨h.getD 0 0, h.getD 1 0, h.getD 2 0, h.getD 3 0, h.getD 4 0, h.getD 5 0, h.getD 6 0,
    h.getD 7 0⟩
  List.zipWith (fun (p q : Word) => p + q) h [x.a, x.b, x.c, x.d, x.e, x.f, x.g, x.h]

/-- Bytes as words, high byte first. -/
def beWords : List Byte → List Word
  | a :: b :: c :: d :: r => (a ++ b ++ c ++ d) :: beWords r
  | _ => []

/-- All blocks of a padded message. -/
def shaBlocks : Nat → List Word → List Word → List Word
  | 0, _, h => h
  | n + 1, ws, h => shaBlocks n (ws.drop 16) (shaBlock h (ws.take 16))

/-- The padding of a message of `n` bytes. -/
def shaPad (n : Nat) : List Byte :=
  let z := (119 - n % 64) % 64
  0x80 :: List.replicate z 0 ++ (List.range 8).map (fun i => BitVec.ofNat 8 (8 * n / 256 ^ (7 - i)))

/-- The 32 bytes of a digest, high byte of each word first. -/
def sha256 (bs : List Byte) : List Byte :=
  let ws := beWords (bs ++ shaPad bs.length)
  (shaBlocks (ws.length / 16) ws shaInit).flatMap (fun w =>
    [w.extractLsb' 24 8, w.extractLsb' 16 8, w.extractLsb' 8 8, w.extractLsb' 0 8])

end Sys2Proof.Machine
end

