-- ==== Sys2Proof/Machine/Fw.lean ====
section
/-! DEFINITION. Firmware images in flash and the SYS opcodes that write, verify, try and confirm them
(spec/03_startup_restart.md R86, R101, R102). -/

namespace Sys2Proof.Machine

/-- The first byte of an image's region in flash (R43): 0 A, 1 B. -/
def imageBase (i : Nat) : Nat := if i = 0 then 0x00100000 else 0x08000000

/-- The bytes of a region: 127 MiB. -/
def imageSize : Nat := 0x07F00000

/-- The body length that an image's header gives (R86); words of the header are taken low byte first. -/
def State.imageLen (s : State) (i : Nat) : Nat := (memWord s.flash (imageBase i + 8)).toNat

/-- The digest of an image's body, over as many bytes as fit its region. -/
def State.imageDigest (s : State) (i : Nat) : List Byte :=
  sha256 (memTake s.flash (imageBase i + 64) (Nat.min (s.imageLen i) (imageSize - 64)))

/-- Whether an image passes its digest check: magic, length and digest (R86). -/
def State.imageOk (s : State) (i : Nat) : Bool :=
  memWord s.flash (imageBase i) == 0x4C584657 && decide (s.imageLen i ≤ 133169088) &&
    s.imageDigest i == memTake s.flash (imageBase i + 32) 32

/-- Whether an image is the one that runs; in RECOVERY none does (R87). -/
def State.imageRuns (s : State) (i : Nat) : Bool :=
  s.sys.mode != .recovery && s.fld Fld.SYS_BOOT_IMAGE 0 0 == i

/-- The item completes REJECTED_STATE with a reason that the spec does not state. -/
def State.fwRefuse (s : State) (it : Item) : State :=
  let (w, s1) := s.fresh
  s1.complete it stState w

/-- SYS_FW_WRITE (R101, R124): bytes of a buffer into the image that does not run. -/
def execSysFwWrite (it : Item) (s : State) : Host.Outcome State Fault Refusal :=
  serve it s (fun s =>
    let len := (it.w 5).toNat
    let off := (it.w 6).toNat
    if 1 < it.inst then s.complete it stRange 1 0 (w32 it.inst)
    else if len = 0 ∨ len % 4 ≠ 0 ∨ 1048576 < len then s.complete it stFormat 20
    else if off % 4096 ≠ 0 ∨ imageSize < off + len then s.complete it stFormat 24
    else if s.imageRuns it.inst then s.fwRefuse it
    else
      let bs := s.bufTake it (bufAddr it 3) len
      ({ s with flash := memPut s.flash (imageBase it.inst + off) bs }).complete it stDone (w32 len))

/-- SYS_FW_VERIFY (R101): the first words of the digest, low byte first. -/
def execSysFwVerify (it : Item) (s : State) : Host.Outcome State Fault Refusal :=
  serve it s (fun s =>
    if 1 < it.inst then s.complete it stRange 1 0 (w32 it.inst)
    else if s.imageOk it.inst then
      let d := memPut [] 0 (s.imageDigest it.inst)
      s.complete it stDone (memWord d 0) (memWord d 4) (memWord d 8) (memWord d 12)
    else s.complete it stFault)

/-- SYS_FW_TRIAL (R102): the next cold start runs the image once. -/
def execSysFwTrial (it : Item) (s : State) : Host.Outcome State Fault Refusal :=
  serve it s (fun s =>
    if 1 < it.inst then s.complete it stRange 1 0 (w32 it.inst)
    else if s.imageRuns it.inst then s.fwRefuse it
    else ({ s with sys := { s.sys with trialNext := some it.inst } }).complete it stDone)

/-- SYS_FW_CONFIRM (R102): a trial image that runs becomes the selector's image. -/
def execSysFwConfirm (it : Item) (s : State) : Host.Outcome State Fault Refusal :=
  serve it s (fun s =>
    if it.inst ≠ 0 then s.complete it stRange 1 0 (w32 it.inst)
    else
      let s1 : State := if s.bit Fld.SYS_BOOT_TRIAL 0 0 then
          { s with sys := { s.sys with selector := s.fld Fld.SYS_BOOT_IMAGE 0 0 } }.setF Fld.SYS_BOOT_TRIAL 0 0 0
        else s
      s1.complete it stDone)

end Sys2Proof.Machine
end

