-- ==== Sys2Proof/Machine/Hlx.lean ====
section
/-! DEFINITION. Helix as commands: the intake, the stream, the freeze and the HLX opcodes (spec/14_helix_recorder.md). The
path of a record through the log, the first-fault region and the stream is in Trace.lean. -/

namespace Sys2Proof.Machine

/-- The state with Helix replaced. -/
def State.setHlx (s : State) (h : HlxSt) : State := { s with tr := { s.tr with hlx := h } }

/-- HELIX_EVENT (R430 to R434, R437, R439, R440): an event reaches the intake; `full` says that it finds the FIFO of 512
full. The fault queue takes its share by FAULT_ENTRY. -/
def execHelixEvent (e : Event) (st : Stamp) (full : Bool) (s : State) : Host.Outcome State Fault Refusal :=
  let h := s.tr.hlx
  if full ∧ h.running ∧ h.drop.isNone then
    go (s.setHlx { h with seq := h.seq + 1, drop := some (LossRun.add none h.seq),
                          dropIntake := satAdd 65535 h.dropIntake 1 })
  else
    let (t1, ws) := s.tr.intake s e st false
    go ({ s with tr := t1 }.report ws)

/-- HLX_INTAKE_RESUME (R432): the FIFO has room again and record 0x2302 gives what was lost. -/
def execHlxIntakeResume (s : State) : Host.Outcome State Fault Refusal :=
  match s.tr.hlx.drop with
  | none => go s
  | some r => go ((s.setHlx { s.tr.hlx with drop := none }).logSynth 0x2302 (w32 r.count) r.first r.last 0)

/-- The eight words of a record (R428). -/
def recWords (r : HlxRec) : List Word :=
  [w32 (r.inst % 256 * 16777216 + r.flags % 256 * 65536 + r.code % 65536), r.ns, r.sec, r.seq, r.p0, r.p1, r.p2, r.p3]

/-- Whether the stream ring takes a record now: enabled with TYPE = NOTIFY, and with free space (R439). -/
def State.streamRoom (s : State) (m : Nat) : Bool :=
  m < 64 && s.cqUp m && s.fld Fld.HIF_CQ_CTRL_TYPE m 0 == 3 && s.cqFree m != 0

/-- Stream records are written in order as far as the ring has room. -/
def streamOut (m : Nat) : List HlxRec → State → State
  | [], s => s.setHlx { s.tr.hlx with stream := [] }
  | r :: rs, s =>
    if s.streamRoom m then streamOut m rs (s.cqWrite m (recWords r) false)
    else s.setHlx { s.tr.hlx with stream := r :: rs }

/-- Record 0x2303 gives what the stream lost: it is logged, and streamed whatever its class (R439). -/
def State.streamLost (s : State) (r : LossRun) : State :=
  let s1 := s.setHlx { s.tr.hlx with streamLoss := none }
  let seq := s1.tr.hlx.seq
  let s2 := s1.logSynth 0x2303 (w32 r.count) r.first r.last 0
  if s2.tr.hlx.stream.any (fun x => x.seq == seq) then s2
  else
    let x := recOf s2 ⟨0x2303, 0, w32 r.count, r.first, r.last, 0⟩ s2.now seq true false
    s2.setHlx { s2.tr.hlx with stream := s2.tr.hlx.stream ++ [x] }

/-- HLX_STREAM_DELIVER (R439): the stream FIFO drains into the NOTIFY ring, and a loss is told once there is room. -/
def execHlxStreamDeliver (s : State) : Host.Outcome State Fault Refusal :=
  let m := s.cfN Cf.HLX_NOTIFY_RING 0
  let s1 := streamOut m s.tr.hlx.stream s
  match s1.tr.hlx.streamLoss with
  | none => go s1
  | some r =>
    if s1.tr.hlx.stream.length < 256 then
      let s2 := s1.streamLost r
      go (streamOut m s2.tr.hlx.stream s2)
    else go s1

/-- The freeze ends, and record 0x2301 is the first record of the log after it (R436). The answer is the count of
records not logged. -/
def State.endFreeze (s : State) (cause : Nat) : State × Nat :=
  match s.tr.hlx.frozen with
  | none => (s, 0)
  | some r =>
    ((s.setHlx { s.tr.hlx with frozen := none }).logSynth 0x2301 (w32 r.count) r.first r.last (w32 cause), r.count)

/-- A freeze has lasted FRZ_MAX ms (R436). -/
def State.freezeOver (s : State) : Bool := s.tr.hlx.frozenAt + s.cfN Cf.HLX_FRZ_MAX 0 * 1000000 ≤ s.mer.base

/-- FREEZE_TIMEOUT (R436). -/
def execFreezeTimeout (s : State) : Host.Outcome State Fault Refusal :=
  if s.freezeOver then go (s.endFreeze 1).1 else go s

/-- The held records from a sequence number on; sequence numbers compare modulo 2^32 (R431). -/
def recsFrom (first : Word) (l : List HlxRec) : List HlxRec := l.filter (fun r => (r.seq - first).toNat < 2147483648)

/-- HLX_READ (R435, R442). -/
def State.hlxRead (s : State) (it : Item) : State :=
  let src := (it.w 3).toNat
  let max := (it.w 5).toNat
  if 1 < src then s.complete it stFormat 12
  else if max = 0 ∨ 16384 < max then s.complete it stFormat 20
  else
    let held := if src = 0 then s.tr.hlx.log else s.tr.hlx.ffRegion
    let out := (recsFrom (it.w 4) held).take (Nat.min max ((it.w 8).toNat / 32))
    let s1 := s.bufPut it (bufAddr it 6) (out.flatMap recWords)
    match out.head?, out.getLast? with
    | some a, some b =>
      s1.complete it stDone (w32 out.length) a.seq (if (b.seq - it.w 4).toNat + 1 = out.length then 0 else 1)
    | _, _ =>
      s1.complete it stDone 0 0
        (if 0 < (s.tr.hlx.seq - it.w 4).toNat ∧ (s.tr.hlx.seq - it.w 4).toNat < 2147483648 then 1 else 0)

/-- HLX_READ. -/
def execHlxRead (it : Item) (s : State) : Host.Outcome State Fault Refusal := serve it s (fun s => s.hlxRead it)

/-- HLX_FREEZE (R436). -/
def execHlxFreeze (it : Item) (s : State) : Host.Outcome State Fault Refusal :=
  serve it s (fun s =>
    if s.tr.hlx.frozen.isSome then s.complete it stState 1
    else (s.setHlx { s.tr.hlx with frozen := some ⟨0, 0, 0⟩, frozenAt := s.mer.base }).complete it stDone)

/-- HLX_UNFREEZE (R436). -/
def execHlxUnfreeze (it : Item) (s : State) : Host.Outcome State Fault Refusal :=
  serve it s (fun s =>
    if s.tr.hlx.frozen.isNone then s.complete it stState 1
    else
      let (s1, n) := s.endFreeze 0
      s1.complete it stDone (w32 n))

/-- HLX_FF_REARM (R438). A region that is ARMED holds no trigger, and arming it again leaves it as it is. -/
def execHlxFfRearm (it : Item) (s : State) : Host.Outcome State Fault Refusal :=
  serve it s (fun s =>
    match s.tr.hlx.ff with
    | .filling => s.complete it stState 2
    | .armed => s.complete it stDone s.tr.hlx.ffTrigSeq
    | .latched =>
      let seq := s.tr.hlx.ffTrigSeq
      (s.setHlx { s.tr.hlx with ff := .armed, ffRegion := [], ffPre := [] }).complete it stDone seq)

end Sys2Proof.Machine
end

