-- ==== Sys2Proof/Machine/Again.lean ====
section
/-! DEFINITION. The process as a checkpoint and the mirrored image hold it (R97, image table of spec/19), time that has
passed without ticks (R99, R556), and items that are applied again (R90, R134). -/

namespace Sys2Proof.Machine

/-! ### The process image -/

/-- Registers that hold part of the process: those of Locus's tracks, slots, counters and ramps, Lattice's published
image, and Arc's generators. -/
def procReg (a : Nat) : Bool :=
  (0xA0010 ≤ a && a < 0xB0000) || (0xC1000 ≤ a && a < 0xC2000) || (0xE0100 ≤ a && a < 0xF0000)

/-- The output image: every output channel. -/
def State.outImgs (s : State) : List OutImg :=
  (List.range 128).filterMap (fun ch =>
    if isOut (s.chMode ch) then
      some ⟨ch, s.cfN Cf.FCT_OWNER ch, (s.chan ch).own, (s.chan ch).ownHas, s.isShed ch, (s.chan ch).ovl⟩
    else none)

/-- The process as it stands. -/
def State.procImg (s : State) : ProcImg :=
  { loops := s.tan.loops, loc := s.loc, lat := s.lat.mem, latN := s.lat.lastN, duty := s.arc.duty, gens := s.arc.gens,
    regs := s.regs.filter (fun kv => procReg kv.1), outs := s.outImgs }

/-- A store in its canonical form. -/
def tabNorm {α : Type} [DecidableEq α] (x : α) (t : Tab α) : Tab α := t.foldl (fun t kv => tset x t kv.1 kv.2) []

/-- The registers of the process replaced by those of an image. -/
def State.setProcRegs (s : State) (regs : Tab Word) : State :=
  let s1 := { s with regs := s.regs.filter (fun kv => !(procReg kv.1)) }
  (regs.filter (fun kv => procReg kv.1)).foldl (fun s kv => s.wrA kv.1 kv.2) s1

/-- The owners' values of an output image. -/
def State.setOuts (s : State) (os : List OutImg) : State :=
  os.foldl (fun s o => s.setChan o.ch { s.chan o.ch with own := o.own, ownHas := o.ownHas }) s

/-- Arc as an image has it: the state of each generator, every pair inactive. -/
def State.arcShown (s : State) : State :=
  (List.range 32).foldl (fun s g => (s.setGenState g (s.genState g)).setF Fld.ARC_GSTAT_ACTIVE g 0 0) s

/-- The process as an image holds it. -/
def State.setProc (s : State) (p : ProcImg) : State :=
  let s1 := (s.setProcRegs p.regs).setLatMem p.lat
  let s2 := { s1 with tan := { s1.tan with loops := tabNorm loopIdle p.loops }, loc := p.loc,
                      lat := { s1.lat with lastN := p.latN },
                      arc := { duty := tabNorm 0 p.duty, gens := tabNorm genIdle p.gens } }
  let s3 := ((s2.setOuts p.outs).arcShown.showTrips).locShow.rampShow
  (p.loops.map (fun kv => kv.1)).foldl (fun s l => s.tanShow l) s3

/-! ### Time without ticks -/

/-- The position of a ramp `k` ticks on. -/
def rampRun : Nat → Word → Word → Word → Word
  | 0, p, _, _ => p
  | k + 1, p, tgt, rate => if p = tgt then p else rampRun k (rampMove p tgt rate) tgt rate

/-- `k` ticks pass without Locus: they count as elapsed on the running tracks, and the ramps of each track go on, those of
a track that has ended as well; with `all` false only on tracks with WALL timing (R99, R556). -/
def State.locElapse (s : State) (k : Nat) (all : Bool) : State :=
  (List.range 16).foldl (fun s t =>
    let st := s.trkState t
    if all ∨ s.tf' t 1 = 0 then
      let s1 := if st = 1 then s.wr Reg.LOC_ELAPSED t 0 (w32 (s.fld Fld.LOC_ELAPSED_TICKS t 0 + k)) else s
      ((s1.trkRamps t).filter (fun g => s1.rampState g == 1)).foldl (fun s g =>
        s.wr Reg.LOC_RAMP_POS g 0
          (rampRun k (s.rd Reg.LOC_RAMP_POS g 0) (s.rd Reg.LOC_RAMP_TGT g 0) (s.rd Reg.LOC_RAMP_RATE g 0))) s1
    else s) s

/-- Every enabled loop initialises at its next sample, from `out` of it (R273). -/
def State.loopsInit (s : State) (out : State → Nat → Word) : State :=
  s.loopsSet.foldl (fun s l =>
    let p := s.loop l
    s.setLoop l { p with init := true, last := out s l, hasLast := true, samp := none,
                         law := { p.law with u1 := out s l } }) s

/-! ### Items applied again -/

/-- The state behind a meaning. -/
def stateOf (o : Host.Outcome State Fault Refusal) (s : State) : State :=
  match o with
  | .next t => t
  | _ => s

/-- The meaning of an opcode of CFG, MER, HIF or SYS. -/
def execHead (op : Nat) (it : Item) (s : State) : Host.Outcome State Fault Refusal :=
  match op with
  | 0x0110 => execSysFwWrite it s
  | 0x0111 => execSysFwVerify it s
  | 0x0112 => execSysFwTrial it s
  | 0x0113 => execSysFwConfirm it s
  | 0x0300 => execCfgStage it s
  | 0x0301 => execCfgStageTable it s
  | 0x0303 => execCfgDiscard it s
  | 0x0304 => execCfgRead it s
  | 0x0305 => execCfgPersist it s
  | 0x0306 => execCfgImageExport it s
  | 0x0307 => execCfgImageImport it s
  | 0x0500 => execMerSet it s
  | 0x0600 => execVtxPost it s
  | 0x0601 => execVtxSignal it s
  | _ => go s

/-- The meaning of an opcode of TAN, LOC, LAT or ARC. -/
def execEngine (op : Nat) (it : Item) (s : State) : Host.Outcome State Fault Refusal :=
  match op with
  | 0x0700 => execTanMode it s
  | 0x0701 => execTanSetpoint it s
  | 0x0702 => execTanManout it s
  | 0x0703 => execTanInject it s
  | 0x0704 => execTanInjectStop it s
  | 0x0800 => execLocStart it s
  | 0x0801 => execLocHold it s
  | 0x0802 => execLocResume it s
  | 0x0803 => execLocAbort it s
  | 0x0804 => execLocJump it s
  | 0x0805 => execLocReset it s
  | 0x0806 => execLocToken it s
  | 0x0807 => execLocCounterSet it s
  | 0x0808 => execLocSchedArm it s
  | 0x0809 => execLocSchedCancel it s
  | 0x0900 => go (s.patchDo it)
  | 0x0901 => execLatStop it s
  | 0x0902 => execLatStart it s
  | 0x0A00 => execArcSet it s
  | 0x0A01 => execArcStartAt it s
  | 0x0A02 => execArcStopAtEnd it s
  | 0x0A03 => execArcClear it s
  | _ => go s

/-- The meaning of an opcode of another block. -/
def execRest (op : Nat) (it : Item) (s : State) : Host.Outcome State Fault Refusal :=
  match op with
  | 0x0B00 => execPrmArm it s
  | 0x0B01 => execPrmDisarm it s
  | 0x0B02 => execPrmTrigger it s
  | 0x0B03 => execPrmMark it s
  | 0x0B04 => execPrmRead it s
  | 0x0B05 => execPrmHistRead it s
  | 0x0C00 => execHlxRead it s
  | 0x0C01 => execHlxFreeze it s
  | 0x0C02 => execHlxUnfreeze it s
  | 0x0C03 => execHlxFfRearm it s
  | 0x0D01 => execEthTxFlush it s
  | 0x0E00 => execCanTx it s
  | 0x0E01 => execCanFlush it s
  | 0x0F00 => execVxlWrite it s
  | 0x0F01 => execVxlLeave it s
  | 0x0F02 => execVxlMembers it s
  | 0x1100 => execPerStopReq it s
  | 0x1200 => execFctOutput it s
  | 0x1201 => execFctRestore it s
  | 0x1202 => execFctPiclear it s
  | 0x1210 => execFctCal it s
  | 0x1211 => execFctDiagPath it s
  | 0x1212 => execFctCalsetRead it s
  | 0x1213 => execFctCalsetWrite it s
  | 0x1214 => execFctTrimdrive it s
  | _ => go s

/-- A TAN item of the redo list takes effect on its loop at once (R90). -/
def State.redoTan (s : State) (op : Nat) (it : Item) : State :=
  let l := it.inst
  let p := s.loop l
  if op = 0x0700 then s.setLoop l { p with cmd := (it.w 3).toNat, cmdSrc := 0 }
  else if op = 0x0701 then
    s.setLoop l { p with sp := clamp32 (s.cf Cf.TAN_SP_LO l 0) (s.cf Cf.TAN_SP_HI l 0) (it.w 3) }
  else s.setLoop l { p with man := clamp32 (s.cf Cf.TAN_OUT_LO l 0) (s.cf Cf.TAN_OUT_HI l 0) (it.w 3) }

/-- An item of the redo list is applied again, before any block runs (R90). -/
def State.redoItem (s : State) (op : Nat) (it : Item) : State :=
  let a := it.again
  let n := locTickOf s.timeT
  if op / 256 = 7 then s.redoTan op a
  else if 0x0800 ≤ op ∧ op ≤ 0x0805 then s.trkCmd a.inst n op a
  else if op = 0x0806 then s.cntOp s.now ⟨0, a.inst, (a.w 3).toNat, none⟩
  else if op = 0x0807 then s.cntOp s.now ⟨1 + (a.w 3).toNat, a.inst, sInt (a.w 4), none⟩
  else if op = 0x0900 then s.patchDo a
  else if op = 0x1200 then s.frameOutput a
  else s

/-- An item has its effect again, without a completion record. LAT_PATCH takes effect at once. -/
def State.runItem (s : State) (op : Nat) (it : Item) : State :=
  let a := it.again
  stateOf (if op < 0x700 then execHead op a s else if op < 0xB00 then execEngine op a s else execRest op a s) s

end Sys2Proof.Machine
end

