-- ==== Sys2Proof/Machine/Fetch.lean ====
section
/-! DEFINITION. Fetching descriptors: whose turn it is, the checks of a descriptor, and its way into flight
(R118 to R122). -/

namespace Sys2Proof.Machine

/-! ### The payload (R118, check 6) -/

/-- The checks of a CFG opcode's payload (R143). -/
def cfgFormat (op : Nat) (it : Item) : Option Nat :=
  match op with
  | 0x0300 => stageFormat it
  | 0x0301 => tableFormat it
  | 0x0302 => commitFormat it
  | 0x0303 => discardFormat it
  | 0x0304 => readFormat it
  | _ => chk (it.inst != 0) 8

/-- The checks of an opcode of SYS, HIF, MER, VTX, TAN or LOC. -/
def State.headFormat (s : State) (op : Nat) (it : Item) : Option Nat :=
  let w := fun (n : Nat) => (it.w n).toNat
  match op with
  | 0x0110 => firstOff [chk (w 5 == 0 || w 5 % 4 != 0 || decide (1048576 < w 5)) 20,
      chk (w 6 % 4096 != 0 || decide (imageSize < w 6 + w 5)) 24]
  | 0x0201 => chk (decide (63 < w 3)) 12
  | 0x0202 => chk (decide (63 < w 3)) 12
  | 0x0500 => chk (decide (1000000000 ≤ w 3)) 12
  | 0x0601 => chk (!(signalOk (it.w 3))) 12
  | 0x0700 => chk (w 3 == 0 || decide (3 < w 3)) 12
  | 0x0703 => firstOff [chk (bitsOf (it.w 3) 4 2 == 3 || (bitsOf (it.w 3) 0 2 == 1 && bitsOf (it.w 3) 16 8 == 0)) 12,
      chk (w 7 == 0 || decide (4000000000 < w 7)) 28, chk (bitsOf (it.w 3) 0 2 == 1 && bitsOf (it.w 8) 0 15 == 0) 32]
  | 0x0806 => chk (w 3 == 0 || decide (255 < w 3)) 12
  | 0x0807 => chk (decide (1 < w 3)) 12
  | 0x0808 => let f := s.armFormat it
    chk (f != 0) f
  | _ => none

/-- The checks of an opcode of the other blocks. -/
def restFormat (op : Nat) (it : Item) : Option Nat :=
  let w := fun (n : Nat) => (it.w n).toNat
  match op with
  | 0x0900 => chk (w 3 == 0 || decide (7 < w 3)) 12
  | 0x0901 => chk (decide (1 < w 3)) 12
  | 0x0903 => chk (decide (1 < w 3)) 12
  | 0x0A00 => chk (decide (3 < w 3)) 12
  | 0x0A01 => firstOff [chk (decide (1 < w 3)) 12, chk (w 3 == 1 && decide (1000000000 ≤ w 4)) 16]
  | 0x0A02 => chk (decide (1 < w 3)) 12
  | 0x0B05 => firstOff [chk (decide (1000000000 ≤ w 3)) 12, chk (w 5 == 0 || decide (1048576 < w 5)) 20]
  | 0x0C00 => firstOff [chk (decide (1 < w 3)) 12, chk (w 5 == 0 || decide (16384 < w 5)) 20]
  | 0x0D00 => firstOff [chk (decide (2 < w 3)) 12,
      chk (decide (w 4 < 14) || decide ((if w 3 = 2 then 2038 else 2044) < w 4)) 16]
  | 0x0E00 => canTxBad it
  | 0x1000 => chk (decide (65536 ≤ w 3)) 12
  | 0x1100 => chk (decide (31 < w 3)) 12
  | 0x1211 => chk (decide (1 < w 3)) 12
  | 0x1212 => chk (decide (3 < w 3)) 12
  | 0x1213 => firstOff [chk (it.w 6 != 0xCA1B) 24, chk (decide (3 < w 3)) 12]
  | 0x1214 => chk (decide (2 < w 3)) 12
  | 0x1215 => firstOff [chk (decide (w 6 < 3) || decide (262 < w 6)) 24, chk (decide (w 9 < 263)) 36]
  | _ => none

/-- The byte offset of the first payload word that is not well formed for the opcode, whatever state the module is in. -/
def State.payloadError (s : State) (op : Nat) (it : Item) : Option Nat :=
  if op / 256 = 3 then cfgFormat op it
  else if op < 0x900 then s.headFormat op it
  else restFormat op it

/-! ### Fetching -/

/-- Slots of a completion ring that uncompleted items reserve (R121): those in flight, and those whose record waits. -/
def State.reserved (s : State) (m : Nat) : Nat :=
  (s.hif.inflight.filter (fun f => f.item.origin.isNone && s.fld Fld.HIF_SQ_CTRL_CQ f.item.ring 0 == m)).length +
    (s.hif.held.filter (fun h => h.cq == m)).length

/-- Whether a ring would fetch if its completion ring had a free slot: it is enabled, runs, is within reach, and holds a
descriptor not yet fetched, and the module takes another item (R107, R121, R133, R542, R558). In RECOVERY only ring 0 is
served (R87). -/
def State.wantsFetch (s : State) (n : Nat) : Bool :=
  s.bit Fld.HIF_SQ_CTRL_ENABLE n 0 && s.fld Fld.HIF_SQ_STAT_STATE n 0 == 1 &&
    (s.sqCores n || s.bit Fld.HIF_LINK_UP 0 0) && s.rd Reg.HIF_SQ_PI n 0 != s.rd Reg.HIF_SQ_CI n 0 &&
    decide (s.openItems < 4096) &&
    (s.sys.mode == .running || (s.sys.mode == .recovery && n == 0)) &&
    (s.ringLocal n || !(s.standby || s.mir.hold))

/-- Whether the completion ring of a submission ring has a free slot that no item has reserved (R121). -/
def State.hasSlot (s : State) (n : Nat) : Bool :=
  let m := s.fld Fld.HIF_SQ_CTRL_CQ n 0
  decide (s.reserved m < s.cqFree m)

/-- Whether the module may fetch from a ring now. -/
def State.fetchable (s : State) (n : Nat) : Bool := s.wantsFetch n && s.hasSlot n

/-- The ring that fetches next: the highest PRIO, and among equals the one whose turn it is (R121). Each PRIO has a turn of
its own (DESIGN CHOICE, notes/assumptions/126.md). -/
def State.nextRing (s : State) : Option Nat :=
  let c := (List.range 64).filter (fun n => s.fetchable n)
  let top := c.foldl (fun m n => Nat.max m (s.fld Fld.HIF_SQ_CTRL_PRIO n 0)) 0
  let c := c.filter (fun n => s.fld Fld.HIF_SQ_CTRL_PRIO n 0 == top)
  match c.find? (fun n => tget 0 s.hif.turn top < n + 1) with
  | some n => some n
  | none => c.head?

/-- A full completion ring holds fetching: each time it begins to is counted (HIF_CQ_STAT.STALLS). -/
def State.fetchStalls (s : State) : State :=
  (List.range 64).foldl (fun s n =>
    let m := s.fld Fld.HIF_SQ_CTRL_CQ n 0
    if s.wantsFetch n && !(s.hasSlot n) && !(s.hif.stalled.contains m) then
      let s1 := s.incF Fld.HIF_CQ_STAT_STALLS m 0 1
      { s1 with hif := { s1.hif with stalled := m :: s1.hif.stalled } }
    else s) s

/-- A descriptor that fails a check completes at once (R118, R119): an uncompleted item with its SEQ is unaffected, and
stays what the intake log holds of that SEQ. -/
def State.fetchReject (s : State) (it : Item) (status : Nat) (d0 : Word) : State :=
  if s.uncompleted it.ring it.seq then
    s.cqPost (s.fld Fld.HIF_SQ_CTRL_CQ it.ring 0) (complWords it status s.now d0 0 0 0) (some it.ring) it.irq true
  else (s.intakeAdd it.ring it.seq (verdictOf status)).postRecord it s.now status d0 0 0 0

/-- A fetched descriptor is checked; what passes is in flight, and a remote item is sent when its turn has come (R118, R119,
R136, R525). -/
def State.takeDescriptor (s : State) (n : Nat) (ws : List Word) : State :=
  let it := itemOf n ws
  let op := bitsOf (ws.getD 0 0) 0 16
  match firstOff [descriptorError ws, s.payloadError op it] with
  | some off => s.fetchReject it stFormat (w32 off)
  | none =>
    if s.uncompleted n it.seq then s.fetchReject it stState 1
    else
      let dl := if it.remote then s.mer.base + Nat.max 1 (s.fld Fld.HIF_TMO_MS 0 0) * 1000000 else 0
      let s1 := s.intakeAdd n it.seq .inFlight
      let s2 := { s1 with hif := { s1.hif with
        inflight := s1.hif.inflight ++ [⟨op, it, .fetched, false, dl, [], none, none⟩] } }
      if it.remote then s2.tryRemote it else s2

/-- Whether the advanced fetch index of a ring has yet to be mirrored (R122, R549). -/
def State.idxWait (s : State) (n : Nat) (idx : Word) : Bool :=
  s.mirState == 2 && (s.partnerSynced || s.mir.waiting) && !(s.ringLocal n) && tget 0 s.mir.ackIdx n != idx

/-- The advanced fetch index of a ring enters the intake log, and the next epoch carries it. -/
def State.stateIdx (s : State) (n : Nat) (idx : Word) : State :=
  let sent := if (tget (0, 0) s.mir.idxSent n).1 = idx then s.mir.idxSent else tset (0, 0) s.mir.idxSent n (idx, 0)
  { s with hif := { s.hif with fetchIdx := tset 0 s.hif.fetchIdx n idx }, mir := { s.mir with idxSent := sent } }

/-- DESCRIPTOR_FETCH (R118 to R122). A fetch of a poisoned burst puts the ring into ERROR (R604, R139). Nothing to fetch: nothing happens. -/
def execDescriptorFetch (s : State) : Host.Outcome State Fault Refusal :=
  match s.nextRing with
  | none => go s.fetchStalls
  | some n =>
    let ci := s.rd Reg.HIF_SQ_CI n 0
    if s.idxWait n (ci + 1) then go (s.stateIdx n (ci + 1))
    else
      let a := s.sqBase n + ci.toNat % s.sqSize n * 64
      if s.sqCores n && s.sys.poison.contains (a / 64) then go ((s.uePoison (a / 64)).ringError n 6) else
      let ws := memWords (s.ringMem (s.sqCores n)) a 16
      let s1 := s.wr Reg.HIF_SQ_CI n 0 (ci + 1)
      let turn := tset 0 s1.hif.turn (s.fld Fld.HIF_SQ_CTRL_PRIO n 0) (n + 1)
      let s2 := { s1 with hif := { s1.hif with fetchIdx := tset 0 s1.hif.fetchIdx n (ci + 1), turn := turn } }
      go ((s2.takeDescriptor n ws).fetchStalls)

end Sys2Proof.Machine
end

