-- ==== Sys2Proof/Machine/Mir.lean ====
section
/-! DEFINITION. Mirror: states and roles, heartbeats, epochs of the mirrored image, the pair variant, takeover, planned
handover and resynchronisation (spec/19_mirror_pairs.md). -/

namespace Sys2Proof.Machine

/-! ### States (R539 to R541) -/

/-- Nanoseconds of a time in 2^-32 ns. -/
def nsOf (t : Int) : Int := t / 4294967296

/-- Mirror's state changes (R539): event 0x6400 and Vertex source 137. -/
def State.mirTo (s : State) (new : Nat) : State :=
  let old := s.mirState
  if old = new then s
  else
    let s1 := s.setF Fld.MIR_STATUS_STATE 0 0 new
    (s1.log 0x6400 0 (w32 old) (w32 new) (w32 (s.fld Fld.MIR_STATUS_PARTNER_ID 0 0))).raise 137 0 new (w32 old)

/-- The lag of the standby's image in us (R548). -/
def State.lagUs (s : State) : Nat := (nsOf (s.timeT - s.mir.captureAt) / 1000).toNat

/-- MIR_LAG shows the lag. -/
def State.lagShow (s : State) : State :=
  let l := Nat.min 65535 s.lagUs
  (s.setF Fld.MIR_LAG_LAG 0 0 l).setF Fld.MIR_LAG_MAX 0 0 (Nat.max l (s.fld Fld.MIR_LAG_MAX 0 0))

/-- The fetched items of an opcode that wait. -/
def State.waitingOp (s : State) (op : Nat) : List Inflight :=
  s.hif.inflight.filter (fun f => f.opcode == op && f.phase != .fetched)

/-- Every controller of CAN takes the mode of the member's role (R459). -/
def State.canModes (s : State) : State := (List.range 4).foldl (fun s c => s.canTakeMode c) s

/-- Lattice follows the partner (R541). -/
def State.latFollow (s : State) : State :=
  let s1 := { s with lat := { s.lat with stopReq := none, startReq := none, patches := [] } }
  let s2 := s1.latShow
  let st := s2.fld Fld.LAT_STATUS_STATE 0 0
  if st = 1 ∨ st = 2 then s2.latState 3 2 else s2

/-- Items of the shared rings leave this member without a completion: the partner completes them (R557, R558). -/
def State.dropShared (s : State) : State :=
  let mine := fun (x : Inflight) => x.item.origin.isNone && (s.ringLocal x.item.ring || x.opcode == 0x1000)
  let gone := fun (ring : Nat) (seq : Word) => s.hif.inflight.any (fun x => x.is ring seq && !(mine x))
  let cans := s.can.map (fun kv => (kv.1, { kv.2 with frames := kv.2.frames.filter (fun f => !(gone f.ring f.seq)) }))
  ({ s with hif := { s.hif with inflight := s.hif.inflight.filter mine }, can := cans.filter (fun kv => kv.2 != canIdle),
            eth := { s.eth with tx := s.eth.tx.filter (fun f => !(gone f.ring f.seq)) } }).cfgSweep

/-- The member becomes the standby: its Arc pairs are inactive (R23). -/
def State.toStandby (s : State) : State :=
  let s1 := { s with mir := { s.mir with hold := false, final := false, leave := false, goAt := none, waiting := false,
                                         complete := false, transfer := some s.mer.base, ackIdx := [], idxSent := [],
                                         captureAt := s.timeT, lagFrom := s.timeT } }
  let s2 := (((s1.mirTo 3).dropShared.latFollow).canModes).arcQuiet
  s2.loopsSet.foldl (fun s l => s.setLoop l { s.loop l with samp := none }) s2

/-- SYNCED is left (R550): cause 1 lag, 2 Vexlink path, 3 full transfer. -/
def State.syncLeft (s : State) (cause : Nat) : State :=
  let s1 := (s.mirTo 3).log 0x6404 0 (w32 cause)
  ({ s1 with mir := { s1.mir with transfer := some s1.mer.base } }).latShadowOff 2

/-- MIR_SYNCTIME: the duration of the full transfer that has ended. -/
def State.syncTime (s : State) : State :=
  match s.mir.transfer with
  | some b => ({ s with mir := { s.mir with transfer := none } }).wr Reg.MIR_SYNCTIME 0 0 (w32 ((s.mer.base - b) / 1000000))
  | none => s

/-- The standby enters SYNCED when it may (R550), and its MIR_RESYNC items complete (R563). -/
def State.trySync (s : State) : State :=
  if s.mirState = 3 ∧ s.mir.complete ∧ s.bit Fld.MIR_STATUS_VXL_UP 0 0 ∧ s.lagUs ≤ s.cfN Cf.MIR_LAG_MAX 0 then
    let s1 := (s.mirTo 4).syncTime
    let s2 := s1.log 0x6403 0 (s1.rd Reg.MIR_SYNCTIME 0 0) (w32 s1.lagUs)
    (s2.waitingOp 0x1001).foldl (fun s x => s.complete x.item stDone) s2
  else s

/-- The member becomes ACTIVE at the end of a start (R540): its owners take the outputs. -/
def State.toActive (s : State) : State := (s.mirTo 2).canModes

/-- Whether the partner's heartbeat shows ACTIVE. -/
def State.partnerActive (s : State) : Bool := s.bit Fld.MIR_STATUS_PARTNER 0 0 && s.mir.partnerState == 2

/-- The role that a module takes at the end of its start (R540). -/
def State.mirRole (s : State) : State :=
  if s.inPair then
    let slot := s.baseId
    let s1 := s.setF Fld.MIR_STATUS_SLOT 0 0 slot
    if s1.partnerActive then s1.toStandby else if slot = 0 then s1.toActive
    else { s1.mirTo 1 with mir := { s1.mir with arbAt := s.mer.base } }
  else s.mirTo 0

/-- ARB_WAIT_EXPIRY (R540): slot B has received no heartbeat that shows ACTIVE for ARB_WAIT,
counted from the end of its start (DEDUCED, notes/assumptions/140.md). -/
def execArbWaitExpiry (s : State) : Host.Outcome State Fault Refusal :=
  if s.mirState = 1 ∧ s.sys.mode = .running ∧ !s.partnerActive ∧
      s.mir.arbAt + s.cfN Cf.MIR_ARB_WAIT 0 * 1000000 ≤ s.mer.base then go s.toActive
  else go s

/-! ### The pair variant (R552) -/

/-- Whether both members see their partner as SYNCED or ACTIVE. -/
def State.varWanted (s : State) : Bool :=
  s.bit Fld.MIR_STATUS_PARTNER 0 0 && (s.mirState == 2 || s.mirState == 4) &&
    (s.mir.partnerState == 2 || s.mir.partnerState == 4)

/-- The link ends deliver the pair variant, or the committed configuration again; not during a ramp (R554). -/
def State.pairUpdate (s : State) : State :=
  let on := s.varWanted
  if s.mir.rampUp.isSome ∨ s.mir.rampDown.isSome ∨ s.bit Fld.MIR_STATUS_PAIRVAR 0 0 = on then s
  else
    (List.range 16).foldl (fun s n => s.pushUpd n ⟨false, some on, [], []⟩)
      (s.setF Fld.MIR_STATUS_PAIRVAR 0 0 (if on then 1 else 0))

/-! ### Heartbeats (R544, R545) -/

/-- The four words of a heartbeat. -/
def State.heartbeat (s : State) : List Word :=
  let st := s.mirState
  let go := match s.mir.goAt with
    | some _ => st == 4
    | none => false
  let w3 := match s.mir.goAt with
    | some t => if st = 4 then t else s.mir.ownFrame
    | none => s.mir.ownFrame
  let b := fun (x : Bool) (k : Nat) => if x then 2 ^ k else 0
  [w32 (st * 2 ^ 29 + b (s.bit Fld.MIR_STATUS_SLOT 0 0) 28 + b (s.bit Fld.MIR_STATUS_PAIRVAR 0 0) 27 + b go 26 + s.device),
   s.rd Reg.MIR_EPOCH 0 0, if st = 3 ∨ st = 4 then s.rd Reg.MIR_ACK 0 0 else 0, stNs (stampOf w3)]

/-- A ramp of 40 frames that has ended is over; MIR_SWITCH completes at the end of the falling one (R558). -/
def State.rampEnd (s : State) : State :=
  let ended := fun (r : Option Nat) => match r with
    | some b => decide (b + 40000 ≤ s.mer.base)
    | none => false
  let s1 := if ended s.mir.rampUp then { s with mir := { s.mir with rampUp := none } } else s
  if ended s1.mir.rampDown then
    let t := s1.timeT - ((s1.mer.base : Int) - (s1.mir.rampDown.getD 0 : Int) - 40000) * 4294967296
    let s2 := { s1 with mir := { s1.mir with rampDown := none } }
    (s2.waitingOp 0x1000).foldl (fun s x => s.completeAt x.item (stampOf t) stDone 0 0 0 0) s2
  else s1

/-- HEARTBEAT_SEND (R544): on both paths. A module in a start sends none (R93). The standby that has applied the final
epoch sets the switch instant (R558). -/
def execHeartbeatSend (s : State) : Host.Outcome State Fault Refusal :=
  if s.domOn 3 ∧ s.sys.mode = .running ∧ s.mirState ≠ 0 then
    let m := s.mir
    let s1 := if m.final ∧ m.goAt = none ∧ s.mirState = 4 then
        { s with mir := { m with goAt := some (s.timeT + 20000 * 4294967296) } } else s
    let sb := s1.mirState = 3 ∨ s1.mirState = 4
    let again := if sb then m.resend else 0
    let hb := fun (p : Nat) => Out.heartbeat p s1.heartbeat again (sb && m.resync)
    let s2 := { s1 with out := hb 1 :: hb 0 :: s1.out,
                        mir := { s1.mir with resend := if sb then 0 else m.resend, resync := false } }
    go ((if sb then s2.lagShow else s2).rampEnd.pairUpdate)
  else go s

/-- DEGRADED (R539). -/
def State.degraded (s : State) : State :=
  let v := s.bit Fld.MIR_STATUS_VXL_UP 0 0
  let p := s.bit Fld.MIR_STATUS_PL_UP 0 0
  s.setF Fld.MIR_STATUS_DEGRADED 0 0 (if s.bit Fld.MIR_STATUS_PARTNER 0 0 && v != p then 1 else 0)

/-- A valid heartbeat on a path: the tenth in a row restores it (R545). -/
def State.pathGood (s : State) (path : Nat) : State :=
  let f := if path = 0 then Fld.MIR_STATUS_VXL_UP else Fld.MIR_STATUS_PL_UP
  let run := (if path = 0 then s.mir.vxlRun else s.mir.plRun) + 1
  let s1 := { s with mir := if path = 0 then { s.mir with vxlRun := run, lastVxl := s.mer.base }
                            else { s.mir with plRun := run, lastPl := s.mer.base } }
  let s2 := s1.setF Fld.MIR_STATUS_PARTNER 0 0 1
  if !(s2.bit f 0 0) ∧ 10 ≤ run then ((s2.setF f 0 0 1).log 0x6402 path).degraded else s2.degraded

/-- The active starts a full transfer (R561): cause 0 the partner entered STANDBY, 1 MIR_RESYNC, 2 discarded epochs. -/
def State.startTransfer (s : State) (cause : Nat) : State :=
  ({ s with mir := { s.mir with transfer := some s.mer.base, sent := 0, resend := 0 } }).log 0x0408 0 (w32 cause)

/-- Whether the full transfer still has epochs to send. -/
def State.transferring (s : State) : Bool := s.mir.transfer.isSome && decide (s.mir.sent < 8192)

/-- Whether epoch `n` is covered by an acknowledgement of `ack`. -/
def epochIn (ack : Word) (n : Nat) : Bool := (ack - w32 n).toNat < 2147483648

/-- The active takes an acknowledgement (R549, R122). -/
def State.mirAcked (s : State) (ack : Word) : State :=
  let up := fun (x : Inflight) => match x.intent with
    | some (n + 1) => { x with mirrored := x.mirrored || epochIn ack n }
    | _ => x
  let idx := s.mir.idxSent.foldl (fun t kv => match kv.2 with
    | (i, n + 1) => if epochIn ack n then tset 0 t kv.1 i else t
    | _ => t) s.mir.ackIdx
  ({ s with hif := { s.hif with inflight := s.hif.inflight.map up }, mir := { s.mir with ackIdx := idx } }).wr
    Reg.MIR_ACK 0 0 ack

/-- The active takes what the standby's heartbeat says: its state, its acknowledgement, and what it asks for. -/
def State.fromStandby (s : State) (was now : Nat) (ack : Word) (again : Nat) (resync : Bool) : State :=
  let s1 := if now = 3 ∨ now = 4 then s.mirAcked ack else s
  let s2 := if now = 4 ∧ was ≠ 4 then s1.syncTime else s1
  let s3 := { s2 with mir := { s2.mir with resend := s2.mir.resend + again } }
  if now = 3 ∧ was ≠ 3 ∧ s3.mir.transfer.isNone then s3.startTransfer 0
  else if (now = 3 ∨ now = 4) ∧ resync ∧ !s3.transferring then s3.startTransfer 1
  else if 1048576 < s3.mir.resend ∧ !s3.transferring then s3.startTransfer 2
  else s3

/-- A time of this second, or of one beside it, from its nanoseconds: the nearest to the present. -/
def State.nearNs (s : State) (ns : Nat) : Int :=
  let d := (ns : Int) - s.now.ns
  let d := if d < -500000000 then d + 1000000000 else if 500000000 < d then d - 1000000000 else d
  (nsOf s.timeT + d) * 4294967296

/-- What a valid heartbeat tells of the partner (R544, R554, R558): its state, device ID, last frame start, and in a
handover the instant S2. -/
def State.beatNote (s : State) (path : Nat) (w0 w3 : Word) : State :=
  let s1 := (s.pathGood path).setF Fld.MIR_STATUS_PARTNER_ID 0 0 (bitsOf w0 0 10)
  let goBit := bitOf w0 26
  let off := (nsOf (s.timeT - s.nearNs w3.toNat)).toNat
  let m := { s1.mir with partnerState := bitsOf w0 29 3,
                         arbAt := if bitsOf w0 29 3 = 2 then s1.mer.base else s1.mir.arbAt,
                         frameStart := if goBit then s1.mir.frameStart else s1.mer.base - off,
                         goAt := if goBit && s1.mir.hold then some (s.nearNs w3.toNat) else s1.mir.goAt }
  { s1 with mir := m }

/-- What a module does at a valid heartbeat whose contents it has noted (R540, R544, R550, R561): the active follows its
standby, the standby enters SYNCED when it may, a starting module learns that its partner is active. `was` is the
partner's state before. -/
def State.beatAct (s : State) (was now : Nat) (w1 w2 : Word) (again : Nat) (resync : Bool) : State :=
  let s3 : State := if s.mirState = 2 ∧ s.sys.mode = .running then s.fromStandby was now w2 again resync else s
  let s4 : State := if s3.mirState = 3 ∨ s3.mirState = 4 then s3.trySync else s3
  let s5 : State := if s4.mirState = 1 ∧ s4.sys.mode = .running ∧ now = 2 then s4.toStandby else s4
  let s6 : State := if w1 = s5.rd Reg.MIR_EPOCH 0 0 then s5.lagShow else s5
  if s6.sys.mode = .running then s6.pairUpdate else s6

/-- HEARTBEAT_RX (R544, R545): a valid heartbeat on path 0 Vexlink or 1 PAIRLINK, its four words, and what the standby
asks for beyond them: discarded bytes to be sent again (R548) and a full transfer (R561). -/
def execHeartbeatRx (path : Nat) (w0 w1 w2 w3 : Word) (again : Nat) (resync : Bool) (s : State) :
    Host.Outcome State Fault Refusal :=
  if path < 2 ∧ s.domOn 3 ∧ s.inPair then
    let was := if s.bit Fld.MIR_STATUS_PARTNER 0 0 then s.mir.partnerState else 0
    go ((s.beatNote path w0 w3).beatAct was (bitsOf w0 29 3) w1 w2 again resync)
  else go s

/-- Whether no valid heartbeat has come on a path for HB_MISS × 10 us. -/
def State.pathDue (s : State) (path : Nat) : Bool :=
  decide ((if path = 0 then s.mir.lastVxl else s.mir.lastPl) + s.cfN Cf.MIR_HB_MISS 0 * 10000 ≤ s.mer.base)

/-- A path is lost (R545). -/
def State.pathDown (s : State) (path : Nat) : State :=
  let f := if path = 0 then Fld.MIR_STATUS_VXL_UP else Fld.MIR_STATUS_PL_UP
  let cnt := if path = 0 then Fld.MIR_PATHCNT_VXL_LOSS else Fld.MIR_PATHCNT_PL_LOSS
  let m := if path = 0 then { s.mir with vxlRun := 0 } else { s.mir with plRun := 0 }
  let s1 : State := { s with mir := m }
  let s2 : State := if s1.bit f 0 0 then
      let t := (s1.setF f 0 0 0).incF cnt 0 0 1
      t.log 0x6401 path (t.rd Reg.MIR_PATHCNT 0 0)
    else s1
  (if s2.mir.vxlRun = 0 ∧ s2.mir.plRun = 0 ∧ !(s2.bit Fld.MIR_STATUS_VXL_UP 0 0) ∧ !(s2.bit Fld.MIR_STATUS_PL_UP 0 0) then
    s2.setF Fld.MIR_STATUS_PARTNER 0 0 0 else s2).degraded

/-- What both paths' loss means to a member that does not take over (R546, R549, R558): the standby logs event 0x6406;
the active holds its waiting items while the partner was SYNCED, and goes on after a handover without GO. MIR_SWITCH
then completes FAILED_TIMEOUT (DESIGN CHOICE, notes/assumptions/17.md). -/
def State.partnerLost (s : State) : State :=
  if s.mirState = 3 then s.log 0x6406 0 3
  else if s.mirState = 2 then
    let held := s.mir.hold
    let s1 : State := { s with mir := { s.mir with hold := false, goAt := none, waiting := s.mir.partnerState == 4,
                                                   lostAt := s.mer.base, transfer := none } }
    if held then (s1.waitingOp 0x1000).foldl (fun s x => s.complete x.item stTimeout) s1 else s1
  else s

/-- PATH_LOST (R545, R550): the loss of the Vexlink path takes the standby out of SYNCED, unless PAIRLINK is lost too:
then TAKEOVER follows (R546). -/
def execPathLost (path : Nat) (s : State) : Host.Outcome State Fault Refusal :=
  if path < 2 ∧ s.domOn 3 ∧ s.sys.mode = .running ∧ s.inPair ∧ s.pathDue path then
    let had := s.bit Fld.MIR_STATUS_PARTNER 0 0
    let s1 := s.pathDown path
    let s2 := if had && !(s1.bit Fld.MIR_STATUS_PARTNER 0 0) then s1.partnerLost else s1
    let s3 := if path = 0 ∧ s2.mirState = 4 ∧ !(s2.pathDue 1) then s2.syncLeft 2 else s2
    go s3.pairUpdate
  else go s

/-! ### Epochs (R547, R548, R561) -/

/-- The mirrored image as it stands. -/
def State.mirImage (s : State) : Image :=
  let shared := (List.range 64).filter (fun n => s.bit Fld.HIF_SQ_CTRL_ENABLE n 0 && !(s.ringLocal n))
  let tab := fun (f : Nat → Word) => shared.foldl (fun t n => tset 0 t n (f n)) ([] : Tab Word)
  { proc := s.procImg, cfg := s.cfg.image, imageId := s.cfg.imageId,
    intake := s.hif.intake.filter (fun e => !(s.ringLocal e.ring) || 64 ≤ e.ring),
    fetch := tab (fun n => tget 0 s.hif.fetchIdx n), ci := tab (fun n => s.rd Reg.HIF_SQ_CI n 0),
    pi := tab (fun n => s.rd Reg.HIF_SQ_PI n 0),
    items := s.hif.inflight.filter (fun x => !(x.item.isAgain) && (64 ≤ x.item.ring || !(s.ringLocal x.item.ring))),
    jobs := s.cfg.jobs, refused := s.vxl.refused,
    soft := (List.range 4096).filterMap (fun e => if s.ctKind e = 2 then some (e, s.co e) else none),
    prog := s.latProg }

/-- A capture (R547): the intents and fetch indices stated since the last one belong to it. -/
def State.capture (s : State) (final : Bool) : State :=
  let n := nsOf s.timeT / 10000 % 4294967296
  let k := n.toNat
  let up := fun (x : Inflight) => if x.intent = some 0 then { x with intent := some (k + 1) } else x
  let idx := s.mir.idxSent.map (fun kv => (kv.1, (kv.2.1, if kv.2.2 = 0 then k + 1 else kv.2.2)))
  let full := s.transferring
  let sent := if full then s.mir.sent + 1 else s.mir.sent
  let s1 := { s with hif := { s.hif with inflight := s.hif.inflight.map up },
                     mir := { s.mir with idxSent := idx, sent := sent, resend := 0 } }
  let s2 := s1.wr Reg.MIR_EPOCH 0 0 (w32 k)
  { s2 with out := Out.epoch (w32 k) s2.timeT full (full && sent == 8192) final s2.mirImage :: s2.out }

/-- EPOCH_CAPTURE (R547): on the active, with a partner that follows it. -/
def execEpochCapture (s : State) : Host.Outcome State Fault Refusal :=
  if s.domOn 3 ∧ s.sys.mode = .running ∧ s.mirState = 2 ∧ !s.mir.hold ∧ s.bit Fld.MIR_STATUS_PARTNER 0 0 ∧
      (s.mir.partnerState = 3 ∨ s.mir.partnerState = 4) then go (s.capture false)
  else go s

/-- The standby's committed configuration takes the active's, and its blocks take the values; the LAT fields stay while
the programs differ (R551). -/
def State.mirCfg (s : State) (img : Image) : State :=
  let keep := s.bit Fld.LAT_STATUS_PROG_DIFF 0 0
  let cs := (cfgDiff s.cfg.image img.cfg).filter (fun c => !(keep && keyBlock c.key == 9))
  if cs = [] then { s with cfg := { s.cfg with imageId := img.imageId } }
  else
    let s1 : State := { s with cfg := { s.cfg with image := cfgPut s.cfg.image cs, imageId := img.imageId,
                                                   journal := s.cfg.journal ++ [(img.imageId, cs)] } }
    let it : Item := ⟨redoRing, 0, 0, false, 0, 3, 0, [], none⟩
    let j : CfgJob := { item := it, changes := cs, blocks := [], rptRing := 0, rptFirst := 0, rptCount := 0,
                        journaled := true, given := cs, moved := false, ints := [] }
    (cfgOrder.filter (fun b => cs.any (fun c => keyBlock c.key == b))).foldl (fun s b => (s.blockTakes j b).1) s1.journalGrow

/-- Lattice follows a snapshot (R346, R551): the partner's program, and the image of its last scan against that of the
shadow of the same grid index. -/
def State.mirLat (s : State) (img : Image) : State :=
  let s1 := ({ s with lat := { s.lat with partner := img.prog, snapN := img.proc.latN } }).latShow
  match s1.lat.shImg with
  | some (n, m, q) =>
    if n + 1 = img.proc.latN then ({ s1 with lat := { s1.lat with shImg := none } }).latCompare n m q else s1
  | none => s1

/-- The standby applies an epoch in one cycle (R548). -/
def State.applyImage (s : State) (img : Image) : State :=
  let s1 := ((s.mirCfg img).setProc img.proc).mirLat img
  let s2 := img.soft.foldl (fun s e => if s.ctKind e.1 = 2 then s.setCo e.1 e.2 else s) s1
  { s2 with vxl := { s2.vxl with refused := img.refused } }

/-- From which capture on the lag counts as above LAG_MAX once an epoch captured at `t` is applied (R550): from this one
where the lag is within LAG_MAX before or after it, else as before. -/
def State.lagFromAt (s : State) (t : Int) : Int :=
  let lim := (s.cfN Cf.MIR_LAG_MAX 0 : Int) * 1000
  if nsOf (s.timeT - t) ≤ lim ∨ nsOf (s.timeT - s.mir.captureAt) ≤ lim then t else s.mir.lagFrom

/-- EPOCH_APPLY (R548, R550, R561): the frames of epoch `n`, captured at `t`, have come; `ok` when all of them have, and
`bytes` how many they hold. `full` and `last` tell an epoch of a full transfer and its last one, `final` that of a
handover (R558). -/
def execEpochApply (n : Word) (t : Int) (ok full last final : Bool) (bytes : Nat) (img : Image) (s : State) :
    Host.Outcome State Fault Refusal :=
  if s.domOn 3 ∧ s.sys.mode = .running ∧ (s.mirState = 3 ∨ s.mirState = 4) then
    if ok then
      let s1 := if full ∧ s.mirState = 4 then s.syncLeft 3 else s
      let s2 := if full then (s1.waitingOp 0x1001).foldl (fun s x => s.commitItem x.item stDone) s1 else s1
      let s3 := (s2.applyImage img).wr Reg.MIR_EPOCH 0 0 n
      let s4 := { s3 with mir := { s3.mir with image := some img, captureAt := t, lagFrom := s.lagFromAt t,
                                               final := s3.mir.final || final,
                                               complete := if full then last else s3.mir.complete } }
      go ((s4.wr Reg.MIR_ACK 0 0 n).lagShow.trySync)
    else go { s with mir := { s.mir with resend := s.mir.resend + bytes } }
  else go s

/-- SYNC_LAG_TIMEOUT (R550): the lag has exceeded LAG_MAX for 10 ms continuously. -/
def execSyncLagTimeout (s : State) : Host.Outcome State Fault Refusal :=
  if s.mirState = 4 ∧ s.cfN Cf.MIR_LAG_MAX 0 < s.lagUs ∧
      (s.cfN Cf.MIR_LAG_MAX 0 : Int) * 1000 + 10000000 ≤ nsOf (s.timeT - s.mir.lagFrom) then go ((s.lagShow).syncLeft 1)
  else go s

/-- MIRROR_WAIT_TIMEOUT (R549): one CYCLE plus 200 us have passed without a yield. -/
def execMirrorWaitTimeout (s : State) : Host.Outcome State Fault Refusal :=
  if s.mir.waiting ∧ s.mir.lostAt + s.fld Fld.VXL_CYCPER_US 0 0 * 1000 + 200000 ≤ s.mer.base then
    go { s with mir := { s.mir with waiting := false } }
  else go s

/-! ### Takeover (R134, R546, R554 to R557) -/

/-- Whether an item that the former active had not completed completes DONE_BY_PARTNER: its intent was mirrored, for
ETH_TX its frame had started (R134, R475). -/
def Inflight.byPartner (x : Inflight) : Bool :=
  x.phase == .committed || (x.opcode != 0x0D00 && (match x.intent with
    | some (_ + 1) => true
    | _ => false))

/-- Whether its effect has yet to be given: not for one past its commit point, nor for FCT_HART, whose request the former
active sent or the field device discards (R244). -/
def Inflight.toApply (x : Inflight) : Bool :=
  x.byPartner && x.phase != .committed && x.opcode != 0x1215 && x.opcode != 0x0302 && x.item.origin.isNone

/-- A CFG_VALIDATE_COMMIT whose intent was mirrored is committed, and every block takes its values. -/
def State.partnerJob (s : State) (jobs : List CfgJob) (x : Inflight) : State :=
  match jobs.find? (fun j => j.is x.item.ring x.item.seq && !j.journaled) with
  | some j =>
    let s1 := s.commitChanges j.changes
    j.blocks.foldl (fun s b => (s.blockTakes j b).1) s1
  | none => s

/-- One item of the former active (R134). -/
def State.partnerItem (s : State) (jobs : List CfgJob) (x : Inflight) : State :=
  if x.byPartner then
    let s0 := { s with hif := { s.hif with lastDone := [] } }
    let s1 := if x.toApply then s0.runItem x.opcode x.item
      else if x.opcode = 0x0302 ∧ x.phase ≠ .committed then s0.partnerJob jobs x else s0
    let d := fun (n : Nat) => if s1.hif.lastDone.headD 0 = 0 then s1.hif.lastDone.getD n 0 else 0
    s1.completeAt x.item (x.doneAt.getD s1.now) stByPartner (d 1) (if x.opcode = 0x1215 then 3 else d 2) (d 3) (d 4)
  else s.complete x.item stSwitchover

/-- The descriptor that a ring's mirrored fetch index counts and no item stands for (R122). -/
def State.gapItem (s : State) (img : Image) (n : Nat) : Option Item :=
  let ci := tget 0 img.ci n
  if tget 0 img.fetch n = ci + 1 ∧ s.bit Fld.HIF_SQ_CTRL_ENABLE n 0 then
    some (itemOf n (memWords (s.ringMem (s.sqCores n)) (s.sqBase n + ci.toNat % s.sqSize n * 64) 16))
  else none

/-- The shared rings go on from the mirrored fetch index (R134). -/
def State.takeRing (s : State) (img : Image) (n : Nat) : State :=
  if s.ringLocal n ∨ !(s.bit Fld.HIF_SQ_CTRL_ENABLE n 0) then s
  else
    let ci := tget 0 img.ci n
    let f := tget 0 img.fetch n
    let pi := tget 0 img.pi n
    let s1 := s.wr Reg.HIF_SQ_CI n 0 (if f = ci + 1 then f else ci)
    if (pi - s1.rd Reg.HIF_SQ_PI n 0).toNat < 2147483648 then s1.wr Reg.HIF_SQ_PI n 0 pi else s1

/-- The items of the former active: those sent to another module stay in flight (R526; DEDUCED, notes/assumptions/18.md),
all others complete, with event 0x0085. After a planned handover MIR_SWITCH is the former active's own (R558). -/
def State.partnerItems (s : State) (img : Image) (planned : Bool) : State :=
  let stay := fun (x : Inflight) => x.item.remote && x.item.origin.isNone && x.phase == .waiting
  let items := img.items.filter (fun x => !(stay x) && !(planned && x.opcode == 0x1000))
  let gaps := (List.range 64).filterMap (fun n => s.gapItem img n)
  let local' := s.hif.intake.filter (fun e => e.ring < 64 && s.ringLocal e.ring)
  let s1 := { s with hif := { s.hif with inflight := s.hif.inflight ++ img.items.filter stay,
                                         intake := (local' ++ img.intake).take 65536,
                                         fetchIdx := img.fetch } }
  let s2 := (List.range 64).foldl (fun s n => s.takeRing img n) s1
  let s3 := items.foldl (fun s x => s.partnerItem img.jobs x) s2
  let s4 := gaps.foldl (fun s it => s.complete it stSwitchover) s3
  let done := (items.filter Inflight.byPartner).length
  s4.log 0x0085 0 (w32 done) (w32 (items.length - done + gaps.length))

/-- Arc's generators that were RUN start period 0 at the first whole microsecond after an instant, with the mirrored
values (R556); those that were ARMED keep their T. They stand as ARMED until then. -/
def State.arcGo (s : State) (at' : Int) : State :=
  let t := (nsOf at' / 1000 + 1) * 1000 * 4294967296
  (List.range 32).foldl (fun s g =>
    let x := s.gen g
    if s.genState g = 2 then
      if s.isSlave g then s.setGenState g 0
      else (s.setGen g { x with resume := true, armT := t, startItem := none, stopAt := 0 }).setGenState g 1
    else if s.genState g = 1 then s.setGen g { x with resume := true, startItem := none }
    else s) s

/-- The blocks start from the last applied epoch (R556). -/
def State.blocksGo (s : State) (at' : Int) : State :=
  let s1 := (s.latShadowOff 2).loopsInit (fun s l => (s.loop l).last)
  let now := locTickOf s1.timeT
  let s2 := if s1.loc.lastN ≤ now then s1.locElapse (now + 1 - s1.loc.lastN) true else s1
  let s3 : State := { s2 with loc := { s2.loc with lastN := Nat.max s2.loc.lastN (now + 1) } }
  (s3.arcGo at').canModes

/-- The standby becomes ACTIVE (R554, R558): cause 0 heartbeat loss, 1 MIR_SWITCH, 2 leave notice; `b` the base counter
at which its outputs begin to ramp on. -/
def State.takeOver (s : State) (cause b : Nat) : State :=
  let s1 := (s.incF Fld.MIR_TAKE_COUNT 0 0 1).setF Fld.MIR_TAKE_CAUSE 0 0 cause
  let lag := s.lagUs
  let s2 := (s1.mirTo 2).log 0x6405 cause (s1.rd Reg.MIR_EPOCH 0 0) (w32 lag)
  let s3 := { s2 with mir := { s2.mir with complete := false, final := false, leave := false, goAt := none, resync := false,
                                           transfer := none, resend := 0, rampUp := some b, rampDown := none,
                                           ackIdx := [], idxSent := [] } }
  let at' := s3.timeT + ((b : Int) - s3.mer.base) * 4294967296
  let s4 := s3.blocksGo at'
  match s.mir.image with
  | some img => s4.partnerItems img (cause != 0)
  | none => s4

/-- The base counter at the former active's last Facet frame (R554, R555): from the last TICK, the low 8 bits of its
microsecond, or 9 us after the frame start of the last heartbeat where PAIRLINK was lost before. -/
def State.lastFrameOf (s : State) (tick : Option Nat) : Nat :=
  match tick with
  | some k =>
    let us := nsOf s.timeT / 1000
    let d := (us - k) % 256
    s.mer.base - (nsOf s.timeT % 1000 + d * 1000).toNat
  | none => s.mir.frameStart + 9000

/-- TAKEOVER (R546, R554): both paths are lost on a SYNCED standby. -/
def execTakeover (tick : Option Nat) (s : State) : Host.Outcome State Fault Refusal :=
  if s.domOn 3 ∧ s.sys.mode = .running ∧ s.mirState = 4 ∧ s.pathDue 0 ∧ s.pathDue 1 then
    let s1 := (s.pathDown 0).pathDown 1
    go (s1.takeOver 0 (s1.lastFrameOf tick + s1.releaseDelay))
  else go s

/-- The module's outputs ramp off from `base` on (R557, R558). -/
def State.rampOff (s : State) (base : Nat) : State :=
  { s with mir := { s.mir with rampDown := some base, rampUp := none } }

/-- PAIR_YIELD (R557): the active receives a SCAN frame that its partner sent for the pair. -/
def execPairYield (s : State) : Host.Outcome State Fault Refusal :=
  if s.mirState = 2 ∧ s.sys.mode = .running then
    let s1 := (s.log 0x6407 0 (w32 (s.fld Fld.MIR_STATUS_PARTNER_ID 0 0))).toStandby
    go (s1.rampOff s1.mer.base)
  else go s

/-! ### Planned handover (R558, R559) -/

/-- MIR_TOKEN_READ: a new token, a value the spec does not state; it voids the previous one. -/
def execMirTokenRead (s : State) : Host.Outcome State Fault Refusal :=
  if s.domOn 3 then
    let (w, s1) := s.fresh
    let k := w.toNat % 65536
    go (({ s1 with mir := { s1.mir with token := some (k, s1.mer.base) } }).setF Fld.MIR_TOKEN_TOKEN 0 0 k)
  else go s

/-- Whether a token is the one issued, within the preceding 10 s. -/
def State.tokenOk (s : State) (k : Nat) : Bool :=
  match s.mir.token with
  | some (v, b) => v == k && decide (s.mer.base ≤ b + 10000000000)
  | none => false

/-- The first 10 us boundary of Meridian time at least 100 us on. -/
def State.switchInstant (s : State) : Int := (nsOf s.timeT + 100000 + 9999) / 10000 * 10000 * 4294967296

/-- MIR_SWITCH (R558): accepted, it takes effect at S. -/
def execMirSwitch (it : Item) (s : State) : Host.Outcome State Fault Refusal :=
  serve it s (fun s =>
    if 65536 ≤ (it.w 3).toNat then s.complete it stFormat 12
    else if s.mirState ≠ 2 then s.complete it stState 1
    else if !s.partnerSynced ∨ !(s.bit Fld.MIR_STATUS_VXL_UP 0 0) then s.complete it stState 2
    else if !(s.tokenOk (it.w 3).toNat) then s.complete it stState 3
    else
      let s1 := s.holdItem 0x1000 it []
      { s1 with mir := { s1.mir with token := none, switchAt := s.switchInstant } })

/-- At S the active stops fetching, holds its state and captures the final epoch. -/
def State.switchHold (s : State) : State :=
  ({ s with mir := { s.mir with hold := true, goAt := none } }).capture true

/-- SWITCH_INSTANT (R558): S has come. -/
def execSwitchInstant (s : State) : Host.Outcome State Fault Refusal :=
  match s.waitingOp 0x1000 with
  | x :: _ =>
    if s.mirState = 2 ∧ s.sys.mode = .running ∧ !s.mir.hold ∧ s.mir.switchAt ≤ s.timeT then
      go ((s.commitItem x.item stDone).switchHold)
    else go s
  | [] => go s

/-- SWITCH_GO (R558): at S2 the former active becomes the standby and its outputs ramp off; the standby becomes ACTIVE. -/
def execSwitchGo (s : State) : Host.Outcome State Fault Refusal :=
  match s.mir.goAt with
  | some t =>
    let b := (s.mer.base : Int) - nsOf (s.timeT - t)
    if s.timeT < t ∨ s.sys.mode ≠ .running then go s
    else if s.mirState = 2 ∧ s.mir.hold then
      go (s.toStandby.rampOff b.toNat)
    else if s.mirState = 4 then go (s.takeOver (if s.mir.leave then 2 else 1) b.toNat)
    else go s
  | none => go s

/-- LEAVE_NOTICE_RX (R559): the handover has started with S at the notice; the final epoch follows. -/
def execLeaveNoticeRx (s : State) : Host.Outcome State Fault Refusal :=
  if s.mirState = 4 ∧ s.sys.mode = .running then go { s with mir := { s.mir with leave := true } } else go s

/-! ### Resynchronisation, local rings (R542, R561, R563) -/

/-- MIR_RESYNC: on the standby; DONE when it enters SYNCED. -/
def execMirResync (it : Item) (s : State) : Host.Outcome State Fault Refusal :=
  serve it s (fun s =>
    if s.mirState ≠ 3 ∧ s.mirState ≠ 4 then s.complete it stState 4
    else
      let s1 := s.holdItem 0x1001 it []
      { s1 with mir := { s1.mir with resync := true } })

/-- MIR_LOCAL_WRITE (R542): the bits of enabled rings stay. -/
def execMirLocalWrite (hi : Bool) (value : Word) (s : State) : Host.Outcome State Fault Refusal :=
  if s.domOn 3 then
    let r := if hi then Reg.MIR_LOCAL_HI else Reg.MIR_LOCAL_LO
    let base := if hi then 32 else 0
    let old := s.rd r 0 0
    let new := (List.range 32).foldl (fun w k =>
      let b := if s.bit Fld.HIF_SQ_CTRL_ENABLE (base + k) 0 then bitOf old k else bitOf value k
      if b then w + 2 ^ k else w) 0
    go (s.wr r 0 0 (w32 new))
  else go s

end Sys2Proof.Machine
end

