-- ==== Sys2Proof/Machine/Pwr.lean ====
section
/-! DEFINITION. What a block loses when its power domain goes down or it is held in reset, and the commands of CLK and
PWR (spec/01_architecture.md, spec/03_startup_restart.md). -/

namespace Sys2Proof.Machine

/-! ### Blocks held in reset (R35, R37, R88) -/

/-- The registers of a domain take their reset values, but for those that `keep` holds of. -/
def State.regsOff (s : State) (n : Nat) (keep : Nat → Bool) : State :=
  { s with regs := s.regs.filter (fun kv => domainOf kv.1 != n || keep kv.1) }

/-- The registers that keep their values through a warm restart: counts since cold start, the rings of Prism (R421,
R424), and what R94 keeps of Vexlink. -/
def keptReg (a : Nat) : Bool :=
  [Reg.LOC_TRANS, Reg.LAT_SCANCNT, Reg.PRM_SEQ, Reg.PRM_NEXTREC, Reg.PRM_UFIRED, Reg.PRM_BACKLOG, Reg.PRM_HISTDEPTH,
    Reg.MIR_TAKE, Reg.VXL_STATUS, Reg.VXL_CYCLE, Reg.VXL_CYCPER, Reg.VXL_MEMBERS].any (fun r => r.covers a)

/-- While PD_ACQ is off the backlog stays in DRAM (R424), and PRM_BACKLOG counts it; every other register of the domain
starts at its reset value (R35). -/
def keptPrm (a : Nat) : Bool := Reg.PRM_BACKLOG.covers a

/-- Vertex is held in reset (R370): at a warm restart its items count as lost by their sources, with event 0x2182. -/
def State.vtxDown (s : State) (warm : Bool) : State :=
  if !warm then s.setVtx { vtxReset with running := false } else
  let v := s.tr.vtx
  let n := v.items.length
  let lost := v.items.foldl (fun t i => tset 0 t i.source (satAdd 65535 (tget 0 t i.source) 1)) v.srcLost
  (s.setVtx { vtxReset with running := false, srcLost := lost, lostAll := satAdd 0xFFFFFFFF v.lostAll n }).log 0x2182 0
    (w32 n)

/-- Every output of Lattice's registers shows its value before the first publish (R348, R583). -/
def State.qinitShow (s : State) : State :=
  let q := s.initImg Cf.LAT_QINIT 9
  let m := s.initImg Cf.LAT_MINIT 128
  let s1 := (List.range 9).foldl (fun s i => s.wr Reg.LAT_QIMG i 0 (tget 0 q i)) s
  (List.range 128).foldl (fun s i => s.wr Reg.LAT_MARK i 0 (tget 0 m i)) s1

/-- What a warm restart tells of PD_ENG at its trigger: injections and slots end, the staging area is cleared with event
0x20C4 (R146), Lattice is in RESET. -/
def State.engEnds (s : State) : State :=
  let s1 := (s.tan.loops.map (fun kv => kv.1)).foldl (fun s l => s.injEnd l 4) s
  let n := s1.cfg.staged.length
  let s2 := if 0 < n then s1.log 0x20C4 0 (w32 n) else s1
  (s2.slotsFail).latState 0 3

/-- PD_ENG is held in reset: Tangent, Locus, Lattice, Vertex, CFG, Mirror and the coordinate table. `warm` keeps what a
warm restart keeps. -/
def State.engDown (s : State) (warm : Bool) : State :=
  let s3 := (if warm then s.engEnds else s).vtxDown warm
  let s4 := (if warm ∧ s3.inPair then s3.mirTo 1 else s3).locCold
  let st := s4.mirState
  let m := s4.mir
  let s5 := s4.regsOff 3 (fun a => warm && keptReg a)
  let s6 := { s5 with
    cfg := { s5.cfg with staged := [], jobs := [], waits := [], grant := none, regErr := false, regErrAt := none },
    tan := ⟨[], []⟩, lat := latReset, mir := { mirReset with ownFrame := m.ownFrame },
    vxl := if warm then { s5.vxl with coords := [], stalePub := [], got := [] } else vxlReset }
  (if warm ∧ s6.inPair then (s6.setF Fld.MIR_STATUS_STATE 0 0 st).setF Fld.MIR_STATUS_SLOT 0 0 s6.baseId else s6).qinitShow

/-- PD_ACQ is held in reset. A switched-off domain loses the log of Helix (R434). -/
def State.acqDown (s : State) (warm : Bool) : State :=
  let s1 := s.prmStop.regsOff 4 (fun a => if warm then keptReg a else keptPrm a)
  let h := s1.tr.hlx
  s1.setHlx { h with running := false, drop := none, dropIntake := 0, dropStream := 0, stream := [], streamLoss := none,
                     log := if warm then h.log else [], ovwr := if warm then h.ovwr else 0,
                     frozen := if warm then h.frozen else none }

/-- PD_FLK is held in reset: the link ends stop (R612), and Arc's outputs are inactive. Trip latches stay, and Lattice
keeps the last input bits of each Facet (R326). -/
def State.flkDown (s : State) : State :=
  let s1 := (List.range 16).foldl (fun s n => if s.linkUp n then s.facetBad n else s) s.arcReset
  let trip := s1.rd Reg.ARC_TRIP 0 0
  let s2 := ((s1.regsOff 7 (fun a => Reg.FCT_DICUR.covers a)).wr Reg.ARC_TRIP 0 0 trip).showTrips
  let s3 := { s2 with fct := { s2.fct with linkCfg := false, toPrm := [], engBad := [] } }
  (List.range 16).foldl (fun s n =>
    let s1 := s.setFacet n { s.facet n with upSeq := none, invalid := 0, delivered := false, updates := [], abort := false,
                                            need := [], sent := [], cmds := [], diag := none, fdiag := none, hart := none,
                                            spot := 0, tempSeen := false }
    (facetChans n).foldl (fun s ch => s.setChan ch { s.chan ch with ownHas := false, presNew := false }) s1) s3

/-- PD_NET goes down: the rings, Ethernet and CAN FD. Items for these blocks complete when the domain is off (R36); those
for other blocks run on to their outcomes in the intake log (R107). -/
def State.netDown (s : State) : State :=
  let s1 := s.regsOff 5 (fun _ => false)
  { s1 with hif := { s1.hif with held := [], unsig := [], msixOn := false, msixTab := [], turn := [] },
            can := [], eth := ⟨[], [], [], 0, [], false, 0⟩, tr := { s1.tr with pba := [] } }

/-- DRAM loses its contents. -/
def State.dramLost (s : State) : State := { s with dram := [], sys := { s.sys with poison := [], imgLen := 0 } }

/-- A domain goes down. -/
def State.domDown (s : State) (n : Nat) : State :=
  if n = 3 then s.engDown false
  else if n = 4 then s.acqDown false
  else if n = 5 then s.netDown
  else if n = 6 then s.regsOff 6 (fun _ => false)
  else if n = 7 then s.flkDown
  else if n = 2 then s.dramLost
  else s

/-- The whole module but PD_AON and PD_SAFE is held in reset. -/
def State.allDown (s : State) : State :=
  let s1 := { s with hif := hifReset }
  ((((s1.flkDown).regsOff 6 (fun _ => false)).netDown).engDown false).acqDown false

/-! ### Starts begin (R75, R77, R78) -/

/-- The base counter starts at zero, and Meridian unlocked (R75, R485). How old a checkpoint is, and when earlier warm
restarts began, is no longer known. -/
def State.baseZero (s : State) : State :=
  let old := fun (c : Checkpoint) => { c with base := none }
  { s with mer := merReset, tr := { s.tr with lastLog := [], sinceLog := [] },
           sys := { s.sys with ckpt0 := s.sys.ckpt0.map old, ckpt1 := s.sys.ckpt1.map old, warmBegun := [],
                               lossAt := [] } }

/-- A cold start has its trigger. The base counter starts at zero with CAUSE 0 and 6 (R75, R485). -/
def State.coldBegin (s : State) (cause : Nat) : State :=
  let s1 := s.allDown
  let s2 := if cause = 0 ∨ cause = 6 then s1.baseZero else s1
  { s2 with sys := { s2.sys with mode := .starting, restartCause := cause, startBase := s2.mer.base, chkPeriodDue := false,
                                 chkWriting := false, ckptNew := none, redo := [], redoNew := 0, rising := [],
                                 falling := [], unlocked := false, gone := none, hot := false, oscLost := false,
                                 wasStopped := false } }

/-- Warm restarts that began within the preceding 10 s. -/
def State.warmsOf (s : State) : List Nat := s.sys.warmBegun.filter (fun b => s.mer.base ≤ b + 10000000000)

/-- A warm-restart trigger (R77, R78, step 1 of R95): the fourth within 10 s stops the module. -/
def State.warmTrigger (s : State) (cause : Nat) : State :=
  let held := s.sys.mode = .warming
  if s.sys.mode ≠ .running ∧ !held then s
  else if 3 ≤ s.warmsOf.length then
    let s1 := if held then s.log 0x404D 0 (w32 cause) else (((s.log 0x404D 0 (w32 cause)).flkDown).engDown true).acqDown true
    { s1 with sys := { s1.sys with mode := .stopped, warmBegun := s.warmsOf } }
  else
    let s1 := (s.incF Fld.SYS_RESTART_WARM_COUNT 0 0 1).setF Fld.SYS_RESTART_CAUSE 0 0 cause
    let s2 := { s1 with sys := { s1.sys with mode := .warming, restartCause := cause, startBase := s.mer.base,
                                             warmBegun := s.warmsOf ++ [s.mer.base] } }
    if held then s2 else (((s2.flkDown).engDown true).canRestart.ethRestart).acqDown true

/-- The module is in a mode. -/
def State.inMode (s : State) (m : RunMode) : State := { s with sys := { s.sys with mode := m } }

/-- What holds the module in reset has gone (R26, R60, R66): it stays off for a lost oscillator and for a junction that is
still hot, and cold-starts otherwise (DEDUCED, notes/assumptions/123.md). -/
def State.released (s : State) : State :=
  if !(s.clkOn 4) then s.inMode .noTcxo
  else if s.sys.hot then s.inMode .thermalOff
  else if s.sys.oscLost then s.coldBegin 6
  else s.coldBegin 5

/-! ### Clocks (R26, R611, R484) -/

/-- The domains that a mask names and the monitor watches. -/
def clocksOf (mask : Nat) : List Nat := (List.range 12).filter (fun n => n != 10 && mask / 2 ^ n % 2 == 1)

/-- The loss of one clock: its bits and its event. -/
def State.clkLost (s : State) (n : Nat) : State :=
  let s1 := s.wr Reg.CLK_STATUS 0 0 (putBits (s.rd Reg.CLK_STATUS 0 0) n 1 0)
  let s2 := s1.wr Reg.CLK_LOSS 0 0 (putBits (s1.rd Reg.CLK_LOSS 0 0) n 1 1)
  ({ s2 with sys := { s2.sys with lossAt := tset 0 s2.sys.lossAt n (s.mer.base + 1) } }).log (0x4500 + n) n

/-- CK_ARC is lost: every pair is inactive, and generators stand still until Arc is enabled again. Items that wait on
them complete with the event of the loss. -/
def State.arcLost (s : State) (seq : Word) : State :=
  let s1 := (List.range 32).foldl (fun s g =>
    let x := s.gen g
    ((s.setGenState g 0).setF Fld.ARC_GSTAT_ACTIVE g 0 0).setGen g
      { x with ctl := [], stopAt := 0, phased := false, startItem := none, stopItem := none, perItem := none,
               cmpItem := none, shPer := none,
               shCmp := none, resume := false }) s
  let xs := s1.hif.inflight.filter (fun x => x.item.block == 0xA && x.phase == .waiting)
  xs.foldl (fun s x => s.complete x.item stFault 0x4503 seq) s1

/-- The interface of a clock goes down: 5 PCI Express, 6 Vexlink, 7 Ethernet, 8 CAN FD (which sends nothing until the
clock is back). -/
def State.interfaceDown (s : State) (n : Nat) : State :=
  if n = 5 then stateOf (execPcieLinkDown s) s
  else if n = 6 then (List.range 4).foldl (fun s p => stateOf (execVxlPortDown p s) s) s
  else if n = 7 then (s.ethLinkDown 0).ethLinkDown 1
  else s

/-- CLOCK_LOSS (R26): the domains lost at one instant. -/
def execClockLoss (mask : Nat) (s : State) : Host.Outcome State Fault Refusal :=
  let ns := (clocksOf mask).filter (fun n => s.clkOn n)
  let arc := s.tr.hlx.seq + w32 ((ns.filter (fun n => n < 3)).length)
  let s0 := { s with mer := { s.mer with stampBad := s.mer.stampBad || ns.contains 4 } }
  let s1 := ns.foldl (fun s n => s.clkLost n) s0
  if ns.contains 4 then
    let s2 := s1.allDown
    let mode := if s.alive then .noTcxo else s.sys.mode
    go { s2 with sys := { s2.sys with mode := mode, oscLost := true } }
  else
    let s2 := ns.foldl (fun s n => s.interfaceDown n) s1
    let s3 := if ns.contains 3 then s2.arcLost arc else s2
    go (if ns.any (fun n => [0, 1, 2, 9, 11].contains n) then s3.warmTrigger 10 else s3)

/-- CLOCK_RESTORED (R611). The Meridian oscillator comes back by TCXO_RETURN. -/
def execClockRestored (n : Nat) (s : State) : Host.Outcome State Fault Refusal :=
  if n < 12 ∧ n ≠ 4 then go (s.wr Reg.CLK_STATUS 0 0 (putBits (s.rd Reg.CLK_STATUS 0 0) n 1 1)) else go s

/-- TCXO_RETURN (R26, R611): the clocks whose PLLs run from the oscillator are back with it; CK_PCIE, CK_VXL and CK_ETH
have references of their own, and return by CLOCK_RESTORED (DEDUCED, notes/assumptions/123.md). -/
def execTcxoReturn (s : State) : Host.Outcome State Fault Refusal :=
  if s.clkOn 4 then go s
  else
    let s1 := s.wr Reg.CLK_STATUS 0 0 (s.rd Reg.CLK_STATUS 0 0 ||| 0xF1F)
    go (if s.sys.mode = .noTcxo then s1.released else s1)

/-! ### Power (R33 to R39) -/

/-- PWR_UNLOCK_WRITE (R34). -/
def execPwrUnlockWrite (value : Word) (s : State) : Host.Outcome State Fault Refusal :=
  if s.alive then go { s with sys := { s.sys with unlocked := value == 0x0A55 } } else go s

/-- PWR_UNLOCK_EXPIRY (R34). -/
def execPwrUnlockExpiry (s : State) : Host.Outcome State Fault Refusal :=
  go { s with sys := { s.sys with unlocked := false } }

/-- The domain that a domain depends on (R32). -/
def depOf (n : Nat) : Nat := if n = 6 ∨ n = 7 then 3 else if n = 3 ∨ n = 4 ∨ n = 5 then 2 else 0

/-- Whether a set of domains holds one; PD_AON and PD_SAFE are always on. -/
def inSet (set n : Nat) : Bool := n < 2 || set / 2 ^ n % 2 == 1

/-- The switched domains. -/
def switched : List Nat := [2, 3, 4, 5, 6, 7]

/-- Why a PWR_CTRL write is refused, with the domain (R34); none when it is accepted. -/
def State.pwrRefuse (s : State) (new : Nat) (host : Bool) : Option (Nat × Nat) :=
  let old := (s.rd Reg.PWR_CTRL 0 0).toNat
  let off := switched.filter (fun n => inSet old n && !(inSet new n))
  let bad := switched.filter (fun n => inSet new n && !(inSet new (depOf n)))
  let pair := off.filter (fun n => n == 3 || n == 6 || n == 7)
  let path := off.filter (fun n => n == 2 || (host && n == 5))
  if s.sys.rising ≠ [] ∨ s.sys.falling ≠ [] then some (5, 0)
  else if off ≠ [] ∧ !s.sys.unlocked then some (1, off.headD 0)
  else if bad ≠ [] then some (2, bad.headD 0)
  else if pair ≠ [] ∧ s.mirState = 2 ∧ s.bit Fld.MIR_STATUS_PARTNER 0 0 then some (3, pair.headD 0)
  else if path ≠ [] then some (4, path.headD 0)
  else none

/-- A refusal is recorded, the first since PWR_DENY was read (R34). -/
def State.pwrDeny (s : State) (reason dom : Nat) : State :=
  let s1 := if s.bit Fld.PWR_DENY_VALID 0 0 then s
    else s.wr Reg.PWR_DENY 0 0 (w32 (2147483648 + dom * 256 + reason))
  s1.log 0x24C0 0

/-- PWR_STATUS.BUSY. -/
def State.pwrBusy (s : State) : State :=
  s.setF Fld.PWR_STATUS_BUSY 0 0 (if s.sys.rising = [] ∧ s.sys.falling = [] then 0 else 1)

/-- The event of a domain's switch-off, kept for R36. -/
def State.domEvent (s : State) (n code : Nat) : State :=
  let seq := s.tr.hlx.seq
  let s1 := { s with sys := { s.sys with domCode := tset 0 s.sys.domCode n (w32 code),
                                         domSeq := tset 0 s.sys.domSeq n seq } }
  s1.log code n

/-- A domain is switched off: it counts as off from here on. -/
def State.domOff (s : State) (n : Nat) : State :=
  let s1 := (s.domEvent n 0x04C1).domDown n
  { s1 with sys := { s1.sys with falling := s1.sys.falling ++ [n] } }

/-- A domain is switched on. -/
def State.domRise (s : State) (n : Nat) : State :=
  ({ s with sys := { s.sys with rising := s.sys.rising ++ [n] } }).log 0x04C0 n

/-- PWR_CTRL_WRITE (R33, R34): by the host, or by an application core. -/
def execPwrCtrlWrite (value : Word) (host : Bool) (s : State) : Host.Outcome State Fault Refusal :=
  let new := bitsOf value 2 6 * 4
  if !s.alive then go s else
  match s.pwrRefuse new host with
  | some (r, d) => go (s.pwrDeny r d)
  | none =>
    let old := (s.rd Reg.PWR_CTRL 0 0).toNat
    let s1 := s.wr Reg.PWR_CTRL 0 0 (w32 new)
    let s2 := (switched.filter (fun n => !(inSet old n) && inSet new n)).foldl (fun s n => s.domRise n) s1
    let s3 := (switched.reverse.filter (fun n => inSet old n && !(inSet new n))).foldl (fun s n => s.domOff n) s2
    go s3.pwrBusy

/-- Items for the blocks of a domain that is off complete FAILED_TARGET_ABSENT (R36). -/
def State.domAbsent (s : State) (n : Nat) : State :=
  let xs := s.hif.inflight.filter (fun x => blockDomain x.item.block == n && !(x.opcode == 0x0302 && x.phase == .committed))
  (xs.foldl (fun s x => s.absent x.item) s).blocksGone n

/-- DOMAIN_OFF_COMPLETE (R35, R36). -/
def execDomainOffComplete (n : Nat) (s : State) : Host.Outcome State Fault Refusal :=
  if s.sys.falling.contains n then
    let s1 := s.wr Reg.PWR_STATUS 0 0 (putBits (s.rd Reg.PWR_STATUS 0 0) n 1 0)
    let s2 := { s1 with sys := { s1.sys with falling := s1.sys.falling.filter (fun m => m != n) } }
    go (s2.domAbsent n).pwrBusy
  else go s

/-- The active values of a domain's blocks are their defaults: their configuration is not reloaded (R35). -/
def State.cfgDefaults (s : State) (n : Nat) : State :=
  { s with cfg := { s.cfg with active := s.cfg.active.filter (fun kv => blockDomain (keyBlock kv.1) != n) } }

/-- Helix starts: record 0x0300 is its first (R433), and record 0x2301 follows where a freeze ends with it (R436). -/
def State.hlxStart (s : State) (cause : Nat) : State :=
  let h := s.tr.hlx
  let s1 := s.setHlx { h with running := true, frozen := none, lostOff := 0 }
  let s2 := s1.logSynth 0x0300 (w32 cause) h.seq (w32 h.log.length) (w32 h.lostOff)
  match h.frozen with
  | none => s2
  | some r => s2.logSynth 0x2301 (w32 r.count) r.first r.last 2

/-- The blocks of a domain leave reset. -/
def State.domUp (s : State) (n : Nat) : State :=
  let s1 := s.cfgDefaults n
  if n = 3 then s1.vtxStart
  else if n = 4 then
    let s2 := s1.hlxStart 2
    { s2 with prm := { s2.prm with gapOn := true } }
  else s1

/-- DOMAIN_POWER_GOOD (R35). A module that a restart holds in reset, or that is stopped, has its domain up, and the blocks
leave reset with the others. -/
def execDomainPowerGood (n : Nat) (s : State) : Host.Outcome State Fault Refusal :=
  let st := s.rd Reg.PWR_STATUS 0 0
  if 2 ≤ n ∧ n < 8 ∧ bitOf (s.rd Reg.PWR_CTRL 0 0) n ∧ !(bitOf st n) ∧ s.alive then
    let s1 := s.wr Reg.PWR_STATUS 0 0 (putBits st n 1 1)
    let s2 := { s1 with sys := { s1.sys with rising := s1.sys.rising.filter (fun m => m != n) } }
    go (if s.sys.mode = .running ∨ s.sys.mode = .recovery ∨ s.sys.mode = .halt then s2.domUp n else s2).pwrBusy
  else go s

/-- POWER_GOOD_LOST (R38, R75): event 0x44C0, then a cold start for PD_CORE, a warm restart for PD_ENG, PD_ACQ and PD_FLK,
and the interface down for PD_NET and PD_VXL. -/
def execPowerGoodLost (n : Nat) (s : State) : Host.Outcome State Fault Refusal :=
  if 2 ≤ n ∧ n < 8 ∧ s.domOn n then
    let s1 := s.domEvent n 0x44C0
    if n = 2 then go (s1.coldBegin 7)
    else if n = 5 ∨ n = 6 then
      let s2 := s1.wr Reg.PWR_STATUS 0 0 (putBits (s1.rd Reg.PWR_STATUS 0 0) n 1 0)
      go ((s2.domDown n).domAbsent n)
    else go (s1.warmTrigger 11)
  else go s

end Sys2Proof.Machine
end

