-- ==== Sys2Proof/Machine/Sys.lean ====
section
/-! DEFINITION. Starts: the load of the committed configuration, checkpoints, the cold start and the warm restart, and the
commands of SYS (spec/02_module_hardware.md, spec/03_startup_restart.md). -/

namespace Sys2Proof.Machine

/-! ### The committed configuration at a start (R166, R169) -/

/-- A full image that fails its check: the older slot is used, with the journal (R166, R169). Event 0x40C6 names the slot
that failed (DESIGN CHOICE: R170 says "slot" and not which; notes/assumptions/139.md). -/
def State.imageFind (s : State) (bad : Bool) : State :=
  if !(bad || s.cfg.imageBad) then s
  else
    let old := 1 - s.cfg.slot
    let base := (tget none s.cfg.slots old).getD (0, [])
    let t := s.cfg.journal.foldl (fun t e => cfgPut t e.2) base.2
    let id := match s.cfg.journal.getLast? with
      | some e => e.1
      | none => base.1
    let s1 := { s with cfg := { s.cfg with image := t, imageId := id, slots := tset none s.cfg.slots s.cfg.slot none,
                                           slot := old, imageBad := false } }
    s1.log 0x40C6 0 (w32 s.cfg.slot)

/-- One field clamped or omitted while the image loads: event 0x10C1 with words 1 to 4 of its report entry. -/
def State.loadClamp (s : State) (v : Val) (c : Clamp) : State :=
  let flt := (v.view s).isFloat (cfgKey c.block c.inst c.fld c.elem)
  let ws := { c with flt := c.flt || (c.reason == 5 && flt) }.words
  s.log 0x10C1 0 (ws.getD 0 0) (ws.getD 1 0) (ws.getD 2 0) (ws.getD 3 0)

/-- Vexlink at a start: every subscription begins anew (R513). A warm restart keeps what the manager has granted (R94); at
a cold start a worker's publications wait for its join, and the manager's CYCLE is the committed one. -/
def State.loadVxl (s : State) (warm : Bool) : State :=
  let ints := (s.vxl.subInt.filter (fun kv => kv.2)).map (fun kv => kv.1)
  let s1 := (s.subs.map (fun p => p.1)).foldl (fun s e => s.coFresh ints e) s
  let on := fun (e : Nat) => bitOf (s1.cf Cf.VXL_PUB 5 e) 31
  let es := (s1.cfg.active.filterMap (fun kv =>
    if keyBlock kv.1 = 0xF ∧ keyFld kv.1 = 0x201 then some (keyElem kv.1) else none)).filter on
  let keep := if s1.role = 3 then es.filter (fun e => warm && tget false s1.vxl.granted e) else es
  let v : Val := ⟨s1.cfg.active, [], none, false⟩
  let own : Grant := ⟨s1.device, v.pubList, (s1.subList v).map (fun p => p.2)⟩
  let s1 := if s1.isManager ∧ !warm then s1.setF Fld.VXL_CYCPER_US 0 0 (s1.cfN Cf.VXL_CYCLE 4) else s1
  let gs := if s1.isManager then own :: s1.vxl.grants.filter (fun g => g.device != own.device) else s1.vxl.grants
  { s1 with vxl := { s1.vxl with
      granted := keep.foldl (fun t e => tset false t e true) [], grants := gs,
      fwd := if s1.isManager then forwards gs else s1.vxl.fwd } }

/-- The keys of one block among changes. -/
def keysOf (cs : List Change) (b : Nat) : List Nat := (cs.filter (fun c => keyBlock c.key == b)).map (fun c => c.key)

/-- The committed configuration is validated as in a commit and taken by every block (R169). -/
def State.loadConfig (s : State) (warm : Bool) : State :=
  let was := s.cfg.active
  let staged := s.cfg.image.map (fun kv => (⟨kv.1, kv.2⟩ : Change))
  let s0 := { s with cfg := { s.cfg with active := [] } }
  let v := (s0.validateA [] staged true).finish [] staged
  let s1 := v.clamps.foldl (fun s c => s.loadClamp v c) s0
  let all := cfgDiff [] v.tab
  let diff := cfgDiff was v.tab
  let s2 := s1.takeChanges (all.filter (fun c => keyBlock c.key != 7))
  let s3 := (s2.takenTan all).1
  let s4 := { s3 with fct := { s3.fct with linkCfg := true } }
  let s5 := (List.range 16).foldl (fun s n =>
    let t := s.setFacet n { s.facet n with delivered := false }
    if t.linkUp n then t.linkDeliver n else t) s4
  let s6 := if warm then s5 else s5.switchTo (s5.cfN Cf.MER_SRC 3) 0
  let s7 := ((s6.loadVxl warm).takenEth (keysOf diff 0xD)).takenCan (keysOf diff 0xE)
  ((s7.takenVtx []).takenHlx.latShow).qinitShow

/-! ### Checkpoints (R42, R96, R97) -/

/-- The newest valid checkpoint. -/
def State.newestCkpt (s : State) : Option Checkpoint :=
  if s.bit Fld.SYS_CHKSTAT_VALID 0 0 then (if s.bit Fld.SYS_CHKSTAT_SLOT 0 0 then s.sys.ckpt1 else s.sys.ckpt0) else none

/-- The slot that the next checkpoint is written to: the one that does not hold the newest (R42). -/
def State.ckptSlot (s : State) : Nat := if s.newestCkpt.isSome then 1 - s.fld Fld.SYS_CHKSTAT_SLOT 0 0 else 0

/-- The age of a checkpoint in ns; a free value for one from before the base counter started at zero again
(notes/assumptions/3.md). -/
def State.ckptAge (s : State) (c : Checkpoint) : Nat :=
  match c.base with
  | some b => s.mer.base - b
  | none => (Config.oldAge s.mer.base).toNat * 1000000

/-- A checkpoint is captured and its write begins; the marker of its slot is written last. -/
def State.chkCapture (s : State) : State :=
  let c : Checkpoint := ⟨some s.mer.base, s.timeT, s.cfg.imageId, s.procImg⟩
  let one := s.ckptSlot = 1
  let s1 := { s with sys := { s.sys with ckptNew := some c, chkWriting := true, redoNew := s.sys.redo.length,
                                         chkPeriodDue := false, chkCfg := s.rd Reg.SYS_CHKCFG 0 0,
                                         ckpt0 := if one then s.sys.ckpt0 else none,
                                         ckpt1 := if one then none else s.sys.ckpt1 } }
  s1.setF Fld.SYS_CHKSTAT_PENDING 0 0 0

/-- The write ends with its marker: the entries of the redo list that it covers are cleared (R90). -/
def State.chkWritten (s : State) : State :=
  match s.sys.ckptNew with
  | some c =>
    let n := s.ckptSlot
    let s1 := { s with sys := { s.sys with ckptNew := none, chkWriting := false, redo := s.sys.redo.drop s.sys.redoNew,
                                           redoNew := 0, ckpt0 := if n = 0 then some c else s.sys.ckpt0,
                                           ckpt1 := if n = 1 then some c else s.sys.ckpt1 } }
    (s1.setF Fld.SYS_CHKSTAT_VALID 0 0 1).setF Fld.SYS_CHKSTAT_SLOT 0 0 n
  | none => s

/-- A checkpoint that is written at once (R60, R96): a write in progress ends first. -/
def State.chkNow (s : State) : State := ((s.chkWritten).chkCapture).chkWritten

/-- CHECKPOINT_PERIOD (R96). -/
def execCheckpointPeriod (s : State) : Host.Outcome State Fault Refusal :=
  if s.sys.mode = .running then
    go { s with sys := { s.sys with chkPeriodDue := true, chkCfg := s.rd Reg.SYS_CHKCFG 0 0 } }
  else go s

/-- CHECKPOINT_CAPTURE (R97): at a Locus tick; while a write runs, the capture stays pending. -/
def execCheckpointCapture (s : State) : Host.Outcome State Fault Refusal :=
  if s.sys.chkPeriodDue ∧ s.sys.mode = .running ∧ s.domOn 3 then
    if s.sys.chkWriting then go (s.setF Fld.SYS_CHKSTAT_PENDING 0 0 1) else go s.chkCapture
  else go s

/-- CHECKPOINT_WRITE_DONE (R97): a pending capture is taken at once. -/
def execCheckpointWriteDone (s : State) : Host.Outcome State Fault Refusal :=
  if s.sys.chkWriting then
    let s1 := s.chkWritten
    if s1.sys.chkPeriodDue ∧ s1.sys.mode = .running ∧ s1.domOn 3 then go s1.chkCapture else go s1
  else go s

/-! ### Resume rules (R98 to R100) -/

/-- The first resume condition that fails (R98); 0 none. -/
def State.resumeFail (s : State) : Nat :=
  match s.newestCkpt with
  | none => if bitOf s.sys.chkCfg 31 then 2 else 1
  | some c =>
    if !(bitOf s.sys.chkCfg 31) then 1
    else if c.imageId ≠ s.cfg.imageId then 3
    else if bitsOf s.sys.chkCfg 16 12 * 10000000 < s.ckptAge c then 4
    else 0

/-- Whether a register of a captured process is restored: Locus's but for the schedule slots, and Arc's carried on-time. -/
def resumeReg (a : Nat) : Bool :=
  (0xA0010 ≤ a && a < 0xB0000 && !([Reg.LOC_SCHED_CTRL, Reg.LOC_SCHED_STEP, Reg.LOC_SCHED_TNS, Reg.LOC_SCHED_TSEC,
    Reg.LOC_SCHED_MASK].any (fun r => r.covers a))) || Reg.ARC_CARRY.covers a

/-- What a checkpoint restores (R97): the items that its objects waited for are gone, and its output image is not given
to the owners. -/
def ProcImg.resumed (p : ProcImg) : ProcImg :=
  { p with
    loops := p.loops.map (fun kv => (kv.1, { kv.2 with reqs := [], samp := none, inj := none, ecc := false })),
    loc := { p.loc with tracks := p.loc.tracks.map (fun kv => (kv.1, { kv.2 with cmds := [] })),
                        cq := p.loc.cq.map (fun c => { c with item := none }), slotT := [], slotPart := [], slotDead := [], pend := [],
                        tokens := [] },
    duty := [], gens := [], regs := p.regs.filter (fun kv => resumeReg kv.1), outs := [] }

/-- The process resumes (R97 to R99): the gap counts on tracks with WALL timing. -/
def State.resume (s : State) (c : Checkpoint) : State :=
  let s1 := s.setProc c.proc.resumed
  s1.locElapse (s1.ckptAge c / 100000) false

/-- The output image is compared with what the Facets drive: a difference is logged with the channel, the captured and the
present value. The spec gives the record no code: its low bits are free, and the severity is 0 (R97;
notes/assumptions/34.md). -/
def State.outDiffer (s : State) (o : OutImg) : State :=
  let c := s.chan o.ch
  if (o.ownHas ∧ o.own ≠ c.drv) ∨ o.owner ≠ s.cfN Cf.FCT_OWNER o.ch ∨ o.shed ≠ s.isShed o.ch ∨ o.ovl ≠ c.ovl then
    let r := s.fresh
    r.2.log (r.1.toNat % 4096) o.ch o.own c.drv
  else s

/-- Every output of the image. -/
def State.outsDiffer (s : State) (os : List OutImg) : State := os.foldl (fun s o => s.outDiffer o) s

/-! ### The steps both starts share -/

/-- The links that train (R181, R612), with the delays measured. -/
def State.trainLinks (s : State) (links : List (Nat × Nat)) : State :=
  if s.domOn 7 then links.foldl (fun s p => if p.1 < 16 ∧ !(s.linkUp p.1) then s.linkTrained p.1 p.2 else s) s else s

/-- The Facets report the outputs they drive. -/
def State.showDriven (s : State) : State :=
  (List.range 128).foldl (fun s ch =>
    if isOut (s.chMode ch) && s.linkUp (ch / 8) then s.wr Reg.FCT_VALUE (ch / 8) (ch % 8) (s.chan ch).drv else s) s

/-- Every watched core has just kicked (R607). -/
def State.kickAll (s : State) : State :=
  let f := { s.tr.flt with kickAt := (List.range 4).foldl (fun t c => tset 0 t c s.mer.base) s.tr.flt.kickAt }
  { s with tr := { s.tr with flt := f } }

/-- Lattice starts with its first scan (R348); on a standby it follows. -/
def State.latStart (s : State) : State :=
  if s.latWords = [] then s
  else if s.standby then s.latState 3 2
  else
    let s1 := { s with lat := { s.lat with first := true, lastN := gridOf s.timeT + 1 } }
    (s1.latState 1 3).latScan

/-- The engines start: Vertex, Lattice, Tangent from the present outputs, Locus, Arc. -/
def State.engStart (s : State) : State :=
  let s1 := s.vtxStart.latStart
  let s2 := s1.loopsInit (fun s l => s.present l)
  let s3 := { s2 with loc := { s2.loc with lastN := locTickOf s2.timeT + 1 } }
  if s3.domOn 7 then (s3.takenArc ((s3.cfg.active.filter (fun kv => keyBlock kv.1 == 0xA)).map (fun kv => kv.1))).1 else s3

/-- Milliseconds since the trigger of a start. -/
def State.startMs (s : State) : Nat := Nat.min 65535 ((s.mer.base - s.sys.startBase) / 1000000)

/-! ### Warm restart (R88 to R95) -/

/-- An item fetched before the trigger completes: DONE where its effect was applied (R89). -/
def State.heldItem (s : State) (cause : Nat) (x : Inflight) : State :=
  if x.phase == .committed then
    let st := match s.intakeOf x.item.ring x.item.seq with
      | some ⟨_, _, .applied st, _⟩ => st
      | _ => stDone
    let d := fun (n : Nat) => if x.opcode = 0x0302 then x.note.getD n 0 else 0
    s.completeAt x.item (x.doneAt.getD s.now) st (d 0) (if x.opcode = 0x1215 then 3 else d 1) (d 2) 0
  else s.complete x.item stFault 0 0 (w32 cause)

/-- No transceiver. -/
def sfpNone : Sfp := ⟨[], []⟩

/-- The module reads the identity and the diagnostics of the transceivers in its J4 cages, and SYS_HWSTAT shows which
cage holds one (R54). -/
def State.sfpRead (s : State) (l : List (Nat × Sfp)) : State :=
  let t := l.foldl (fun t p => if p.1 < 2 then tset sfpNone t p.1 p.2 else t) []
  let has := fun (n : Nat) => if l.any (fun p => p.1 == n) then 1 else 0
  (({ s with sys := { s.sys with sfp := t } }).setF Fld.SYS_HWSTAT_SFP_A 0 0 (has 0)).setF Fld.SYS_HWSTAT_SFP_B 0 0 (has 1)

/-- The partner's heartbeats, on PAIRLINK, have shown the module at the end of its start that the partner is in a state
(R540). -/
def State.partnerHeard (s : State) (partner : Option Nat) : State :=
  match partner with
  | some st => if s.inPair then ({ s with mir := { s.mir with partnerState := st % 8 } }).pathGood 1 else s
  | none => s

/-- Steps 5 and 6 where PD_ENG is on: the configuration, and the process where the module does not rejoin as standby
(R93). The answer says whether it resumed. -/
def State.warmProcess (s : State) (badImage : Bool) (partner : Option Nat) : State × Bool :=
  let s1 := ((s.imageFind badImage).loadConfig true).showDriven
  let s2 := ((s1.inMode .running).partnerHeard partner).mirRole
  let cold := fun (s : State) =>
    let t := s.locCold
    { t with lat := { t.lat with mem := t.latCold }, sys := { t.sys with redo := [], redoNew := 0 } }
  if s2.mirState = 3 then (cold s2, false)
  else match s2.resumeFail, s2.newestCkpt with
    | 0, some c => (s2.sys.redo.foldl (fun s x => s.redoItem x.1 x.2) ((s2.resume c).outsDiffer c.proc.outs), true)
    | n, _ => (cold (s2.log 0x204E 0 (w32 n)), false)

/-- The warm restart from step 1 on. -/
def State.warmRun (s : State) (links : List (Nat × Nat)) (badImage : Bool) (partner : Option Nat) : State :=
  let cause := s.sys.restartCause
  let held := s.hif.inflight
  let on := (s.rd Reg.PWR_CTRL 0 0).toNat
  let s1 := s.wr Reg.PWR_STATUS 0 0 (switched.foldl (fun w n => if inSet on n && !(s.sys.rising.contains n) then
    putBits w n 1 1 else w) (s.rd Reg.PWR_STATUS 0 0))
  let s2 := (if s1.domOn 4 then s1.hlxStart 1 else s1).setF Fld.SYS_BOOT_LAST_START 0 0 2
  let s3 := (s2.trainLinks links).kickAll
  let (s4, res) := if s3.domOn 3 then s3.warmProcess badImage partner
    else (s3.inMode .running, false)
  let s5 := if s4.domOn 3 then s4.engStart else s4
  let s6 := (held.foldl (fun s x => s.heldItem cause x) s5).raiseFaults
  let s7 := match s6.sys.fpErr with
    | some (r, a) => if cause = 12 then s6.log 0x4104 r (w32 r) (w32 a) else s6
    | none => s6
  let s8 := if s7.domOn 4 then s7.prmStart 2 else s7
  let s9 := (s8.setF Fld.SYS_CHKSTAT_RESUMED 0 0 (if res then 1 else 0)).setF Fld.SYS_BOOT_DURATION 0 0 s8.startMs
  ({ s9 with sys := { s9.sys with fpErr := none } }).log 0x0049 0 (w32 cause) (w32 s9.startMs) (if res then 1 else 0)

/-- WARM_RESTART (R95): a trigger with its cause where none has begun; then the steps, once the five clocks of R26 are
present. `links` are the Facet links that retrain, with their delays; `env` is what the restart finds. -/
def execWarmRestart (cause : Nat) (links : List (Nat × Nat)) (env : WarmEnv) (s : State) : Host.Outcome State Fault Refusal :=
  let s1 := if s.sys.mode ≠ .warming ∧ 8 ≤ cause ∧ cause ≤ 11 then s.warmTrigger cause else s
  if s1.sys.mode = .warming ∧ [0, 1, 2, 9, 11].all (fun n => s1.clkOn n) then go (s1.warmRun links env.badImage env.partner) else go s1

/-! ### Cold start (R82 to R87) -/

/-- Registers after a cold start begins: those of PD_AON but FLT keep their values, unless the module was powered on. What
shows pins and the environment stands. -/
def State.coldRegs (s : State) (cause : Nat) : State :=
  let pin := fun (a : Nat) => a == 0x10000 || a == 0x40 || a == 0x48 || a == 0x24 || (0x150000 ≤ a && a < 0x160000 &&
    !(Reg.PER_STOP.covers a))
  let temp := s.rd Reg.SYS_TEMP 0 0
  let keep := fun (a : Nat) =>
    if cause = 0 then pin a else domainOf a == 0 && !(0x40000 ≤ a && a < 0x50000)
  let s1 := { s with regs := s.regs.filter (fun kv => keep kv.1) }
  let s2 := if cause = 0 then s1.wr Reg.SYS_TEMP 0 0 (putBits temp 24 8 100) else s1
  let trip := if cause = 0 then 0 else s.rd Reg.ARC_TRIP 0 0
  let s3 := ((s2.wr Reg.ARC_TRIP 0 0 trip).wr Reg.PWR_CTRL 0 0 0xFC).wr Reg.PWR_STATUS 0 0 0xFF
  let s4 := (s3.wr Reg.SYS_RESTART 0 0 (w32 (cause % 256))).setF Fld.SYS_CHKSTAT_RESUMED 0 0 0
  ((s4.setF Fld.SYS_CHKSTAT_PENDING 0 0 0).wr Reg.SYS_BOOT 0 0 0).setF Fld.SYS_BOOT_LAST_START 0 0 (if cause = 0 then 0 else 1)

/-- The parts of the state after a cold start begins. Meridian keeps its counter and offsets (R485). -/
def State.coldParts (s : State) : State :=
  let m := { s.mer with sv0 := servoReset, sv1 := servoReset, sv2 := servoReset, switching := false, active := 0,
                        rateT := 0, hist1 := [], hist2 := [], txts0 := [], txts1 := [], txtsOvf := [], txtsEpisode := [] }
  { s with mer := m, tr := { s.tr with hlx := hlxReset, flt := fltReset,
                                       vtx := { vtxReset with running := false }, pba := [] },
           hif := { hifReset with intake := s.sys.rmtIntake },
           cfg := { s.cfg with active := [], staged := [], jobs := [], waits := [], grant := none, regErr := false,
                               regErrAt := none },
           dram := [], vxl := vxlReset, mir := mirReset, tan := ⟨[], []⟩, lat := latReset, arc := ⟨[], []⟩, prm := prmReset,
           can := [], eth := ⟨[], [], [], 0, [], false, 0⟩,
           loc := { tracks := [], cq := [], born := [], slotT := [], slotPart := [], slotDead := [], pend := [], tokens := [], tokNo := 0,
                    lastN := 0 },
           fct := { s.fct with linkCfg := false, toPrm := [], lostEng := [], engBad := [] },
           sys := { s.sys with redo := [], redoNew := 0, unlocked := false, rising := [], falling := [], domCode := [],
                               poison := [], domSeq := [], rmtIntake := [], imgLen := 0 } }

/-- At power-on the trip latches start clear, and a source that is active sets its latch (R391): the inputs of J6 as they
read, an open one active (R56), and the Perimeter TRIP line. -/
def State.tripsOn (s : State) (trips : Nat) : State :=
  (List.range 10).foldl (fun s n =>
    if (if n = 9 then !s.per.linesOff else trips / 2 ^ n % 2 == 1) then s.arcTrip n true else s) s

/-- The image is copied from flash to DRAM, where it is write-protected (R82, steps 5 and 6). -/
def State.imageCopy (s : State) (i : Nat) : State :=
  let n := Nat.min (64 + s.imageLen i) imageSize
  { s with dram := memPut s.dram imageAt (memTake s.flash (imageBase i) n), sys := { s.sys with imgLen := n } }

/-- Step 7 for one Facet: every channel OFF (R83); then FCT_CAL begins (step 8). -/
def State.facetCold (s : State) (n : Nat) : State :=
  let f := s.facet n
  let s1 := { s with fct := { s.fct with own := dropFacet n s.fct.own } }
  let s2 := s1.setFacet n { facetIdle with perimOff := f.perimOff, supWarn := f.supWarn, supLow := f.supLow,
                                           calBusy := true, lastFrame := f.lastFrame, ffseq := f.ffseq,
                                           dack := f.dack, slices := f.slices, unfed := f.unfed, ack := 65 }
  ((facetChans n).foldl (fun s ch => s.setChan ch chanIdle) s2).setF Fld.FCT_CALSTAT_BUSY n 0 1

/-- Steps 7 to 9. -/
def State.coldFacets (s : State) (links : List (Nat × Nat)) : State :=
  let s1 := links.foldl (fun s p => if p.1 < 16 then s.facetCold p.1 else s) s
  let s2 := s1.trainLinks links
  (List.range 128).foldl (fun s ch =>
    if (List.range 4).any (fun r => (s.calSet ch r).isNone) then s.log 0x2051 ch else s) s2

/-- The image that a cold start runs, none for RECOVERY; with it the state behind the digest checks (R79, R87, R102). A
trial that is pending is gone when the straps force an image (DESIGN CHOICE: R79 does not say; notes/assumptions/124.md). -/
def State.bootImage (s : State) (sel : Nat) : Option Nat × State :=
  let want := if sel = 3 then s.sys.trialNext.getD s.sys.selector else if sel = 2 then 0 else 1
  let trial := sel = 3 ∧ s.sys.trialNext.isSome
  let s0 := { s with sys := { s.sys with trialNext := none } }
  if s0.imageOk want then (some want, if trial then s0.setF Fld.SYS_BOOT_TRIAL 0 0 1 else s0)
  else
    let s1 := s0.log 0x404A want
    if sel ≠ 3 then (none, s1)
    else if s1.imageOk (1 - want) then (some (1 - want), s1.setF Fld.SYS_BOOT_FALLBACK 0 0 1)
    else (none, s1.log 0x404A (1 - want))

/-- Steps 10 and 11. -/
def State.coldRunning (s : State) (badImage : Bool) (partner : Option Nat) : State :=
  let s1 := (((s.imageFind badImage).loadConfig false).showDriven).locCold
  let s2 := { s1 with lat := { s1.lat with mem := s1.latCold }, sys := { s1.sys with mode := .running } }
  (((s2.partnerHeard partner).mirRole).engStart).prmCold

/-- What a cold start of a cause sets first: registers, blocks, the modules and inputs that it finds. -/
def State.coldFirst (s : State) (cause : Nat) (env : StartEnv) : State :=
  let s1 := ((((s.coldRegs cause).coldParts).sfpRead env.sfp).hlxStart 0).restate
  if cause = 0 then s1.tripsOn env.trips else s1

/-- The strap pattern is read: event 0x104C where it differs from that of the start before (R79). -/
def State.strapRead (s : State) (straps : Nat) : State :=
  let s1 := (s.wr Reg.SYS_STRAP 0 0 (w32 (straps % 16))).setF Fld.SYS_HWSTAT_BASE_ID 0 0 s.sys.baseCode
  if straps % 16 = s1.sys.prevStrap then s1
  else
    let s2 := s1.log 0x104C 0 (w32 s1.sys.prevStrap) (w32 (straps % 16))
    { s2 with sys := { s2.sys with prevStrap := straps % 16 } }

/-- Event 0x2047 of a module without a valid base code (R46). -/
def State.baseTell (s : State) : State :=
  if s.sys.baseCode = 3 then s.log 0x2047 0 3 (s.rd Reg.SYS_HWSTAT 0 0) else s

/-- Event 0x4042 of a thermal shutdown before this start (R66). -/
def State.hotTell (s : State) : State :=
  if s.sys.hotEv then
    let s1 := { s with sys := { s.sys with hotEv := false } }
    s1.log 0x4042 0 (s1.rd Reg.SYS_TEMP 0 0)
  else s

/-- Event 0x4050 of a trial image that was not confirmed (R102). -/
def State.trialTell (s : State) : State :=
  match s.sys.trialBack with
  | some i =>
    let s1 := s.log 0x4050 0 (w32 i)
    { s1 with sys := { s1.sys with trialBack := none } }
  | none => s

/-- Steps 5 to 11 for the image found, with event 0x0048. -/
def State.coldImage (s : State) (i cause : Nat) (links : List (Nat × Nat)) (badImage : Bool) (partner : Option Nat) :
    State :=
  let s1 := ((s.setF Fld.SYS_BOOT_IMAGE 0 0 i).imageCopy i).kickAll
  let s2 := (s1.coldFacets links).coldRunning badImage partner
  (s2.setF Fld.SYS_BOOT_DURATION 0 0 s2.startMs).log 0x0048 0 (w32 (cause % 256)) (w32 i) (w32 s2.startMs)

/-- The cold start from its trigger on. -/
def State.coldRun (s : State) (straps : Nat) (links : List (Nat × Nat)) (env : StartEnv) : State :=
  let cause := s.sys.restartCause
  let s1 := ((((s.coldFirst cause env).strapRead straps).baseTell).hotTell).trialTell
  if straps % 16 / 4 = 0 then (s1.log 0x4052 0 (s1.rd Reg.SYS_STRAP 0 0)).inMode .halt
  else if straps % 4 = 0 then s1.inMode .halt
  else match s1.bootImage (straps % 4) with
    | (none, t) => (((t.log 0x404B 0).setF Fld.SYS_BOOT_RECOVERY 0 0 1).coldFacets links).inMode .recovery
    | (some i, t) => t.coldImage i cause links env.badImage env.partner

/-- COLD_START (R82): a trigger with its cause where none has begun, then the steps. `straps` is the strap pattern on J8,
`links` the Facet links that train, with their delays; `env` what the start finds around it. -/
def execColdStart (cause straps : Nat) (links : List (Nat × Nat)) (env : StartEnv) (s : State) : Host.Outcome State Fault Refusal :=
  let s1 := if s.sys.mode ≠ .starting ∧ [0, 1, 2, 3, 5, 6, 7].contains cause then s.coldBegin cause else s
  if s1.sys.mode = .starting then go (s1.coldRun straps links env) else go s1

/-! ### Reset sources (R75, R76) -/

/-- Whether a value written to SYS_RESET has its key and a type. -/
def resetKey (value : Word) (ty : Nat) : Bool := bitsOf value 16 16 == 0x5EB7 && bitsOf value 0 2 == ty

/-- SYS_RESET_WARM (R75, R96): a write of `value` to SYS_RESET. A checkpoint is taken before the restart begins. -/
def execSysResetWarm (value : Word) (s : State) : Host.Outcome State Fault Refusal :=
  if resetKey value 1 ∧ s.alive then
    go ((if s.sys.mode = .running ∧ s.domOn 3 then s.chkNow else s).warmTrigger 8)
  else go s

/-- SYS_RESET_COLD (R75). -/
def execSysResetCold (value : Word) (s : State) : Host.Outcome State Fault Refusal :=
  if resetKey value 2 ∧ s.alive then go (s.coldBegin 2) else go s

/-- SRST_RELEASE (R75). -/
def execSrstRelease (s : State) : Host.Outcome State Fault Refusal := if s.alive then go (s.coldBegin 1) else go s

/-- TRIAL_TIMEOUT (R102): the module cold-starts into the selector's image, and that start logs event 0x4050. The spec
names no cause for it: the low eight bits of the cause are free, and bit 8 keeps it apart from the causes of R75
(notes/assumptions/20.md). A module in STOPPED or in a warm restart does so too. -/
def execTrialTimeout (s : State) : Host.Outcome State Fault Refusal :=
  if s.bit Fld.SYS_BOOT_TRIAL 0 0 ∧ s.alive ∧ s.sys.mode ≠ .starting then
    let i := s.fld Fld.SYS_BOOT_IMAGE 0 0
    let r := s.fresh
    go (({ r.2 with sys := { r.2.sys with trialBack := some i } }).coldBegin (256 + r.1.toNat % 256))
  else go s

/-! ### Supply (R60, R76) -/

/-- SYS_LSUP shows LS, in units of 10 mV. -/
def State.lsShow (s : State) (volt : Nat) : State :=
  let v := volt % 65536
  let m := s.fld Fld.SYS_LSUP_MIN 0 0
  let s1 := (s.setF Fld.SYS_LSUP_VOLT 0 0 v).setF Fld.SYS_LSUP_MIN 0 0 (if m = 0 then v else Nat.min m v)
  s1.setF Fld.SYS_HWSTAT_LS_OK 0 0 (if 1920 ≤ v then 1 else 0)

/-- LS_SAG (R60): LS has been below 19.2 V for 1 ms. A value of 19.2 V or more is LS back in its range after a short dip:
SYS_LSUP and LS_OK show it, and nothing else happens. -/
def execLsSag (volt : Nat) (s : State) : Host.Outcome State Fault Refusal :=
  let s1 := s.lsShow volt
  if volt < 1920 then go (s1.log 0x2043 0 (s1.rd Reg.SYS_LSUP 0 0)) else go s1

/-- The intake of remote items goes to MRAM with the power-fail checkpoint; what has not been applied by then never will
be (R527). -/
def State.intakeSave (s : State) : State :=
  let shut := fun (e : IntakeEntry) => { e with verdict := if e.verdict = .inFlight then .notApplied stFault else e.verdict }
  { s with sys := { s.sys with rmtIntake := (s.hif.intake.filter (fun e => decide (128 ≤ e.ring))).map shut } }

/-- POWER_FAIL (R60): LS has been below 17.0 V for 10 ms. DRAM holds something to keep in self-refresh only where the module
ran, restarted or was stopped. A module that is already held in reset, or off for its temperature, is held in reset by the
power-fail as well. -/
def execPowerFail (volt : Nat) (s : State) : Host.Outcome State Fault Refusal :=
  if volt < 1700 ∧ s.sys.mode ≠ .powerFail ∧ s.sys.mode ≠ .unpowered then
    let s1 := s.lsShow volt
    let s2 := (s1.log 0x4044 0 (s1.rd Reg.SYS_LSUP 0 0)).intakeSave
    let s3 := if s2.sys.mode = .running ∧ s2.domOn 3 then s2.chkNow else s2
    let s4 := if s.sys.mode = .warming ∨ s.sys.mode = .stopped ∨ !s.alive then s3
      else (((s3.flkDown).engDown true).canRestart.ethRestart).acqDown true
    let keeps := s.sys.mode = .running ∨ s.sys.mode = .warming ∨ s.sys.mode = .stopped
    go { s4 with sys := { s4.sys with mode := .powerFail, selfRefresh := keeps, wasStopped := s.sys.mode = .stopped } }
  else go s

/-- SELF_REFRESH_LOST (R76): DRAM has lost its contents. -/
def execSelfRefreshLost (s : State) : Host.Outcome State Fault Refusal :=
  if s.sys.mode = .powerFail then go { s.dramLost with sys := { s.dramLost.sys with selfRefresh := false } } else go s

/-- The start behind a power-fail (R76): warm where self-refresh has held, cold otherwise. A module that was in STOPPED
stays in it, since only a cold start leaves it (R77). -/
def State.powerStart (s : State) : State :=
  if !(s.clkOn 4) ∨ s.sys.hot ∨ s.sys.oscLost then s.released
  else if !s.sys.selfRefresh then s.coldBegin 3
  else if s.sys.wasStopped then { s with sys := { s.sys with mode := .stopped, wasStopped := false } }
  else (s.inMode .warming).warmTrigger 4

/-- POWER_RELEASE (R60, R76): LS has stayed at 19.2 V or more for 100 ms, after power-on or after a power-fail. -/
def execPowerRelease (volt : Nat) (s : State) : Host.Outcome State Fault Refusal :=
  if volt < 1920 then go s
  else if s.sys.mode = .powerFail then go (s.lsShow volt).powerStart
  else if s.sys.mode = .unpowered then go ((s.lsShow volt).coldBegin 0)
  else go (s.lsShow volt)

/-! ### Hot swap, base coding (R46, R47, R68 to R72) -/

/-- BASE_ID_CHANGE (R47): the interpretation of the last cold start stands. -/
def execBaseIdChange (code : Nat) (s : State) : Host.Outcome State Fault Refusal :=
  let c := code % 4
  if c = s.sys.baseCode then go s
  else
    let s1 := { s with sys := { s.sys with baseCode := c } }
    if s.sys.mode = .unpowered then go s1 else go (s1.log 0x2047 0 (w32 c) (s1.rd Reg.SYS_HWSTAT 0 0))

/-- HOT_INSERTION (R68, orders 1 to 3): PD_AON starts in a module that was out of its base, with the lever open and the
base coding as read. What is nonvolatile has kept its contents, and the Facets power up with every channel OFF. The
Perimeter die has its own supply at J7 and stands as it was, with its lines to the Facets (R57, R74). -/
def execHotInsertion (base : Nat) (s : State) : Host.Outcome State Fault Refusal :=
  if s.sys.mode = .unpowered then
    let r := State.reset
    let hw := w32 (base % 4 * 256 + 0x21)
    let cfg := { r.cfg with image := s.cfg.image, slots := s.cfg.slots, journal := s.cfg.journal, imageId := s.cfg.imageId,
                            journalUsed := s.cfg.journalUsed, slot := s.cfg.slot }
    let sys := { r.sys with mode := .unpowered, baseCode := base % 4, prevStrap := s.sys.prevStrap,
                            trialNext := s.sys.trialNext, trialBack := s.sys.trialBack, ckpt0 := s.sys.ckpt0,
                            ckpt1 := s.sys.ckpt1, selector := s.sys.selector, rmtIntake := s.sys.rmtIntake }
    let facets := (List.range 16).foldl (fun t n =>
      tset facetIdle t n { facetReset with perimOff := (s.facet n).perimOff }) []
    let t := { r with pending := s.pending, cfg := cfg, sys := sys, mram := s.mram, flash := s.flash, host := s.host,
                      out := s.out, free := s.free, tr := { r.tr with msix := s.tr.msix }, per := s.per,
                      fct := { r.fct with facets := facets } }
    go ((t.wr Reg.SYS_HWSTAT 0 0 hw).wr Reg.SYS_CHKSTAT 0 0 (s.rd Reg.SYS_CHKSTAT 0 0 &&& 0xC0000000))
  else go s

/-- PRESENCE_SETTLED (R68, orders 4 and 5). -/
def execPresenceSettled (s : State) : Host.Outcome State Fault Refusal :=
  if s.sys.mode = .unpowered then
    go (((s.setF Fld.SYS_HWSTAT_PRES_A 0 0 1).setF Fld.SYS_HWSTAT_PRES_B 0 0 1).coldBegin 0)
  else go s

/-- LEVER_OPEN (R70). -/
def execLeverOpen (s : State) : Host.Outcome State Fault Refusal :=
  let s1 := s.setF Fld.SYS_HWSTAT_LATCH 0 0 1
  go (s1.log 0x0045 0 (s1.rd Reg.SYS_HWSTAT 0 0))

/-- LEVER_CLOSE (R68). -/
def execLeverClose (s : State) : Host.Outcome State Fault Refusal := go (s.setF Fld.SYS_HWSTAT_LATCH 0 0 0)

/-- PRESENCE_CONTACT_LOST (R71): 0 PRES_A, 1 PRES_B; no other action. -/
def execPresenceContactLost (contact : Nat) (s : State) : Host.Outcome State Fault Refusal :=
  if contact < 2 then
    let s1 := s.setF (if contact = 0 then Fld.SYS_HWSTAT_PRES_A else Fld.SYS_HWSTAT_PRES_B) 0 0 0
    go (s1.log 0x0046 contact (s1.rd Reg.SYS_HWSTAT 0 0))
  else go s

/-- What a module that is being removed tells the system over Vexlink: its leave, with cause 1 (R530), and the outcome of
the remote items it holds (R527; DEDUCED, notes/assumptions/125.md). -/
def State.leaveTold (s : State) : State :=
  let s1 := if s.admitted && !s.isManager && s.sys.mode == .running then s.sendTo 6 0 kLeave [w32 s.device, 1] else s
  s1.remoteLeave

/-- PRESENCE_LOST (R70, R71, R72): both contacts have read 0 for 5 us. A member of a pair tells its partner; with the active
one, the partner's takeover is a handover from this instant (R559). -/
def execPresenceLost (s : State) : Host.Outcome State Fault Refusal :=
  let s1 := (s.setF Fld.SYS_HWSTAT_PRES_A 0 0 0).setF Fld.SYS_HWSTAT_PRES_B 0 0 0
  let pair := s1.inPair && s1.bit Fld.MIR_STATUS_PARTNER 0 0 && s1.sys.mode == .running
  let s2 := ({ s1 with sys := { s1.sys with gone := some (s1.mer.base, pair && s1.mirState == 2) } }).leaveTold
  if !pair then go s2
  else
    let s3 := s2.emit .leaveNotice
    if s3.mirState = 2 then go ({ s3 with mir := { s3.mir with switchAt := s3.timeT } }).switchHold else go s3

/-- Whether the removal must still wait: a partner that is to take over has not confirmed it, by leaving this member
standby or by a heartbeat that says ACTIVE, and 100 us have not passed (R72). -/
def State.goneWait (s : State) (at0 : Nat) (takeover : Bool) : Bool :=
  takeover && s.mirState == 2 && s.mir.partnerState != 2 && decide (s.mer.base < at0 + 100000)

/-- REMOVAL_OUTPUTS_OFF (R70, R72): every Facet output is off; the contacts break behind it, and the module is out of its
base, without LS and field supplies. Event 0x0046 of a whole removal carries instance 0 (DESIGN CHOICE: R71 gives an
instance for one contact only; notes/assumptions/124.md). -/
def execRemovalOutputsOff (s : State) : Host.Outcome State Fault Refusal :=
  match s.sys.gone with
  | none => go s
  | some (b, takeover) =>
    if s.goneWait b takeover then go s
    else
      let s1 := (List.range 16).foldl (fun s n =>
        (s.setFacet n { s.facet n with released := true, unfed := true }).redriveAll n) s
      let s2 := s1.log 0x0046 0 (s1.rd Reg.SYS_HWSTAT 0 0)
      go { s2.lsShow 0 with sys := { s2.sys with gone := none, mode := .unpowered } }

/-! ### Temperature (R66) -/

/-- A temperature in two's complement as its signed value. -/
def sByte (n : Nat) : Int := signBits n 8

/-- SYS_TEMP shows the junction and the board temperature, and the highest junction temperature since its last read
(R65). -/
def State.tempShow (s : State) (junction board : Int) : State :=
  let j := (junction % 256).toNat
  let p := s.fld Fld.SYS_TEMP_PEAK 0 0
  let peak := if !s.sys.peakSeen ∨ sByte p < junction then j else p
  let s1 := ((s.setF Fld.SYS_TEMP_JUNCTION 0 0 j).setF Fld.SYS_TEMP_BOARD 0 0 (board % 256).toNat).setF
    Fld.SYS_TEMP_PEAK 0 0 peak
  { s1 with sys := { s1.sys with peakSeen := true } }

/-- TEMP_WARN. -/
def execTempWarn (temps : Temps) (s : State) : Host.Outcome State Fault Refusal :=
  let s1 := s.tempShow temps.junction temps.board
  if (s.fld Fld.SYS_TEMP_TEMP_WARN 0 0 : Int) < temps.junction then go (s1.log 0x2040 0 (s1.rd Reg.SYS_TEMP 0 0)) else go s1

/-- TEMP_CRITICAL: event 0x4041 and no further action. -/
def execTempCritical (temps : Temps) (s : State) : Host.Outcome State Fault Refusal :=
  let s1 := s.tempShow temps.junction temps.board
  if 115 < temps.junction then go (s1.log 0x4041 0 (s1.rd Reg.SYS_TEMP 0 0)) else go s1

/-- THERMAL_SHUTDOWN: every power domain but PD_AON and PD_SAFE is switched off. A module that is held in reset for another
reason stays held for it as well. -/
def execThermalShutdown (temps : Temps) (s : State) : Host.Outcome State Fault Refusal :=
  let s1 := s.tempShow temps.junction temps.board
  if 125 ≤ temps.junction ∧ !s.sys.hot ∧ s.sys.mode ≠ .unpowered then
    let s2 := switched.reverse.foldl (fun s n => if bitOf (s.rd Reg.PWR_STATUS 0 0) n then s.domEvent n 0x04C1 else s) s1
    let s3 := (s2.allDown.wr Reg.PWR_STATUS 0 0 3).dramLost
    go { s3 with sys := { s3.sys with mode := if s.alive then .thermalOff else s.sys.mode, hot := true, hotEv := true,
                                      selfRefresh := false, rising := [], falling := [] } }
  else go s1

/-- THERMAL_RECOVERY: the junction has fallen below 100 degrees. -/
def execThermalRecovery (temps : Temps) (s : State) : Host.Outcome State Fault Refusal :=
  let s1 := s.tempShow temps.junction temps.board
  if temps.junction < 100 ∧ s.sys.hot then
    let s2 := { s1 with sys := { s1.sys with hot := false } }
    go (if s.sys.mode = .thermalOff then s2.released else s2)
  else go s1

end Sys2Proof.Machine
end

