-- ==== Sys2Proof/Machine/Flt.lean ====
section
/-! DEFINITION. The fault queue's commands, error correction, the integrity checks of MRAM and flash, and the watchdogs
(spec/21_faults_ecc.md). -/

namespace Sys2Proof.Machine

/-! ### The fault queue (R595 to R599) -/

/-- FAULT_ENTRY (R595, R596, R598): an event of severity 1 to 3 with its stamp and Helix sequence number reaches the
queue. -/
def execFaultEntry (e : Event) (st : Stamp) (seq : Word) (s : State) : Host.Outcome State Fault Refusal :=
  go (s.report [Work.flt e st seq])

/-- FLT_HACK (R597): the presented entry of a severity leaves, and the next is presented. -/
def execFltHack (sev : Nat) (s : State) : Host.Outcome State Fault Refusal :=
  if s.alive ∧ (s.tr.flt.pres sev).isSome then
    go { s with tr := Trace.present s { s.tr with flt := s.tr.flt.setPres sev none } }
  else go s

/-! ### Corrected words (R601 to R603) -/

/-- An hour in ns. -/
def hourNs : Nat := 3600000000000

/-- A corrected word of a region (R603). Its times of the last hour tell when the threshold is reached; no more of them
than the largest threshold are kept. -/
def State.corrected (s : State) (region addr : Nat) : State :=
  let s1 := s.incF Fld.FLT_ECC_CE_COUNT 0 0 1
  let s2 := (((s1.setF Fld.FLT_ECC_LAST_VALID 0 0 1).setF Fld.FLT_ECC_LAST_UE 0 0 0).setF Fld.FLT_ECC_LAST_REGION 0 0
    region).wr Reg.FLT_ECC_ADDR 0 0 (w32 addr)
  let ts := (s.mer.base :: (tget [] s.tr.flt.ceTimes region).filter (fun b => s.mer.base < b + hourNs)).take 256
  let s3 := { s2 with tr := { s2.tr with flt := { s2.tr.flt with ceTimes := tset [] s2.tr.flt.ceTimes region ts } } }
  let s4 := s3.logLim 1000000000 0xF100 region (fun n => (w32 n, 0))
  if s4.fld Fld.FLT_SCRUB_CE_THR 0 0 ≤ ts.length then
    let key := 0x2101 * 65536 + region
    if s4.tr.due s4 key hourNs then
      ({ s4 with tr := { s4.tr with lastLog := tset 0 s4.tr.lastLog key (s4.mer.base + 1) } }).log 0x2101 region
        (w32 ts.length)
    else s4
  else s4

/-- ECC_CORRECTED (R601, R603): `addr` is the burst's address / 64, or the word's index. -/
def execEccCorrected (region addr : Nat) (s : State) : Host.Outcome State Fault Refusal :=
  if region < 14 ∧ s.alive then go (s.corrected region addr) else go s

/-- PATROL_SCRUB (R602): the patrol's progress. A pass of DRAM that ends is counted. -/
def execPatrolScrub (percent : Nat) (dram : Bool) (s : State) : Host.Outcome State Fault Refusal :=
  if dram ∧ s.alive then
    let s1 := s.setF Fld.FLT_SCRUBST_PERCENT 0 0 (Nat.min 100 percent)
    go (if 100 ≤ percent then s1.incF Fld.FLT_SCRUBST_PASSES 0 0 1 else s1)
  else go s

/-! ### Uncorrectable words (R600, R604) -/

/-- Event 0x4102 of a region that is rebuilt. -/
def State.ueRebuilt (s : State) (region addr : Nat) : State := (s.ueNote region addr true).log 0x4102 region (w32 addr) 1

/-- A burst of the DRAM core region is poisoned. -/
def State.uePoisoned (s : State) (region addr : Nat) : State :=
  let s1 := { s with sys := { s.sys with poison := addr :: s.sys.poison.filter (fun b => b != addr) } }
  (s1.ueNote region addr false).log 0x4102 region (w32 addr) 0

/-- A kept record without the entries of a burst of the record buffer; with it those entries. -/
def State.keptCut (s : State) (addr : Nat) : State × List (List Word) :=
  let a := addr * 64
  s.prm.kept.foldl (fun (r : State × List (List Word)) k =>
    let at0 := 0xF0000000 + k.2.1
    let n := k.2.2 / 32
    let hit := fun (i : Nat) => (at0 + 32 * i) / 64 * 64 == a
    let all := (List.range n).map (fun i => (i, memWords r.1.dram (at0 + 32 * i) 8))
    let bad := all.filter (fun x => hit x.1)
    if bad = [] then r
    else
      let rest := (all.filter (fun x => !(hit x.1))).map (fun x => x.2)
      let kept := r.1.prm.kept.map (fun j => if j = k then (k.1, k.2.1, 32 * rest.length) else j)
      ({ r.1 with dram := memPutWords r.1.dram at0 rest.flatten, prm := { r.1.prm with kept := kept } },
        r.2 ++ bad.map (fun x => x.2))) (s, [])

/-- The Prism backlog and record buffer: an entry in the damaged burst is discarded and counts in a GAP entry with cause
BACKLOG (R412, R413). -/
def State.uePrism (s : State) (addr : Nat) : State :=
  let p := s.prm
  let ns := ((List.range (p.bkTail - p.bkHead)).map (fun i => p.bkHead + i)).filter (fun n =>
    bkAddr n / 64 == addr && !(p.bkBad.contains n))
  let (s1, bad) := (s.setPrm { p with bkBad := p.bkBad ++ ns }).keptCut addr
  if bad = [] ∨ !s1.streams then s1
  else
    let s2 := if s1.prm.gap.isNone then s1.log 0x22C2 0 (w32 (p.bkTail - p.bkHead)) else s1
    s2.setPrm { s2.prm with gap := bad.foldl (fun g ws => some (GapAcc.add g ws)) s2.prm.gap }

/-- A Vertex item is discarded and counts in its source's LOST (R355). -/
def State.ueVertex (s : State) (slot : Nat) : State :=
  match s.tr.vtx.items.find? (fun i => i.slot == slot) with
  | some i =>
    let v := s.tr.vtx.finish i
    s.setVtx { v with srcLost := tset 0 v.srcLost i.source (satAdd 65535 (tget 0 v.srcLost i.source) 1),
                      srcEpisode := tset false v.srcEpisode i.source true,
                      lostAll := satAdd 0xFFFFFFFF v.lostAll 1 }
  | none => s

/-- A staged field is discarded: the `n`th of the staging area. -/
def State.ueStaged (s : State) (n : Nat) : State :=
  match s.cfg.staged[n]? with
  | some kv => { s with cfg := { s.cfg with staged := tabDel s.cfg.staged kv.1 } }
  | none => s

/-- What a rebuilt region loses. `obj` is the object that the word belongs to: a loop, an entry of the coordinate table,
the handle slot of an item, the place of a staged field, a place in the log; 0 to 15 a Facet's crossing to CK_ACQ, and 16
to 31 its crossing to CK_ENG. -/
def State.ueLoss (s : State) (region addr obj : Nat) : State :=
  if region = 2 then s.uePrism addr
  else if region = 3 then { s with dram := memPutWords s.dram (addr * 64) (List.replicate 16 0) }
  else if region = 5 then
    s.setHlx { s.tr.hlx with log := s.tr.hlx.log.filter (fun r => r.seq.toNat % 16384 != obj) }
  else if region = 7 then (if obj < 256 ∧ s.loopEn obj then s.setLoop obj { s.loop obj with ecc := true } else s)
  else if region = 8 then (if obj < 4096 then s.setCo obj { s.co obj with q := 15 } else s)
  else if region = 9 then s.ueVertex obj
  else if region = 10 then s.ueStaged obj
  else if region = 11 then (if obj < 32 then s.crossingUe (obj % 16) (obj / 16) else s)
  else s

/-- A fault-path error (R600): the stop request of FP_STOP, and a warm restart with CAUSE 12. -/
def State.faultPath (s : State) (region addr : Nat) : State :=
  let stop := s.fld Fld.FLT_CTRL_FP_STOP 0 0
  let req := s.fld Fld.PER_STOP_REQ 0 0
  let s1 := (s.setF Fld.PER_STOP_REQ 0 0 (req ||| stop)).ueNote region addr false
  let s2 := { s1 with sys := { s1.sys with fpErr := some (region, addr) } }
  s2.warmTrigger 12

/-- ECC_UNCORRECTABLE (R604): `addr` is the burst's address / 64, or the word's index, `obj` the object it belongs to;
`dirty` tells a dirty line of the L2. Region 12 with `obj` 1 on a standby is its Mirror image: it leaves SYNCED and asks
for a full transfer. -/
def execEccUncorrectable (region addr obj : Nat) (dirty : Bool) (s : State) : Host.Outcome State Fault Refusal :=
  if !s.alive then go s
  else if region = 0 ∨ (region = 4 ∧ dirty) then go (s.uePoisoned region addr)
  else if region < 12 then
    let s1 := (s.ueLoss region addr obj).ueRebuilt region addr
    go (if region = 10 ∧ obj < s.cfg.staged.length then s1.log 0x20C4 0 1 else s1)
  else if region = 12 ∧ obj = 1 ∧ (s.mirState = 3 ∨ s.mirState = 4) then
    let s1 := (if s.mirState = 4 then s.syncLeft 3 else s).ueNote region addr false
    go { s1 with mir := { s1.mir with resync := true } }
  else if region < 14 then go (s.faultPath region addr)
  else go s

/-! ### MRAM and flash (R605, R606) -/

/-- A checkpoint slot counts as invalid (R42). -/
def State.ckptBad (s : State) (n : Nat) : State :=
  let s1 := { s with sys := { s.sys with ckpt0 := if n = 0 then none else s.sys.ckpt0,
                                         ckpt1 := if n = 0 then s.sys.ckpt1 else none } }
  if s.bit Fld.SYS_CHKSTAT_VALID 0 0 ∧ s.fld Fld.SYS_CHKSTAT_SLOT 0 0 = n then
    let other := if n = 0 then s1.sys.ckpt1 else s1.sys.ckpt0
    if other.isSome then s1.setF Fld.SYS_CHKSTAT_SLOT 0 0 (1 - n) else s1.setF Fld.SYS_CHKSTAT_VALID 0 0 0
  else s1

/-- The committed configuration ends before a damaged journal entry, and CFG writes a full image from it. Which entry an
address belongs to is a free value: the spec does not state the journal's layout. -/
def State.journalCut (s : State) : State :=
  if s.cfg.journal = [] then s
  else
    let (w, s1) := s.fresh
    let j := s1.cfg.journal.take (w.toNat % s1.cfg.journal.length)
    let base := (tget none s1.cfg.slots s1.cfg.slot).getD (0, [])
    let t := j.foldl (fun t e => cfgPut t e.2) base.2
    let id := match j.getLast? with
      | some e => e.1
      | none => base.1
    { s1 with cfg := { s1.cfg with journal := j, image := t, imageId := id, writingImage := true } }

/-- A calibration record is damaged: the channel runs with nominal factors until a valid set is written (R85). -/
def State.calBad (s : State) (k : Nat) : State :=
  let s1 := { s with mram := memPut s.mram (0x03000000 + 32 * k) (List.replicate 32 0),
                     fct := { s.fct with cals := tset none s.fct.cals k none } }
  (s1.showCal (k / 4)).log 0x2051 (k / 4)

/-- A read that the MRAM reports uncorrectable, by its address. -/
def State.mramBad (s : State) (a : Nat) : State :=
  let s1 := s.log 0x4106 0 (w32 a)
  if a < 0x01000000 then s1.ckptBad 0
  else if a < 0x02000000 then s1.ckptBad 1
  else if a < 0x02E00000 then
    let n := if a < 0x02700000 then 0 else 1
    if n = s1.cfg.slot then { s1 with cfg := { s1.cfg with imageBad := true } }
    else { s1 with cfg := { s1.cfg with slots := tset none s1.cfg.slots n none } }
  else if a < 0x03000000 then s1.journalCut
  else if a < 0x03004000 then s1.calBad ((a - 0x03000000) / 32)
  else s1

/-- MRAM_STATUS_POLL (R605): corrected reads, and the addresses of uncorrectable ones, since the last poll. -/
def execMramStatusPoll (ce : Nat) (ue : List Nat) (s : State) : Host.Outcome State Fault Refusal :=
  if s.alive then
    go (ue.foldl (fun s a => s.mramBad a) ((s.incF Fld.FLT_MRAM_CE 0 0 ce).incF Fld.FLT_MRAM_UE 0 0 ue.length))
  else go s

/-- One integrity mismatch: 0 image A, 1 image B, 2 identity. -/
def State.flashBad (s : State) (f : Fld) (n : Nat) : State := (s.setF f 0 0 1).log 0x4107 n

/-- FLASH_CHECK (R606): the digests of both images, and the CRC of the identity data; where that CRC lies the spec does
not state, and `identBad` tells its result. -/
def execFlashCheck (identBad : Bool) (s : State) : Host.Outcome State Fault Refusal :=
  if s.alive then
    let s1 := if s.imageOk 0 then s else s.flashBad Fld.FLT_FLASH_A_BAD 0
    let s2 := if s.imageOk 1 then s1 else s1.flashBad Fld.FLT_FLASH_B_BAD 1
    go (if identBad then s2.flashBad Fld.FLT_FLASH_IDENT_BAD 2 else s2)
  else go s

/-! ### Watchdogs (R607, R608) -/

/-- FLT_WDKICK: a write with the key kicks the cores it names. -/
def execFltWdkick (value : Word) (s : State) : Host.Outcome State Fault Refusal :=
  if s.alive ∧ bitsOf value 16 16 = 0x4B1C then
    let f := { s.tr.flt with kickAt := (List.range 4).foldl (fun t c =>
      if bitOf value c then tset 0 t c s.mer.base else t) s.tr.flt.kickAt }
    go { s with tr := { s.tr with flt := f } }
  else go s

/-- The value that a write to FLT_WD leaves: CORES 0 and MS outside 1 to 10,000 are clamped. -/
def fltWdOf (value : Word) : Word :=
  let cores := bitsOf value 28 4
  let ms := bitsOf value 0 16
  w32 ((if cores = 0 then 1 else cores) * 268435456 + Nat.max 1 (Nat.min 10000 ms))

/-- FLT_WD_WRITE: the watch, and every core's count restarts. -/
def execFltWdWrite (value : Word) (s : State) : Host.Outcome State Fault Refusal :=
  if s.alive then go ((s.wr Reg.FLT_WD 0 0 (fltWdOf value)).kickAll) else go s

/-- The watched cores that have not kicked for FLT_WD.MS, as a mask. -/
def State.lateCores (s : State) : Nat :=
  (List.range 4).foldl (fun m c =>
    if bitOf (s.rd Reg.FLT_WD 0 0) (28 + c) ∧
        tget 0 s.tr.flt.kickAt c + s.fld Fld.FLT_WD_MS 0 0 * 1000000 ≤ s.mer.base then m + 2 ^ c else m) 0

/-- An expiry is recorded with its source, and the cores restart with CAUSE 9. -/
def State.wdExpire (s : State) (source late : Nat) : State :=
  (((s.setF Fld.FLT_WDSTAT_SOURCE 0 0 source).setF Fld.FLT_WDSTAT_LATE 0 0 late).incF Fld.FLT_WDSTAT_COUNT 0 0
    1).warmTrigger 9

/-- CORE_WDT_EXPIRY (R607): with no core late, nothing happens. -/
def execCoreWdtExpiry (s : State) : Host.Outcome State Fault Refusal :=
  if s.sys.mode = .running ∧ s.lateCores ≠ 0 then go (s.wdExpire 1 s.lateCores) else go s

/-- Whether the engine of a watchdog source is watched now (R608). -/
def State.engWatched (s : State) (source : Nat) : Bool :=
  if source = 2 then s.domOn 3 && (List.range 256).any (fun l => s.loopEn l)
  else if source = 3 then s.domOn 3
  else if source = 4 then s.domOn 3 && s.fld Fld.LAT_STATUS_STATE 0 0 == 1
  else if source = 5 then s.domOn 3 && !s.tr.vtx.items.isEmpty
  else if source = 6 ∨ source = 7 then s.domOn 4
  else false

/-- ENGINE_WDT_EXPIRY (R608): `us` is the time since the last progress. The core watchdog expires at once. -/
def execEngineWdtExpiry (source us : Nat) (s : State) : Host.Outcome State Fault Refusal :=
  let limit := if source = 4 then 1000 + s.cfN Cf.LAT_SCAN_PERIOD 0 else 1000
  if s.sys.mode = .running ∧ s.engWatched source ∧ limit ≤ us then
    let s1 := s.log 0x4108 source (w32 us)
    go (s1.wdExpire source s1.lateCores)
  else go s

end Sys2Proof.Machine
end

