-- ==== Sys2Proof/Machine/View.lean ====
section
/-! DEFINITION. What a read of a register returns (R14): the stored word, or for a register that shows a block's own
structure that structure's value. -/

namespace Sys2Proof.Machine

/-! ### Making words -/

/-- A word made of fields; a value stops at the largest its field holds. -/
def pack (l : List (Fld × Nat)) : Word :=
  l.foldl (fun w fv => putBits w fv.1.lo fv.1.wd (Nat.min (2 ^ fv.1.wd - 1) fv.2)) 0

/-- 1 for true. -/
def b2n (b : Bool) : Nat := if b then 1 else 0

/-- An integer as a word, held to the range of its 32 bits. -/
def wSat (i : Int) : Word := wInt (if i < -2147483648 then -2147483648 else if 2147483647 < i then 2147483647 else i)

/-- The first and second index of the copy of a register at an offset. -/
def Reg.idx (r : Reg) (a : Nat) : Nat × Nat :=
  let d := a - r.base
  let i := if r.n1 ≤ 1 then 0 else d / r.s1
  (i, if r.n2 ≤ 1 then 0 else (d - i * r.s1) / r.s2)

/-! ### Block by block -/

/-- SYS, HIF and CFG. -/
def State.viewSys (s : State) (r : Reg) (a : Nat) : Word :=
  if r = Reg.SYS_CHKAGE then
    match s.newestCkpt with
    | some c => pack [(Fld.SYS_CHKAGE_AGE, s.ckptAge c / 1000000)]
    | none => Config.noAge s.mer.base
  else if r = Reg.HIF_INTAKE then pack [(Fld.HIF_INTAKE_INFLIGHT, s.openItems)]
  else if r = Reg.CFG_STATUS then
    pack [(Fld.CFG_STATUS_BUSY, b2n s.cfg.grant.isSome), (Fld.CFG_STATUS_REGERR, b2n s.cfg.regErr),
      (Fld.CFG_STATUS_SLOT, s.cfg.slot), (Fld.CFG_STATUS_USED, 8 * s.cfg.staged.length)]
  else if r = Reg.CFG_IMAGE then w32 s.cfg.imageId
  else if r = Reg.CFG_IMAGE_HI then s.cfg.imageHiLatch
  else if r = Reg.CFG_JOURNAL then pack [(Fld.CFG_JOURNAL_USED, s.cfg.journalUsed)]
  else if r = Reg.CFG_DATA then
    let k := s.cfgNamed.1
    (s.stagedAt k).getD (tabGet cfgDefault s.cfg.active k)
  else s.rdA a

/-- A register of a presented fault entry. -/
def FltEntry.view (e : FltEntry) (r : Reg) : Word :=
  if r = Reg.FLT_HINFO then pack [(Fld.FLT_HINFO_VALID, 1), (Fld.FLT_HINFO_INSTANCE, e.inst), (Fld.FLT_HINFO_CODE, e.code)]
  else if r = Reg.FLT_HSEQ then e.seq
  else if r = Reg.FLT_HNS then e.ns
  else if r = Reg.FLT_HSEC then e.sec
  else if r = Reg.FLT_HP0 then e.p0
  else e.p1

/-- FLT. -/
def State.viewFlt (s : State) (r : Reg) (a : Nat) : Word :=
  let f := s.tr.flt
  if r = Reg.FLT_STATUS then
    pack [(Fld.FLT_STATUS_OVF, b2n f.ovf), (Fld.FLT_STATUS_SEV3, b2n (f.all.any (fun e => e.sev == 3))),
      (Fld.FLT_STATUS_LEVEL, f.level), (Fld.FLT_STATUS_WAITMAX, f.waitMax), (Fld.FLT_STATUS_DEPTH, f.depth)]
  else if r = Reg.FLT_OVFCNT then w32 f.ovfCnt
  else if [Reg.FLT_HINFO, Reg.FLT_HSEQ, Reg.FLT_HNS, Reg.FLT_HSEC, Reg.FLT_HP0, Reg.FLT_HP1].contains r then
    match f.pres ((r.idx a).1 + 1) with
    | some e => e.view r
    | none => 0
  else s.rdA a

/-- Meridian. -/
def State.viewMer (s : State) (r : Reg) (a : Nat) : Word :=
  let m := s.mer
  let n := (r.idx a).1
  let v := m.sv n
  let ns := fun (x : Int) => wSat (x / 4294967296)
  if r = Reg.MER_STATUS then
    pack [(Fld.MER_STATUS_TSTATE, m.tstate), (Fld.MER_STATUS_LOCKED, b2n s.locked),
      (Fld.MER_STATUS_SWITCHING, b2n m.switching), (Fld.MER_STATUS_STAMP_BAD, b2n m.stampBad),
      (Fld.MER_STATUS_SET, b2n m.set), (Fld.MER_STATUS_ACTIVE, m.active)]
  else if r = Reg.MER_DIFF then
    (if m.active = 2 then ns (m.offT - m.offA) else if m.active = 3 then ns (m.offT - m.offB)
      else if m.active = 1 then ns m.sv0.last else 0)
  else if r = Reg.MER_RATE then wInt m.rateT
  else if r = Reg.MER_SV_STAT then pack [(Fld.MER_SV_STAT_STATE, v.state), (Fld.MER_SV_STAT_INCOUNT, v.inCount)]
  else if r = Reg.MER_SV_RATE then wInt v.rate
  else if r = Reg.MER_SV_LAST then ns v.last
  else if r = Reg.MER_SV_AGE then
    match v.lastBase with
    | some b => pack [(Fld.MER_SV_AGE_VALUE, (m.base - b) / 1000000)]
    | none => 0
  else if r = Reg.MER_TXTS_STAT then
    pack [(Fld.MER_TXTS_STAT_OVF, tget 0 m.txtsOvf n), (Fld.MER_TXTS_STAT_COUNT, (m.txts n).length)]
  else match (m.txts n).head? with
    | some x =>
      if r = Reg.MER_TXTS_ID then
        pack [(Fld.MER_TXTS_ID_DOMAIN, x.domain), (Fld.MER_TXTS_ID_MSGTYPE, x.msgType), (Fld.MER_TXTS_ID_SEQID, x.seqId)]
      else if r = Reg.MER_TXTS_NS then stNs x.stamp
      else if r = Reg.MER_TXTS_SEC then stSec x.stamp
      else s.rdA a
    | none => s.rdA a

/-- Vertex. -/
def State.viewVtx (s : State) (r : Reg) (a : Nat) : Word :=
  let v := s.tr.vtx
  let n := (r.idx a).1
  let serv := v.items.filter (fun i => match i.phase with | .inService _ => true | _ => false)
  if r = Reg.VTX_STATUS then
    pack [(Fld.VTX_STATUS_INSERV, serv.length), (Fld.VTX_STATUS_STORED, v.items.length)]
  else if r = Reg.VTX_LOSTALL then w32 v.lostAll
  else if r = Reg.VTX_UNMAPPED then
    pack [(Fld.VTX_UNMAPPED_SOURCE, v.unmapSrc), (Fld.VTX_UNMAPPED_COUNT, v.unmapCnt)]
  else if r = Reg.VTX_BADDONE then
    pack [(Fld.VTX_BADDONE_COUNT, v.badCnt), (Fld.VTX_BADDONE_HANDLE, v.badHandle)]
  else if r = Reg.VTX_CORE_STAT then
    putBits (s.rdA a) Fld.VTX_CORE_STAT_INSERV.lo Fld.VTX_CORE_STAT_INSERV.wd
      (v.items.filter (fun i => i.phase == .inService n)).length
  else if r = Reg.VTX_Q_STAT then
    let d := (v.items.filter (fun i => i.queue == n && (i.phase == .waiting || i.phase == .released))).length
    pack [(Fld.VTX_Q_STAT_DEPTH, d), (Fld.VTX_Q_STAT_CNT, (tget 0 v.cnt n % 65536).toNat)]
  else if r = Reg.VTX_Q_DISP then tget 0 v.qDisp n
  else if r = Reg.VTX_SRC_SEQ then tget 0 v.srcSeq n
  else if r = Reg.VTX_SRC_LOST then pack [(Fld.VTX_SRC_LOST_HELD, (v.items.filter (fun i => i.source == n)).length)]
  else if r = Reg.VTX_FLOW then
    let mine := v.items.filter (fun i => i.flow == some n)
    let busy := serv.find? (fun i => i.flow == some n)
    pack [(Fld.VTX_FLOW_BUSY, b2n busy.isSome),
      (Fld.VTX_FLOW_WAITING, (mine.filter (fun i => i.phase == .waiting || i.phase == .released)).length),
      (Fld.VTX_FLOW_HANDLE, match busy with | some i => i.handle | none => 0)]
  else s.rdA a

/-- Tangent and Lattice. -/
def State.viewTan (s : State) (r : Reg) (a : Nat) : Word :=
  let n := (r.idx a).1
  if r = Reg.TAN_GAIN then s.cf ⟨7, 0x20 + n⟩ (s.fld Fld.TAN_GSEL_LOOP 0 0) (r.idx a).2
  else if r = Reg.TAN_KFF then s.cf Cf.TAN_KFF n 0
  else if r = Reg.TAN_DFILT then s.cf Cf.TAN_DFILT n 0
  else if r = Reg.LAT_TET then
    let x := tget timIdle s.lat.mem.tim n
    pack [(Fld.LAT_TET_Q, b2n x.q), (Fld.LAT_TET_ET, x.et)]
  else if r = Reg.LAT_CV then (tget ctrIdle s.lat.mem.ctr n).cv
  else s.rdA a

/-- Arc. -/
def State.viewArc (s : State) (r : Reg) (a : Nat) : Word :=
  let g := (r.idx a).1
  if r = Reg.ARC_CTRL then
    pack [(Fld.ARC_CTRL_EN, s.gf g Cf.ARC_EN), (Fld.ARC_CTRL_AUTOSTART, s.gf g Cf.ARC_AUTOSTART),
      (Fld.ARC_CTRL_DUTY_SRC, s.gf g Cf.ARC_DUTY_SRC), (Fld.ARC_CTRL_ALIGN, s.gf g Cf.ARC_ALIGN),
      (Fld.ARC_CTRL_PAIRED, s.gf g Cf.ARC_PAIRED), (Fld.ARC_CTRL_COMP, s.gf g Cf.ARC_COMP),
      (Fld.ARC_CTRL_CARRY, s.gf g Cf.ARC_CARRY), (Fld.ARC_CTRL_LOC_USE, s.gf g Cf.ARC_LOC_USE),
      (Fld.ARC_CTRL_MASTER, s.gf g Cf.ARC_MASTER), (Fld.ARC_CTRL_FAULT_MASK, s.gf g Cf.ARC_FAULT_MASK),
      (Fld.ARC_CTRL_IRQ_EN, s.gf g Cf.ARC_IRQ_EN), (Fld.ARC_CTRL_TRIG_SEL, s.gf g Cf.ARC_TRIG_SEL)]
  else if r = Reg.ARC_BOOT then s.cf Cf.ARC_BOOT g 0
  else if r = Reg.ARC_IRQDIV then s.cf Cf.ARC_IRQDIV g 0
  else if r = Reg.ARC_DUTY then tget 0 s.arc.duty g
  else s.rdA a

/-- Helix. -/
def State.viewHlx (s : State) (r : Reg) (a : Nat) : Word :=
  let h := s.tr.hlx
  if r = Reg.HLX_STATUS then
    pack [(Fld.HLX_STATUS_FROZEN, b2n h.frozen.isSome),
      (Fld.HLX_STATUS_FF_STATE, match h.ff with | .armed => 0 | .filling => 1 | .latched => 2),
      (Fld.HLX_STATUS_FF_COUNT, h.ffRegion.length), (Fld.HLX_STATUS_LOGCNT, h.log.length)]
  else if r = Reg.HLX_SEQ then h.seq
  else if r = Reg.HLX_OLDEST then
    match h.log.head? with
    | some x => x.seq
    | none => h.seq
  else if r = Reg.HLX_OVWR then w32 h.ovwr
  else if r = Reg.HLX_DROP then pack [(Fld.HLX_DROP_INTAKE, h.dropIntake), (Fld.HLX_DROP_STREAM, h.dropStream)]
  else if r = Reg.HLX_FF_TRIG then h.ffTrigSeq
  else if r = Reg.HLX_FF_TNS then h.ffTrigNs
  else if r = Reg.HLX_FF_TSEC then h.ffTrigSec
  else s.rdA a

/-- Ethernet and CAN FD. -/
def State.viewNet (s : State) (r : Reg) (a : Nat) : Word :=
  let n := (r.idx a).1
  if r = Reg.ETH_MACLO then memWord ((List.range 4).zip (s.ethAddr n)) 0
  else if r = Reg.ETH_MACHI then memWord ((List.range 2).zip ((s.ethAddr n).drop 4)) 0
  else if r = Reg.ETH_PSTAT then
    let q := (s.eth.tx.filter (fun t => t.left / 2 ^ n % 2 == 1)).length
    putBits (s.rdA a) Fld.ETH_PSTAT_TXQ.lo Fld.ETH_PSTAT_TXQ.wd q
  else if r = Reg.CAN_QSTAT then
    let c := s.canc n
    pack [(Fld.CAN_QSTAT_QUEUED, (c.frames.filter (fun f => decide (f.entry < 64))).length),
      (Fld.CAN_QSTAT_EXP, (List.range 8).foldl (fun m k =>
        if c.frames.any (fun f => f.entry == 64 + k) then m + 2 ^ k else m) 0),
      (Fld.CAN_QSTAT_ATTEMPT, b2n c.att.isSome), (Fld.CAN_QSTAT_ENTRY, c.att.getD c.last)]
  else s.rdA a

/-- Vexlink and Mirror. -/
def State.viewVxl (s : State) (r : Reg) (a : Nat) : Word :=
  let n := (r.idx a).1
  if r = Reg.VXL_STATUS then
    putBits (putBits (s.rdA a) Fld.VXL_STATUS_ROLE.lo Fld.VXL_STATUS_ROLE.wd (3 - s.role)) Fld.VXL_STATUS_DEVICE.lo
      Fld.VXL_STATUS_DEVICE.wd s.device
  else if r = Reg.VXL_PORT then
    putBits (s.rdA a) Fld.VXL_PORT_ROUTE.lo Fld.VXL_PORT_ROUTE.wd (s.cfN Cf.VXL_ROUTE n)
  else if r = Reg.VXL_STALE then
    pack [(Fld.VXL_STALE_COUNT, (s.subs.filter (fun p => (s.co p.1).q == 4 || (s.co p.1).q == 2)).length)]
  else if r = Reg.VXL_OPEN then
    pack [(Fld.VXL_OPEN_COUNT,
      (s.hif.inflight.filter (fun x => x.item.remote && x.item.origin.isNone && x.phase == .waiting)).length)]
  else if r = Reg.VXL_RINGLOAD ∧ s.isManager then w32 (ringLoad s.vxl.grants s.ring)
  else if r = Reg.VXL_RINGBUDGET ∧ s.isManager then w32 (s.ringBudget (s.ringPair s.ring))
  else if r = Reg.VXL_CTVAL then (s.co n).val
  else if r = Reg.VXL_CTSTAT then
    let c := s.co n
    pack [(Fld.VXL_CTSTAT_QUALITY, c.q), (Fld.VXL_CTSTAT_FLOAT, b2n (s.coFloat n)),
      (Fld.VXL_CTSTAT_PUB, b2n (tget false s.vxl.granted n)), (Fld.VXL_CTSTAT_MISSES, c.misses),
      (Fld.VXL_CTSTAT_COORD, s.coordOf n)]
  else if r = Reg.MIR_LAG then
    (if s.mirState = 3 ∨ s.mirState = 4 then
      putBits (s.rdA a) Fld.MIR_LAG_LAG.lo Fld.MIR_LAG_LAG.wd (Nat.min 65535 s.lagUs)
     else s.rdA a)
  else s.rdA a

/-- Facets: the direct-write registers show active values, and COM_LINK the Facet's own configuration. Until FCT is committed
again the others read their reset values (R37); they hold what has come in since. -/
def State.viewFct (s : State) (r : Reg) (a : Nat) : Word :=
  let ch := 8 * (r.idx a).1 + (r.idx a).2
  if r = Reg.FCT_DITHR then
    pack [(Fld.FCT_DITHR_HYST, s.cfN Cf.FCT_DI_HYST ch), (Fld.FCT_DITHR_THR, s.cfN Cf.FCT_DI_THR ch)]
  else if r = Reg.FCT_DEBOUNCE then pack [(Fld.FCT_DEBOUNCE_TIME, s.cfN Cf.FCT_DI_DEBOUNCE ch)]
  else if !s.fct.linkCfg ∧ s.sys.mode = .running ∧ r ≠ Reg.FCT_SPOT_SEL then regReset a
  else if r = Reg.FCT_STATUS then s.rdA a ||| (if s.comLink (r.idx a).1 then 1 else 0)
  else s.rdA a

/-- What a register reads. Write-only bits read zero (R14). -/
def State.view (s : State) (r : Reg) (a : Nat) : Word :=
  let w :=
    if a < 0x40000 then s.viewSys r a
    else if a < 0x50000 then s.viewFlt r a
    else if a < 0x60000 then s.viewMer r a
    else if a < 0x80000 then s.viewVtx r a
    else if a < 0xA0000 then s.viewTan r a
    else if a < 0xC0000 then s.rdA a
    else if a < 0xE0000 then s.viewTan r a
    else if a < 0xF0000 then s.viewArc r a
    else if a < 0x100000 then s.rdA a
    else if a < 0x110000 then s.viewHlx r a
    else if a < 0x130000 then s.viewNet r a
    else if a < 0x150000 then s.viewVxl r a
    else if a < 0x200000 then s.rdA a
    else s.viewFct r a
  w &&& ~~~r.wo

end Sys2Proof.Machine
end

