-- ==== Sys2Proof/Machine/RegAccess.lean ====
section
/-! DEFINITION. Accesses to BAR0 (R12 to R16, R19, R108): reads, writes, and those that are malformed or reach a block
whose power domain is off. -/

namespace Sys2Proof.Machine

/-! ### Malformed and off-domain accesses -/

/-- The answer of zero to a malformed read (R12, R108). -/
def State.zeroRead (s : State) (bar2 : Bool) (offset : Nat) : State :=
  s.emit (if bar2 then .readBar2 offset 0 else .read offset 0)

/-- MALFORMED_ACCESS (R108): a register access of wrong width or alignment (R12), or a doorbell access that the rule lists.
It is counted by HIF, which lies in PD_NET. A write is discarded, a read returns zero. -/
def execMalformedAccess (acc : BarAccess) (offset : Nat) (s : State) : Host.Outcome State Fault Refusal :=
  let s1 := if s.domOn 5 then s.malformed acc.bar2 offset else s
  if acc.read ∧ s.alive then go (s1.zeroRead acc.bar2 offset) else go s1

/-- An access to a block whose domain is off (R19): the first is captured, and each logs event 0x24C1. -/
def State.offAccess (s : State) (offset : Nat) : State :=
  let s1 := if s.bit Fld.PWR_OFFACC_VALID 0 0 then s.setF Fld.PWR_OFFACC_MULTI 0 0 1
    else (s.setF Fld.PWR_OFFACC_VALID 0 0 1).setF Fld.PWR_OFFACC_OFFSET 0 0 offset
  s1.log 0x24C1 0

/-- OFF_DOMAIN_ACCESS (R19). -/
def execOffDomainAccess (offset : Nat) (s : State) : Host.Outcome State Fault Refusal :=
  if s.domOn (domainOf offset) ∨ !s.alive then go s else go (s.offAccess offset)

/-! ### Writes -/

/-- The state after an outcome that is a next state. -/
def after (o : Host.Outcome State Fault Refusal) (f : State → Host.Outcome State Fault Refusal) :
    Host.Outcome State Fault Refusal :=
  match o with
  | .next s => f s
  | .fault r => .fault r
  | .refused r => .refused r

/-- The fields of a register that a plain write sets or clears (R14): RW bits take the value, W1C bits written 1 clear. -/
def State.plainWrite (s : State) (r : Reg) (a : Nat) (v : Word) : State :=
  let old := s.rdA a
  s.wrA a (((old &&& ~~~r.rw) ||| (v &&& r.rw)) &&& ~~~(v &&& r.w1c))

/-- The bits of CLK_LOSS that hardware has set in this CK_TIME cycle. -/
def State.lossNow (s : State) : Word :=
  w32 ((List.range 12).foldl (fun m n => if tget 0 s.sys.lossAt n = s.mer.base + 1 then m + 2 ^ n else m) 0)

/-- A write to CLK_LOSS: a bit that hardware sets in the same cycle stays set (R15). -/
def State.lossWrite (s : State) (v : Word) : State :=
  let old := s.rd Reg.CLK_LOSS 0 0
  s.wr Reg.CLK_LOSS 0 0 (old &&& ~~~(v &&& Reg.CLK_LOSS.w1c &&& ~~~s.lossNow))

/-- A bit after a write of 1 (`clear`) to it, unless hardware set it in the same cycle (R15). -/
def State.w1c (s : State) (b clear : Bool) (setAt : Option Nat) : Bool := b && (!clear || setAt == some s.mer.base)

/-- A number held to a range. -/
def between (lo hi n : Nat) : Nat := if n < lo then lo else if hi < n then hi else n

/-- The value that a write leaves where the register clamps it. -/
def clampedWrite (r : Reg) (v : Word) : Word :=
  if r = Reg.SYS_TEMP then putBits v 24 8 (between 0 114 (bitsOf v 24 8))
  else if r = Reg.SYS_CHKCFG then
    putBits (putBits v 0 16 (between 1 1000 (bitsOf v 0 16))) 16 12 (between 1 4095 (bitsOf v 16 12))
  else if r = Reg.HIF_TMO then putBits v 0 16 (between 1 65535 (bitsOf v 0 16))
  else if r = Reg.FLT_SCRUB then
    putBits (putBits v 0 8 (between 1 168 (bitsOf v 0 8))) 16 8 (between 1 255 (bitsOf v 16 8))
  else v

/-- A write to the CTRL register of a ring: ENABLE sets or clears as its own rows say; a disabled ring takes the other
fields (R111, R112). -/
def State.ringCtrl (s : State) (r : Reg) (a ring : Nat) (v : Word) : Host.Outcome State Fault Refusal :=
  if bitOf v 0 then execRingEnable ring v s
  else if bitOf (s.rdA a) 0 then execRingDisable ring s
  else go (s.wrA a (v &&& r.rw))

/-- A write to the base registers of a ring: ignored while the ring is enabled (R112, R365). -/
def State.ringBase (s : State) (r : Reg) (a : Nat) (enable : Bool) (v : Word) : Host.Outcome State Fault Refusal :=
  if enable then go s else go (s.wrA a (v &&& r.rw))

/-- A write to the CTRL register of a core (R365, R367). -/
def State.coreWrite (s : State) (c : Nat) (v : Word) : Host.Outcome State Fault Refusal :=
  let o := if bitOf v 0 then execVtxCoreEnable c v s else execVtxCoreDisable c (s.coreCtrl c v)
  after o (fun t => if bitOf v 1 then execVtxCoreFlush c t else go t)

/-- A write to CAN_BUSOFF: HOLD takes effect at once, and RECOVER acts behind it (R457). In bus-off, HOLD = 0 starts the
recovery. -/
def State.busoffWrite (s : State) (c : Nat) (v : Word) : Host.Outcome State Fault Refusal :=
  let s1 := s.setF Fld.CAN_BUSOFF_HOLD c 0 (bitsOf v 0 1)
  if bitOf v 1 then execCanRecover c s1
  else if s1.canErr c = 2 ∧ !(bitOf v 0) then go (s1.setF Fld.CAN_STAT_ERRSTATE c 0 3) else go s1

/-- A word of the MSI-X table is written. A vector that is unmasked while a message of it is pending sends it
(R106; PCI Express, PRESUMED, notes/assumptions/4.md). -/
def State.msixWrite (s : State) (k : Nat) (v : Word) : State :=
  let s1 := { s with hif := { s.hif with msixTab := tabSet msixReset s.hif.msixTab k v } }
  let n := k / 4
  if k % 4 = 3 ∧ !(bitOf v 0) ∧ tget false s1.tr.pba n ∧ s1.bit Fld.HIF_LINK_UP 0 0 ∧ s1.hif.msixOn then
    { s1 with tr := { s1.tr with pba := tset false s1.tr.pba n false, msix := n :: s1.tr.msix } }
  else s1

/-- A write to a register of PD_AON or HIF that acts beyond its stored fields. -/
def State.writeAon (s : State) (r : Reg) (a : Nat) (v : Word) (host : Bool) : Host.Outcome State Fault Refusal :=
  let i := (r.idx a).1
  if r = Reg.CLK_LOSS then go (s.lossWrite v)
  else if r = Reg.SYS_RESET then after (execSysResetWarm v s) (fun t => if resetKey v 2 then execSysResetCold v t else go t)
  else if r = Reg.PWR_UNLOCK then execPwrUnlockWrite v s
  else if r = Reg.PWR_CTRL then execPwrCtrlWrite v host s
  else if r = Reg.HIF_SQ_CTRL then s.ringCtrl r a i v
  else if r = Reg.HIF_CQ_CTRL then s.ringCtrl r a (64 + i) v
  else if r = Reg.HIF_SQ_BASE_LO ∨ r = Reg.HIF_SQ_BASE_HI then s.ringBase r a (s.bit Fld.HIF_SQ_CTRL_ENABLE i 0) v
  else if r = Reg.HIF_CQ_BASE_LO ∨ r = Reg.HIF_CQ_BASE_HI then s.ringBase r a (s.bit Fld.HIF_CQ_CTRL_ENABLE i 0) v
  else if r = Reg.CFG_STATUS then
    go { s with cfg := { s.cfg with regErr := s.w1c s.cfg.regErr (bitOf v Fld.CFG_STATUS_REGERR.lo) s.cfg.regErrAt } }
  else if r = Reg.CFG_DATA then execCfgDataWrite v s
  else if r = Reg.FLT_STATUS then
    go { s with tr := { s.tr with flt := { s.tr.flt with
      ovf := s.w1c s.tr.flt.ovf (bitOf v Fld.FLT_STATUS_OVF.lo) s.tr.flt.ovfAt } } }
  else if r = Reg.FLT_HACK then (if bitOf v 0 then execFltHack (i + 1) s else go s)
  else if r = Reg.FLT_WD then execFltWdWrite v s
  else if r = Reg.FLT_WDKICK then execFltWdkick v s
  else if r = Reg.MER_SNAP then (if bitOf v 0 then execMerSnap s else go s)
  else if r = Reg.MER_OFS_GO then execMerOfsGo i (bitsOf v 0 16) s
  else if r = Reg.MER_TXTS_POP then (if bitOf v 0 then execMerTxtsPop i s else go s)
  else go (s.plainWrite r a (clampedWrite r v))

/-- A write to a register of the other blocks. -/
def State.writeEng (s : State) (r : Reg) (a : Nat) (v : Word) : Host.Outcome State Fault Refusal :=
  let i := (r.idx a).1
  let j := (r.idx a).2
  if r = Reg.VTX_CORE_CTRL then s.coreWrite i v
  else if r = Reg.VTX_CORE_BASE_LO ∨ r = Reg.VTX_CORE_BASE_HI then
    s.ringBase r a (s.bit Fld.VTX_CORE_CTRL_ENABLE i 0) v
  else if r = Reg.VTX_CORE_CI then execVtxCoreCiWrite i v s
  else if r = Reg.VTX_CORE_DONE then execVtxCoreDone i v s
  else if r = Reg.VTX_CORE_RAISE then execVtxCoreRaise i (bitsOf v 0 8) s
  else if r = Reg.TAN_GAIN then execTanGainWrite i j v s
  else if r = Reg.TAN_KFF then execTanKffWrite i v s
  else if r = Reg.TAN_DFILT then execTanDfiltWrite i v s
  else if r = Reg.ARC_BOOT then execArcBootWrite i v s
  else if r = Reg.ARC_IRQDIV then execArcIrqdivWrite i v s
  else if r = Reg.CAN_BUSOFF then s.busoffWrite i v
  else if r = Reg.MIR_LOCAL_LO then execMirLocalWrite false v s
  else if r = Reg.MIR_LOCAL_HI then execMirLocalWrite true v s
  else if r = Reg.PER_STOP then execPerStopWrite v s
  else if r = Reg.FCT_DITHR then execFctDithrWrite (8 * i + j) v s
  else if r = Reg.FCT_DEBOUNCE then execFctDebounceWrite (8 * i + j) v s
  else if r = Reg.FCT_SPOT_SEL then execFctSpotSelWrite i v s
  else go (s.plainWrite r a v)

/-- Whether BAR0 holds a word at an offset: aligned, within its 4 MiB (R12, R106). -/
def bar0Word (offset : Nat) : Bool := offset % 4 = 0 && offset < 0x400000

/-- REGISTER_WRITE (R14): a 32-bit write at a BAR0 offset, from the host or from the application cores. A register whose
write has a row of its own acts as that row says. -/
def execRegisterWrite (offset : Nat) (value : Word) (host : Bool) (s : State) : Host.Outcome State Fault Refusal :=
  if !s.alive then go s
  else if !(bar0Word offset) then execMalformedAccess ⟨false, false⟩ offset s
  else if !(s.domOn (domainOf offset)) then execOffDomainAccess offset s
  else if 0x28000 ≤ offset ∧ offset < 0x28400 then go (s.msixWrite ((offset - 0x28000) / 4) value)
  else match regAt offset with
    | none => go s
    | some r => if offset < 0x60000 then s.writeAon r offset value host else s.writeEng r offset value

/-! ### Reads -/

/-- What the clearing of RC fields does to values that a block's own structure holds. -/
def State.readClear (s : State) (r : Reg) (a : Nat) : State :=
  let i := (r.idx a).1
  let h := s.tr.hlx
  let v := s.tr.vtx
  let s1 := s.wrA a (s.rdA a &&& ~~~r.rc)
  if r = Reg.CFG_IMAGE then
    { s1 with cfg := { s1.cfg with imageHiLatch := w32 (s1.cfg.imageId / 4294967296) } }
  else if r = Reg.FLT_OVFCNT then { s1 with tr := { s1.tr with flt := { s1.tr.flt with ovfCnt := 0 } } }
  else if r = Reg.MER_TXTS_STAT then { s1 with mer := { s1.mer with txtsOvf := tset 0 s1.mer.txtsOvf i 0 } }
  else if r = Reg.VTX_LOSTALL then s1.setVtx { v with lostAll := 0 }
  else if r = Reg.VTX_UNMAPPED then s1.setVtx { v with unmapSrc := 0, unmapCnt := 0 }
  else if r = Reg.VTX_BADDONE then s1.setVtx { v with badCnt := 0, badHandle := 0 }
  else if r = Reg.HLX_OVWR then s1.setHlx { h with ovwr := 0 }
  else if r = Reg.HLX_DROP then s1.setHlx { h with dropIntake := 0, dropStream := 0 }
  else if r = Reg.SYS_TEMP then { s1 with sys := { s1.sys with peakSeen := false } }
  else if r = Reg.FCT_TEMP then s1.setFacet i { s1.facet i with tempSeen := false }
  else s1

/-- The bits of the pending-bit array of the MSI-X vectors from a vector on. -/
def State.pbaWord (s : State) (v : Nat) : Word :=
  w32 ((List.range 32).foldl (fun m k => if tget false s.tr.pba (v + k) then m + 2 ^ k else m) 0)

/-- REGISTER_READ_CLEAR (R14, R16): a 32-bit read at a BAR0 offset. RC fields clear behind the value returned; no hardware
update falls between. -/
def execRegisterReadClear (offset : Nat) (s : State) : Host.Outcome State Fault Refusal :=
  let ans := fun (t : State) (w : Word) => go (t.emit (.read offset w))
  if !s.alive then go s
  else if !(bar0Word offset) then execMalformedAccess ⟨false, true⟩ offset s
  else if !(s.domOn (domainOf offset)) then after (execOffDomainAccess offset s) (fun t => ans t 0)
  else if 0x28000 ≤ offset ∧ offset < 0x28400 then ans s (tabGet msixReset s.hif.msixTab ((offset - 0x28000) / 4))
  else if offset = 0x29000 then ans s (s.pbaWord 0)
  else if offset = 0x29004 then ans s (s.pbaWord 32)
  else match regAt offset with
    | none => ans s 0
    | some r =>
      if r = Reg.MIR_TOKEN then after (execMirTokenRead s) (fun t => ans t (t.view r offset))
      else ans (s.readClear r offset) (s.view r offset)

end Sys2Proof.Machine
end

