-- ==== Sys2Proof/Machine/Dispatch.lean ====
section
/-! DEFINITION. The dispatch of every command to its meaning, one arm per row of spec/opcode_table.json. -/

namespace Sys2Proof.Machine

/-- The effect of a command on everything but the queue of waiting commands. -/
def exec (i : Instr) (s : State) : Host.Outcome State Fault Refusal :=
  match i with
  | .registerWrite offset value host => Sys2Proof.Machine.execRegisterWrite offset value host s
  | .registerReadClear offset => Sys2Proof.Machine.execRegisterReadClear offset s
  | .malformedAccess acc offset => Sys2Proof.Machine.execMalformedAccess acc offset s
  | .offDomainAccess offset => Sys2Proof.Machine.execOffDomainAccess offset s
  | .clockLoss mask => Sys2Proof.Machine.execClockLoss mask s
  | .clockRestored n => Sys2Proof.Machine.execClockRestored n s
  | .tcxoReturn => Sys2Proof.Machine.execTcxoReturn s
  | .pwrUnlockWrite value => Sys2Proof.Machine.execPwrUnlockWrite value s
  | .pwrUnlockExpiry => Sys2Proof.Machine.execPwrUnlockExpiry s
  | .pwrCtrlWrite value host => Sys2Proof.Machine.execPwrCtrlWrite value host s
  | .domainPowerGood n => Sys2Proof.Machine.execDomainPowerGood n s
  | .domainOffComplete n => Sys2Proof.Machine.execDomainOffComplete n s
  | .powerGoodLost n => Sys2Proof.Machine.execPowerGoodLost n s
  | .baseIdChange code => Sys2Proof.Machine.execBaseIdChange code s
  | .lsSag volt => Sys2Proof.Machine.execLsSag volt s
  | .powerFail volt => Sys2Proof.Machine.execPowerFail volt s
  | .selfRefreshLost => Sys2Proof.Machine.execSelfRefreshLost s
  | .powerRelease volt => Sys2Proof.Machine.execPowerRelease volt s
  | .hotInsertion base => Sys2Proof.Machine.execHotInsertion base s
  | .presenceSettled => Sys2Proof.Machine.execPresenceSettled s
  | .srstRelease => Sys2Proof.Machine.execSrstRelease s
  | .tempWarn temps => Sys2Proof.Machine.execTempWarn temps s
  | .tempCritical temps => Sys2Proof.Machine.execTempCritical temps s
  | .thermalShutdown temps => Sys2Proof.Machine.execThermalShutdown temps s
  | .thermalRecovery temps => Sys2Proof.Machine.execThermalRecovery temps s
  | .leverOpen => Sys2Proof.Machine.execLeverOpen s
  | .leverClose => Sys2Proof.Machine.execLeverClose s
  | .presenceContactLost contact => Sys2Proof.Machine.execPresenceContactLost contact s
  | .presenceLost => Sys2Proof.Machine.execPresenceLost s
  | .removalOutputsOff => Sys2Proof.Machine.execRemovalOutputsOff s
  | .coldStart cause straps links env => Sys2Proof.Machine.execColdStart cause straps links env s
  | .warmRestart cause links env => Sys2Proof.Machine.execWarmRestart cause links env s
  | .sysResetWarm value => Sys2Proof.Machine.execSysResetWarm value s
  | .sysResetCold value => Sys2Proof.Machine.execSysResetCold value s
  | .checkpointPeriod => Sys2Proof.Machine.execCheckpointPeriod s
  | .checkpointCapture => Sys2Proof.Machine.execCheckpointCapture s
  | .checkpointWriteDone => Sys2Proof.Machine.execCheckpointWriteDone s
  | .trialTimeout => Sys2Proof.Machine.execTrialTimeout s
  | .sysFwWrite it => Sys2Proof.Machine.execSysFwWrite it s
  | .sysFwVerify it => Sys2Proof.Machine.execSysFwVerify it s
  | .sysFwTrial it => Sys2Proof.Machine.execSysFwTrial it s
  | .sysFwConfirm it => Sys2Proof.Machine.execSysFwConfirm it s
  | .pcieLinkUp speed width => Sys2Proof.Machine.execPcieLinkUp speed width s
  | .pcieLinkDown => Sys2Proof.Machine.execPcieLinkDown s
  | .ringEnable ring value => Sys2Proof.Machine.execRingEnable ring value s
  | .ringDisable ring => Sys2Proof.Machine.execRingDisable ring s
  | .sqDoorbell ring value => Sys2Proof.Machine.execSqDoorbell ring value s
  | .cqDoorbell m value => Sys2Proof.Machine.execCqDoorbell m value s
  | .descriptorFetch => Sys2Proof.Machine.execDescriptorFetch s
  | .cqCoalesceTimeout m => Sys2Proof.Machine.execCqCoalesceTimeout m s
  | .reportRoomResume m => Sys2Proof.Machine.execReportRoomResume m s
  | .hostDmaError ring => Sys2Proof.Machine.execHostDmaError ring s
  | .hifNop it => Sys2Proof.Machine.execHifNop it s
  | .hifAbort it => Sys2Proof.Machine.execHifAbort it s
  | .hifQuery it => Sys2Proof.Machine.execHifQuery it s
  | .cfgStage it => Sys2Proof.Machine.execCfgStage it s
  | .cfgStageTable it => Sys2Proof.Machine.execCfgStageTable it s
  | .cfgDataWrite value => Sys2Proof.Machine.execCfgDataWrite value s
  | .cfgValidateCommit it => Sys2Proof.Machine.execCfgValidateCommit it s
  | .cfgDryRun it => Sys2Proof.Machine.execCfgDryRun it s
  | .cfgJournalWritten ring seq => Sys2Proof.Machine.execCfgJournalWritten ring seq s
  | .blockValuesTaken ring seq block => Sys2Proof.Machine.execBlockValuesTaken ring seq block s
  | .cfgDiscard it => Sys2Proof.Machine.execCfgDiscard it s
  | .cfgRead it => Sys2Proof.Machine.execCfgRead it s
  | .cfgPersist it => Sys2Proof.Machine.execCfgPersist it s
  | .cfgImageExport it => Sys2Proof.Machine.execCfgImageExport it s
  | .cfgImageImport it => Sys2Proof.Machine.execCfgImageImport it s
  | .fullImageWritten => Sys2Proof.Machine.execFullImageWritten s
  | .tanGainWrite t idx value => Sys2Proof.Machine.execTanGainWrite t idx value s
  | .tanKffWrite l value => Sys2Proof.Machine.execTanKffWrite l value s
  | .tanDfiltWrite l value => Sys2Proof.Machine.execTanDfiltWrite l value s
  | .arcBootWrite g value => Sys2Proof.Machine.execArcBootWrite g value s
  | .arcIrqdivWrite g value => Sys2Proof.Machine.execArcIrqdivWrite g value s
  | .fctDithrWrite ch value => Sys2Proof.Machine.execFctDithrWrite ch value s
  | .fctDebounceWrite ch value => Sys2Proof.Machine.execFctDebounceWrite ch value s
  | .fctSpotSelWrite n value => Sys2Proof.Machine.execFctSpotSelWrite n value s
  | .facetFrameTick n => Sys2Proof.Machine.execFacetFrameTick n s
  | .downstreamFrameRx n sof codeErr bytes x => Sys2Proof.Machine.execDownstreamFrameRx n sof codeErr bytes x s
  | .upstreamFrameRx n sof codeErr bytes => Sys2Proof.Machine.execUpstreamFrameRx n sof codeErr bytes s
  | .facetLinkDown n => Sys2Proof.Machine.execFacetLinkDown n s
  | .facetLinkUp n delay => Sys2Proof.Machine.execFacetLinkUp n delay s
  | .perimOffLine n => Sys2Proof.Machine.execPerimOffLine n s
  | .perimOffRelease n => Sys2Proof.Machine.execPerimOffRelease n s
  | .facetWdtExpiry n ins => Sys2Proof.Machine.execFacetWdtExpiry n ins s
  | .fallbackEval n slot inp => Sys2Proof.Machine.execFallbackEval n slot inp s
  | .fallbackExpiry n slot => Sys2Proof.Machine.execFallbackExpiry n slot s
  | .pairReleaseRamp n => Sys2Proof.Machine.execPairReleaseRamp n s
  | .diChange ch level st => Sys2Proof.Machine.execDiChange ch level st s
  | .doOverload ch => Sys2Proof.Machine.execDoOverload ch s
  | .doRetry ch => Sys2Proof.Machine.execDoRetry ch s
  | .doTotalOverload n => Sys2Proof.Machine.execDoTotalOverload n s
  | .doTotalShedNext n still => Sys2Proof.Machine.execDoTotalShedNext n still s
  | .doMismatch ch mv limited => Sys2Proof.Machine.execDoMismatch ch mv limited s
  | .doMismatchClear sig => Sys2Proof.Machine.execDoMismatchClear sig s
  | .supWarn n volt => Sys2Proof.Machine.execSupWarn n volt s
  | .supLow n volt => Sys2Proof.Machine.execSupLow n volt s
  | .shedGroupInstant n volt => Sys2Proof.Machine.execShedGroupInstant n volt s
  | .shedRestart n volt => Sys2Proof.Machine.execShedRestart n volt s
  | .supRecovered n volt => Sys2Proof.Machine.execSupRecovered n volt s
  | .autoRestoreGroup n => Sys2Proof.Machine.execAutoRestoreGroup n s
  | .facetSupplyReset n => Sys2Proof.Machine.execFacetSupplyReset n s
  | .facetPowerUp n => Sys2Proof.Machine.execFacetPowerUp n s
  | .piGateEnd ch => Sys2Proof.Machine.execPiGateEnd ch s
  | .fctOutput it => Sys2Proof.Machine.execFctOutput it s
  | .fctRestore it => Sys2Proof.Machine.execFctRestore it s
  | .fctPiclear it => Sys2Proof.Machine.execFctPiclear it s
  | .sliceCorrection n slice dOff dGain dSkew => Sys2Proof.Machine.execSliceCorrection n slice dOff dGain dSkew s
  | .fctCal it => Sys2Proof.Machine.execFctCal it s
  | .fctCalDone n found => Sys2Proof.Machine.execFctCalDone n found s
  | .fctDiagPath it => Sys2Proof.Machine.execFctDiagPath it s
  | .fctDiagWire it => Sys2Proof.Machine.execFctDiagWire it s
  | .diagDone n mA mB => Sys2Proof.Machine.execDiagDone n mA mB s
  | .fctCalsetRead it => Sys2Proof.Machine.execFctCalsetRead it s
  | .fctCalsetWrite it => Sys2Proof.Machine.execFctCalsetWrite it s
  | .fctTrimdrive it => Sys2Proof.Machine.execFctTrimdrive it s
  | .fctTrimdriveRelease it => Sys2Proof.Machine.execFctTrimdriveRelease it s
  | .fctHart it => Sys2Proof.Machine.execFctHart it s
  | .hartReply n bytes clean => Sys2Proof.Machine.execHartReply n bytes clean s
  | .hartReplyTimeout n => Sys2Proof.Machine.execHartReplyTimeout n s
  | .hartTxTimeout n => Sys2Proof.Machine.execHartTxTimeout n s
  | .hartUnsolicited n => Sys2Proof.Machine.execHartUnsolicited n s
  | .aiOpenDetect m => Sys2Proof.Machine.execAiOpenDetect m s
  | .aiOpenClear m => Sys2Proof.Machine.execAiOpenClear m s
  | .aoCompliance ch meas need => Sys2Proof.Machine.execAoCompliance ch meas need s
  | .aoOpen m => Sys2Proof.Machine.execAoOpen m s
  | .aoThermalStep ch stage => Sys2Proof.Machine.execAoThermalStep ch stage s
  | .aoVOverload ch => Sys2Proof.Machine.execAoVOverload ch s
  | .loopTick => Sys2Proof.Machine.execLoopTick s
  | .loopReady l => Sys2Proof.Machine.execLoopReady l s
  | .loopEvaluation => Sys2Proof.Machine.execLoopEvaluation s
  | .loopResultHandoff l => Sys2Proof.Machine.execLoopResultHandoff l s
  | .loopDeadlineMiss l => Sys2Proof.Machine.execLoopDeadlineMiss l s
  | .tanMode it => Sys2Proof.Machine.execTanMode it s
  | .tanSetpoint it => Sys2Proof.Machine.execTanSetpoint it s
  | .tanManout it => Sys2Proof.Machine.execTanManout it s
  | .tanInject it => Sys2Proof.Machine.execTanInject it s
  | .tanInjectStop it => Sys2Proof.Machine.execTanInjectStop it s
  | .locusTick => Sys2Proof.Machine.execLocusTick s
  | .stepTimeout t => Sys2Proof.Machine.execStepTimeout t s
  | .schedSlotFire k => Sys2Proof.Machine.execSchedSlotFire k s
  | .readinessTokenRx grp t idx sent => Sys2Proof.Machine.execReadinessTokenRx grp t idx sent s
  | .pendingTokenExpiry => Sys2Proof.Machine.execPendingTokenExpiry s
  | .withdrawNoticeRx grp t idx => Sys2Proof.Machine.execWithdrawNoticeRx grp t idx s
  | .remoteTokenOutcome no status => Sys2Proof.Machine.execRemoteTokenOutcome no status s
  | .locStart it => Sys2Proof.Machine.execLocStart it s
  | .locHold it => Sys2Proof.Machine.execLocHold it s
  | .locResume it => Sys2Proof.Machine.execLocResume it s
  | .locAbort it => Sys2Proof.Machine.execLocAbort it s
  | .locJump it => Sys2Proof.Machine.execLocJump it s
  | .locReset it => Sys2Proof.Machine.execLocReset it s
  | .locToken it => Sys2Proof.Machine.execLocToken it s
  | .locCounterSet it => Sys2Proof.Machine.execLocCounterSet it s
  | .locCounterAdd it => Sys2Proof.Machine.execLocCounterAdd it s
  | .locSchedArm it => Sys2Proof.Machine.execLocSchedArm it s
  | .locSchedCancel it => Sys2Proof.Machine.execLocSchedCancel it s
  | .latticeScan => Sys2Proof.Machine.execLatticeScan s
  | .latTimerExpiry n acc => Sys2Proof.Machine.execLatTimerExpiry n acc s
  | .latPatch it => Sys2Proof.Machine.execLatPatch it s
  | .latStop it => Sys2Proof.Machine.execLatStop it s
  | .latStopBoundary => Sys2Proof.Machine.execLatStopBoundary s
  | .latStart it => Sys2Proof.Machine.execLatStart it s
  | .latShadowStart it => Sys2Proof.Machine.execLatShadowStart it s
  | .latShadowStop it => Sys2Proof.Machine.execLatShadowStop it s
  | .latCmpRead it => Sys2Proof.Machine.execLatCmpRead it s
  | .vertexEvent source inst code param st => Sys2Proof.Machine.execVertexEvent source inst code param st s
  | .depRelease queue => Sys2Proof.Machine.execDepRelease queue s
  | .vertexDispatch => Sys2Proof.Machine.execVertexDispatch s
  | .vtxCoreDone core value => Sys2Proof.Machine.execVtxCoreDone core value s
  | .vtxCoreRaise core source => Sys2Proof.Machine.execVtxCoreRaise core source s
  | .vtxCoreEnable core value => Sys2Proof.Machine.execVtxCoreEnable core value s
  | .vtxCoreDisable core => Sys2Proof.Machine.execVtxCoreDisable core s
  | .vtxCoreFlush core => Sys2Proof.Machine.execVtxCoreFlush core s
  | .vtxCoreCiWrite core value => Sys2Proof.Machine.execVtxCoreCiWrite core value s
  | .vtxCoalesceTimeout core => Sys2Proof.Machine.execVtxCoalesceTimeout core s
  | .vtxPost it => Sys2Proof.Machine.execVtxPost it s
  | .vtxSignal it => Sys2Proof.Machine.execVtxSignal it s
  | .arcPeriodBoundary g => Sys2Proof.Machine.execArcPeriodBoundary g s
  | .arcEdgeEvent g off => Sys2Proof.Machine.execArcEdgeEvent g off s
  | .arcSet it => Sys2Proof.Machine.execArcSet it s
  | .arcStartNow it => Sys2Proof.Machine.execArcStartNow it s
  | .arcStartAt it => Sys2Proof.Machine.execArcStartAt it s
  | .arcArmedStart g => Sys2Proof.Machine.execArcArmedStart g s
  | .arcStopAtEnd it => Sys2Proof.Machine.execArcStopAtEnd it s
  | .arcStopNow it => Sys2Proof.Machine.execArcStopNow it s
  | .arcClear it => Sys2Proof.Machine.execArcClear it s
  | .arcTrip src active => Sys2Proof.Machine.execArcTrip src active s
  | .prismSample => Sys2Proof.Machine.execPrismSample s
  | .coValue e => Sys2Proof.Machine.execCoValue e s
  | .changeEntryTimeout => Sys2Proof.Machine.execChangeEntryTimeout s
  | .coMaxintExpiry e => Sys2Proof.Machine.execCoMaxintExpiry e s
  | .reductionComplete e k => Sys2Proof.Machine.execReductionComplete e k s
  | .triggerFire u => Sys2Proof.Machine.execTriggerFire u s
  | .triggerTimeReached u => Sys2Proof.Machine.execTriggerTimeReached u s
  | .recordComplete u => Sys2Proof.Machine.execRecordComplete u s
  | .holdoffEnd u => Sys2Proof.Machine.execHoldoffEnd u s
  | .captureEntry => Sys2Proof.Machine.execCaptureEntry s
  | .prismStreamDeliver => Sys2Proof.Machine.execPrismStreamDeliver s
  | .prmArm it => Sys2Proof.Machine.execPrmArm it s
  | .prmDisarm it => Sys2Proof.Machine.execPrmDisarm it s
  | .prmTrigger it => Sys2Proof.Machine.execPrmTrigger it s
  | .prmMark it => Sys2Proof.Machine.execPrmMark it s
  | .prmRead it => Sys2Proof.Machine.execPrmRead it s
  | .prmHistRead it => Sys2Proof.Machine.execPrmHistRead it s
  | .helixEvent e st full => Sys2Proof.Machine.execHelixEvent e st full s
  | .hlxIntakeResume => Sys2Proof.Machine.execHlxIntakeResume s
  | .hlxStreamDeliver => Sys2Proof.Machine.execHlxStreamDeliver s
  | .freezeTimeout => Sys2Proof.Machine.execFreezeTimeout s
  | .hlxRead it => Sys2Proof.Machine.execHlxRead it s
  | .hlxFreeze it => Sys2Proof.Machine.execHlxFreeze it s
  | .hlxUnfreeze it => Sys2Proof.Machine.execHlxUnfreeze it s
  | .hlxFfRearm it => Sys2Proof.Machine.execHlxFfRearm it s
  | .canTx it => Sys2Proof.Machine.execCanTx it s
  | .canFlush it => Sys2Proof.Machine.execCanFlush it s
  | .canTxAttempt c => Sys2Proof.Machine.execCanTxAttempt c s
  | .canAttemptEnd c ok st tec rec_ => Sys2Proof.Machine.execCanAttemptEnd c ok st tec rec_ s
  | .canFrameRx c own id ctl bytes st tec rec_ => Sys2Proof.Machine.execCanFrameRx c own id ctl bytes st tec rec_ s
  | .canRxDeliver c => Sys2Proof.Machine.execCanRxDeliver c s
  | .canBusOff c tec => Sys2Proof.Machine.execCanBusOff c tec s
  | .canRecover c => Sys2Proof.Machine.execCanRecover c s
  | .canBusoffRecovered c => Sys2Proof.Machine.execCanBusoffRecovered c s
  | .ethTx it => Sys2Proof.Machine.execEthTx it s
  | .ethTxFlush it => Sys2Proof.Machine.execEthTxFlush it s
  | .ethTxSent port st => Sys2Proof.Machine.execEthTxSent port st s
  | .ethFrameRx port bytes fcsOk st => Sys2Proof.Machine.execEthFrameRx port bytes fcsOk st s
  | .ethRxDeliver port => Sys2Proof.Machine.execEthRxDeliver port s
  | .prpEntryForget => Sys2Proof.Machine.execPrpEntryForget s
  | .prpSupervision => Sys2Proof.Machine.execPrpSupervision s
  | .cyclicFrameSend => Sys2Proof.Machine.execCyclicFrameSend s
  | .cyclicFrameLate => Sys2Proof.Machine.execCyclicFrameLate s
  | .ethLinkUp port speed => Sys2Proof.Machine.execEthLinkUp port speed s
  | .ethLinkDown port => Sys2Proof.Machine.execEthLinkDown port s
  | .merOfsGo n frac => Sys2Proof.Machine.execMerOfsGo n frac s
  | .servoHoldover x => Sys2Proof.Machine.execServoHoldover x s
  | .servoFreeRun x => Sys2Proof.Machine.execServoFreeRun x s
  | .slewComplete => Sys2Proof.Machine.execSlewComplete s
  | .merSet it => Sys2Proof.Machine.execMerSet it s
  | .merSnap => Sys2Proof.Machine.execMerSnap s
  | .merTxtsPop p => Sys2Proof.Machine.execMerTxtsPop p s
  | .vxlPortUp port neighbour => Sys2Proof.Machine.execVxlPortUp port neighbour s
  | .vxlPortDown port => Sys2Proof.Machine.execVxlPortDown port s
  | .helloSend => Sys2Proof.Machine.execHelloSend s
  | .helloRx port device ring peerPort => Sys2Proof.Machine.execHelloRx port device ring peerPort s
  | .ringNumberTimeout => Sys2Proof.Machine.execRingNumberTimeout s
  | .vxlFrameRx port f crcOk => Sys2Proof.Machine.execVxlFrameRx port f crcOk s
  | .timeMarkSend => Sys2Proof.Machine.execTimeMarkSend s
  | .timeMarkRx port f em corr ing residence => Sys2Proof.Machine.execTimeMarkRx port f em corr ing residence s
  | .linkDelayMeasure port roundTrip => Sys2Proof.Machine.execLinkDelayMeasure port roundTrip s
  | .cycleMark n => Sys2Proof.Machine.execCycleMark n s
  | .scanRx src n es => Sys2Proof.Machine.execScanRx src n es s
  | .cycleJudgement n => Sys2Proof.Machine.execCycleJudgement n s
  | .managerLost => Sys2Proof.Machine.execManagerLost s
  | .grantRequestRx device pubs subs => Sys2Proof.Machine.execGrantRequestRx device pubs subs s
  | .grantTimeout => Sys2Proof.Machine.execGrantTimeout s
  | .remoteItemRx opcode it deadline => Sys2Proof.Machine.execRemoteItemRx opcode it deadline s
  | .remoteResultRx ring seq status res d0 d1 d2 d3 => Sys2Proof.Machine.execRemoteResultRx ring seq status res d0 d1 d2 d3 s
  | .remoteQueryTimer ring seq => Sys2Proof.Machine.execRemoteQueryTimer ring seq s
  | .remoteQueryRx device ring seq => Sys2Proof.Machine.execRemoteQueryRx device ring seq s
  | .joinRequest => Sys2Proof.Machine.execJoinRequest s
  | .joinRequestRx device slot ring locked => Sys2Proof.Machine.execJoinRequestRx device slot ring locked s
  | .presenceTimeout device => Sys2Proof.Machine.execPresenceTimeout device s
  | .vxlWrite it => Sys2Proof.Machine.execVxlWrite it s
  | .vxlLeave it => Sys2Proof.Machine.execVxlLeave it s
  | .vxlMembers it => Sys2Proof.Machine.execVxlMembers it s
  | .heartbeatSend => Sys2Proof.Machine.execHeartbeatSend s
  | .heartbeatRx path w0 w1 w2 w3 again resync => Sys2Proof.Machine.execHeartbeatRx path w0 w1 w2 w3 again resync s
  | .pathLost path => Sys2Proof.Machine.execPathLost path s
  | .takeover tick => Sys2Proof.Machine.execTakeover tick s
  | .epochCapture => Sys2Proof.Machine.execEpochCapture s
  | .epochApply n t ok full last final bytes img => Sys2Proof.Machine.execEpochApply n t ok full last final bytes img s
  | .syncLagTimeout => Sys2Proof.Machine.execSyncLagTimeout s
  | .arbWaitExpiry => Sys2Proof.Machine.execArbWaitExpiry s
  | .mirrorWaitTimeout => Sys2Proof.Machine.execMirrorWaitTimeout s
  | .pairYield => Sys2Proof.Machine.execPairYield s
  | .mirTokenRead => Sys2Proof.Machine.execMirTokenRead s
  | .mirSwitch it => Sys2Proof.Machine.execMirSwitch it s
  | .switchInstant => Sys2Proof.Machine.execSwitchInstant s
  | .switchGo => Sys2Proof.Machine.execSwitchGo s
  | .leaveNoticeRx => Sys2Proof.Machine.execLeaveNoticeRx s
  | .mirResync it => Sys2Proof.Machine.execMirResync it s
  | .mirLocalWrite hi value => Sys2Proof.Machine.execMirLocalWrite hi value s
  | .safetySupplyOn => Sys2Proof.Machine.execSafetySupplyOn s
  | .selftestDone patH patP cause chans pfw => Sys2Proof.Machine.execSelftestDone patH patP cause chans pfw s
  | .safetySupplyLoss => Sys2Proof.Machine.execSafetySupplyLoss s
  | .safetyInputDemand pair a b => Sys2Proof.Machine.execSafetyInputDemand pair a b s
  | .safetyInputPermit pair a b => Sys2Proof.Machine.execSafetyInputPermit pair a b s
  | .tpFault pair cause chans => Sys2Proof.Machine.execTpFault pair cause chans s
  | .discrepancy pair chans => Sys2Proof.Machine.execDiscrepancy pair chans s
  | .mutingStart slot => Sys2Proof.Machine.execMutingStart slot s
  | .mutingLimit slot => Sys2Proof.Machine.execMutingLimit slot s
  | .resetPulse ms => Sys2Proof.Machine.execResetPulse ms s
  | .resetStuck ms => Sys2Proof.Machine.execResetStuck ms s
  | .resetOneChannel ms => Sys2Proof.Machine.execResetOneChannel ms s
  | .stopRequestFrame ok => Sys2Proof.Machine.execStopRequestFrame ok s
  | .stopChannelLoss => Sys2Proof.Machine.execStopChannelLoss s
  | .crossLinkExchange => Sys2Proof.Machine.execCrossLinkExchange s
  | .channelDisagree => Sys2Proof.Machine.execChannelDisagree s
  | .switchTest out => Sys2Proof.Machine.execSwitchTest out s
  | .readbackFault chans => Sys2Proof.Machine.execReadbackFault chans s
  | .dieFault cause chans => Sys2Proof.Machine.execDieFault cause chans s
  | .patternChange pattern => Sys2Proof.Machine.execPatternChange pattern s
  | .statusFrame ok => Sys2Proof.Machine.execStatusFrame ok s
  | .statusChannelLoss => Sys2Proof.Machine.execStatusChannelLoss s
  | .perStopWrite value => Sys2Proof.Machine.execPerStopWrite value s
  | .perStopReq it => Sys2Proof.Machine.execPerStopReq it s
  | .faultEntry e st seq => Sys2Proof.Machine.execFaultEntry e st seq s
  | .fltHack sev => Sys2Proof.Machine.execFltHack sev s
  | .eccCorrected region addr => Sys2Proof.Machine.execEccCorrected region addr s
  | .eccUncorrectable region addr obj dirty => Sys2Proof.Machine.execEccUncorrectable region addr obj dirty s
  | .patrolScrub percent dram => Sys2Proof.Machine.execPatrolScrub percent dram s
  | .mramStatusPoll ce ue => Sys2Proof.Machine.execMramStatusPoll ce ue s
  | .flashCheck identBad => Sys2Proof.Machine.execFlashCheck identBad s
  | .fltWdkick value => Sys2Proof.Machine.execFltWdkick value s
  | .fltWdWrite value => Sys2Proof.Machine.execFltWdWrite value s
  | .coreWdtExpiry => Sys2Proof.Machine.execCoreWdtExpiry s
  | .engineWdtExpiry source us => Sys2Proof.Machine.execEngineWdtExpiry source us s
  | .aoComplianceClear m => Sys2Proof.Machine.execAoComplianceClear m s
  | .aoOpenClear m => Sys2Proof.Machine.execAoOpenClear m s
  | .aoVOverloadClear ch => Sys2Proof.Machine.execAoVOverloadClear ch s
  | .resetStuckClear => Sys2Proof.Machine.execResetStuckClear s
  | .msixEnable => Sys2Proof.Machine.execMsixEnable s
  | .grantReplyRx pubs subs ints bad => Sys2Proof.Machine.execGrantReplyRx pubs subs ints bad s
  | .cycleFrameRx n period version joins leaves ungranted => Sys2Proof.Machine.execCycleFrameRx n period version joins leaves ungranted s
  | .joinReplyRx reason => Sys2Proof.Machine.execJoinReplyRx reason s
  | .queryAnswerRx ring seq verdict status => Sys2Proof.Machine.execQueryAnswerRx ring seq verdict status s
  | .leaveRequestRx device cause => Sys2Proof.Machine.execLeaveRequestRx device cause s

end Sys2Proof.Machine
end

