-- ==== Sys2Proof/Machine/Step.lean ====
section
/-! DEFINITION. One step: the command at the front of the queue runs; on an empty queue one CK_TIME tick passes. -/

namespace Sys2Proof.Machine

/-- One step. With no command waiting, the timebase counts one tick of 8 ns (R485; notes/assumptions/1.md). -/
def step (s : State) : Host.Outcome State Fault Refusal :=
  match s.pending with
  | [] => .next s.timeTick
  | c :: cs => exec c { s with pending := cs }

/-- The state with the command that a word of the opcode table spells at the front of its queue; the table gives no row
bits, so a word spells none and the state stands. -/
def State.withFetchWord (s : State) (nbits w : Nat) : State :=
  match decodeTableWord nbits w with
  | some c => { s with pending := c :: s.pending }
  | none => s

end Sys2Proof.Machine
end

