-- ==== Sys2Proof/Safety.lean ====
section
/-! DEFINITION. What claims about the module are stated in: when an item is served at once, what its completion leaves in
the intake log, and the invariants that every step keeps. -/

namespace Sys2Proof.Machine

/-- An item is served at once: it is not one for another module, and its deadline, if it came from another, has not
passed (R136), its turn has come (R120), its block has not decided it yet, no handover holds it (R558), the module serves
its block, no mirror waits for it (R549), and the block is on (R36). -/
def State.Ready (s : State) (it : Item) : Prop :=
  (it.remote && it.origin.isNone) = false ∧ ((s.flight it.ring it.seq).any (fun f => f.late s.mer.base)) = false ∧
    s.itemTurn it = true ∧ s.undecided it = true ∧ s.frozen it = false ∧ s.serving it.block = true ∧
    (s.mirWait it && !(s.lateIntent it)) = false ∧ s.blockOff it.block = false

/-- The newest entry of the intake log for an item holds a verdict (R132). -/
def State.HasVerdict (s : State) (it : Item) (v : Verdict) : Prop :=
  ∃ e, s.intakeOf it.ring it.seq = some e ∧ e.verdict = v

/-- The module runs, and PD_CORE, PD_ENG, PD_ACQ, PD_NET, PD_VXL and PD_FLK are on. -/
def State.AllOn (s : State) : Prop :=
  s.sys.mode = .running ∧ s.domOn 2 = true ∧ s.domOn 3 = true ∧ s.domOn 4 = true ∧ s.domOn 5 = true ∧
    s.domOn 6 = true ∧ s.domOn 7 = true

/-- The registers whose write has a row of its own, or that hold the value written to a range. -/
def writeRows : List Reg :=
  [Reg.SYS_RESET, Reg.PWR_UNLOCK, Reg.PWR_CTRL, Reg.HIF_SQ_CTRL, Reg.HIF_CQ_CTRL, Reg.HIF_SQ_BASE_LO,
   Reg.HIF_SQ_BASE_HI, Reg.HIF_CQ_BASE_LO, Reg.HIF_CQ_BASE_HI, Reg.CFG_STATUS, Reg.CFG_DATA, Reg.FLT_STATUS, Reg.FLT_HACK,
   Reg.FLT_WD, Reg.FLT_WDKICK, Reg.MER_SNAP, Reg.MER_OFS_GO, Reg.MER_TXTS_POP, Reg.SYS_TEMP, Reg.SYS_CHKCFG,
   Reg.HIF_TMO, Reg.FLT_SCRUB, Reg.VTX_CORE_CTRL, Reg.VTX_CORE_BASE_LO, Reg.VTX_CORE_BASE_HI, Reg.VTX_CORE_CI, Reg.VTX_CORE_DONE, Reg.VTX_CORE_RAISE,
   Reg.TAN_GAIN, Reg.TAN_KFF, Reg.TAN_DFILT, Reg.ARC_BOOT, Reg.ARC_IRQDIV, Reg.CAN_BUSOFF, Reg.MIR_LOCAL_LO,
   Reg.MIR_LOCAL_HI, Reg.PER_STOP, Reg.CLK_LOSS, Reg.FCT_DITHR, Reg.FCT_DEBOUNCE, Reg.FCT_SPOT_SEL]

/-- The registers whose read does more than clear their stored RC bits: a block's own structure holds what it clears, or
the read has a row of its own. -/
def readRows : List Reg :=
  [Reg.CFG_IMAGE, Reg.FLT_OVFCNT, Reg.MER_TXTS_STAT, Reg.VTX_LOSTALL, Reg.VTX_UNMAPPED, Reg.VTX_BADDONE, Reg.HLX_OVWR,
   Reg.HLX_DROP, Reg.FCT_TEMP, Reg.SYS_TEMP, Reg.MIR_TOKEN]

/-- One servo's state is one of the four of R491. -/
def Servo.Ok (v : Servo) : Prop := v.state ≤ 3

/-- Meridian's invariant: the base counter counts in ticks of 8 ns (R485), the time state is one of the five of R491 and
UNSET while T has not been set, each servo is in one of its four states (R491), and each queue of transmit stamps holds at
most 16 (R496). -/
def MerSt.Ok (m : MerSt) : Prop :=
  m.base % 8 = 0 ∧ m.tstate ≤ 4 ∧ (m.set = false → m.tstate = 0) ∧ m.sv0.Ok ∧ m.sv1.Ok ∧ m.sv2.Ok ∧
    m.txts0.length ≤ 16 ∧ m.txts1.length ≤ 16

/-- The canonical form of a memory: addresses strictly rising, no entry that holds what an unlisted address reads as. -/
def Memory.wf (m : Mem) : Bool := tabWf (fun _ => (0 : Byte)) m

/-- The nonvolatile memories of the module stand in their canonical form. -/
def State.MemoriesOk (s : State) : Prop := Memory.wf s.flash = true ∧ Memory.wf s.mram = true

/-- The Perimeter die's own state. `reqAt`, when the first frame with the present request arrived, and `viewAt`, when the
last status frame did, are kept by the Nimurec die (R592). -/
def PerSt.die (p : PerSt) : PerSt := { p with reqAt := none, viewAt := 0 }

/-- The item of a row that is an item served by its block in the order of its ring (R120); HIF_ABORT alone does not wait
for its turn. -/
def servedItem (c : Instr) : Option Item :=
  match c with
  | .hifNop it | .hifQuery it | .arcClear it | .arcSet it | .arcStartNow it | .arcStartAt it | .arcStopAtEnd it | .arcStopNow it | .canTx it
  | .canFlush it | .cfgStage it | .cfgStageTable it | .cfgDiscard it | .cfgRead it | .cfgValidateCommit it
  | .cfgDryRun it | .cfgPersist it | .cfgImageExport it | .cfgImageImport it | .ethTx it | .ethTxFlush it
  | .fctOutput it | .fctRestore it | .fctPiclear it | .fctCal it | .fctDiagPath it | .fctDiagWire it
  | .fctCalsetRead it | .fctCalsetWrite it | .fctTrimdrive it | .fctTrimdriveRelease it | .fctHart it
  | .sysFwWrite it | .sysFwVerify it | .sysFwTrial it | .sysFwConfirm it | .hlxRead it | .hlxFreeze it
  | .hlxUnfreeze it | .hlxFfRearm it | .latPatch it | .latStop it | .latStart it | .latShadowStart it
  | .latShadowStop it | .latCmpRead it | .locStart it | .locHold it | .locResume it | .locAbort it | .locJump it
  | .locReset it | .locToken it | .locCounterSet it | .locCounterAdd it | .locSchedArm it | .locSchedCancel it
  | .merSet it | .mirSwitch it | .mirResync it | .perStopReq it | .prmArm it | .prmDisarm it | .prmTrigger it
  | .prmMark it | .prmRead it | .prmHistRead it | .tanMode it | .tanSetpoint it | .tanManout it | .tanInject it
  | .tanInjectStop it | .vtxPost it | .vtxSignal it | .vxlWrite it | .vxlLeave it | .vxlMembers it => some it
  | _ => none

/-- The commands that are events of the Perimeter die: its supply, its inputs, its supervision, and the frames and channels
of the stop request that reach it (R74, R565 to R592). -/
def perimeterRow (c : Instr) : Bool :=
  match c with
  | .safetySupplyOn .. | .safetySupplyLoss .. | .selftestDone .. | .safetyInputDemand .. | .safetyInputPermit ..
  | .tpFault .. | .discrepancy .. | .mutingStart .. | .mutingLimit .. | .resetPulse .. | .resetStuck ..
  | .resetStuckClear .. | .stopRequestFrame .. | .stopChannelLoss .. | .channelDisagree .. | .readbackFault ..
  | .dieFault .. | .patternChange .. => true
  | _ => false

/-- The fault queue's invariant: severities are 1 to 3, and nothing waits above the handling level (R596). -/
def FltSt.Ok (f : FltSt) : Prop := (∀ e ∈ f.waiting, 1 ≤ e.sev ∧ e.sev ≤ 3) ∧ f.waitMax ≤ f.level

end Sys2Proof.Machine
end

