-- ==== Sys2Proof/Certificates/Slice0/Obligations.lean ====
section
/-! DEFINITION. The statements for the provers. -/

open Sys2Proof Sys2Proof.Machine

/-- REGISTER_WRITE, REGISTER_READ_CLEAR, MALFORMED_ACCESS and OFF_DOMAIN_ACCESS complete (R12, R14, R19, R108). A write to
a register that no row of its own answers sets its RW bits and clears its W1C bits written 1; a read answers the value that
the register shows and clears its stored RC bits; every other register stays as it is (the equations give the whole next
state). A misaligned access or one of wrong width is counted, and a read of that kind answers 0.
Model's choices it rests on: notes/assumptions/ 4, 7, 10, 53. -/
def Obligations.RegisterAccessCompletes : Prop :=
  (∀ (a : Nat) (v : Word) (host : Bool) (s : State) (r : Reg),
    bar0Word a = true → (a < 0x28000 ∨ 0x28400 ≤ a) → s.alive = true → s.domOn (domainOf a) = true → regAt a = some r →
    r ∉ writeRows →
    exec (.registerWrite a v host) s =
      .next (s.wrA a (((s.rdA a &&& ~~~r.rw) ||| (v &&& r.rw)) &&& ~~~(v &&& r.w1c)))) ∧
  (∀ (a : Nat) (s : State) (r : Reg),
    bar0Word a = true → (a < 0x28000 ∨ 0x29008 ≤ a) → s.alive = true → s.domOn (domainOf a) = true → regAt a = some r →
    r ∉ readRows →
    exec (.registerReadClear a) s = .next ((s.wrA a (s.rdA a &&& ~~~r.rc)).emit (.read a (s.view r a)))) ∧
  (∀ (bar2 : Bool) (a : Nat) (s : State), s.domOn 5 = true →
    exec (.malformedAccess ⟨bar2, false⟩ a) s = .next (s.malformed bar2 a) ∧
    (s.alive = true → exec (.malformedAccess ⟨bar2, true⟩ a) s = .next ((s.malformed bar2 a).zeroRead bar2 a))) ∧
  (∀ (a : Nat) (s : State), s.domOn (domainOf a) = false → s.alive = true →
    exec (.offDomainAccess a) s = .next (s.offAccess a))

/-- The clock and power commands complete (R26, R33 to R38, R611).
Model's choices it rests on: notes/assumptions/ 21, 22, 23, 24, 41, 123. -/
def Obligations.ClockAndPowerComplete : Prop :=
  (∀ (mask : Nat) (s : State),
    let ns := (clocksOf mask).filter (fun n => s.clkOn n)
    let s0 := { s with mer := { s.mer with stampBad := s.mer.stampBad || ns.contains 4 } }
    let s1 := ns.foldl (fun s n => s.clkLost n) s0
    let s2 := ns.foldl (fun s n => s.interfaceDown n) s1
    (ns.contains 4 = true →
      exec (.clockLoss mask) s = .next { s1.allDown with sys := { s1.allDown.sys with
        mode := if s.alive then .noTcxo else s.sys.mode, oscLost := true } }) ∧
    (ns.contains 4 = false →
      let s3 := if ns.contains 3 then s2.arcLost (s.tr.hlx.seq + w32 ((ns.filter (fun n => n < 3)).length)) else s2
      exec (.clockLoss mask) s =
        .next (if ns.any (fun n => [0, 1, 2, 9, 11].contains n) then s3.warmTrigger 10 else s3))) ∧
  (∀ (n : Nat) (s : State), n < 12 → n ≠ 4 →
    exec (.clockRestored n) s = .next (s.wr Reg.CLK_STATUS 0 0 (putBits (s.rd Reg.CLK_STATUS 0 0) n 1 1))) ∧
  (∀ s : State, s.clkOn 4 = false → s.sys.mode = .noTcxo →
    exec .tcxoReturn s = .next (s.wr Reg.CLK_STATUS 0 0 (s.rd Reg.CLK_STATUS 0 0 ||| 0xF1F)).released) ∧
  (∀ (v : Word) (s : State), s.alive = true →
    exec (.pwrUnlockWrite v) s = .next { s with sys := { s.sys with unlocked := v == 0x0A55 } }) ∧
  (∀ s : State, exec .pwrUnlockExpiry s = .next { s with sys := { s.sys with unlocked := false } }) ∧
  (∀ (v : Word) (host : Bool) (s : State), s.alive = true → s.pwrRefuse (bitsOf v 2 6 * 4) host = none →
    let old := (s.rd Reg.PWR_CTRL 0 0).toNat
    let new := bitsOf v 2 6 * 4
    let up := switched.filter (fun n => !(inSet old n) && inSet new n)
    let down := switched.reverse.filter (fun n => inSet old n && !(inSet new n))
    exec (.pwrCtrlWrite v host) s =
      .next (down.foldl (fun s n => s.domOff n)
        (up.foldl (fun s n => s.domRise n) (s.wr Reg.PWR_CTRL 0 0 (w32 new)))).pwrBusy) ∧
  (∀ (n : Nat) (s : State), 2 ≤ n → n < 8 → bitOf (s.rd Reg.PWR_CTRL 0 0) n = true →
    bitOf (s.rd Reg.PWR_STATUS 0 0) n = false → s.alive = true →
    let s1 := s.wr Reg.PWR_STATUS 0 0 (putBits (s.rd Reg.PWR_STATUS 0 0) n 1 1)
    exec (.domainPowerGood n) s =
      let s2 := { s1 with sys := { s1.sys with rising := s1.sys.rising.filter (fun m => m != n) } }
      .next (if s.sys.mode = .running ∨ s.sys.mode = .recovery ∨ s.sys.mode = .halt then s2.domUp n else s2).pwrBusy) ∧
  (∀ (n : Nat) (s : State), s.sys.falling.contains n = true →
    let s1 := s.wr Reg.PWR_STATUS 0 0 (putBits (s.rd Reg.PWR_STATUS 0 0) n 1 0)
    exec (.domainOffComplete n) s =
      .next ({ s1 with sys := { s1.sys with falling := s1.sys.falling.filter (fun m => m != n) } }.domAbsent n).pwrBusy) ∧
  (∀ (n : Nat) (s : State), 2 ≤ n → n < 8 → s.domOn n = true →
    (n = 2 → exec (.powerGoodLost n) s = .next ((s.domEvent n 0x44C0).coldBegin 7)) ∧
    (n = 5 ∨ n = 6 →
      let s1 := s.domEvent n 0x44C0
      exec (.powerGoodLost n) s =
        .next (((s1.wr Reg.PWR_STATUS 0 0 (putBits (s1.rd Reg.PWR_STATUS 0 0) n 1 0)).domDown n).domAbsent n)) ∧
    (n ≠ 2 → n ≠ 5 → n ≠ 6 → exec (.powerGoodLost n) s = .next ((s.domEvent n 0x44C0).warmTrigger 11)))

/-- The supply, base, temperature and lever commands complete (R46, R47, R60, R66, R68 to R72, R76).
Model's choices it rests on: notes/assumptions/ 29, 39, 40, 42, 123, 124, 125. -/
def Obligations.SupplyAndBaseComplete : Prop :=
  (∀ (volt : Nat) (s : State),
    (volt < 1920 →
      exec (.lsSag volt) s = .next ((s.lsShow volt).log 0x2043 0 ((s.lsShow volt).rd Reg.SYS_LSUP 0 0))) ∧
    (1920 ≤ volt → exec (.lsSag volt) s = .next (s.lsShow volt))) ∧
  (∀ (volt : Nat) (s : State), volt < 1700 → s.sys.mode ≠ .powerFail → s.sys.mode ≠ .unpowered →
    ∃ t, exec (.powerFail volt) s = .next t ∧ t.sys.mode = .powerFail ∧
      (t.sys.selfRefresh = true ↔ s.sys.mode = .running ∨ s.sys.mode = .warming ∨ s.sys.mode = .stopped)) ∧
  (∀ s : State, s.sys.mode = .powerFail →
    exec .selfRefreshLost s =
      .next { s with dram := [], sys := { s.sys with poison := [], selfRefresh := false, imgLen := 0 } }) ∧
  (∀ (volt : Nat) (s : State), 1920 ≤ volt →
    (s.sys.mode = .powerFail → s.clkOn 4 = true → s.sys.hot = false → s.sys.oscLost = false →
      (s.sys.selfRefresh = true → s.sys.wasStopped = false → exec (.powerRelease volt) s =
        .next ({ s.lsShow volt with sys := { (s.lsShow volt).sys with mode := .warming } }.warmTrigger 4)) ∧
      (s.sys.selfRefresh = true → s.sys.wasStopped = true → exec (.powerRelease volt) s =
        .next { s.lsShow volt with sys := { (s.lsShow volt).sys with mode := .stopped, wasStopped := false } }) ∧
      (s.sys.selfRefresh = false → exec (.powerRelease volt) s = .next ((s.lsShow volt).coldBegin 3))) ∧
    (s.sys.mode = .powerFail → s.clkOn 4 = false ∨ s.sys.hot = true ∨ s.sys.oscLost = true →
      exec (.powerRelease volt) s = .next (s.lsShow volt).released) ∧
    (s.sys.mode = .unpowered → exec (.powerRelease volt) s = .next ((s.lsShow volt).coldBegin 0))) ∧
  (∀ (code : Nat) (s : State), code % 4 ≠ s.sys.baseCode → s.sys.mode ≠ .unpowered →
    exec (.baseIdChange code) s =
      .next ({ s with sys := { s.sys with baseCode := code % 4 } }.log 0x2047 0 (w32 (code % 4))
        (s.rd Reg.SYS_HWSTAT 0 0))) ∧
  (∀ (base : Nat) (s : State), s.sys.mode = .unpowered →
    ∃ t, exec (.hotInsertion base) s = .next t ∧ t.sys.mode = .unpowered ∧ t.sys.baseCode = base % 4 ∧
      t.flash = s.flash ∧ t.mram = s.mram ∧ t.cfg.image = s.cfg.image ∧ t.cfg.imageId = s.cfg.imageId ∧
      t.sys.selector = s.sys.selector ∧ t.dram = [] ∧ t.per = s.per) ∧
  (∀ s : State, s.sys.mode = .unpowered →
    exec .presenceSettled s =
      .next (((s.setF Fld.SYS_HWSTAT_PRES_A 0 0 1).setF Fld.SYS_HWSTAT_PRES_B 0 0 1).coldBegin 0)) ∧
  (∀ s : State, exec .leverOpen s =
    .next ((s.setF Fld.SYS_HWSTAT_LATCH 0 0 1).log 0x0045 0
      ((s.setF Fld.SYS_HWSTAT_LATCH 0 0 1).rd Reg.SYS_HWSTAT 0 0))) ∧
  (∀ s : State, exec .leverClose s = .next (s.setF Fld.SYS_HWSTAT_LATCH 0 0 0)) ∧
  (∀ (k : Nat) (s : State), k < 2 →
    let s1 := s.setF (if k = 0 then Fld.SYS_HWSTAT_PRES_A else Fld.SYS_HWSTAT_PRES_B) 0 0 0
    exec (.presenceContactLost k) s = .next (s1.log 0x0046 k (s1.rd Reg.SYS_HWSTAT 0 0))) ∧
  (∀ s : State,
    let s1 := (s.setF Fld.SYS_HWSTAT_PRES_A 0 0 0).setF Fld.SYS_HWSTAT_PRES_B 0 0 0
    let pair := s1.inPair && s1.bit Fld.MIR_STATUS_PARTNER 0 0 && s1.sys.mode == .running
    let s2 := ({ s1 with sys := { s1.sys with gone := some (s1.mer.base, pair && s1.mirState == 2) } }).leaveTold
    (pair = false → exec .presenceLost s = .next s2) ∧
    (pair = true → s2.mirState ≠ 2 → exec .presenceLost s = .next (s2.emit .leaveNotice)) ∧
    (pair = true → s2.mirState = 2 → exec .presenceLost s =
      let s3 := s2.emit .leaveNotice
      .next ({ s3 with mir := { s3.mir with switchAt := s3.timeT } }).switchHold)) ∧
  (∀ (b : Nat) (s : State) (takeover : Bool), s.sys.gone = some (b, takeover) → s.goneWait b takeover = false →
    ∃ t, exec .removalOutputsOff s = .next t ∧ t.sys.mode = .unpowered ∧ t.sys.gone = none) ∧
  (∀ (j b : Int) (s : State), (s.fld Fld.SYS_TEMP_TEMP_WARN 0 0 : Int) < j →
    exec (.tempWarn ⟨j, b⟩) s = .next ((s.tempShow j b).log 0x2040 0 ((s.tempShow j b).rd Reg.SYS_TEMP 0 0))) ∧
  (∀ (j b : Int) (s : State), 115 < j →
    exec (.tempCritical ⟨j, b⟩) s = .next ((s.tempShow j b).log 0x4041 0 ((s.tempShow j b).rd Reg.SYS_TEMP 0 0))) ∧
  (∀ (j b : Int) (s : State), 125 ≤ j → s.sys.hot = false → s.sys.mode ≠ .unpowered →
    ∃ t, exec (.thermalShutdown ⟨j, b⟩) s = .next t ∧ t.sys.hot = true ∧ t.dram = [] ∧
      t.sys.mode = if s.alive then .thermalOff else s.sys.mode) ∧
  (∀ (j b : Int) (s : State), j < 100 → s.sys.hot = true → s.sys.mode = .thermalOff →
    let s1 := s.tempShow j b
    exec (.thermalRecovery ⟨j, b⟩) s = .next { s1 with sys := { s1.sys with hot := false } }.released)

/-- The start, reset and checkpoint commands complete (R75, R82, R95 to R97, R102).
Model's choices it rests on: notes/assumptions/ 20, 25, 28, 29, 30, 31, 32, 34, 35, 122, 124, 139. -/
def Obligations.StartsAndCheckpointsComplete : Prop :=
  (∀ (cause straps : Nat) (links : List (Nat × Nat)) (env : StartEnv) (s : State), s.sys.mode = .starting →
    exec (.coldStart cause straps links env) s = .next (s.coldRun straps links env)) ∧
  (∀ (cause : Nat) (links : List (Nat × Nat)) (bad : Bool) (partner : Option Nat) (s : State), s.sys.mode = .warming →
    (∀ n, n ∈ [0, 1, 2, 9, 11] → s.clkOn n = true) →
    exec (.warmRestart cause links ⟨bad, partner⟩) s = .next (s.warmRun links bad partner)) ∧
  (∀ (v : Word) (s : State), resetKey v 1 = true → s.alive = true →
    exec (.sysResetWarm v) s =
      .next ((if s.sys.mode = .running ∧ s.domOn 3 then s.chkNow else s).warmTrigger 8)) ∧
  (∀ (v : Word) (s : State), resetKey v 2 = true → s.alive = true →
    exec (.sysResetCold v) s = .next (s.coldBegin 2)) ∧
  (∀ s : State, s.alive = true → exec .srstRelease s = .next (s.coldBegin 1)) ∧
  (∀ s : State, s.bit Fld.SYS_BOOT_TRIAL 0 0 = true → s.alive = true → s.sys.mode ≠ .starting →
    exec .trialTimeout s =
      .next ({ s.fresh.2 with sys := { s.sys with trialBack := some (s.fld Fld.SYS_BOOT_IMAGE 0 0) } }.coldBegin
        (256 + s.fresh.1.toNat % 256))) ∧
  (∀ s : State, s.sys.mode = .running →
    exec .checkpointPeriod s =
      .next { s with sys := { s.sys with chkPeriodDue := true, chkCfg := s.rd Reg.SYS_CHKCFG 0 0 } }) ∧
  (∀ s : State, s.sys.chkPeriodDue = true → s.sys.mode = .running → s.domOn 3 = true →
    exec .checkpointCapture s =
      .next (if s.sys.chkWriting then s.setF Fld.SYS_CHKSTAT_PENDING 0 0 1 else s.chkCapture)) ∧
  (∀ s : State, s.sys.chkWriting = true →
    let t := s.chkWritten
    exec .checkpointWriteDone s =
      .next (if t.sys.chkPeriodDue ∧ t.sys.mode = .running ∧ t.domOn 3 then t.chkCapture else t))

/-- The firmware commands complete (R101, R102): an image is written into flash and nothing else of it changes, its digest
is shown, a trial is set for the next cold start, and a running trial becomes the selector's image.
Model's choices it rests on: notes/assumptions/ 3, 16. -/
def Obligations.FirmwareCompletes : Prop :=
  (∀ (it : Item) (s : State), s.Ready it → it.inst ≤ 1 → 0 < (it.w 5).toNat → (it.w 5).toNat % 4 = 0 →
    (it.w 5).toNat ≤ 1048576 → (it.w 6).toNat % 4096 = 0 → (it.w 6).toNat + (it.w 5).toNat ≤ imageSize →
    s.imageRuns it.inst = false →
    let bs := s.bufTake it (bufAddr it 3) (it.w 5).toNat
    let f := memPut s.flash (imageBase it.inst + (it.w 6).toNat) bs
    exec (.sysFwWrite it) s = .next ({ s with flash := f }.complete it stDone (w32 (it.w 5).toNat))) ∧
  (∀ (it : Item) (s : State), s.Ready it → it.inst ≤ 1 → s.imageOk it.inst = true →
    let d := memPut [] 0 (s.imageDigest it.inst)
    exec (.sysFwVerify it) s =
      .next (s.complete it stDone (memWord d 0) (memWord d 4) (memWord d 8) (memWord d 12))) ∧
  (∀ (it : Item) (s : State), s.Ready it → it.inst ≤ 1 → s.imageRuns it.inst = false →
    exec (.sysFwTrial it) s =
      .next ({ s with sys := { s.sys with trialNext := some it.inst } }.complete it stDone)) ∧
  (∀ (it : Item) (s : State), s.Ready it → it.inst = 0 →
    (s.bit Fld.SYS_BOOT_TRIAL 0 0 = true →
      exec (.sysFwConfirm it) s =
        .next (({ s with sys := { s.sys with selector := s.fld Fld.SYS_BOOT_IMAGE 0 0 } }.setF
          Fld.SYS_BOOT_TRIAL 0 0 0).complete it stDone)) ∧
    (s.bit Fld.SYS_BOOT_TRIAL 0 0 = false → exec (.sysFwConfirm it) s = .next (s.complete it stDone)))

/-- The host interface commands complete (R107, R111 to R113, R115, R116, R130, R131, R139, R140): the link comes up and
goes down, MSI-X is enabled, a ring that passes its checks is enabled with its indices at zero and its state IDLE's next,
a ring is disabled, a doorbell within the ring moves its index, and held entries and late interrupts go out.
Model's choices it rests on: notes/assumptions/ 4, 126, 127. -/
def Obligations.HostRingsComplete : Prop :=
  (∀ (speed width : Nat) (s : State), s.domOn 5 = true → s.clkOn 5 = true →
    let s1 := ((s.setF Fld.HIF_LINK_UP 0 0 1).setF Fld.HIF_LINK_SPEED 0 0 speed).setF Fld.HIF_LINK_WIDTH 0 0 width
    exec (.pcieLinkUp speed width) s = .next (s1.log 0x0080 0 (w32 speed) (w32 width)).raiseFaults) ∧
  (∀ s : State,
    let s1 := ((List.range 64).foldl hostRingOff s).setF Fld.HIF_LINK_UP 0 0 0
    exec .pcieLinkDown s =
      .next ({ s1 with hif := { s1.hif with msixOn := false } }.log 0x2081 0 (w32 s.openItems))) ∧
  (∀ s : State, exec .msixEnable s = .next { s with hif := { s.hif with msixOn := true } }.raiseFaults) ∧
  (∀ (n : Nat) (v : Word) (s : State), n < 64 → s.domOn 5 = true → s.bit Fld.HIF_SQ_CTRL_ENABLE n 0 = false →
    let s1 := s.wr Reg.HIF_SQ_CTRL n 0 (v &&& Reg.HIF_SQ_CTRL.rw &&& 0xFFFFFFFE)
    let s2 := { s1 with mir := { s1.mir with ackIdx := tset 0 s1.mir.ackIdx n 0 } }
    (s1.sqCheck n = 0 →
      exec (.ringEnable n v) s =
        .next (((((s2.setF Fld.HIF_SQ_CTRL_ENABLE n 0 1).wr Reg.HIF_SQ_PI n 0 0).wr Reg.HIF_SQ_CI n 0 0).setF
          Fld.HIF_SQ_STAT_ERR n 0 0).setF Fld.HIF_SQ_STAT_STATE n 0 1)) ∧
    (s1.sqCheck n ≠ 0 →
      exec (.ringEnable n v) s =
        .next ((s1.setF Fld.HIF_SQ_STAT_ERR n 0 (s1.sqCheck n)).log 0x2083 n (w32 (s1.sqCheck n))))) ∧
  (∀ (m : Nat) (v : Word) (s : State), m < 64 → s.domOn 5 = true → s.bit Fld.HIF_CQ_CTRL_ENABLE m 0 = false →
    exec (.ringEnable (64 + m) v) s =
      .next ((s.wr Reg.HIF_CQ_CTRL m 0 (v &&& Reg.HIF_CQ_CTRL.rw &&& 0xFFFFFFFE)).cqEnable m)) ∧
  (∀ (n : Nat) (s : State), n < 64 → s.domOn 5 = true → s.bit Fld.HIF_SQ_CTRL_ENABLE n 0 = true →
    exec (.ringDisable n) s =
      .next ((s.setF Fld.HIF_SQ_CTRL_ENABLE n 0 0).setF Fld.HIF_SQ_STAT_STATE n 0 (if s.sqBusy n then 2 else 0))) ∧
  (∀ (m : Nat) (s : State), m < 64 → s.domOn 5 = true → s.bit Fld.HIF_CQ_CTRL_ENABLE m 0 = true →
    exec (.ringDisable (64 + m)) s = .next (if s.cqBound m then s.setF Fld.HIF_CQ_STAT_ERR m 0 4 else s.cqOff m)) ∧
  (∀ (n : Nat) (v : Word) (s : State), n < 64 → s.domOn 5 = true → s.bit Fld.HIF_SQ_CTRL_ENABLE n 0 = true →
    (v - s.rd Reg.HIF_SQ_PI n 0).toNat < 2147483648 →
    (s.standby && !(s.ringLocal n)) = true ∨ (v - s.rd Reg.HIF_SQ_CI n 0).toNat ≤ s.sqSize n →
    exec (.sqDoorbell n v) s = .next (s.wr Reg.HIF_SQ_PI n 0 v)) ∧
  (∀ (m : Nat) (v : Word) (s : State), m < 64 → s.domOn 5 = true → s.bit Fld.HIF_CQ_CTRL_ENABLE m 0 = true →
    (v - s.rd Reg.HIF_CQ_CI m 0).toNat < 2147483648 → (s.rd Reg.HIF_CQ_PI m 0 - v).toNat ≤ s.cqSize m →
    let s0 := s.wr Reg.HIF_CQ_CI m 0 v
    let s1 := { s0 with hif := { s0.hif with stalled := s0.hif.stalled.filter (fun n => n != m) } }
    exec (.cqDoorbell m v) s =
      .next (if s1.fld Fld.HIF_CQ_STAT_STATE m 0 = 2 ∧ s1.cqFree m ≠ 0 then s1.setF Fld.HIF_CQ_STAT_STATE m 0 1
        else s1)) ∧
  (∀ (m : Nat) (s : State), s.cqUp m = true → s.bit Fld.HIF_CQ_CTRL_IRQ_EN m 0 = true →
    s.fld Fld.HIF_CQ_COAL_TIME m 0 ≠ 0 → tget 0 s.hif.unsig m ≠ 0 →
    exec (.cqCoalesceTimeout m) s = .next (s.cqIrq m)) ∧
  (∀ (m : Nat) (s : State), s.hif.held.any (fun h => h.cq == m) = true →
    exec (.reportRoomResume m) s = .next (flushHeld s.hif.held [] s)) ∧
  (∀ (n : Nat) (s : State), exec (.hostDmaError n) s = .next (s.ringError n 6))

/-- DESCRIPTOR_FETCH takes the oldest descriptor of the ring whose turn it is, advances CI and has it checked (R118 to
R122); HIF_NOP completes DONE; HIF_QUERY gives the verdict of the intake log (R132); HIF_ABORT completes an item that has
not reached its commit point ABORTED_BY_HOST and itself DONE with detail 1 (R125).
Model's choices it rests on: notes/assumptions/ 5, 13, 87, 126, 128. -/
def Obligations.FetchAndHifItemsComplete : Prop :=
  (∀ (n : Nat) (s : State), s.nextRing = some n →
    let ci := s.rd Reg.HIF_SQ_CI n 0
    let a := s.sqBase n + ci.toNat % s.sqSize n * 64
    s.idxWait n (ci + 1) = false → (s.sqCores n && s.sys.poison.contains (a / 64)) = false →
    let s1 := s.wr Reg.HIF_SQ_CI n 0 (ci + 1)
    let turn := tset 0 s1.hif.turn (s.fld Fld.HIF_SQ_CTRL_PRIO n 0) (n + 1)
    let s2 := { s1 with hif := { s1.hif with fetchIdx := tset 0 s1.hif.fetchIdx n (ci + 1), turn := turn } }
    exec .descriptorFetch s =
      .next (s2.takeDescriptor n (memWords (s.ringMem (s.sqCores n)) a 16)).fetchStalls) ∧
  (∀ (it : Item) (s : State), s.Ready it → exec (.hifNop it) s = .next (s.complete it stDone)) ∧
  (∀ (it : Item) (s : State), s.Ready it → (it.w 3).toNat ≤ 63 →
    (s.intakeOf (it.w 3).toNat (it.w 4) = none → exec (.hifQuery it) s = .next (s.complete it stDone 0)) ∧
    (∀ e st, s.intakeOf (it.w 3).toNat (it.w 4) = some e → e.verdict = .applied st →
      exec (.hifQuery it) s = .next (s.complete it stDone 1 (w32 st) (if e.written then 1 else 0))) ∧
    (∀ e st, s.intakeOf (it.w 3).toNat (it.w 4) = some e → e.verdict = .notApplied st →
      exec (.hifQuery it) s = .next (s.complete it stDone 2 (w32 st) (if e.written then 1 else 0))) ∧
    (∀ e, s.intakeOf (it.w 3).toNat (it.w 4) = some e → e.verdict = .inFlight →
      exec (.hifQuery it) s = .next (s.complete it stDone 3 0 (if e.written then 1 else 0)))) ∧
  (∀ (it : Item) (s : State) (f : Inflight), s.serving it.block = true → s.undecided it = true → s.mirWait it = false →
    (it.w 3).toNat ≤ 63 → s.flight (it.w 3).toNat (it.w 4) = some f → f.abortable = true → f.inAttempt = false →
    let s1 := (s.withdraw f).complete f.item stAborted it.seq
    let s2 := if f.opcode = 0x0E00 ∧ f.phase = .waiting then
        s1.raise (124 + f.item.inst) f.item.inst stAborted (f.note.getD 3 0) else s1
    exec (.hifAbort it) s = .next (s2.cfgSweep.complete it stDone 1))

/-- The staging and image commands of CFG complete (R144, R163 to R168): values are staged, read, discarded, persisted,
exported and imported, and a full image ends its write with event 0x10C3.
Model's choices it rests on: notes/assumptions/ 15, 98, 100, 138. -/
def Obligations.StagingAndImagesComplete : Prop :=
  (∀ (it : Item) (s : State),
    let b := bitsOf (it.w 3) 0 6
    let i := bitsOf (it.w 3) 6 15
    let n := bitsOf (it.w 3) 21 3
    s.Ready it → it.inst = 0 → bitsOf (it.w 3) 24 8 = 0 → 1 ≤ n → n ≤ 5 → tailOff it (4 + 2 * n) = none →
    (∀ j, j < n → bitsOf (it.w (4 + 2 * j)) 16 16 = 0 ∧ stageErr b i (it.w (4 + 2 * j)).toNat 0 = 0) →
    let s1 := s.stagePut ((List.range n).map (fun j => ⟨cfgKey b i (it.w (4 + 2 * j)).toNat 0, it.w (5 + 2 * j)⟩))
    exec (.cfgStage it) s = .next (if s1.stageFits then s1.complete it stDone (w32 0) else s.complete it stState 2)) ∧
  (∀ (it : Item) (s : State) (r : FieldRow),
    let b := bitsOf (it.w 6) 0 6
    let i := bitsOf (it.w 6) 6 15
    let f := (it.w 7).toNat
    let n := (it.w 5).toNat / 4
    let first := (it.w 8).toNat
    s.Ready it → it.inst = 0 → 0 < (it.w 5).toNat → (it.w 5).toNat % 4 = 0 → (it.w 5).toNat ≤ 262144 →
    bitsOf (it.w 6) 21 11 = 0 → f ≤ 65535 → first + n ≤ 65536 → stageErr b i f first = 0 →
    stageErr b i f (first + n - 1) = 0 → fieldRow b i f = some r → r.nElem ≠ 1 →
    let ws := s.bufWords it (bufAddr it 3) n
    let s1 := s.stagePut ((List.range n).map (fun k => ⟨cfgKey b i f (first + k), ws.getD k 0⟩))
    exec (.cfgStageTable it) s = .next (if s1.stageFits then s1.complete it stDone (w32 n) else s.complete it stState 2)) ∧
  (∀ (v : Word) (s : State), s.domOn 3 = true → s.cfgNamed.2 = 0 → (s.stagePut [⟨s.cfgNamed.1, v⟩]).stageFits = true →
    exec (.cfgDataWrite v) s = .next (s.stagePut [⟨s.cfgNamed.1, v⟩])) ∧
  (∀ (it : Item) (s : State), s.Ready it → it.inst = 0 → maskOk (it.w 3) = true →
    let ks := (s.stagedOf (maskBlocks (it.w 3))).map (fun c => c.key)
    exec (.cfgDiscard it) s = .next ((s.stageDrop ks).complete it stDone (w32 ks.length))) ∧
  (∀ (it : Item) (s : State), s.Ready it → it.inst = 0 → bitsOf (it.w 3) 24 8 = 0 → bitsOf (it.w 3) 21 3 = 1 →
    bitsOf (it.w 4) 16 16 = 0 → bitsOf (it.w 5) 16 16 = 0 →
    stageErr (bitsOf (it.w 3) 0 6) (bitsOf (it.w 3) 6 15) (it.w 4).toNat (it.w 5).toNat = 0 →
    let k := cfgKey (bitsOf (it.w 3) 0 6) (bitsOf (it.w 3) 6 15) (it.w 4).toNat (it.w 5).toNat
    exec (.cfgRead it) s =
      .next (s.complete it stDone (tabGet cfgDefault s.cfg.active k) ((s.stagedAt k).getD 0)
        (if (s.stagedAt k).isSome then 1 else 0))) ∧
  (∀ (it : Item) (s : State), s.Ready it → it.inst = 0 →
    let s1 := s.commitChanges (s.directDiff cfgOrder)
    exec (.cfgPersist it) s =
      .next (s1.complete it stDone (w32 s1.cfg.imageId) (w32 (s1.cfg.imageId / 4294967296)))) ∧
  (∀ (it : Item) (s : State), s.Ready it → it.inst = 0 → (imageBytes s.cfg.image).length ≤ (it.w 5).toNat →
    exec (.cfgImageExport it) s =
      .next ((s.noteExport.bufPutBytes it (bufAddr it 3) (imageBytes s.cfg.image)).complete it stDone
        (w32 (imageBytes s.cfg.image).length))) ∧
  (∀ (it : Item) (s : State) (cs : List Change), s.Ready it → it.inst = 0 →
    s.imageGiven (s.bufTake it (bufAddr it 3) (it.w 5).toNat) = some cs →
    let s1 := s.stagePut cs
    exec (.cfgImageImport it) s =
      .next (if s1.stageFits then s1.complete it stDone (w32 cs.length) else s.complete it stState 2)) ∧
  (∀ s : State, s.cfg.writingImage = true →
    let sl := 1 - s.cfg.slot
    let c := { s.cfg with slots := tset none s.cfg.slots sl (some (s.cfg.imageId, s.cfg.image)),
                          slot := sl, journal := [], journalUsed := 0, writingImage := false, imageBad := false }
    exec .fullImageWritten s = .next ({ s with cfg := c }.log 0x10C3 0 (w32 s.cfg.imageId) (w32 sl)))

/-- The commit commands of CFG complete (R147 to R161, R521): a validation starts, the journal entry brings the item to
its commit point, each block takes its values, and a grant's reply or time-out ends the wait.
Model's choices it rests on: notes/assumptions/ 96, 97, 99, 137, 138. -/
def Obligations.CommitsComplete : Prop :=
  (∀ (it : Item) (s : State), s.Ready it → commitFormat it = none → s.cfgBusy it = false →
    exec (.cfgValidateCommit it) s = .next (s.cfgRun it (bitOf (it.w 4) 0)) ∧
    exec (.cfgDryRun it) s = .next (s.cfgRun it true)) ∧
  (∀ (ring : Nat) (seq : Word) (s : State) (j : CfgJob),
    s.cfg.jobs.find? (fun j => j.is ring seq && !j.journaled) = some j → (s.flight ring seq).isSome = true →
    s.shadowsHeld j.changes = true → s.frozen j.item = false → s.mirWait j.item = false →
    exec (.cfgJournalWritten ring seq) s = .next (s.cfgCommit j)) ∧
  (∀ (ring : Nat) (seq : Word) (b : Nat) (s : State) (j : CfgJob),
    s.cfg.jobs.find? (fun j => j.is ring seq && j.journaled && j.blocks.contains b) = some j →
    s.cfg.waits.any (fun w => w.1 == ring && w.2.1 == seq && w.2.2.1 == b) = false → s.blockOff b = false →
    s.atBoundary j b = true →
    exec (.blockValuesTaken ring seq b) s = .next ((s.blockTakes j b).1.blockWait ring seq b (s.blockTakes j b).2)) ∧
  (∀ (pubs subs ints : List Nat) (bad : Option Nat) (s : State) (g : GrantWait), s.cfg.grant = some g →
    let s1 := { s with cfg := { s.cfg with grant := none } }
    let dry := match s.flight g.item.ring g.item.seq with
      | some f => f.note.headD 0 == 1
      | none => false
    let v := s1.grantClamp pubs subs bad g.val
    v.fail = none →
    exec (.grantReplyRx pubs subs ints bad) s = .next (s1.cfgEnd g.item g.given g.moved dry g.old ints v)) ∧
  (∀ (s : State) (g : GrantWait), s.cfg.grant = some g →
    let s1 := { s with cfg := { s.cfg with grant := none } }.giveBack g.moved g.given
    exec .grantTimeout s = .next ((s1.facetAbort g.given).complete g.item stAbsent))

/-- The writes to registers whose value CFG holds complete (R163, R207, R225): the value goes to the field it names, held
to that field's range.
Model's choices it rests on: notes/assumptions/ 103. -/
def Obligations.DirectWritesComplete : Prop :=
  (∀ (t i : Nat) (v : Word) (s : State), s.domOn 3 = true → t < 6 → i < 64 →
    exec (.tanGainWrite t i v) s =
      .next (s.directWord (Reg.TAN_GAIN.addr t i) ⟨7, 0x20 + t⟩ (s.fld Fld.TAN_GSEL_LOOP 0 0) i v)) ∧
  (∀ (l : Nat) (v : Word) (s : State), s.domOn 3 = true → l < 256 →
    exec (.tanKffWrite l v) s = .next (s.directWord (Reg.TAN_KFF.addr l 0) Cf.TAN_KFF l 0 v) ∧
    exec (.tanDfiltWrite l v) s = .next (s.directWord (Reg.TAN_DFILT.addr l 0) Cf.TAN_DFILT l 0 v)) ∧
  (∀ (g : Nat) (v : Word) (s : State), s.domOn 7 = true → g < 32 →
    exec (.arcBootWrite g v) s =
      .next (s.directWord (Reg.ARC_BOOT.addr g 0) Cf.ARC_BOOT g 0 (v &&& Reg.ARC_BOOT.rw)) ∧
    exec (.arcIrqdivWrite g v) s = .next (s.directWord (Reg.ARC_IRQDIV.addr g 0) Cf.ARC_IRQDIV g 0 v)) ∧
  (∀ (ch : Nat) (v : Word) (s : State), s.domOn 7 = true → ch < 128 →
    let thr := holdNat 10 250 (bitsOf v 0 8)
    let hyst := holdNat 1 50 (bitsOf v 8 8)
    let t := Nat.max 1 (v &&& Reg.FCT_DEBOUNCE.rw).toNat
    exec (.fctDithrWrite ch v) s =
      .next ((s.directFct ch [(Cf.FCT_DI_THR, thr), (Cf.FCT_DI_HYST, hyst)]).directClamp
        (Reg.FCT_DITHR.addr (ch / 8) (ch % 8)) (v &&& Reg.FCT_DITHR.rw) (w32 (thr + 256 * hyst))) ∧
    exec (.fctDebounceWrite ch v) s =
      .next ((s.directFct ch [(Cf.FCT_DI_DEBOUNCE, t)]).directClamp (Reg.FCT_DEBOUNCE.addr (ch / 8) (ch % 8))
        (v &&& Reg.FCT_DEBOUNCE.rw) (w32 t))) ∧
  (∀ (n : Nat) (v : Word) (s : State), s.domOn 7 = true → n < 16 →
    exec (.fctSpotSelWrite n v) s = .next (s.wr Reg.FCT_SPOT_SEL n 0 (v &&& Reg.FCT_SPOT_SEL.rw)))

/-- The commands of the Facet link and of safe state complete (R172 to R182, R185, R188 to R190, R553).
Model's choices it rests on: notes/assumptions/ 12, 60, 61, 71, 84, 124, 130, 135, 136, 142. -/
def Obligations.FacetLinkAndSafeStateComplete : Prop :=
  (∀ (n : Nat) (s : State), n < 16 → s.domOn 7 = true → s.sys.mode = .running →
    let r := (s.expireRemote.frameItems n).composeFrame n
    let tick : List Out := if s.mirState = 2 then [.tick ((s.timeT / 4294967296 / 1000) % 256).toNat] else []
    let m := { r.2.mir with ownFrame := s.timeT }
    exec (.facetFrameTick n) s = .next { r.2 with out := tick ++ Out.facet n r.1 :: r.2.out, mir := m }) ∧
  (∀ (n : Nat) (sof codeErr : Bool) (bytes : List Byte) (x : FieldFrame) (s : State), n < 16 →
    (s.facet n).unfed = false →
    let r := s.composeUp n x
    let s1 := (if (s.facet n).perimRel then r.2.redriveAll n else r.2).emit (.facetUp n r.1)
    let valid := sof && !codeErr && bytes.length == 124 && frameCrcOk bytes
    exec (.downstreamFrameRx n sof codeErr bytes x) s = .next (if valid then s1.takeDown n bytes x.volts else s1)) ∧
  (∀ (n : Nat) (bytes : List Byte) (s : State), n < 16 → s.domOn 7 = true → s.sys.mode = .running →
    s.linkUp n = true → bytes.length = 124 → frameCrcOk bytes = true →
    (∀ q, (s.facet n).upSeq = some q → sym bytes 1 = (q + 1) % 256) →
    exec (.upstreamFrameRx n true false bytes) s = .next (s.takeUp n bytes)) ∧
  (∀ (n : Nat) (s : State), n < 16 → s.linkUp n = true → exec (.facetLinkDown n) s = .next (s.linkDown n)) ∧
  (∀ (n d : Nat) (s : State), n < 16 → s.domOn 7 = true → s.sys.mode = .running → s.linkUp n = false →
    exec (.facetLinkUp n d) s = .next (s.linkTrained n d)) ∧
  (∀ (n : Nat) (s : State),
    exec (.perimOffLine n) s = .next ((s.setFacet n { s.facet n with perimOff := true }).redriveAll n) ∧
    exec (.perimOffRelease n) s = .next ((s.setFacet n { s.facet n with
      perimOff := false, perimRel := (s.facet n).perimRel || ((s.facet n).perimOff &&
        decide (s.mer.base < (s.facet n).lastFrame + 2000)) }).redriveAll n)) ∧
  (∀ (n : Nat) (ins : List (Option Word)) (s : State), (s.facet n).cfgOk = true →
    let was := (facetChans n).any (fun ch => (s.chan ch).safe)
    let outs := (facetChans n).filter (fun ch => isOut (s.ownMode ch) && !(s.chan ch).safe)
    (was = false ∨ outs ≠ []) →
    let s1 := outs.foldl (fun s ch => s.setChan ch { s.chan ch with safe := true, trim := 0 }) (s.hartCut n)
    let since := if was then (s1.facet n).safeAt else s1.mer.base
    let s2 := (s1.setFacet n { s1.facet n with safeAt := since, fdiag := none }).slotsStart n outs ins
    exec (.facetWdtExpiry n ins) s = .next ((s2.redriveAll n).log 0x2483 n (w32 (s2.fctWdt n)))) ∧
  (∀ (n slot : Nat) (s : State),
    let x := (s.facet n).slot slot
    slot < 4 → x.run = true →
    (x.bad = false → exec (.fallbackEval n slot none) s =
      .next ((s.setSlot n slot { x with bad := true }).log 0x2486 (8 * n + (s.fb n slot 1).toNat) (w32 slot))) ∧
    (∀ v, x.has = true →
      let m := s.ownMode (8 * n + s.fbOut n slot)
      let r := fbLaw (s.fbSet n slot) v x.u x.ePrev (s.fb n slot 2) (s.fb n slot 3) (s.fb n slot 6) (s.fb n slot 7)
        (modeLo m) (modeHi m)
      exec (.fallbackEval n slot (some v)) s =
        .next ((s.setSlot n slot { x with u := r.1, ePrev := r.2, bad := false }).redriveAll n)) ∧
    (∀ v, x.has = false →
      let e := w32f (Fl.sub fmt32 (f32 (s.fbSet n slot)) (f32 v))
      exec (.fallbackEval n slot (some v)) s =
        .next (s.setSlot n slot { x with ePrev := e, has := true, bad := false })) ∧
    (let ch := 8 * n + s.fbOut n slot
     let s1 := (s.setChan ch { s.chan ch with out := x.u }).setSlot n slot { x with run := false, expired := true }
     exec (.fallbackExpiry n slot) s = .next ((s1.redriveAll n).log 0x2485 ch (w32 slot)))) ∧
  (∀ (n : Nat) (s : State), (s.facet n).variant = true → (s.facet n).cfgOk = true →
    let start := (s.facet n).lastFrame + s.releaseDelay
    start ≤ s.mer.base →
    exec (.pairReleaseRamp n) s = .next ((s.setFacet n { s.facet n with
      released := (s.facet n).released || decide (start + 40000 ≤ s.mer.base),
      rampNs := Nat.min 40000 (s.mer.base - start) }).redriveAll n))

/-- The digital channels' commands complete (R196 to R200, R206, R207): a debounced change gives its sample, its Vertex
source and its event as COS_EN says; an overloaded output switches off and is retried; a mismatch shows; a gate ends.
Model's choices it rests on: notes/assumptions/ 64, 85. -/
def Obligations.DigitalChannelsComplete : Prop :=
  (∀ (ch : Nat) (mv : Int) (held : Nat) (st : Stamp) (s : State), ch < 128 → s.ownMode ch = 7 →
    let thr : Int := ((s.own Cf.FCT_DI_THR ch).toNat : Int)
    let hyst : Int := ((s.own Cf.FCT_DI_HYST ch).toNat : Int)
    let on := if thr * 100 ≤ mv then true else if mv < (thr - hyst) * 100 then false else (s.chan ch).cmp
    ((s.chan ch).deb ≠ on → (s.chan ch).chgAt = none → (s.own Cf.FCT_DI_DEBOUNCE ch).toNat * 1000 ≤ held →
      let s0 := s.setChan ch { s.chan ch with cmp := on, deb := on, chgAt := some (stTime st) }
      (s.linkUp (ch / 8) = false → exec (.diChange ch ⟨mv, held⟩ st) s = .next s0) ∧
      (s.linkUp (ch / 8) = true →
        let v : Word := if on then 1 else 0
        let t := stTime st
        let s1 := (s0.setChan ch { s0.chan ch with last := v, lastAt := t }).sample ch v 0 t
        let cos := s.cfN Cf.FCT_COS_EN ch
        let s2 := if (on ∧ cos % 2 = 1) ∨ (!on ∧ cos / 2 % 2 = 1) then
            s1.report [Work.src (16 + ch / 8) ch (if on then 0 else 1) v (stampOf t)] else s1
        exec (.diChange ch ⟨mv, held⟩ st) s =
          .next (if 4 ≤ cos then s2.logAt (stampOf t) 0x0490 ch v 0 0 0 else s2))) ∧
    (((s.chan ch).deb = on ∨ (s.chan ch).chgAt ≠ none ∨ held < (s.own Cf.FCT_DI_DEBOUNCE ch).toNat * 1000) →
      exec (.diChange ch ⟨mv, held⟩ st) s = .next (s.setChan ch { s.chan ch with cmp := on }))) ∧
  (∀ (ch : Nat) (s : State), s.ownMode ch = 8 → (s.chan ch).ovl = false → (s.chan ch).drv = 1 →
    exec (.doOverload ch) s =
      .next (((s.setChan ch { s.chan ch with ovl := true, ovlAt := s.mer.base }).redrive ch).log 0x348C ch)) ∧
  (∀ (ch : Nat) (s : State), s.ownMode ch = 8 → (s.chan ch).ovl = true → s.own Cf.FCT_DO_RETRY ch = 1 →
    (s.chan ch).ovlAt + 100000000 ≤ s.mer.base → s.wanted ch = 1 →
    exec (.doRetry ch) s =
      .next (((s.setChan ch { s.chan ch with ovl := false }).redrive ch).log 0x048B ch 2)) ∧
  (∀ (n : Nat) (s : State), (s.facet n).total = none → exec (.doTotalOverload n) s = .next (s.totalShed n 0)) ∧
  (∀ (n k : Nat) (s : State), (s.facet n).total = some k →
    exec (.doTotalShedNext n true) s = .next (s.totalShed n k) ∧
    exec (.doTotalShedNext n false) s =
      .next ((s.setFacet n { s.facet n with total := none }).log 0x348D n (w32 k))) ∧
  (∀ (ch : Nat) (mv : Int) (s : State), s.ownMode ch = 8 → (s.chan ch).mism = false →
    ((s.chan ch).drv = 1 ∧ mv ≤ 12000 →
      exec (.doMismatch ch mv false) s = .next ((s.setChan ch { s.chan ch with mism := true }).log 0x248E ch 1 0)) ∧
    ((s.chan ch).drv ≠ 1 ∧ 12000 < mv ∧ s.baseId = 2 →
      exec (.doMismatch ch mv false) s = .next ((s.setChan ch { s.chan ch with mism := true }).log 0x248E ch 0 1))) ∧
  (∀ (ch : Nat) (mv : Int) (s : State), (12000 < mv ↔ (s.chan ch).drv = 1) →
    exec (.doMismatchClear ⟨ch, mv⟩) s = .next (s.setChan ch { s.chan ch with mism := false })) ∧
  (∀ (ch : Nat) (s : State), ch < 128 → s.chMode ch = 9 → s.linkUp (ch / 8) = false →
    exec (.piGateEnd ch) s = .next (s.setChan ch { s.chan ch with gateN := 0 })) ∧
  (∀ (ch : Nat) (s : State), ch < 128 → s.chMode ch = 9 → s.linkUp (ch / 8) = true →
    let c := s.chan ch
    let f := if c.gateN < 2 ∨ c.gateLast ≤ c.gateFirst then (0 : Word)
      else w32f (Fl.ofRat fmt32 (((c.gateN - 1 : Nat) : Int) * 4294967296000000000) (c.gateLast - c.gateFirst).toNat)
    let s1 := (s.setChan ch { c with gateN := 0 }).wr Reg.FCT_PIFREQ (ch / 8) (ch % 8) f
    exec (.piGateEnd ch) s =
      .next (s1.sample ch (if s.cfN Cf.FCT_PI_OUT ch = 1 then f else s.rd Reg.FCT_PICOUNT (ch / 8) (ch % 8)) 0 s.timeT)) ∧
  (∀ (it : Item) (s : State), s.Ready it → it.inst ≤ 127 → s.chMode it.inst = 9 →
    exec (.fctPiclear it) s =
      .next ((s.wr Reg.FCT_PICOUNT (it.inst / 8) (it.inst % 8) 0).complete it stDone)) ∧
  (∀ (it : Item) (s : State), s.Ready it → it.inst ≤ 127 → s.cfN Cf.FCT_OWNER it.inst = 0 →
    isOut (s.chMode it.inst) = true → (s.chMode it.inst = 8 → (it.w 3).toNat ≤ 1) →
    (isAO (s.chMode it.inst) = true → isNan32 (it.w 3) = false) →
    exec (.fctOutput it) s = .next (s.holdItem 0x1200 it [it.w 3])) ∧
  (∀ (it : Item) (s : State), s.Ready it → it.inst ≤ 15 → (s.facet it.inst).supLow = false →
    exec (.fctRestore it) s = .next (s.holdItem 0x1201 it []))

/-- The commands of the field supply complete (R171, R201 to R204): the warning and low flags with their events, the
shed sequence group by group, the recovery and the restores, and the Facet's reset and power-up.
Model's choices it rests on: notes/assumptions/ 119. -/
def Obligations.FieldSupplyCompletes : Prop :=
  (∀ (n v : Nat) (s : State), (s.facet n).supWarn = false → v < 1920 →
    exec (.supWarn n v) s = .next ((s.setFacet n { s.facet n with supWarn := true }).log 0x2487 n (w32 v))) ∧
  (∀ (n v : Nat) (s : State), (s.facet n).supLow = false → v < 1500 →
    let f := s.facet n
    exec (.supLow n v) s =
      .next ((s.setFacet n { f with supLow := true, shedSeq := some f.shedNext }).log 0x3488 n (w32 v))) ∧
  (∀ (n v g : Nat) (s : State), (s.facet n).shedSeq = some g →
    (1500 ≤ v → exec (.shedGroupInstant n v) s = .next (s.setFacet n { s.facet n with shedSeq := none })) ∧
    (v < 1500 →
      let s1 := s.shedGroup n g
      exec (.shedGroupInstant n v) s =
        .next (s1.setFacet n { s1.facet n with shedSeq := if g < 3 then some (g + 1) else none, shedNext := g + 1 }))) ∧
  (∀ (n v : Nat) (s : State), (s.facet n).supLow = true → (s.facet n).shedSeq = none → (s.facet n).shedNext < 4 →
    v < 1500 →
    exec (.shedRestart n v) s = .next (s.setFacet n { s.facet n with shedSeq := some (s.facet n).shedNext })) ∧
  (∀ (n v : Nat) (s : State), ((s.facet n).supWarn = true ∨ (s.facet n).supLow = true) → 1920 ≤ v →
    let f1 := { s.facet n with supWarn := false, supLow := false, shedSeq := none, shedNext := 0, autoRest := some 0 }
    exec (.supRecovered n v) s = .next ((s.setFacet n f1).log 0x048A n (w32 (s.fld Fld.FCT_SUPPLY_MIN n 0)))) ∧
  (∀ (n g : Nat) (s : State), (s.facet n).autoRest = some g →
    let s1 := (facetChans n).foldl (fun s ch =>
      if s.isShed ch ∧ s.own Cf.FCT_AUTO_RESTORE ch = 1 ∧ (s.own Cf.FCT_SHED_GROUP ch).toNat = g then s.restoreOut ch 1
      else s) s
    exec (.autoRestoreGroup n) s =
      .next (s1.setFacet n { s1.facet n with autoRest := if g < 3 then some (g + 1) else none })) ∧
  (∀ (n : Nat) (s : State),
    ∃ t, exec (.facetSupplyReset n) s = .next t ∧ (t.facet n).cfgOk = false ∧ (t.facet n).perimOff = (s.facet n).perimOff ∧
      (t.facet n).unfed = true ∧ (t.facet n).slices = [] ∧ (∀ k, (t.facet n).slot k = fbIdle) ∧
      (n < 16 → t.rd Reg.FCT_CALSTAT n 0 = 0 ∧ (∀ k, k < 4 → t.rd Reg.FCT_SLICE n k = 0)) ∧
      t.mer = s.mer ∧ t.cfg = s.cfg) ∧
  (∀ (n : Nat) (s : State),
    let s1 := (facetChans n).foldl (fun s ch =>
      if isOut (s.chMode ch) then s.setChan ch { s.chan ch with shed := true } else s) s
    exec (.facetPowerUp n) s =
      .next ((s1.setFacet n { s1.facet n with restarted := true, cfgOk := false, delivered := false,
                                              unfed := false }).redriveAll n))

/-- The calibration and diagnosis commands of the Facets complete (R213 to R215, R229 to R234, R250): a slice correction
moves the factors, FCT_CAL and the diagnoses hand their command to the Facet, and their ends complete the items.
Model's choices it rests on: notes/assumptions/ 3, 45, 63, 131, 132, 134. -/
def Obligations.CalibrationCompletes : Prop :=
  (∀ (n k : Nat) (dO dG dS : Int) (s : State), n < 16 → k < 4 →
    let x := s.slice n k
    let y := (sliceMove 11 1 x.1 dO, sliceMove 11 2 x.2.1 dG, sliceMove 10 1 x.2.2 dS)
    (s.linkUp n = false → exec (.sliceCorrection n k dO dG dS) s = .next (s.setSlice n k y)) ∧
    (s.linkUp n = true →
      let s1 := (s.setSlice n k y).showSlices n
      exec (.sliceCorrection n k dO dG dS) s =
        .next (if atLimit y ∧ !(s.bit Fld.FCT_CALSTAT_LIMIT n 0) then
          (s1.setF Fld.FCT_CALSTAT_LIMIT n 0 1).log 0x2493 n (w32 k) else s1))) ∧
  (∀ (it : Item) (s : State), s.Ready it → it.inst ≤ 15 → (s.facet it.inst).diag = none →
    (s.facet it.inst).calBusy = false → (∀ c ∈ (s.facet it.inst).cmds, c.1 ≠ 1) →
    let f := s.facet it.inst
    exec (.fctCal it) s = .next ((s.setFacet it.inst { f with cmds := f.cmds ++ [(1, 0)] }).holdItem 0x1210 it [])) ∧
  (∀ (n : Nat) (fs : List (Int × Int × Int)) (dac : Int × Int) (s : State) (x : Inflight), n < 16 → (s.facet n).calBusy = true →
    (∀ k, k < 4 → factorsFit (fs.getD k (0, 0, 0)) = true) → s.begun 0x1210 (fun i => i == n) = some x →
    let fs' := (List.range 4).map (fun k => fs.getD k (0, 0, 0))
    let f1 := { s.facet n with calBusy := false, dac := dac, ack := 129, slices := fs' }
    let s1 := ((s.setFacet n f1).setF Fld.FCT_CALSTAT_BUSY n 0 0).incF Fld.FCT_CALSTAT_RUNS n 0 1
    let s2 := ((s1.showSlices n).setF Fld.FCT_CALSTAT_FAIL n 0 0).setF Fld.FCT_CALSTAT_LIMIT n 0 0
    exec (.fctCalDone n ⟨fs, dac⟩) s = .next ((s2.log 0x0491 n 38).complete x.item stDone)) ∧
  (∀ (it : Item) (s : State), s.Ready it → it.inst ≤ 127 → (it.w 3).toNat ≤ 1 →
    let ch := it.inst
    let n := ch / 8
    let m := s.chMode ch
    (s.facet n).diag = none → (s.facet n).calBusy = false → (∀ c ∈ (s.facet n).cmds, c.1 ≠ 1) →
    isAI m = true → (it.w 3 = 1 → m = 1) → s.levelOk ch (it.w 4) = true → s.levelOk ch (it.w 5) = true →
    let a := dacCode m (it.w 4)
    let b := dacCode m (it.w 5)
    let arg := ch % 8 + (a % 4096).toNat * 16 + (b % 4096).toNat * 65536
    let cmd := if it.w 3 = 1 then 3 else 2
    let d : DiagSt := ⟨it.ring, it.seq, it.w 3 = 1, ch % 8, w32f (dacLevel m a), w32f (dacLevel m b), false, none, []⟩
    let s1 := s.setFacet n { s.facet n with cmds := (s.facet n).cmds ++ [(cmd, arg)], diag := some d }
    let t := ((s1.setF Fld.FCT_DIAGSTAT_BUSY n 0 1).setF Fld.FCT_DIAGSTAT_CH n 0 (ch % 8)).holdItem 0x1211 it []
    exec (.fctDiagPath it) s = .next t ∧ exec (.fctDiagWire it) s = .next t) ∧
  (∀ (n : Nat) (mA mB : Word) (s : State) (d : DiagSt) (x : Inflight), (s.facet n).diag = some d →
    s.flight d.ring d.seq = some x →
    let ch := 8 * n + d.ch
    let t0 := d.since.getD s.timeT
    (d.aborted = true ∨ (d.since ≠ none ∧ laterBy t0 (s.diagLen ch) ≤ s.timeT)) →
    let m := s.ownMode ch
    let multi := s.own Cf.FCT_HART_MULTIDROP ch == 1
    let cs := diagCodes t0 d.codes
    let s0 := s.setFacet n { s.facet n with diag := none, fdiag := none, ack := 128 + (if d.wire then 3 else 2) }
    let a := diagMean m multi cs.1 mA
    let b := diagMean m multi cs.2 mB
    let r := s0.diagRatio d a b
    let v := diagVerdict d m (s.cfN Cf.FCT_DIAG_TOL (128 + n)) r.1 a
    let g := wInt (satInt32 (Fl.mul fmt64 (Fl.sub fmt64 r.1 (Fl.ofInt 1)) (Fl.ofInt 1000000)).toIntEven)
    let s2 := (r.2.setF Fld.FCT_DIAGSTAT_BUSY n 0 0).setF Fld.FCT_DIAGSTAT_VERDICT n 0 v
    exec (.diagDone n mA mB) s =
      .next ((if v = 0 then s2 else s2.log 0x249A ch (if d.wire then 1 else 0) (w32 v)).complete x.item stDone (w32 v)
        a b g)) ∧
  (∀ (it : Item) (s : State), s.Ready it → it.inst ≤ 127 → (it.w 3).toNat ≤ 3 →
    let ws := s.calRec it.inst (it.w 3).toNat
    exec (.fctCalsetRead it) s =
      .next ((s.bufPut it (bufAddr it 4) ws).complete it stDone (w32 (calOrigin (it.w 3).toNat ws)))) ∧
  (∀ (it : Item) (s : State), s.Ready it → it.w 6 = 0xCA1B → it.inst ≤ 127 → (it.w 3).toNat ≤ 3 →
    within32 (calLimits (it.w 3).toNat).1 (it.w 4) = true → within32 (calLimits (it.w 3).toNat).2 (it.w 5) = true →
    exec (.fctCalsetWrite it) s = .next (s.holdItem 0x1213 it [])) ∧
  (∀ (it : Item) (s : State), s.Ready it → it.inst ≤ 127 → (it.w 3).toNat ≤ 2 → s.cfN Cf.FCT_OWNER it.inst = 0 →
    isAO (s.chMode it.inst) = true →
    exec (.fctTrimdrive it) s = .next (s.holdItem 0x1214 it []) ∧
    exec (.fctTrimdriveRelease it) s = .next (s.holdItem 0x1214 it []))

/-- The HART transactions complete (R242 to R245): the item takes the Facet's modem, a reply goes to its buffer and ends
it, time-outs end it without one, and a reply that nobody waits for is counted.
Model's choices it rests on: notes/assumptions/ 62, 133. -/
def Obligations.HartCompletes : Prop :=
  (∀ (it : Item) (s : State), s.Ready it → it.inst ≤ 127 → 3 ≤ (it.w 6).toNat → (it.w 6).toNat ≤ 262 →
    263 ≤ (it.w 9).toNat → (s.chMode it.inst = 3 ∨ s.chMode it.inst = 5) → s.hartTaken it = false →
    let n := it.inst / 8
    let s1 := s.setFacet n { s.facet n with hart := some ⟨it.ring, it.seq, it.inst % 8, 0, true, false, 0, []⟩ }
    exec (.fctHart it) s =
      .next (((s1.setF Fld.FCT_HARTSTAT_BUSY n 0 1).setF Fld.FCT_HARTSTAT_CH n 0 (it.inst % 8)).holdItem 0x1215 it [])) ∧
  (∀ (n : Nat) (line : List Byte) (clean : Bool) (s : State) (x : Inflight), s.hartWait n = some x →
    let l := line.dropWhile (fun b => b == 0xFF)
    let bs := l.dropLast
    let ok := l.getLast?.getD 0 == hartCheck bs && !l.isEmpty && clean
    let s1 := (s.hartEnd n).bufPutBytes x.item (bufAddr x.item 7) (bs.take (x.item.w 9).toNat)
    let s2 := if ok then s1 else s1.incF Fld.FCT_HARTSTAT_CHKERR n 0 1
    exec (.hartReply n line clean) s =
      .next (s2.completeAt x.item x.sentAt stDone (w32 bs.length) (if ok then 0 else 2) 0 0) ∧
    (∀ t, (s.facet n).hart = some t →
      t.closedAt + (s.own Cf.FCT_HART_RTMO (128 + n)).toNat * 1000000 ≤ s.mer.base →
      exec (.hartReplyTimeout n) s =
        .next (((s.hartEnd n).incF Fld.FCT_HARTSTAT_NOREPLY n 0 1).completeAt x.item x.sentAt stDone 0 1 0 0))) ∧
  (∀ (n : Nat) (s : State) (t : HartTx), (s.facet n).hart = some t → t.closed = false →
    let s1 := (s.setFacet n { s.facet n with modem := none }).hartEnd n
    let h := { s1.hif with inflight := flightUpd t.ring t.seq (fun x => { x with phase := .fetched }) s1.hif.inflight }
    exec (.hartTxTimeout n) s = .next { s1 with hif := h }) ∧
  (∀ (n : Nat) (line : List Byte) (clean : Bool) (s : State), s.hartWait n = none →
    exec (.hartUnsolicited n) s = .next (s.incF Fld.FCT_HARTSTAT_UNSOL n 0 1) ∧
    exec (.hartReply n line clean) s = .next (s.incF Fld.FCT_HARTSTAT_UNSOL n 0 1))

/-- The conditions of analog channels are set with their events and cleared (R235 to R241).
Model's choices it rests on: notes/assumptions/ 65, 119. -/
def Obligations.AnalogConditionsComplete : Prop :=
  (∀ (ch : Nat) (meas : Word) (s : State), isAI (s.ownMode ch) = true →
    let edge := s.own Cf.FCT_AI_OPENI ch
    let isOpen := if s.ownMode ch = 1 then Fl.lt (f32 0x41266666) (f32 meas) else Fl.lt (f32 meas) (f32 edge)
    let isShut := if s.ownMode ch = 1 then Fl.lt (f32 meas) (f32 0x41266666)
      else Fl.le (Fl.add fmt32 (f32 edge) (f32 0x3DCCCCCD)) (f32 meas)
    (s.own Cf.FCT_AI_OPENDET ch = 1 → (s.chan ch).openw = false → isOpen = true →
      exec (.aiOpenDetect ⟨ch, meas⟩) s =
        .next ((s.setChan ch { s.chan ch with openw := true }).log 0x2494 ch (w32 (s.ownMode ch)))) ∧
    (isShut = true → exec (.aiOpenClear ⟨ch, meas⟩) s = .next (s.setChan ch { s.chan ch with openw := false }))) ∧
  (∀ (ch need : Nat) (meas : Word) (s : State), isAOI (s.ownMode ch) = true →
    let c := s.chan ch
    let sup := Nat.max 500 (Nat.min 2700 (need + 250))
    let s1 := (s.setChan ch { c with vsup := sup }).setF Fld.FCT_AOSTAT_VSUP (ch / 8) (ch % 8) sup
    let short := Fl.lt (Fl.ofRat fmt64 1 20) (Fl.sub fmt64 (f32 c.drv) (f32 meas))
    (c.comp = false → c.openw = false → sup = 2700 → short = true →
      exec (.aoCompliance ch meas need) s =
        .next ((s1.setChan ch { s1.chan ch with comp := true }).log 0x2495 ch c.drv meas)) ∧
    ((c.comp = true ∨ c.openw = true ∨ sup ≠ 2700 ∨ short = false) →
      exec (.aoCompliance ch meas need) s = .next s1) ∧
    (c.openw = false → Fl.le (f32 0x3F800000) (f32 c.drv) = true → Fl.lt (f32 meas) (f32 0x3E4CCCCD) = true →
      exec (.aoOpen ⟨ch, meas⟩) s = .next ((s.setChan ch { c with openw := true, comp := false }).log 0x2497 ch)) ∧
    (Fl.le (f32 0x3E4CCCCD) (f32 meas) = true →
      exec (.aoOpenClear ⟨ch, meas⟩) s = .next (s.setChan ch { c with openw := false }))) ∧
  (∀ (ch : Nat) (meas : Word) (s : State),
    let out := f32 (s.chan ch).drv
    Fl.lt (Fl.ofRat fmt64 1 20) (Fl.sub fmt64 out (f32 meas)) = false →
    Fl.lt (Fl.ofRat fmt64 1 20) (Fl.sub fmt64 (f32 meas) out) = false →
    exec (.aoComplianceClear ⟨ch, meas⟩) s = .next (s.setChan ch { s.chan ch with comp := false })) ∧
  (∀ (ch temp need : Nat) (s : State), isAOI (s.ownMode ch) = true →
    let s0 := s.setSupply ch need
    let c := s0.chan ch
    let il := ilimStep temp c.ilim
    let hot := 175 ≤ temp || (c.hot && 140 ≤ temp)
    let s1 := (s0.setF Fld.FCT_AOSTAT_ILIM (ch / 8) (ch % 8) il).setF Fld.FCT_AOSTAT_STAGE_TEMP (ch / 8) (ch % 8)
      (Nat.min 255 temp)
    exec (.aoThermalStep ch ⟨temp, need⟩) s = .next ((s1.setChan ch { c with ilim := il, hot := hot, ovl := hot }).redrive ch)) ∧
  (∀ (ch : Nat) (s : State), s.ownMode ch = 6 →
    ((s.chan ch).ovl = false →
      exec (.aoVOverload ch) s = .next ((s.setChan ch { s.chan ch with ovl := true }).log 0x2498 ch)) ∧
    exec (.aoVOverloadClear ch) s = .next (s.setChan ch { s.chan ch with ovl := false }))

/-- The Tangent commands complete (R253 to R283): a tick serves the loops that are due, a loop's sample becomes ready, is
evaluated, is handed on or misses its deadline, and each opcode's request waits at its loop for the loop's next tick.
Model's choices it rests on: notes/assumptions/ 64, 66, 67, 69, 70, 102, 142. -/
def Obligations.TangentCompletes : Prop :=
  (∀ s : State, s.engOn = true → (s.loop 0).tickN ≤ tickOf s.timeT →
    let n := tickOf s.timeT
    let s0 := s.tanWaiting.foldl (fun s l => s.tanDue n l) s.expireRemote
    let s1 := s0.loopsSet.foldl (fun s l => s.loopTick n l) s0
    exec .loopTick s = .next (s1.setLoop 0 { s1.loop 0 with tickN := n + 1 })) ∧
  (∀ (l : Nat) (s : State) (x : Sample), (s.loop l).samp = some x → x.ready = false →
    s.timeT ≤ s.deadline l x →
    let v := s.srcVal (s.cf Cf.TAN_PV_SRC l 0)
    let y := { x with ready := true, x := v.1, q := v.2, readyAt := s.mer.base }
    exec (.loopReady l) s = .next (s.setLoop l { s.loop l with samp := some y })) ∧
  (∀ (l : Nat) (s : State) (x : Sample), s.engOn = true → s.unitsBusy < 4 → s.nextEval = some (l, x) →
    s.timeT ≤ s.deadline l x → exec .loopEvaluation s = .next (s.evalLoop l x)) ∧
  (∀ (l : Nat) (s : State) (x : Sample), (s.loop l).samp = some x → x.done = true →
    s.timeT ≤ s.deadline l x →
    let s0 := s.setLoop l { s.loop l with samp := none }
    let s1 := (match x.cap with
      | some c => s0.injAfter l c
      | none => s0).setF Fld.TAN_LSTAT_MISS l 0 0
    let lat := Nat.min 65535 (s.mer.base - x.readyAt)
    let s2 := if s1.fld Fld.TAN_LATMAX_NS l 0 < lat then s1.setF Fld.TAN_LATMAX_NS l 0 lat else s1
    (∀ v, x.drive = some v → exec (.loopResultHandoff l) s = .next (s2.handTo l v)) ∧
    (x.drive = none → exec (.loopResultHandoff l) s = .next s2)) ∧
  (∀ (l : Nat) (s : State) (x : Sample), (s.loop l).samp = some x →
    let d := s.tn Cf.TAN_DEADLINE l
    x.t + ((if d = 0 then s.tn Cf.TAN_PERIOD l else d) * 1000 : Nat) * 4294967296 ≤ s.timeT →
    exec (.loopDeadlineMiss l) s = .next (s.missSample l (if x.ready then 1 else 0))) ∧
  (∀ (it : Item) (s : State), s.Ready it → it.inst ≤ 255 → s.loopEn it.inst = true →
    1 ≤ (it.w 3).toNat → (it.w 3).toNat ≤ 3 → ((it.w 3).toNat = 3 → s.named it.inst = true) →
    exec (.tanMode it) s = .next (s.tanReq it 0x0700 0 (it.w 3) [])) ∧
  (∀ (it : Item) (s : State), s.Ready it → it.inst ≤ 255 → s.loopEn it.inst = true → isNan32 (it.w 3) = false →
    (s.loop it.inst).st ≠ 5 → (s.loop it.inst).ramp = false →
    let c := clampNote (it.w 3) (s.cf Cf.TAN_SP_LO it.inst 0) (s.cf Cf.TAN_SP_HI it.inst 0) 9 0xA
    exec (.tanSetpoint it) s = .next (s.tanReq it 0x0701 1 c.1 c.2)) ∧
  (∀ (it : Item) (s : State), s.Ready it → it.inst ≤ 255 → s.loopEn it.inst = true → isNan32 (it.w 3) = false →
    (s.loop it.inst).st = 7 →
    let c := clampNote (it.w 3) (s.cf Cf.TAN_OUT_LO it.inst 0) (s.cf Cf.TAN_OUT_HI it.inst 0) 0xF 0x10
    exec (.tanManout it) s = .next (s.tanReq it 0x0702 2 c.1 c.2)) ∧
  (∀ (it : Item) (s : State), s.Ready it → it.inst ≤ 255 → s.loopEn it.inst = true →
    isNan32 (it.w 4) = false → isNan32 (it.w 5) = false → isNan32 (it.w 6) = false → bitsOf (it.w 3) 4 2 ≠ 3 →
    (bitsOf (it.w 3) 0 2 = 1 → bitsOf (it.w 3) 16 8 ≠ 0 ∧ bitsOf (it.w 8) 0 15 ≠ 0) →
    1 ≤ (it.w 7).toNat → (it.w 7).toNat ≤ 4000000000 → pointOk (s.loop it.inst).st (bitsOf (it.w 3) 4 2) = true →
    (s.loop it.inst).inj = none → (s.loop it.inst).reqs.any (fun r => r.kind == 3 && s.reqLives r) = false →
    (bitOf (it.w 3) 8 = true → s.capsOpen < 16) →
    let a := s.freqClamp it.inst (it.w 5)
    let b := s.freqClamp it.inst (it.w 6)
    let n := if a ≠ it.w 5 then [1, 1, it.w 5, a] else if b ≠ it.w 6 then [1, 1, it.w 6, b] else [0, 0, 0, 0]
    exec (.tanInject it) s = .next (s.tanReq it 0x0703 3 0 (n ++ [a, b]))) ∧
  (∀ (it : Item) (s : State), s.Ready it → it.inst ≤ 255 → s.loopEn it.inst = true →
    (s.loop it.inst).inj.isSome = true →
    exec (.tanInjectStop it) s = .next (s.tanReq it 0x0704 4 0 []))

/-- The Locus ticks, schedules and tokens complete (R287 to R293, R298, R312 to R315).
Model's choices it rests on: notes/assumptions/ 75, 76, 77, 140. -/
def Obligations.LocusEventsComplete : Prop :=
  (∀ s : State, s.engOn = true → s.loc.lastN ≤ locTickOf s.timeT →
    exec .locusTick s = .next (s.expireRemote.locTick (locTickOf s.timeT))) ∧
  (∀ (t : Nat) (s : State), t < 16 → s.engOn = true → s.trkState t = 1 →
    0 < ((s.track t).entry.getD 1 0).toNat →
    ((s.track t).entry.getD 1 0).toNat ≤ s.fld Fld.LOC_ELAPSED_TICKS t 0 + 1 →
    exec (.stepTimeout t) s = .next (s.trkTick (locTickOf s.timeT) t)) ∧
  (∀ (k : Nat) (s : State), k < 8 → s.engOn = true → s.slotDue k (locTickOf s.timeT) = true →
    exec (.schedSlotFire k) s = .next (s.slotFire k (locTickOf s.timeT))) ∧
  (∀ (grp idx : Nat) (t sent : Stamp) (s : State),
    (∀ k, s.slotOfGroup grp (stTime t) = some k → stTime sent ≤ s.slotTR k →
      exec (.readinessTokenRx grp t idx sent) s =
        .next (s.setF Fld.LOC_SCHED_MASK_RECV k 0 (s.fld Fld.LOC_SCHED_MASK_RECV k 0 ||| 2 ^ idx))) ∧
    (s.slotOfGroup grp (stTime t) = none →
      let p := s.loc.pend ++ [⟨grp, stTime t, idx, stTime sent, s.mer.base⟩]
      exec (.readinessTokenRx grp t idx sent) s =
        .next { s with loc := { s.loc with pend := p.drop (p.length - 16) } })) ∧
  (∀ s : State,
    let p := s.loc.pend.filter (fun q => s.mer.base < q.base + 1000000000)
    exec .pendingTokenExpiry s = .next { s with loc := { s.loc with pend := p } }) ∧
  (∀ (grp idx : Nat) (t : Stamp) (s : State),
    let p := s.loc.pend.filter (fun q => !(q.group == grp && q.t == stTime t && q.idx == idx))
    let s1 := { s with loc := { s.loc with pend := p } }
    (s1.slotOfGroup grp (stTime t) = none → exec (.withdrawNoticeRx grp t idx) s = .next s1) ∧
    (∀ k, s1.slotOfGroup grp (stTime t) = some k →
      exec (.withdrawNoticeRx grp t idx) s =
        .next (s1.setF Fld.LOC_SCHED_MASK_RECV k 0 (putBitsNat (s1.fld Fld.LOC_SCHED_MASK_RECV k 0) idx 1 0)))) ∧
  (∀ (no st : Nat) (s : State) (x : TokOut), s.loc.tokens.find? (fun x => x.no == no) = some x →
    let s1 := { s with loc := { s.loc with tokens := s.loc.tokens.filter (fun y => y.no != no) } }
    (st = stDone → exec (.remoteTokenOutcome no st) s = .next s1) ∧
    (st ≠ stDone → exec (.remoteTokenOutcome no st) s =
      .next (s1.actFail x.track x.action (if st = stAbsent then 3 else if st = stState then 5 else 4) x.failhold)))

/-- The Locus opcodes complete (R290, R301, R312, R315): a track's command joins the track's queue for its next tick, and
a token or counter command joins the counters' queue.
Model's choices it rests on: notes/assumptions/ 75, 140. -/
def Obligations.LocusItemsComplete : Prop :=
  (∀ (it : Item) (s : State), s.Ready it → it.inst ≤ 15 →
    let q := fun (op : Nat) =>
      let s1 := s.holdItem op it []
      s1.setTrack it.inst { s1.track it.inst with cmds := (s1.track it.inst).cmds ++ [(it.ring, it.seq)] }
    exec (.locStart it) s = .next (q 0x800) ∧ exec (.locHold it) s = .next (q 0x801) ∧
    exec (.locResume it) s = .next (q 0x802) ∧ exec (.locAbort it) s = .next (q 0x803) ∧
    exec (.locJump it) s = .next (q 0x804) ∧ exec (.locReset it) s = .next (q 0x805) ∧
    (s.armFormat it = 0 → exec (.locSchedArm it) s = .next (q 0x808)) ∧
    exec (.locSchedCancel it) s = .next (q 0x809)) ∧
  (∀ (it : Item) (s : State), s.Ready it → it.inst ≤ 1023 →
    (1 ≤ (it.w 3).toNat → (it.w 3).toNat ≤ 255 →
      exec (.locToken it) s =
        .next ((s.holdItem 0x806 it []).cntPut ⟨0, it.inst, ((it.w 3).toNat : Int), some (it.ring, it.seq)⟩)) ∧
    ((it.w 3).toNat ≤ 1 →
      let t := (s.holdItem 0x807 it []).cntPut ⟨1 + (it.w 3).toNat, it.inst, sInt (it.w 4), some (it.ring, it.seq)⟩
      exec (.locCounterSet it) s = .next t ∧ exec (.locCounterAdd it) s = .next t))

/-- The Lattice commands complete (R322, R329, R340 to R350).
Model's choices it rests on: notes/assumptions/ 72, 73, 74, 140. -/
def Obligations.LatticeCompletes : Prop :=
  (∀ s : State, s.domOn 3 = true → s.sys.mode = .running → s.mirState ≠ 1 → s.mir.hold = false →
    gridOf s.timeT % Nat.max 1 (s.cfN Cf.LAT_SCAN_PERIOD 0 / 50) = s.cfN Cf.LAT_PHASE 0 →
    s.lat.lastN ≤ gridOf s.timeT →
    exec .latticeScan s =
      .next ({ s with lat := { s.lat with lastN := gridOf s.timeT + 1 } }.expireRemote.latBoundary (gridOf s.timeT))) ∧
  (∀ (n : Nat) (acc : Bool) (s : State) (w : Word),
    let x := tget timIdle s.lat.mem.tim n
    let d := if s.lat.first then 0 else s.cfN Cf.LAT_SCAN_PERIOD 0
    let pt := (s.cf Cf.LAT_TPRE 0 n).toNat
    let y := timStep (latOp w) x acc d pt
    s.latWords.find? (fun w => latSp w == 4 && latAd w == n && (0x18 ≤ latOp w && latOp w ≤ 0x1A)) = some w →
    s.fld Fld.LAT_STATUS_STATE 0 0 = 1 → x.run = true → pt ≤ x.et + d → y.q ≠ x.q →
    exec (.latTimerExpiry n acc) s = .next (s.setLatMem { s.lat.mem with tim := tset timIdle s.lat.mem.tim n y })) ∧
  (∀ (it : Item) (s : State), s.Ready it → 1 ≤ (it.w 3).toNat → (it.w 3).toNat ≤ 7 →
    (it.w 4).toNat < patchMax (it.w 3).toNat →
    ((it.w 3).toNat = 4 ∨ (it.w 3).toNat = 5 →
      bitOf (s.cf Cf.LAT_CMPDEF 0 (4 * (it.w 4).toNat)) 31 = true ∧ isNan32 (it.w 5) = false) →
    (s.fld Fld.LAT_STATUS_STATE 0 0 = 2 ∨ s.fld Fld.LAT_STATUS_STATE 0 0 = 3 →
      exec (.latPatch it) s = .next (s.patchDo it)) ∧
    (s.fld Fld.LAT_STATUS_STATE 0 0 = 1 → s.lat.patches.length < 64 →
      let s1 := s.holdItem 0x0900 it []
      exec (.latPatch it) s =
        .next { s1 with lat := { s1.lat with patches := s1.lat.patches ++ [(it.ring, it.seq)] } }.showPatches)) ∧
  (∀ (it : Item) (s : State), s.Ready it → (it.w 3).toNat ≤ 1 → s.fld Fld.LAT_STATUS_STATE 0 0 = 1 →
    s.reqItem s.lat.stopReq = none →
    let s1 := s.holdItem 0x0901 it []
    exec (.latStop it) s = .next { s1 with lat := { s1.lat with stopReq := some (it.ring, it.seq) } }) ∧
  (∀ (s : State) (it : Item), s.reqItem s.lat.stopReq = some it → s.fld Fld.LAT_STATUS_STATE 0 0 = 1 →
    exec .latStopBoundary s = .next (s.latStopNow it)) ∧
  (∀ (it : Item) (s : State), s.Ready it → s.fld Fld.LAT_STATUS_STATE 0 0 = 2 → s.latWords ≠ [] →
    s.reqItem s.lat.startReq = none →
    let s1 := s.holdItem 0x0902 it []
    exec (.latStart it) s = .next { s1 with lat := { s1.lat with startReq := some (it.ring, it.seq) } }) ∧
  (∀ (it : Item) (s : State), s.Ready it →
    (it.w 3 = 1 → s.fld Fld.LAT_STATUS_STATE 0 0 = 3 → s.reqItem s.lat.shadowReq = none → s.mirState = 4 →
      s.bit Fld.LAT_STATUS_PROG_DIFF 0 0 = true →
      let s1 := s.holdItem 0x0903 it []
      exec (.latShadowStart it) s = .next { s1 with lat := { s1.lat with shadowReq := some (it.ring, it.seq) } }) ∧
    (it.w 3 = 0 → s.fld Fld.LAT_STATUS_STATE 0 0 = 4 →
      exec (.latShadowStop it) s = .next ((s.latShadowOff 0).complete it stDone))) ∧
  (∀ (it : Item) (s : State), s.Ready it → (s.fld Fld.LAT_STATUS_STATE 0 0 = 3 ∨ s.fld Fld.LAT_STATUS_STATE 0 0 = 4) →
    let ws := (List.range 128).map (fun i => tget 0 s.lat.cmpM i) ++ (List.range 9).map (fun i => tget 0 s.lat.cmpQ i)
    exec (.latCmpRead it) s =
      .next ((s.bufPut it (bufAddr it 3) ws).complete it stDone (s.rd Reg.LAT_CMP_SCANS 0 0) (s.rd Reg.LAT_CMP_DIFFS 0 0)))

/-- The Arc commands complete (R378 to R392, R556).
Model's choices it rests on: notes/assumptions/ 78, 79. -/
def Obligations.ArcCompletes : Prop :=
  (∀ (g : Nat) (s : State), g < 32 → s.arcOn = true → s.genState g = 2 → (s.gen g).stopAt = 0 →
    (s.gen g).phased = false →
    let x := s.gen g
    let s0 := s.setGen g { x with ctl := s.genCtl g, stopAt := 0, stopItem := none,
                                  pcount := (x.pcount + 1) % 281474976710656 }
    let r := s0.arcTransfer g
    let s2 := (((r.1.blockStep 0xA g).startPeriod g).arcEnables g).arcEvent g 0
    exec (.arcPeriodBoundary g) s = .next (if r.2 then s2.arcEvent g 1 else s2)) ∧
  (∀ (g : Nat) (s : State), g < 32 → s.arcOn = true → s.genState g = 2 → (s.gen g).phased = true →
    exec (.arcPeriodBoundary g) s = .next (s.genStart1 g 0)) ∧
  (∀ (g : Nat) (s : State), g < 32 → s.arcOn = true → s.genState g = 2 → (s.gen g).phased = false →
    (s.gen g).stopAt = 2 ∨ ((s.gen g).stopAt = 1 ∧ (s.reqItem (s.gen g).stopItem).isSome = true) →
    let s1 := (s.genStopAll g (if (s.gen g).stopAt = 2 then 1 else 0)).reqComplete (s.gen g).stopItem
    exec (.arcPeriodBoundary g) s = .next ((s1.setGen g { s1.gen g with stopItem := none }).blockStep 0xA g)) ∧
  (∀ (g : Nat) (off : Bool) (s : State), g < 32 → s.arcOn = true → s.genState g = 2 →
    (s.gen g).hasEdge (s.genPeriod g * 16) off = true →
    exec (.arcEdgeEvent g off) s = .next (s.arcEvent g (if off then 3 else 2))) ∧
  (∀ (it : Item) (s : State), s.Ready it → s.clkOn 3 = true → it.inst ≤ 31 → (it.w 3).toNat ≤ 3 →
    let g := it.inst
    let x := s.gen g
    let per := bitOf (it.w 3) 0
    let cmp := bitOf (it.w 3) 1
    s.gf g Cf.ARC_DUTY_SRC ≠ 1 → s.gf g Cf.ARC_EN ≠ 0 → (per = true → s.isSlave g = false ∧ x.shPer = none) →
    (cmp = true → x.shCmp = none) →
    (per = false → cmp = false → exec (.arcSet it) s = .next (s.complete it stDone)) ∧
    ((per = true ∨ cmp = true) →
      let p := arcClamp 6 40 16777215 (it.w 4)
      let newest := if per then p.1 else x.shPer.getD (s.genPeriod g)
      let a := arcClamp 7 0 (newest * 16 - 1) (it.w 5)
      let b := arcClamp 8 a.1 (newest * 16) (it.w 6)
      let y := if per then { x with shPer := some p.1, perItem := some (it.ring, it.seq) } else x
      let z := if cmp then { y with shCmp := some (a.1, b.1), cmpItem := some (it.ring, it.seq) } else y
      exec (.arcSet it) s = .next (((s.setGen g z).showShadows g).holdItem 0x0A00 it
        ((if per then p.2 else []) ++ (if cmp then a.2 ++ b.2 else []))))) ∧
  (∀ (it : Item) (s : State), s.Ready it → s.clkOn 3 = true → it.inst ≤ 31 → s.isSlave it.inst = false →
    s.gf it.inst Cf.ARC_EN ≠ 0 →
    (s.genState it.inst = 0 → it.w 3 = 0 →
      exec (.arcStartNow it) s = .next ((s.genStart it.inst 0).complete it stDone)) ∧
    (s.genState it.inst = 0 → it.w 3 = 1 → (it.w 4).toNat < 1000000000 →
      let t := s.fullTime (it.w 5) (it.w 4)
      s.timeT + 10000 * 4294967296 ≤ t →
      let s1 := (s.setGen it.inst { s.gen it.inst with armT := t, startItem := some (it.ring, it.seq) }).setGenState
        it.inst 1
      exec (.arcStartAt it) s = .next (s1.holdItem 0x0A01 it [])) ∧
    (s.genState it.inst = 2 → it.w 3 = 1 →
      let s1 := (s.setGen it.inst { s.gen it.inst with stopItem := none }).genStopAll it.inst 0
      exec (.arcStopNow it) s = .next ((s1.reqComplete (s.gen it.inst).stopItem).complete it stDone)) ∧
    (s.genState it.inst = 2 → it.w 3 = 0 →
      ((s.gen it.inst).stopAt ≠ 1 ∨ s.reqItem (s.gen it.inst).stopItem = none) →
      let x := { s.gen it.inst with stopAt := 1, stopItem := some (it.ring, it.seq) }
      exec (.arcStopAtEnd it) s = .next ((s.setGen it.inst x).holdItem 0x0A02 it []))) ∧
  (∀ (g : Nat) (s : State) (it : Item), g < 32 → s.arcOn = true → s.genState g = 1 → (s.gen g).armT ≤ s.timeT →
    ((s.gen g).resume = true →
      exec (.arcArmedStart g) s = .next ((s.setGen g { s.gen g with resume := false }).genStart g 1)) ∧
    ((s.gen g).resume = false → s.reqItem (s.gen g).startItem = some it →
      exec (.arcArmedStart g) s =
        .next (((s.setGen g { s.gen g with startItem := none }).genStart g 1).reqComplete (s.gen g).startItem))) ∧
  (∀ (it : Item) (s : State), s.Ready it →
    let l := s.fld Fld.ARC_TRIP_LATCH 0 0
    let stay := l &&& s.fld Fld.ARC_TRIP_INPUT 0 0
    let s2 := (List.range 10).foldl (fun s n =>
      if l / 2 ^ n % 2 = 1 ∧ stay / 2 ^ n % 2 = 0 then s.log 0x0283 n else s) ((s.setF Fld.ARC_TRIP_LATCH 0 0 stay).showTrips)
    exec (.arcClear it) s = .next (s2.complete it stDone (w32 (l - stay)) (w32 stay))) ∧
  (∀ (src : Nat) (active : Bool) (s : State), src ≤ 9 → exec (.arcTrip src active) s = .next (s.arcTrip src active))

/-- The Vertex commands complete (R352 to R358, R363 to R369): an event is classed and reported, a DEP item is released,
the best eligible item is dispatched, a core finishes, raises, is enabled, disabled and flushed, and the two opcodes act.
Model's choices it rests on: notes/assumptions/ 116, 140. -/
def Obligations.VertexCompletes : Prop :=
  (∀ (source inst code : Nat) (param : Word) (st : Stamp) (s : State),
    exec (.vertexEvent source inst code param st) s = .next (s.report [Work.src source inst code param st])) ∧
  (∀ (q : Nat) (s : State), s.isDep q = true → s.depCnt q ≤ 0 →
    s.tr.vtx.items.any (fun i => i.queue == q && i.phase == .waiting) = true →
    let items := updFirst (fun i => i.queue == q && i.phase == .waiting) (fun i => { i with phase := .released })
      s.tr.vtx.items
    let s1 := s.setVtx { s.tr.vtx with items := items }
    exec (.depRelease q) s = .next (s1.setCnt q (s.depCnt q + s.cfN Cf.VTX_DEP_REARM q))) ∧
  (∀ (s : State) (p : Nat) (i : VtxItem) (c : Nat), s.tr.vtx.running = true →
    s.vtxBest [] s.tr.vtx.items = some (p, i, c) → exec .vertexDispatch s = .next (s.dispatchTo p i c)) ∧
  (∀ (c : Nat) (v : Word) (s : State) (i : VtxItem), c < 4 → s.domOn 3 = true →
    s.tr.vtx.items.find? (fun i => i.phase == .inService c && i.handle == bitsOf v 0 16) = some i →
    let s1 := s.setVtx (s.tr.vtx.finish i)
    let s2 := (List.range 64).foldl (fun st q =>
      if st.isDep q && st.depPred q i.queue then st.setCnt q (st.depCnt q - 1) else st) s1
    exec (.vtxCoreDone c v) s = .next (if bitOf v 16 = true then s2 else s1)) ∧
  (∀ (c src : Nat) (s : State), c < 4 → s.domOn 3 = true →
    (144 ≤ src → exec (.vtxCoreRaise c src) s =
      .next (s.raise src (bitsOf (s.rd Reg.VTX_CORE_RCODE c 0) 16 16) (bitsOf (s.rd Reg.VTX_CORE_RCODE c 0) 0 16)
        (s.rd Reg.VTX_CORE_RPARAM c 0))) ∧
    (src < 144 → exec (.vtxCoreRaise c src) s =
      .next (s.setVtx { s.tr.vtx with badCnt := satAdd 65535 s.tr.vtx.badCnt 1 }))) ∧
  (∀ (c : Nat) (v : Word) (s : State), c < 4 → s.domOn 3 = true → s.bit Fld.VTX_CORE_CTRL_ENABLE c 0 = false →
    let s1 := s.coreCtrl c v
    (s1.coreCheck c = 0 → exec (.vtxCoreEnable c v) s =
      .next ((s1.setF Fld.VTX_CORE_CTRL_ENABLE c 0 1).setF Fld.VTX_CORE_STAT_ERR c 0 0)) ∧
    (s1.coreCheck c ≠ 0 → exec (.vtxCoreEnable c v) s =
      .next ((s1.setF Fld.VTX_CORE_STAT_ERR c 0 (s1.coreCheck c)).log 0x2187 c (w32 (s1.coreCheck c))))) ∧
  (∀ (c : Nat) (s : State), c < 4 → s.domOn 3 = true →
    let mine := s.tr.vtx.items.filter (fun i => i.phase == .inService c)
    exec (.vtxCoreDisable c) s = .next (s.setF Fld.VTX_CORE_CTRL_ENABLE c 0 0) ∧
    exec (.vtxCoreFlush c) s =
      .next ((s.setVtx (mine.foldl (fun v i => v.finish i) s.tr.vtx)).log 0x2184 c (w32 mine.length))) ∧
  (∀ (c : Nat) (v : Word) (s : State), c < 4 → s.domOn 3 = true →
    (v - s.rd Reg.VTX_CORE_CI c 0).toNat < 2147483648 →
    (s.rd Reg.VTX_CORE_PI c 0 - v).toNat ≤ 2 ^ s.fld Fld.VTX_CORE_CTRL_SIZE_LOG2 c 0 →
    let s1 := s.wr Reg.VTX_CORE_CI c 0 v
    exec (.vtxCoreCiWrite c v) s =
      .next (if v = s.rd Reg.VTX_CORE_PI c 0 then s1.setF Fld.VTX_CORE_STAT_LINE c 0 0 else s1)) ∧
  (∀ (c : Nat) (s : State), c < 4 → s.domOn 3 = true → s.fld Fld.VTX_CORE_COAL_TIME c 0 ≠ 0 →
    tget 0 s.tr.vtx.unsig c ≠ 0 → exec (.vtxCoalesceTimeout c) s = .next (s.assertLine c)) ∧
  (∀ (it : Item) (s : State), s.Ready it → 144 ≤ it.inst → it.inst ≤ 255 →
    exec (.vtxPost it) s =
      .next ((s.raise it.inst (bitsOf (it.w 3) 16 16) (bitsOf (it.w 3) 0 16) (it.w 4)).complete it stDone)) ∧
  (∀ (it : Item) (s : State), s.Ready it → signalOk (it.w 3) = true → it.inst ≤ 63 → s.isDep it.inst = true →
    let s1 := s.setCnt it.inst (s.depCnt it.inst + sInt (it.w 3))
    exec (.vtxSignal it) s = .next (s1.complete it stDone (wInt (s1.depCnt it.inst))))

/-- The Prism events complete (R399 to R422): samples, change entries, reductions, trigger units, records and captures.
Model's choices it rests on: notes/assumptions/ 80, 81, 82, 83. -/
def Obligations.PrismEventsComplete : Prop :=
  (∀ s : State, let m := s.cfN Cf.PRM_STREAM_RING 144
    s.prmOn = true → s.streamUp m = true →
    exec .prismStreamDeliver s = .next (State.deliver m (s.cqFree m) s).showBacklog) ∧
  (∀ (u : Nat) (s : State) (x : Nat × Int), s.prm.fires.find? (fun x => x.1 == u) = some x →
    let g := usecOf x.2
    exec (.triggerFire u) s =
      .next ((s.setPrm { s.prm with fires := s.prm.fires.filter (fun y => usecOf y.2 != g) }).fireGroup
        (s.prm.fires.filter (fun y => usecOf y.2 == g)) g)) ∧
  (∀ (s : State) (x : PrmIn) (rest : List PrmIn), s.fct.toPrm = x :: rest → s.prmOn = true → x.kind = 0 →
    let s0 := { s with fct := { s.fct with toPrm := rest } }
    let s1 := match tget none s0.prm.hist x.ch with
      | some h =>
        let r := s0.histPut x.ch h x.raw x.t
        r.1.recFeed x.ch r.2.1 r.2.2 x.raw x.t
      | none => s0
    exec .prismSample s = .next ((List.range 16).foldl (fun s u =>
      if s.trgKind u = 1 ∧ s.trgArg u % 128 = x.ch ∧ s.fld Fld.PRM_USTAT_STATE u 0 ≠ 0 then s.unitSample u x else s) s1)) ∧
  (∀ (u : Nat) (s : State) (r : RecSt), s.prm.recs.find? (fun r => r.unit == u && r.trigT == (s.unit u).trigT) = some r →
    s.fld Fld.PRM_USTAT_STATE u 0 = 2 → r.full = true →
    let s1 := if s.hoDone u then s.unitEnd u else s.unitTo u 3
    let grp := s1.prm.recs.filter (fun x => usecOf x.trigT == usecOf r.trigT)
    let s2 := if grp.all (fun x => x.full) then
        (List.range 16).foldl (fun s k =>
          match grp.find? (fun x => x.unit == k) with
          | some x => s.recEnter x
          | none => s)
          (s1.setPrm { s1.prm with recs := s1.prm.recs.filter (fun x => usecOf x.trigT != usecOf r.trigT) })
      else s1
    exec (.recordComplete u) s = .next s2.prmRealloc) ∧
  (∀ (u : Nat) (s : State), s.fld Fld.PRM_USTAT_STATE u 0 = 3 → s.hoDone u = true →
    exec (.holdoffEnd u) s = .next (s.unitEnd u)) ∧
  (∀ (u : Nat) (s : State), s.prmOn = true → s.trgKind u = 4 → s.fld Fld.PRM_USTAT_STATE u 0 = 1 →
    (s.unit u).armT ≠ 0 → (s.unit u).armT ≤ s.timeT →
    let t := (s.unit u).armT
    let s1 := if s.cf Cf.PRM_REARM (128 + u) 0 = 1 then
      s.setUnit u { s.unit u with armT := t + (s.un Cf.PRM_TIME_PERIOD u : Int) * 1000000 * 4294967296 } else s
    exec (.triggerTimeReached u) s = .next ((s1.unitFire u t).setCoinc (usecOf t))) ∧
  (∀ (s : State) (o : OpenChg), s.prm.opn = some o → o.base + 10000 ≤ s.mer.base →
    exec .changeEntryTimeout s = .next s.chgFlush) ∧
  (∀ (e : Nat) (s : State), s.prmOn = true → bitOf (s.coCtrl e) 31 = true → (tget chgNone s.prm.chg e).has = true →
    s.maxintDue e = true →
    exec (.coMaxintExpiry e) s = .next (s.chgEmit e (s.co e).val (s.co e).q (s.co e).t)) ∧
  (∀ (e k : Nat) (s : State) (r : RedSt), tget none s.prm.red (4 * e + k) = some r → s.prmOn = true → k < 4 →
    r.ends + 1000000 * 4294967296 ≤ s.timeT → exec (.reductionComplete e k) s = .next (s.redClose e k r)) ∧
  (∀ (e : Nat) (s : State), s.prmOn = true → e < 4096 →
    let c := s.co e
    let s1 := [0, 1, 2, 3].foldl (fun s k => s.redValue e c k) s
    exec (.coValue e) s =
      .next (if bitOf (s1.coCtrl e) 31 ∧ s1.chgDue e c.val c.q then s1.chgEmit e c.val c.q c.t else s1)) ∧
  (∀ (s : State) (x : CapIn) (rest : List CapIn) (c : CapRec), s.tan.capt = x :: rest → s.prmOn = true →
    s.prm.caps.find? (fun c => c.loop == x.loop && c.no == x.recNo) = some c →
    let s0 := { s with tan := { s.tan with capt := rest } }
    let others := s.prm.caps.filter (fun y => !(y.loop == c.loop && y.no == c.no))
    (x.last = true → exec .captureEntry s = .next (s0.capEnd c)) ∧
    (x.last = false → c.trunc = false → c.entries.length + 1 < 1048576 →
      exec .captureEntry s = .next (s0.setPrm { s0.prm with
        caps := others ++ [{ c with entries := (x.t, x.inj, x.spw, x.pv, x.drive) :: c.entries }] })))

/-- The Prism opcodes complete (R401, R415, R417, R421): a unit is armed, disarmed and fired, a marker enters the backlog,
and the two reads fill the buffer of the item.
Model's choices it rests on: notes/assumptions/ 80. -/
def Obligations.PrismItemsComplete : Prop :=
  (∀ (it : Item) (s : State), s.Ready it → it.inst ≤ 15 →
    (s.fld Fld.PRM_USTAT_STATE it.inst 0 = 0 → s.trgKind it.inst ≠ 0 →
      (s.trgKind it.inst = 4 → (it.w 3).toNat < 1000000000 ∧
        s.timeT + 10000 * 4294967296 ≤ s.fullTime (it.w 4) (it.w 3)) →
      let s1 := s.setUnit it.inst { s.unit it.inst with armT := s.fullTime (it.w 4) (it.w 3) }
      exec (.prmArm it) s = .next ((s1.unitTo it.inst 1).complete it stDone)) ∧
    (s.fld Fld.PRM_USTAT_STATE it.inst 0 ≠ 2 →
      exec (.prmDisarm it) s = .next ((s.unitTo it.inst 0).complete it stDone)) ∧
    (s.fld Fld.PRM_USTAT_STATE it.inst 0 = 1 →
      exec (.prmTrigger it) s =
        .next (((s.unitFire it.inst s.timeT).setCoinc (usecOf s.timeT)).complete it stDone (s.rd Reg.PRM_NEXTREC 0 0)))) ∧
  (∀ (it : Item) (s : State), s.Ready it →
    exec (.prmMark it) s =
      .next ((s.prmMarker true 0 (bitsOf (it.w 3) 0 16) (it.w 4) s.timeT).complete it stDone)) ∧
  (∀ (it : Item) (s : State) (k : Word × Nat × Nat), s.Ready it → s.prm.kept.find? (fun k => k.1 == it.w 3) = some k →
    let n := Nat.min (k.2.2 / 32) ((it.w 6).toNat / 32)
    exec (.prmRead it) s =
      .next ((s.bufPutBytes it (bufAddr it 4) (memTake s.dram (0xF0000000 + k.2.1) (32 * n))).complete it stDone
        (w32 (32 * n)) (w32 (k.2.2 / 32 - n)))) ∧
  (∀ (it : Item) (s : State) (h : HistCh), s.Ready it → it.inst ≤ 127 → (it.w 3).toNat < 1000000000 →
    1 ≤ (it.w 5).toNat → (it.w 5).toNat ≤ 1048576 → tget none s.prm.hist it.inst = some h →
    let n := (it.w 5).toNat
    let t := s.fullTime (it.w 4) (it.w 3)
    let back := ((h.tLast - t) / Int.ofNat (Nat.max 1 (ivT h.iv).toNat))
    let j : Int := if h.tLast < t then h.n else (h.n : Int) - 1 - back
    let k := Nat.max h.oldest j.toNat
    let r := s.histBlocks it.inst h (n + 1) k (Nat.min n (h.n - k)) (it.w 8).toNat
    exec (.prmHistRead it) s =
      .next ((s.bufPut it (bufAddr it 6) r.1).complete it stDone (w32 (4 * r.1.length)) (w32 r.2)
        (if j < (h.oldest : Int) then 1 else 0)))

/-- The Helix commands complete (R430 to R440): an event reaches the log or is counted as lost, the intake resumes, the
stream drains, a freeze ends, and the four opcodes act.
Model's choices it rests on: notes/assumptions/ 58, 59, 140. -/
def Obligations.HelixCompletes : Prop :=
  (∀ (e : Event) (st : Stamp) (s : State),
    exec (.helixEvent e st false) s =
      .next ({ s with tr := (s.tr.intake s e st false).1 }.report (s.tr.intake s e st false).2)) ∧
  (∀ (e : Event) (st : Stamp) (s : State), s.tr.hlx.running = true → s.tr.hlx.drop = none →
    exec (.helixEvent e st true) s =
      .next (s.setHlx { s.tr.hlx with
        seq := s.tr.hlx.seq + 1, drop := some (LossRun.add none s.tr.hlx.seq),
        dropIntake := satAdd 65535 s.tr.hlx.dropIntake 1 })) ∧
  (∀ (s : State) (r : LossRun), s.tr.hlx.drop = some r →
    exec .hlxIntakeResume s =
      .next ((s.setHlx { s.tr.hlx with drop := none }).logSynth 0x2302 (w32 r.count) r.first r.last 0)) ∧
  (∀ s : State,
    let m := s.cfN Cf.HLX_NOTIFY_RING 0
    let s1 := streamOut m s.tr.hlx.stream s
    (s1.tr.hlx.streamLoss = none → exec .hlxStreamDeliver s = .next s1) ∧
    (∀ r, s1.tr.hlx.streamLoss = some r → s1.tr.hlx.stream.length < 256 →
      exec .hlxStreamDeliver s = .next (streamOut m (s1.streamLost r).tr.hlx.stream (s1.streamLost r)))) ∧
  (∀ s : State, s.freezeOver = true → exec .freezeTimeout s = .next (s.endFreeze 1).1) ∧
  (∀ (it : Item) (s : State), s.Ready it → (it.w 3).toNat ≤ 1 → 1 ≤ (it.w 5).toNat → (it.w 5).toNat ≤ 16384 →
    let held := if it.w 3 = 0 then s.tr.hlx.log else s.tr.hlx.ffRegion
    let recs := (recsFrom (it.w 4) held).take (Nat.min (it.w 5).toNat ((it.w 8).toNat / 32))
    let s1 := s.bufPut it (bufAddr it 6) (recs.flatMap recWords)
    let gap := (s.tr.hlx.seq - it.w 4).toNat
    (∀ a b, recs.head? = some a → recs.getLast? = some b →
      exec (.hlxRead it) s = .next (s1.complete it stDone (w32 recs.length) a.seq
        (if (b.seq - it.w 4).toNat + 1 = recs.length then 0 else 1))) ∧
    (recs = [] →
      exec (.hlxRead it) s = .next (s1.complete it stDone 0 0 (if 0 < gap ∧ gap < 2147483648 then 1 else 0)))) ∧
  (∀ (it : Item) (s : State), s.Ready it →
    (s.tr.hlx.frozen = none →
      exec (.hlxFreeze it) s =
        .next ((s.setHlx { s.tr.hlx with frozen := some ⟨0, 0, 0⟩, frozenAt := s.mer.base }).complete it stDone)) ∧
    (s.tr.hlx.frozen.isSome = true →
      exec (.hlxUnfreeze it) s = .next ((s.endFreeze 0).1.complete it stDone (w32 (s.endFreeze 0).2))) ∧
    (s.tr.hlx.ff = .latched →
      exec (.hlxFfRearm it) s =
        .next ((s.setHlx { s.tr.hlx with ff := .armed, ffRegion := [], ffPre := [] }).complete it stDone
          s.tr.hlx.ffTrigSeq)))

/-- The CAN commands complete (R449 to R457).
Model's choices it rests on: notes/assumptions/ 60, 88, 89, 129. -/
def Obligations.CanCompletes : Prop :=
  (∀ (it : Item) (s : State) (e : Nat), s.Ready it → it.inst ≤ 3 → canTxBad it = none → s.canMode it.inst = 1 →
    s.standby = false →
    let fs := s.canFrames it.inst
    (if bitOf (it.w 4) 8 then freeEntry fs 64 8 else freeEntry fs 0 64) = some e →
    let f : CanTx := ⟨e, it.ring, it.seq, it.w 3, it.w 4, s.canData it, 0⟩
    let x := { s.canc it.inst with frames := fs ++ [f] }
    exec (.canTx it) s = .next ((s.setCan it.inst x).holdItem 0x0E00 it [0, 0, 0, w32 e])) ∧
  (∀ (it : Item) (s : State), s.Ready it → it.inst ≤ 3 →
    let out := (s.canFrames it.inst).filter (fun f =>
      (s.canc it.inst).att != some f.entry && (if f.entry < 64 then bitOf (it.w 3) 0 else bitOf (it.w 3) 1))
    exec (.canFlush it) s =
      .next ((out.foldl (fun s f => s.canDone it.inst f s.now stAborted it.seq 0) s).complete it stDone
        (w32 out.length))) ∧
  (∀ (c : Nat) (s : State) (f : CanTx), s.canSends c = true → (s.canc c).att = none →
    canNext (s.canFrames c) = some f →
    exec (.canTxAttempt c) s =
      .next ((s.setCan c { s.canc c with frames := s.canFrames c, att := some f.entry, last := f.entry }).canNote f
        true)) ∧
  (∀ (c : Nat) (ok : Bool) (st : Stamp) (tec rec_ : Nat) (s : State) (e : Nat) (f : CanTx), (s.canc c).att = some e →
    s.canUp = true → (s.canc c).frames.find? (fun f => f.entry == e) = some f →
    let s1 := s.setCan c { s.canc c with att := none }
    let s2 := (s1.wrapF Fld.CAN_TXCNT_COUNT c 0 1).canDone c f st stDone (w32 f.fails) (w32 f.entry)
    let s3 := { s2 with out := Out.can c f.id (s.canSent c f) f.data :: s2.out }
    exec (.canAttemptEnd c ok st tec rec_) s =
      .next (if ok = true then s3.canErrors c tec rec_ else (s1.canFailed c f).canErrors c tec rec_)) ∧
  (∀ (c : Nat) (own : Bool) (id ctl : Word) (bytes : List Byte) (st : Stamp) (tec rec_ : Nat) (s : State),
    c < 4 → s.canUp = true → s.canMode c ≠ 0 → s.canErr c < 2 → (own = true → s.cf Cf.CAN_RX_OWN c 0 = 1) →
    let bs := bytes.take 64
    let s1 := (s.wrapF Fld.CAN_RXCNT_COUNT c 0 1).canFifo c own id ctl bs st
    exec (.canFrameRx c own id ctl bytes st tec rec_) s =
      .next ((if s.mbxMatch c id then s1.mbxWrite c id ctl bs st else s1).canErrors c tec rec_)) ∧
  (∀ (c : Nat) (s : State) (f : NetRx) (fs : List NetRx), (s.canc c).rx = f :: fs →
    s.canUp = true → s.streamUp (s.cfN Cf.CAN_RX_RING c) = true → (canEntries c f).length ≤ s.cqFree (s.cfN Cf.CAN_RX_RING c) →
    let s1 := (s.setCan c { s.canc c with rx := fs }).putEntries (s.cfN Cf.CAN_RX_RING c) (canEntries c f)
    let s2 := if f.lost = 0 then s1.report [Work.src (120 + c) c 0 (f.id &&& 0x9FFFFFFF) f.st] else s1
    exec (.canRxDeliver c) s = .next (s2.canLost c)) ∧
  (∀ (c tec : Nat) (s : State) (f : CanTx), s.canSends c = true →
    let hold := s.bit Fld.CAN_BUSOFF_HOLD c 0
    let s1 := ((s.incF Fld.CAN_BUSOFF_COUNT c 0 1).setF Fld.CAN_STAT_ERRSTATE c 0 (if hold then 2 else 3)).setF
      Fld.CAN_ERRCNT_TEC c 0 tec
    let s2 := s1.setCan c { s.canc c with att := none, boAt := s.mer.base }
    let s3 := s2.log 0x4383 c (w32 tec) (w32 (s2.fld Fld.CAN_BUSOFF_COUNT c 0))
    ((s.canc c).att = none → exec (.canBusOff c tec) s = .next s3) ∧
    (∀ e, (s.canc c).att = some e → (s.canc c).frames.find? (fun f => f.entry == e) = some f →
      let note := ((s3.flight f.ring f.seq).map (fun y => y.note)).getD []
      exec (.canBusOff c tec) s = .next (if note.getD 1 0 = 1 then s3.canDone c f s3.now stAborted (note.getD 2 0) 0
        else s3.canDone c f s3.now stFault 0x4383 s2.tr.hlx.seq))) ∧
  (∀ (c : Nat) (s : State), c < 4 → s.canUp = true →
    (s.canErr c = 2 → s.bit Fld.CAN_BUSOFF_HOLD c 0 = true →
      exec (.canRecover c) s = .next ((s.setF Fld.CAN_STAT_ERRSTATE c 0 3).setF Fld.CAN_BUSOFF_RECOVER c 0 1)) ∧
    (s.canErr c = 3 →
      let s1 := (s.setF Fld.CAN_STAT_ERRSTATE c 0 0).setF Fld.CAN_BUSOFF_RECOVER c 0 0
      exec (.canBusoffRecovered c) s =
        .next ((s1.wr Reg.CAN_ERRCNT c 0 0).log 0x0384 c
          (w32 ((s.mer.base - (s.canc c).boAt) / 1000000)))))

/-- The Ethernet commands complete (R463 to R479).
Model's choices it rests on: notes/assumptions/ 56, 60, 90, 91. -/
def Obligations.EthernetCompletes : Prop :=
  (∀ (it : Item) (s : State), s.Ready it → it.inst = 0 →
    let n := (it.w 3).toNat
    let len := (it.w 4).toNat
    let m := portMask n
    n ≤ 2 → (n = 2 → s.prpOn = true) → 14 ≤ len → len ≤ (if n = 2 then 2038 else 2044) →
    (∀ p, p < 2 → inMask m p = true → (s.ethQueue p).length < 256) →
    let f : EthTx := ⟨it.ring, it.seq, m, 0, 0, s.bufTake it (bufAddr it 5) len, ⟨0, 0⟩,
      if n = 2 then some s.eth.prpSeq else none⟩
    let s1 := s.holdItem 0x0D00 it []
    let q := if n = 2 then (s1.eth.prpSeq + 1) % 65536 else s1.eth.prpSeq
    let s2 : State := { s1 with eth := { s1.eth with tx := s1.eth.tx ++ [f], prpSeq := q } }
    exec (.ethTx it) s = .next ((List.range 2).foldl (fun s p => if inMask m p then s.ethStart p else s) s2)) ∧
  (∀ (it : Item) (s : State), s.Ready it → it.inst = 0 →
    let s0 := s.ethClean
    let out := s0.eth.tx.filter (fun f => f.started = 0 &&
      ((f.on 0 && bitOf (it.w 3) 0) || (f.on 1 && bitOf (it.w 3) 1)))
    exec (.ethTxFlush it) s =
      .next ((out.foldl (fun s f =>
        let s1 := s.ethSet f.ring f.seq none
        match s1.flight f.ring f.seq with
        | some x => s1.complete x.item stAborted it.seq
        | none => s1) s0).complete it stDone (w32 out.length))) ∧
  (∀ (port : Nat) (st : Stamp) (s : State) (f : EthTx),
    (s.ethClean.ethQueue port).find? (fun f => inMask f.started port) = some f →
    let s0 := s.ethClean
    let g := { f with sent := f.sent + 2 ^ port, st := if f.sent = 0 then st else f.st }
    let s1 : State := { s0 with out := Out.eth port (portBytes port f.prp f.data) :: s0.out }
    let s2 := (s1.wrapF Fld.ETH_TXCNT_COUNT port 0 1).ethCopyGone g port
    (ptpAt f.data = none → exec (.ethTxSent port st) s = .next (s2.ethStart port)) ∧
    (∀ h, ptpAt f.data = some h →
      exec (.ethTxSent port st) s =
        .next ((s2.txtsAdd port ⟨st, octet f.data h % 16, half f.data (h + 30), octet f.data (h + 4)⟩).ethStart port))) ∧
  (∀ (port : Nat) (bytes : List Byte) (st : Stamp) (s : State), port < 2 → s.domOn 5 = true → s.ethUp port = true →
    exec (.ethFrameRx port bytes false st) s = .next (s.incF Fld.ETH_RXERR_FCS port 0 1) ∧
    (2044 < bytes.length → exec (.ethFrameRx port bytes true st) s = .next (s.incF Fld.ETH_RXERR_LONG port 0 1)) ∧
    (bytes.length ≤ 2044 → ¬(addr48 bytes 0 = pauseAddr ∧ half bytes 12 = 0x8808) → s.ethAccepts port bytes = true →
      (s.prpOn = false → exec (.ethFrameRx port bytes true st) s = .next (s.ethFifo port bytes 0 st)) ∧
      (∀ seq lan, s.prpOn = true → trailerOf bytes = some (seq, lan) →
        let s1 := if lan = 10 + port then s else s.prpWrong port bytes
        let r := s1.dupForget.prpNew (addr48 bytes 6) seq
        exec (.ethFrameRx port bytes true st) s =
          .next (if r.2 then r.1.ethFifo port bytes (lan - 9) st else r.1)))) ∧
  (∀ (port : Nat) (s : State) (f : NetRx) (fs : List NetRx), (s.ethp port).rx = f :: fs →
    s.streamUp (s.ethRing port) = true → (ethEntries port f).length ≤ s.cqFree (s.ethRing port) →
    let s1 := (s.setEthp port { s.ethp port with rx := fs }).putEntries (s.ethRing port) (ethEntries port f)
    let s2 := if f.lost = 0 then s1.report [Work.src (128 + port) port 0 (s.rd Reg.HIF_CQ_PI (s.ethRing port) 0) f.st]
      else s1
    exec (.ethRxDeliver port) s = .next (s2.ethLost port)) ∧
  (∀ s : State, exec .prpEntryForget s = .next { s with eth := { s.eth with
    dup := s.eth.dup.filter (fun d => s.mer.base < d.base + s.cfN Cf.ETH_ENTRY_FORGET 2 * 1000000) } }) ∧
  (∀ s : State, s.domOn 5 = true → s.prpOn = true → s.cf Cf.ETH_PRP_SUP 2 0 = 1 →
    exec .prpSupervision s = .next { s with out := Out.prpSup :: s.out }) ∧
  (∀ s : State, exec .cyclicFrameLate s = .next s.cycLate) ∧
  (∀ s : State, s.prpOn = false →
    let n := s.cycCount
    let due := ((List.range 8).filter (fun f => s.cycOn f && n % Nat.max 1 (s.cfN Cf.ETH_CYC_DIV (3 + f)) == 0)).filter
      (fun f => s.cycList f != [])
    let frames := due.zipIdx.map (fun fi =>
      let p := s.cfN Cf.ETH_CYC_PORT (3 + fi.1)
      (⟨fi.1, 2 ^ p, none, s.cycBytes p fi.1 n (s.cycList fi.1)⟩ : CycTx))
    let act := (List.range 8).foldl (fun w f => if s.cycOn f then w + 2 ^ f else w) 0
    let s0 := s.cycLate
    let s1 : State := { s0 with eth := { s0.eth with
      cyc := frames, lateEp := s0.eth.lateEp && s0.eth.lateN == n + 1, prpSeq := s0.eth.prpSeq } }
    exec .cyclicFrameSend s = .next (((s1.setF Fld.ETH_CYCSTAT_ACTIVE 0 0 act).cycGo 0).cycGo 1)) ∧
  (∀ (port speed : Nat) (s : State), port < 2 →
    (s.domOn 5 = true → s.clkOn 7 = true → s.ethUp port = false →
      let s1 := (s.setF Fld.ETH_PSTAT_LINK port 0 1).setF Fld.ETH_PSTAT_SPEED port 0 speed
      exec (.ethLinkUp port speed) s = .next ((s1.log 0x0340 port (w32 speed)).ethStart port)) ∧
    exec (.ethLinkDown port) s = .next (s.ethLinkDown port))

/-- The Meridian commands complete (R485 to R499): an offset enters a servo, a servo leaves its state for want of input, a
slew ends, T is set, T and both virtual times are captured at one instant, and a transmit stamp is removed.
Model's choices it rests on: notes/assumptions/ 54, 115, 142. -/
def Obligations.MeridianCompletes : Prop :=
  (∀ (n frac : Nat) (s : State) (d : Int), n = 1 ∨ n = 2 → s.alive = true →
    let th := ((sInt (s.rd Reg.MER_OFS_HI n 0)) * 4294967296 + ((s.rd Reg.MER_OFS_LO n 0).toNat : Int)) * oneNs +
      ((frac % 65536 * 65536 : Nat) : Int)
    let tm := s.fullTime (s.rd Reg.MER_OFS_TSEC n 0) (s.rd Reg.MER_OFS_TNS n 0)
    tm ≤ s.timeT → s.timeT - 2000000000 * oneNs ≤ tm →
    dAt tm s.timeT ((if n = 1 then s.mer.offA else s.mer.offB) - s.mer.offT)
      (if n = 1 then s.mer.hist1 else s.mer.hist2) = some d →
    exec (.merOfsGo n frac) s = .next (s.servoIn n (th + d))) ∧
  (∀ (x : Nat) (s : State), x < 3 →
    let age := s.mer.base - (s.mer.sv x).lastBase.getD 0
    ((s.mer.sv x).state = 2 → s.cfN Cf.MER_HOLD_TMO x * 1000000 ≤ age →
      exec (.servoHoldover x) s = .next ((s.svState x 3).autoSwitch s.mer).restate) ∧
    (((s.mer.sv x).state = 1 ∧ s.cfN Cf.MER_HOLD_TMO x * 1000000 ≤ age) ∨
        ((s.mer.sv x).state = 3 ∧ s.cfN Cf.MER_HOLD_MAX x * 1000000000 ≤ age) →
      exec (.servoFreeRun x) s = .next ((s.svState x 0).autoSwitch s.mer).restate)) ∧
  (∀ s : State, s.mer.switching = true → isPtp s.mer.active = true → s.mer.offT = s.mer.offOf s.mer.active →
    exec .slewComplete s = .next ({ s with mer := { s.mer with switching := false } }).restate) ∧
  (∀ (it : Item) (s : State), s.Ready it → (it.w 3).toNat < 1000000000 → s.mer.active = 0 →
    let t : Int := ((((it.w 5).toNat % 65536 * 4294967296 + (it.w 4).toNat) * 1000000000 + (it.w 3).toNat : Nat) : Int)
      * oneNs
    exec (.merSet it) s = .next (((s.stepT 0 (t - s.timeT)).restate).complete it stDone)) ∧
  (∀ s : State, s.alive = true →
    let b : Int := (s.mer.base : Int) * oneNs
    let r0 := snapWords (b + s.mer.offT)
    let r1 := snapWords (b + s.mer.offA)
    let r2 := snapWords (b + s.mer.offB)
    let s1 := ((s.wr Reg.MER_SNAP_HI_T 0 0 r0.1).wr Reg.MER_SNAP_SEC_T 0 0 r0.2.1).wr Reg.MER_SNAP_NS_T 0 0 r0.2.2
    let s2 := ((s1.wr Reg.MER_SNAP_HI_VA 0 0 r1.1).wr Reg.MER_SNAP_SEC_VA 0 0 r1.2.1).wr Reg.MER_SNAP_NS_VA 0 0 r1.2.2
    exec .merSnap s = .next (((s2.wr Reg.MER_SNAP_HI_VB 0 0 r2.1).wr Reg.MER_SNAP_SEC_VB 0 0 r2.2.1).wr
      Reg.MER_SNAP_NS_VB 0 0 r2.2.2)) ∧
  (∀ (p : Nat) (s : State), s.alive = true → exec (.merTxtsPop p) s =
    .next { s with mer := s.mer.setTxts p ((s.mer.txts p).drop 1) })

/-- The Vexlink frames and links complete (R502 to R511).
Model's choices it rests on: notes/assumptions/ 8, 19, 60, 141. -/
def Obligations.VexlinkLinksComplete : Prop :=
  (∀ (port : Nat) (f : Frame) (s : State), port < 4 → s.portOn port = true →
    (let k := tget 0 s.vxl.badRun port + 1
     let s1 := s.incF Fld.VXL_PORT_CRCERR port 0 1
     let s2 := { s1 with vxl := { s1.vxl with badRun := tset 0 s1.vxl.badRun port (if 4 ≤ k then 0 else k) } }
     exec (.vxlFrameRx port f false) s = .next (if 4 ≤ k ∧ s2.portUp port then s2.portFall port else s2)) ∧
    (let s0 := { s with vxl := { s.vxl with badRun := tset 0 s.vxl.badRun port 0 } }
     s0.returned port f = false → f.hops < 63 → ¬(f.ty = 3 ∧ f.kind = kMark) →
      let onward := if port = 0 then [1] else if port = 1 then [0] else []
      let s1 := if f.ty = 4 ∨ (f.ty = 5 ∧ f.kind = kHello) then s0
        else onward.foldl (fun st p => st.sendOn p { f with hops := f.hops + 1 }) s0
      let r := (tget winNone s.vxl.win f.src).take f.fseq
      exec (.vxlFrameRx port f true) s =
        .next (if r.1 then ((s1.winTaken f).takeFrame f).cross port f else s1.winTaken f))) ∧
  (∀ (port nb : Nat) (s : State), s.portUp port = false → s.portOn port = true →
    let s1 := ((s.setF Fld.VXL_PORT_STATE port 0 2).setF Fld.VXL_PORT_NEIGHBOUR port 0 nb).log 0x03C0 port (w32 nb)
    let s2 := if s.bit Fld.VXL_STATUS_RING_OPEN 0 0 then s1.log 0x03C3 port else s1
    (port < 2 → exec (.vxlPortUp port nb) s =
      .next (s2.setF Fld.VXL_STATUS_RING_OPEN 0 0 (if s2.portUp 0 && s2.portUp 1 then 0 else 1))) ∧
    (port = 3 → exec (.vxlPortUp port nb) s = .next s1) ∧
    (port = 2 → exec (.vxlPortUp port nb) s = .next (if s.ring ≠ 0 ∧ nb % 32 = s.ring then s1.setUplink 0 else s1))) ∧
  (∀ (port : Nat) (s : State), s.portUp port = true →
    let nb := s.fld Fld.VXL_PORT_NEIGHBOUR port 0
    let s1 := (s.setF Fld.VXL_PORT_STATE port 0 0).log 0x23C1 port (w32 (s.fld Fld.VXL_PORT_CRCERR port 0))
    (port < 2 → exec (.vxlPortDown port) s =
      .next ((s1.setF Fld.VXL_STATUS_RING_OPEN 0 0 1).log 0x23C2 port (w32 nb))) ∧
    (port = 3 → exec (.vxlPortDown port) s = .next s1) ∧
    (port = 2 → exec (.vxlPortDown port) s = .next (if s.ring ≠ 0 ∧ nb % 32 = s.ring then s1.setUplink 1 else s1))) ∧
  (∀ s : State, exec .helloSend s = .next ([0, 1, 2, 3].foldl (fun st p =>
    if st.portOn p then
      let f : Frame := ⟨5, false, 0, st.device, 0, kHello, st.vxl.fseq, 0,
        [w32 st.device, w32 st.ring, w32 st.role, w32 st.baseId, w32 p]⟩
      { st with vxl := { st.vxl with fseq := st.vxl.fseq + 1 } }.emit (.vxl p f)
    else st) s)) ∧
  (∀ (port device : Nat) (ring : Option Nat) (peer k : Nat) (s : State), port < 4 → s.portOn port = true →
    (s.isManager = true ∧ k = 0) ∨
      (s.isManager = false ∧ port = 2 ∧ device / 32 = 0 ∧
        k = (if peer = 3 then device % 32 else if device % 32 % 2 = 0 then device % 32 + 1 else device % 32 - 1)) ∨
      (s.isManager = false ∧ port < 2 ∧ ring = some k) →
    let s1 := s.setF Fld.VXL_PORT_NEIGHBOUR port 0 device
    let s2 := { s1.setF Fld.VXL_STATUS_RING 0 0 k with vxl := { s1.vxl with ringKnown := true } }
    exec (.helloRx port device ring peer) s =
      .next (if s.isAlone ∨ s.fld Fld.VXL_STATUS_JSTATE 0 0 ≠ 0 then s2
        else s2.setF Fld.VXL_STATUS_JSTATE 0 0 (if s.isManager then 2 else if s.device = 0 then 4 else 1))) ∧
  (∀ s : State, s.vxl.ringKnown = false → s.isManager = false →
    exec .ringNumberTimeout s = .next (s.setF Fld.VXL_STATUS_JSTATE 0 0 0)) ∧
  (∀ (port : Nat) (rt : Int) (s : State), port < 4 → s.portOn port = true →
    exec (.linkDelayMeasure port rt) s =
      .next (s.wr Reg.VXL_PDELAY port 0 (wInt (rt / 2 + (f32 (s.cf Cf.VXL_ASYM port 0)).scaleInt 1 8)))) ∧
  (∀ s : State, s.isManager = true → s.standby = false →
    exec .timeMarkSend s = .next (s.sendFrame [0, 1, 2, 3] 3 true 0 kMark 0 (stampWords s.timeT ++ [0, 0]))) ∧
  (∀ (port : Nat) (f : Frame) (em corr ing : Int) (res : Nat) (s : State), port < 4 →
    s.portOn port = true → s.returned port f = false → f.hops < 63 →
    let delay := sInt (s.rd Reg.VXL_PDELAY port 0)
    let e := ing - (em + corr * 65536 + delay * 16777216)
    let corr' := corr + res + delay * 256
    let f' := { f with payload := f.payload.take 3 ++ [wInt corr', wInt (corr' / 4294967296)] }
    let s0 := { s with vxl := { s.vxl with badRun := tset 0 s.vxl.badRun port 0 } }
    let r := (tget winNone s.vxl.win f.src).take f.fseq
    let s2 := (s0.onward port f').winTaken f
    let s3 := s2.cross port f'
    let s4 := { s3 with vxl := { s3.vxl with mark := some (em, e) } }
    (r.1 = true → exec (.timeMarkRx port f em corr ing res) s =
      .next (if s.mer.active = 1 then s4.servoIn 0 e else s4)) ∧
    (∀ e0, r.1 = false → s.vxl.mark = some (em, e0) →
      exec (.timeMarkRx port f em corr ing res) s = .next (s2.wr Reg.VXL_TDIFF 0 0 (wInt ((e - e0) / 16777216)))))

/-- Remote items complete (R525, R526): the target accepts or refuses an item, the originator takes its result, asks for an
overdue one, is answered, and completes the item by the answer.
Model's choices it rests on: notes/assumptions/ 18, 19. -/
def Obligations.RemoteItemsComplete : Prop :=
  (∀ (op : Nat) (it : Item) (dl : Stamp) (s : State), s.standby = false → s.alive = true → travels op = true →
    it.block = op / 256 →
    let dev := it.origin.getD 0
    let ring := remoteRing dev it.ring
    let s1 := (s.intakeAdd ring it.seq .inFlight).emit (.accept dev ring it.seq)
    let due := s.mer.base + ((stTime dl - s.timeT) / oneNs).toNat
    let x : Inflight := ⟨op, { it with ring := ring, origin := some dev }, .fetched, true, due, [], none, none⟩
    let no := fun (st : Nat) => s.emit (.result dev ring it.seq st [] [])
    let rec_ := s.vxl.refused.contains (dev, it.ring, it.seq)
    let here := s.sys.mode = .running ∧ s.domOn 3 = true ∧ s.sys.gone = none
    (rec_ = false → here → s.timeT ≤ stTime dl →
      exec (.remoteItemRx op it dl) s = .next { s1 with hif := { s1.hif with inflight := s1.hif.inflight ++ [x] } }) ∧
    (rec_ = false → here → stTime dl < s.timeT →
      exec (.remoteItemRx op it dl) s = .next (no stTimeout)) ∧
    (rec_ = false → ¬here → exec (.remoteItemRx op it dl) s = .next (no stAbsent)) ∧
    (rec_ = true → exec (.remoteItemRx op it dl) s = .next (no stTimeout))) ∧
  (∀ (ring : Nat) (seq : Word) (s : State) (f : Inflight), s.flight ring seq = some f →
    (∀ (status : Nat) (st : Stamp) (d0 d1 d2 d3 : Word) (cs : List Clamp),
      (status ≠ stClamped → exec (.remoteResultRx ring seq status ⟨st, cs⟩ d0 d1 d2 d3) s =
        .next (s.completeAt f.item st status d0 d1 d2 d3)) ∧
      (status = stClamped → exec (.remoteResultRx ring seq status ⟨st, cs⟩ d0 d1 d2 d3) s =
        .next (s.completeClampedAt f.item st cs))) ∧
    (∀ (verdict status : Nat),
      (verdict = 1 → exec (.queryAnswerRx ring seq verdict status) s = .next (s.complete f.item status)) ∧
      (verdict = 3 → exec (.queryAnswerRx ring seq verdict status) s = .next s) ∧
      (verdict ≠ 1 → verdict ≠ 3 → exec (.queryAnswerRx ring seq verdict status) s =
        .next (s.complete f.item stTimeout 0x23CD (f.note.headD 0)))) ∧
    (f.item.remote = true → f.phase = .waiting → f.deadline + 2000000 ≤ s.mer.base →
      let s1 := s.emit (.query f.item.device ring seq)
      let n := (s.hif.inflight.filter (fun g => g.item.device == f.item.device && g.item.remote)).length
      let s2 := { s1 with hif := { s1.hif with
        inflight := flightUpd ring seq (fun x => { x with note := [s.tr.hlx.seq] }) s1.hif.inflight } }
      (f.note = [] → exec (.remoteQueryTimer ring seq) s = .next (s2.log 0x23CD f.item.device (w32 n))) ∧
      (f.note ≠ [] → exec (.remoteQueryTimer ring seq) s = .next s1))) ∧
  (∀ (dev ring : Nat) (seq : Word) (s : State), s.standby = false →
    let k := remoteRing dev ring
    (s.intakeOf k seq = none → exec (.remoteQueryRx dev ring seq) s =
      .next ({ s with vxl := { s.vxl with refused := (dev, ring, seq) :: s.vxl.refused } }.emit
        (.answer dev k seq 0 0))) ∧
    (∀ e st, s.intakeOf k seq = some e → e.verdict = .applied st →
      exec (.remoteQueryRx dev ring seq) s = .next (s.emit (.answer dev k seq 1 st))) ∧
    (∀ e st, s.intakeOf k seq = some e → e.verdict = .notApplied st →
      exec (.remoteQueryRx dev ring seq) s = .next (s.emit (.answer dev k seq 2 st))) ∧
    (∀ e, s.intakeOf k seq = some e → e.verdict = .inFlight →
      exec (.remoteQueryRx dev ring seq) s = .next (s.emit (.answer dev k seq 3 0))))

/-- The cyclic exchange completes (R516 to R530): the cycle marks and frames, the SCAN frames and their judgement, the
grants, joins, presence and leaves.
Model's choices it rests on: notes/assumptions/ 8, 19, 95, 140, 141. -/
def Obligations.CyclicExchangeCompletes : Prop :=
  (∀ (n : Nat) (s : State), s.isAlone = false → s.domOn 3 = true →
    let s1 := { s.wr Reg.VXL_CYCLE 0 0 (w32 n) with vxl := { s.vxl with cycle := n, silent := s.vxl.silent + 1 } }
    let s2 := if s.isManager ∧ !s.standby then s1.managerMark n else s1
    exec (.cycleMark n) s = .next (if s2.admitted then s2.sendScan n else s2)) ∧
  (∀ (n period version : Nat) (joins : List Nat) (leaves : List (Nat × Nat)) (u : Nat) (s : State),
    let s1 := { (s.setF Fld.VXL_STATUS_MGR_SEEN 0 0 1).setF Fld.VXL_CYCPER_US 0 0 period with
      vxl := { s.vxl with silent := 0 } }
    let s2 := leaves.foldl (fun st d => st.left d.1 d.2) (joins.foldl (fun st d => st.joined n d) s1)
    let s3 := (s2.showMembers version).admitPubs u
    exec (.cycleFrameRx n period version joins leaves u) s =
      .next (if joins.contains s.device then (if u ≠ 0 then s3.log 0x23C9 0 (w32 u) else s3)
        else s2.showMembers version)) ∧
  (∀ s : State, 16 ≤ s.vxl.silent → exec .managerLost s = .next (s.setF Fld.VXL_STATUS_MGR_SEEN 0 0 0)) ∧
  (∀ (src n : Nat) (es : List ScanEntry) (s : State),
    let s0 := s.scanSeen src
    (s.takesScan n = false → exec (.scanRx src n es) s = .next s0) ∧ (s.takesScan n = true →
    let mine := es.filter (fun x => s.subs.any (fun p => p.2 == src * 4096 + x.coord))
    let s1 := es.foldl (fun st x => st.scanEntry src n x) s0
    let late : Bool := match s.vxl.judged with
      | some j => decide (n ≤ j)
      | none => false
    let s2 := if late = true ∧ mine ≠ [] then s1.logLim 1000000000 0x23CB src (fun k => (w32 k, 0)) else s1
    exec (.scanRx src n es) s =
      .next (if tget false s.vxl.stalePub src ∧ mine ≠ [] then
        ({ s2 with vxl := { s2.vxl with stalePub := tset false s2.vxl.stalePub src false } }).log 0x03C8 src
          (w32 mine.length) else s2))) ∧
  (∀ (n : Nat) (s : State), s.domOn 3 = true →
    let s1 := s.subs.foldl (fun st p => st.judge n p.1) s
    let newly := s.subs.filter (fun p => tget false s1.vxl.turned p.1 && !(tget false s.vxl.turned p.1))
    exec (.cycleJudgement n) s = .next (newly.foldl (fun (st : State) p =>
      let d := p.2 / 4096
      if tget false st.vxl.stalePub d then st
      else ({ st with vxl := { st.vxl with stalePub := tset false st.vxl.stalePub d true } }).log 0x23C7 d
        (w32 (newly.filter (fun q : Nat × Nat => q.2 / 4096 == d)).length))
      { s1 with vxl := { s1.vxl with judged := some n } })) ∧
  (∀ (d : Nat) (pubs subs : List Nat) (s : State), s.isManager = true → s.standby = false →
    let g := s.grantFor d pubs subs
    let gs := g :: s.vxl.grants.filter (fun g => g.device != d)
    let s1 := { s with vxl := { s.vxl with grants := gs, fwd := forwards gs } }
    let s2 := (s1.wr Reg.VXL_RINGLOAD 0 0 (w32 (ringLoad gs s.ring))).wr Reg.VXL_RINGBUDGET 0 0
      (w32 (s.ringBudget (s.ringPair s.ring)))
    exec (.grantRequestRx d pubs subs) s =
      .next ((s2.sendTable (forwards gs)).sendTo 5 d kGrant
        ([w32 (pubs.length - g.pubs.length), w32 (subs.length - g.subs.length)] ++ g.pubs.map w32 ++ g.subs.map w32))) ∧
  (∀ s : State, s.role = 3 → s.admitted = false →
    (s.device = 0 → exec .joinRequest s = .next (s.setF Fld.VXL_STATUS_JSTATE 0 0 4)) ∧
    (s.device ≠ 0 → s.mer.sv0.state = 2 →
      exec .joinRequest s = .next ((s.setF Fld.VXL_STATUS_JSTATE 0 0 1).sendTo 6 0 kJoin
        [w32 s.device, w32 s.baseId, w32 s.role, w32 s.cfg.imageId, w32 (s.cfg.imageId / 4294967296)]))) ∧
  (∀ (d slot ring : Nat) (locked : Bool) (s : State), s.isManager = true → s.standby = false →
    let r := s.joinReason d slot ring locked
    exec (.joinRequestRx d slot ring locked) s =
      .next (if r = 0 then { s with vxl := { s.vxl with
          joinPend := if s.vxl.joinPend.contains d then s.vxl.joinPend else s.vxl.joinPend ++ [d]
          twins := if slot < 2 then d :: s.vxl.twins.filter (· != d) else s.vxl.twins } }
        else (s.log 0x23C6 d (w32 r)).sendTo 6 d kReply [w32 r])) ∧
  (∀ (r : Nat) (s : State), exec (.joinReplyRx r) s =
    .next (((s.setF Fld.VXL_STATUS_JSTATE 0 0 3).setF Fld.VXL_STATUS_REASON 0 0 r).log 0x23C6 s.device (w32 r))) ∧
  (∀ (d cause : Nat) (s : State), s.isManager = true → s.standby = false → s.vxl.members.contains d = true →
    (s.cfN Cf.VXL_MISS_LEAVE 4 ≤ tget 0 s.vxl.presence d →
      exec (.presenceTimeout d) s = .next (s.leaveList d 2)) ∧
    exec (.leaveRequestRx d cause) s = .next (s.leaveList d cause))

/-- The Vexlink opcodes complete (R513, R518, R530): a software coordinate takes its value, a module asks to leave, and the
membership list goes to the buffer of the item.
Model's choices it rests on: notes/assumptions/ 8, 19. -/
def Obligations.VexlinkItemsComplete : Prop :=
  (∀ (it : Item) (s : State), s.Ready it → s.ctKind it.inst = 2 → it.inst < 4096 → 128 ≤ it.inst →
    qualityOk (bitsOf (it.w 4) 0 4) = true →
    exec (.vxlWrite it) s = .next ((s.coPut it.inst (it.w 3) (bitsOf (it.w 4) 0 4) s.timeT).complete it stDone)) ∧
  (∀ (it : Item) (s : State), s.Ready it → s.admitted = true →
    let s1 := s.holdItem 0x0F01 it []
    exec (.vxlLeave it) s =
      .next (if s.isManager then { s1 with vxl := { s1.vxl with leavePend := s1.vxl.leavePend ++ [(s.device, 0)] } }
        else s1.sendTo 6 0 kLeave [w32 s.device, 0])) ∧
  (∀ (it : Item) (s : State), s.Ready it →
    exec (.vxlMembers it) s =
      .next ((s.bufPut it (bufAddr it 3) (memberWords s.vxl.members)).complete it stDone (w32 s.vxl.members.length)
        (w32 (s.fld Fld.VXL_MEMBERS_VERSION 0 0))))

/-- The Mirror commands complete (R540 to R561).
Model's choices it rests on: notes/assumptions/ 104, 105, 106, 107, 140. -/
def Obligations.MirrorCompletes : Prop :=
  (∀ s : State, s.mirState = 1 → s.sys.mode = .running → s.partnerActive = false →
    s.mir.arbAt + s.cfN Cf.MIR_ARB_WAIT 0 * 1000000 ≤ s.mer.base → exec .arbWaitExpiry s = .next s.toActive) ∧
  (∀ s : State, s.domOn 3 = true → s.sys.mode = .running → s.mirState = 2 →
    let s2 := { s with out := Out.heartbeat 1 s.heartbeat 0 false :: Out.heartbeat 0 s.heartbeat 0 false :: s.out,
                       mir := { s.mir with resend := 0 + s.mir.resend, resync := false } }
    exec .heartbeatSend s = .next (s2.rampEnd.pairUpdate)) ∧
  (∀ (path : Nat) (w0 w1 w2 w3 : Word) (again : Nat) (resync : Bool) (s : State), path < 2 → s.domOn 3 = true →
    s.inPair = true →
    let was := if s.bit Fld.MIR_STATUS_PARTNER 0 0 then s.mir.partnerState else 0
    exec (.heartbeatRx path w0 w1 w2 w3 again resync) s =
      .next ((s.beatNote path w0 w3).beatAct was (bitsOf w0 29 3) w1 w2 again resync)) ∧
  (∀ (path : Nat) (s : State), path < 2 → s.domOn 3 = true → s.sys.mode = .running → s.inPair = true →
    s.pathDue path = true →
    let s1 := s.pathDown path
    let s2 := if s.bit Fld.MIR_STATUS_PARTNER 0 0 && !(s1.bit Fld.MIR_STATUS_PARTNER 0 0) then s1.partnerLost else s1
    let s3 := if path = 0 ∧ s2.mirState = 4 ∧ !(s2.pathDue 1) then s2.syncLeft 2 else s2
    exec (.pathLost path) s = .next s3.pairUpdate) ∧
  (∀ s : State, s.domOn 3 = true → s.sys.mode = .running → s.mirState = 2 → s.mir.hold = false →
    s.bit Fld.MIR_STATUS_PARTNER 0 0 = true → s.mir.partnerState = 3 ∨ s.mir.partnerState = 4 →
    exec .epochCapture s = .next (s.capture false)) ∧
  (∀ (n : Word) (t : Int) (last final : Bool) (bytes : Nat) (img : Image) (s : State), s.domOn 3 = true →
    s.sys.mode = .running → s.mirState = 3 ∨ s.mirState = 4 →
    (∀ full, exec (.epochApply n t false full last final bytes img) s =
      .next { s with mir := { s.mir with resend := s.mir.resend + bytes } }) ∧
    (let s3 := (s.applyImage img).wr Reg.MIR_EPOCH 0 0 n
     let m := { s3.mir with image := some img, captureAt := t, lagFrom := s.lagFromAt t, final := s3.mir.final || final }
     let s4 := { s3 with mir := m }
     exec (.epochApply n t true false last final bytes img) s = .next ((s4.wr Reg.MIR_ACK 0 0 n).lagShow.trySync))) ∧
  (∀ s : State, s.mirState = 4 → s.cfN Cf.MIR_LAG_MAX 0 < s.lagUs →
    (s.cfN Cf.MIR_LAG_MAX 0 : Int) * 1000 + 10000000 ≤ nsOf (s.timeT - s.mir.lagFrom) →
    exec .syncLagTimeout s = .next ((s.lagShow).syncLeft 1)) ∧
  (∀ s : State, s.mir.waiting = true → s.mir.lostAt + s.fld Fld.VXL_CYCPER_US 0 0 * 1000 + 200000 ≤ s.mer.base →
    exec .mirrorWaitTimeout s = .next { s with mir := { s.mir with waiting := false } }) ∧
  (∀ (tick : Option Nat) (s : State), s.domOn 3 = true → s.sys.mode = .running → s.mirState = 4 →
    s.pathDue 0 = true → s.pathDue 1 = true →
    let s1 := (s.pathDown 0).pathDown 1
    exec (.takeover tick) s = .next (s1.takeOver 0 (s1.lastFrameOf tick + s1.releaseDelay))) ∧
  (∀ s : State, s.mirState = 2 → s.sys.mode = .running →
    let s1 := (s.log 0x6407 0 (w32 (s.fld Fld.MIR_STATUS_PARTNER_ID 0 0))).toStandby
    exec .pairYield s = .next (s1.rampOff s1.mer.base)) ∧
  (∀ s : State, s.domOn 3 = true →
    let s1 := s.fresh.2
    let k := s.fresh.1.toNat % 65536
    exec .mirTokenRead s =
      .next (({ s1 with mir := { s1.mir with token := some (k, s1.mer.base) } }).setF Fld.MIR_TOKEN_TOKEN 0 0 k)) ∧
  (∀ (hi : Bool) (v : Word) (s : State), s.domOn 3 = true →
    let r := if hi then Reg.MIR_LOCAL_HI else Reg.MIR_LOCAL_LO
    let base := if hi then 32 else 0
    let new := (List.range 32).foldl (fun w k =>
      if (if s.bit Fld.HIF_SQ_CTRL_ENABLE (base + k) 0 then bitOf (s.rd r 0 0) k else bitOf v k) then w + 2 ^ k else w) 0
    exec (.mirLocalWrite hi v) s = .next (s.wr r 0 0 (w32 new)))

/-- A switch of the mirror completes (R558, R559, R561): it is accepted, takes effect at its instant, and each module
changes its part at S2; the standby asks for a full transfer.
Model's choices it rests on: notes/assumptions/ 3, 17, 106, 107. -/
def Obligations.MirrorSwitchCompletes : Prop :=
  (∀ (it : Item) (s : State), s.Ready it → (it.w 3).toNat < 65536 → s.mirState = 2 → s.partnerSynced = true →
    s.bit Fld.MIR_STATUS_VXL_UP 0 0 = true → s.tokenOk (it.w 3).toNat = true →
    let s1 := s.holdItem 0x1000 it []
    exec (.mirSwitch it) s = .next { s1 with mir := { s1.mir with token := none, switchAt := s.switchInstant } }) ∧
  (∀ (s : State) (x : Inflight) (rest : List Inflight), s.waitingOp 0x1000 = x :: rest → s.mirState = 2 →
    s.sys.mode = .running → s.mir.hold = false → s.mir.switchAt ≤ s.timeT →
    exec .switchInstant s = .next ((s.commitItem x.item stDone).switchHold)) ∧
  (∀ (s : State) (t : Int), s.mir.goAt = some t → t ≤ s.timeT → s.sys.mode = .running →
    let b := (s.mer.base : Int) - nsOf (s.timeT - t)
    (s.mirState = 2 → s.mir.hold = true → exec .switchGo s = .next (s.toStandby.rampOff b.toNat)) ∧
    (s.mirState = 4 → exec .switchGo s = .next (s.takeOver (if s.mir.leave then 2 else 1) b.toNat))) ∧
  (∀ s : State, s.mirState = 4 → s.sys.mode = .running →
    exec .leaveNoticeRx s = .next { s with mir := { s.mir with leave := true } }) ∧
  (∀ (it : Item) (s : State), s.Ready it → s.mirState = 3 ∨ s.mirState = 4 →
    let s1 := s.holdItem 0x1001 it []
    exec (.mirResync it) s = .next { s1 with mir := { s1.mir with resync := true } })

/-- The Perimeter inputs complete (R569 to R580): demands and permits, muting, contact and die faults, and RESET.
Model's choices it rests on: notes/assumptions/ 92, 94, 112, 140. -/
def Obligations.PerimeterInputsComplete : Prop :=
  (∀ (pair : Nat) (a b : Bool) (s : State),
    exec (.safetyInputDemand pair a b) s = .next (s.perContacts pair a b) ∧
    exec (.safetyInputPermit pair a b) s = .next (s.perContacts pair a b)) ∧
  (∀ (k : Nat) (s : State),
    (let x := s.per.slot k
     s.per.state = 3 → x.func = 5 → x.st ≠ 4 → x.muting = false → s.per.pairPermits false x.pair = true →
     let c := putBitsNat s.per.closed (2 * (x.pair + 1)) 2 3
     exec (.mutingStart k) s =
       .next ((s.setPer ({ s.per with closed := c }.setSlot k { x with muting := true, muteAt := s.mer.base })).log 0x044A k)) ∧
    ((s.per.slot k).muting = true → since s.mer.base (s.per.slot k).muteAt 60000000000 = true → exec (.mutingLimit k) s = .next ((s.muteEnd k 1).perJudge 2))) ∧
  (∀ (pair cause chans : Nat) (s : State),
    ((s.per.claims pair).isSome = true → s.per.ossd pair = false → s.per.state = 3 →
      exec (.tpFault pair cause chans) s = .next ((s.incF Fld.PER_CNT_TP_ERR 0 0 1).inputFault pair cause chans)) ∧
    (s.per.pairOdd pair = true →
      since s.mer.base (tget 0 s.per.oddAt pair) ((if s.per.ossd pair then 10 else 500) * 1000000) = true →
      exec (.discrepancy pair chans) s = .next (s.inputFault pair 1 chans)) ∧
    exec .channelDisagree s = .next (s.dieFault 1 3) ∧
    exec (.readbackFault chans) s = .next (s.dieFault 2 chans) ∧
    exec (.dieFault cause chans) s = .next (s.dieFault cause chans)) ∧
  (∀ (ms : Nat) (s : State), s.per.stuck = false → ms ≤ 2000 →
    (s.per.state = 3 → 100 ≤ ms → exec (.resetPulse ms) s = .next s.resetRun) ∧
    (s.per.state = 2 → 100 ≤ ms → exec (.resetPulse ms) s =
      .next ((s.perRun s.per.read).log 0x1441 0 (w32 s.per.stored) (w32 s.per.read))) ∧
    (s.per.state = 2 ∨ s.per.state = 3 → ms < 100 →
      exec (.resetPulse ms) s = .next (s.resetRejected 1 ms))) ∧
  (∀ (ms : Nat) (s : State), s.per.state ≠ 0 →
    (s.per.stuck = false → exec (.resetStuck ms) s =
      .next ((s.setPer { s.per with stuck := true }).log 0x5448 0 (w32 ms))) ∧
    exec (.resetOneChannel ms) s = .next (s.resetRejected 2 ms)) ∧
  (∀ s : State, exec .resetStuckClear s = .next (s.setPer { s.per with stuck := false }))

/-- The Perimeter die and its link complete (R57, R569, R577, R581 to R592): the supply, the self-test, the pattern, the
stop channel and the status channel. A comparison of the two channels that finds them equal changes nothing: a difference
has its own command.
Model's choices it rests on: notes/assumptions/ 92, 93, 94, 112, 140. -/
def Obligations.PerimeterDieCompletes : Prop :=
  (∀ s : State,
    exec .crossLinkExchange s = .next s ∧
    (∀ o, exec (.switchTest o) s = .next (if s.per.testDue o s.mer.base then
      s.setPer { s.per with tested := tset none s.per.tested o (some s.mer.base) } else s)) ∧
    (s.per.state = 0 → exec .safetySupplyOn s =
      .next (s.setPer { perOff s.per.stored (satAdd 65535 s.per.runs 1) with
        state := 1, cycleAt := s.mer.base, frameAt := s.mer.base, viewAt := s.mer.base }).perLines) ∧
    exec .safetySupplyLoss s = .next (s.setPer (perOff s.per.stored s.per.runs)).perLines) ∧
  (∀ (ph pp cause chans pfw : Nat) (s : State), s.per.state = 1 →
    let s1 := s.setPer { s.per with read := ph % 65536, pfw := pfw }
    let bad := (List.range 4).any (fun k => 9 ≤ ph / 16 ^ k % 16)
    (cause ≠ 0 → exec (.selftestDone ph pp cause chans pfw) s = .next (s1.dieFault cause chans)) ∧
    (cause = 0 → ph ≠ pp → exec (.selftestDone ph pp cause chans pfw) s = .next (s1.dieFault 6 3)) ∧
    (cause = 0 → ph = pp → bad = true → exec (.selftestDone ph pp cause chans pfw) s = .next (s1.dieFault 7 3)) ∧
    (cause = 0 → ph = pp → bad = false → ph = s.per.stored → exec (.selftestDone ph pp cause chans pfw) s =
      .next ((s1.perRun ph).log 0x0440 0 (w32 ph) (w32 pfw))) ∧
    (cause = 0 → ph = pp → bad = false → ph ≠ s.per.stored → exec (.selftestDone ph pp cause chans pfw) s =
      .next (s1.setPer { s1.per with state := 2 }))) ∧
  (∀ (p : Nat) (s : State), s.per.state = 3 → p ≠ s.per.read →
    exec (.patternChange p) s =
      .next ((s.setPer { s.per with changed := true, read := p }).log 0x2442 0 (w32 s.per.stored) (w32 p))) ∧
  (∀ s : State, s.per.state ≠ 0 → s.alive = true →
    let bits := s.stopBits
    let s1 := match s.per.lost with
      | some t => s.log 0x544D 0 (w32 ((s.mer.base - t) / 1000000))
      | none => s
    let b := s.mer.base
    let p := { s1.per with req := bits, lost := none, frameAt := b, reqAt := some (s.per.reqAt.getD b) }
    exec (.stopRequestFrame true) s =
      .next ((s1.setPer p).stopAct (bits &&& (s.per.req ||| s.per.act))
        (fun j => if j < 4 && s.pubQ (128 + j) then 0 else 1)) ∧
    (s.per.lost = none → since s.mer.base s.per.frameAt 1000000 = true → exec .stopChannelLoss s =
      .next ((s.setPer { s.per with lost := some s.mer.base, req := 0 }).stopAct (s.per.act ||| 15) (fun _ => 2)))) ∧
  (∀ (v : Word) (s : State), s.alive = true → exec (.perStopWrite v) s = .next (s.setF Fld.PER_STOP_REQ 0 0 (bitsOf v 0 5))) ∧
  (∀ (it : Item) (s : State), s.Ready it → it.inst = 0 → (it.w 3).toNat ≤ 31 →
    let s1 := (s.setF Fld.PER_STOP_REQ 0 0 (it.w 3).toNat).setPer { s.per with reqAt := none }
    exec (.perStopReq it) s =
      .next (if (it.w 3).toNat &&& s.fld Fld.PER_STOP_REQ 0 0 = (it.w 3).toNat then s1.complete it stDone
        else s1.holdItem 0x1100 it [w32 (s.fld Fld.PER_STOP_REQ 0 0), w32 (it.w 3).toNat])) ∧
  (∀ s : State, s.per.state ≠ 0 → s.alive = true →
    let v := w32 (s.per.view s.mer.base + 32768)
    let s0 := ((s.showPer).wr Reg.PER_VIEW 0 0 v).setF Fld.PER_LINK_UP 0 0 1
    let s1 := s0.setPer { s0.per with viewAt := s.mer.base }
    exec (.statusFrame true) s =
      .next (if v = s.rd Reg.PER_VIEW 0 0 then s1 else s1.raise 139 0 0 v).stopDone ∧
    exec (.statusFrame false) s = .next (s.incF Fld.PER_LINK_CRCERR 0 0 1)) ∧
  (∀ s : State, s.bit Fld.PER_LINK_UP 0 0 = true → since s.mer.base s.per.viewAt 4000 = true →
    let s1 := ((s.wr Reg.PER_VIEW 0 0 0).setF Fld.PER_STATE_STATE 0 0 0).setF Fld.PER_LINK_UP 0 0 0
    exec .statusChannelLoss s =
      .next ((s1.raise 139 0 0 0).log 0x244C 0 (w32 (s1.fld Fld.PER_LINK_CRCERR 0 0))))

/-- The fault and integrity commands complete (R595 to R608).
Model's choices it rests on: notes/assumptions/ 44, 46, 47, 48, 49, 51, 52. -/
def Obligations.FaultsComplete : Prop :=
  (∀ (e : Event) (st : Stamp) (q : Word) (s : State),
    exec (.faultEntry e st q) s = .next (s.report [Work.flt e st q])) ∧
  (∀ (sev : Nat) (s : State), s.alive = true → (s.tr.flt.pres sev).isSome = true →
    exec (.fltHack sev) s =
      .next { s with tr := Trace.present s { s.tr with flt := s.tr.flt.setPres sev none } }) ∧
  (∀ (r a obj : Nat) (dirty : Bool) (s : State), s.alive = true →
    (r < 14 → exec (.eccCorrected r a) s = .next (s.corrected r a)) ∧
    (r = 0 ∨ (r = 4 ∧ dirty = true) → exec (.eccUncorrectable r a obj dirty) s = .next (s.uePoisoned r a)) ∧
    (0 < r → r < 12 → (r = 4 → dirty = false) →
      let s1 := (s.ueLoss r a obj).ueRebuilt r a
      exec (.eccUncorrectable r a obj dirty) s =
        .next (if r = 10 ∧ obj < s.cfg.staged.length then s1.log 0x20C4 0 1 else s1)) ∧
    (r = 12 → obj = 1 → s.mirState = 3 ∨ s.mirState = 4 →
      let s1 := (if s.mirState = 4 then s.syncLeft 3 else s).ueNote r a false
      exec (.eccUncorrectable r a obj dirty) s = .next { s1 with mir := { s1.mir with resync := true } }) ∧
    (r = 13 → exec (.eccUncorrectable r a obj dirty) s = .next (s.faultPath r a))) ∧
  (∀ (p : Nat) (s : State), s.alive = true →
    let s1 := s.setF Fld.FLT_SCRUBST_PERCENT 0 0 (Nat.min 100 p)
    exec (.patrolScrub p true) s = .next (if 100 ≤ p then s1.incF Fld.FLT_SCRUBST_PASSES 0 0 1 else s1) ∧
    exec (.patrolScrub p false) s = .next s) ∧
  (∀ (ce : Nat) (ue : List Nat) (s : State), s.alive = true →
    exec (.mramStatusPoll ce ue) s =
      .next (ue.foldl (fun s a => s.mramBad a)
        ((s.incF Fld.FLT_MRAM_CE 0 0 ce).incF Fld.FLT_MRAM_UE 0 0 ue.length))) ∧
  (∀ (bad : Bool) (s : State), s.alive = true →
    let s1 := if s.imageOk 0 then s else s.flashBad Fld.FLT_FLASH_A_BAD 0
    let s2 := if s.imageOk 1 then s1 else s1.flashBad Fld.FLT_FLASH_B_BAD 1
    exec (.flashCheck bad) s = .next (if bad then s2.flashBad Fld.FLT_FLASH_IDENT_BAD 2 else s2)) ∧
  (∀ (v : Word) (s : State), s.alive = true →
    (bitsOf v 16 16 = 0x4B1C →
      let f := { s.tr.flt with kickAt := (List.range 4).foldl (fun t c =>
        if bitOf v c then tset 0 t c s.mer.base else t) s.tr.flt.kickAt }
      exec (.fltWdkick v) s = .next { s with tr := { s.tr with flt := f } }) ∧
    (bitsOf v 16 16 ≠ 0x4B1C → exec (.fltWdkick v) s = .next s) ∧
    exec (.fltWdWrite v) s = .next ((s.wr Reg.FLT_WD 0 0 (fltWdOf v)).kickAll)) ∧
  (∀ s : State, s.sys.mode = .running → s.lateCores ≠ 0 →
    exec .coreWdtExpiry s = .next (s.wdExpire 1 s.lateCores)) ∧
  (∀ (src us : Nat) (s : State), s.sys.mode = .running → s.engWatched src = true →
    (if src = 4 then 1000 + s.cfN Cf.LAT_SCAN_PERIOD 0 else 1000) ≤ us →
    let s1 := s.log 0x4108 src (w32 us)
    exec (.engineWdtExpiry src us) s = .next (s1.wdExpire src s1.lateCores))

/-- With a command at the front of the queue, a step runs `exec` of that command on the state with the queue's rest. -/
def Obligations.FrontCommandRuns : Prop :=
  ∀ (c : Instr) (cs : List Instr) (s : State), s.pending = c :: cs → step s = exec c { s with pending := cs }

/-- On an empty queue a step is one CK_TIME tick: the queue stays empty and the base counter advances by 8 ns (R485). That an
idle step is a tick is the model's choice (DESIGN CHOICE, notes/assumptions/1.md). -/
def Obligations.EmptyQueueTicks : Prop :=
  ∀ s : State, s.pending = [] →
    step s = .next s.timeTick ∧ s.timeTick.pending = [] ∧ s.timeTick.mer.base = s.mer.base + 8

/-- What the spec gives for reset: an empty queue, the timebase at zero (R485), and the reset values that the register tables
state for the control registers. -/
def Obligations.ResetState : Prop :=
  State.reset.pending = [] ∧ State.reset.hif.inflight = [] ∧
  State.reset.mer.base = 0 ∧ State.reset.mer.offT = 0 ∧ State.reset.mer.offA = 0 ∧ State.reset.mer.offB = 0 ∧
  State.reset.rd Reg.PWR_CTRL 0 0 = 0xFC ∧ State.reset.fld Fld.SYS_CHKCFG_PERIOD 0 0 = 10 ∧
  State.reset.fld Fld.SYS_CHKCFG_MAXAGE 0 0 = 200 ∧ State.reset.fld Fld.HIF_TMO_MS 0 0 = 100 ∧
  State.reset.fld Fld.FLT_SCRUB_HOURS 0 0 = 24 ∧ State.reset.fld Fld.FLT_SCRUB_CE_THR 0 0 = 16

/-- The invariants hold in the state after reset, and its nonvolatile memories list nothing. -/
def Obligations.ResetInvariants : Prop :=
  State.reset.mer.Ok ∧ State.reset.MemoriesOk ∧ State.reset.tr.flt.Ok ∧ State.reset.tr.hlx.log.length ≤ 16384 ∧
    State.reset.dram = [] ∧ State.reset.mram = [] ∧ State.reset.flash = [] ∧ State.reset.host = []

/-- Every command answers a next state, from every state, and leaves the queue as it is: the module stops on nothing. -/
def Obligations.EveryCommandAnswers : Prop :=
  ∀ (c : Instr) (s : State), ∃ t, exec c s = .next t ∧ t.pending = s.pending

/-- Every step keeps Meridian's invariant (R485, R491, R496): the base counter counts in ticks of 8 ns, the time state is one
of the five and UNSET while T has not been set, each servo is in one of its four states, and no queue of transmit stamps
holds more than 16. -/
def Obligations.MeridianInvariant : Prop :=
  ∀ s : State, s.mer.Ok → ∃ t, step s = .next t ∧ t.mer.Ok

/-- Every step keeps the canonical form of the nonvolatile memories. -/
def Obligations.MemoriesInvariant : Prop :=
  ∀ s : State, s.MemoriesOk → ∃ t, step s = .next t ∧ t.MemoriesOk

/-- The Perimeter die stands apart (R8, R74): whatever command runs that is not an event of the die itself (a register write,
an item, a frame, a reset, a restart, a switch-off, a hot insertion), the die's state, its outputs among it, is unchanged. -/
def Obligations.PerimeterApart : Prop :=
  ∀ (c : Instr) (s : State), perimeterRow c = false → ∃ t, exec c s = .next t ∧ t.per.die = s.per.die

/-- A register access to a block whose power domain is off (R19): a read answers 0, a write is discarded, PWR_OFFACC captures
the offset of the first such access, event 0x24C1 is logged, and no other register changes. -/
def Obligations.OffDomainAccess : Prop :=
  ∀ (a : Nat) (v : Word) (host : Bool) (s : State), bar0Word a = true → a < 4194304 → s.domOn (domainOf a) = false →
    s.alive = true →
    exec (.registerReadClear a) s = .next ((s.offAccess a).emit (.read a 0)) ∧
    exec (.registerWrite a v host) s = .next (s.offAccess a) ∧
    exec (.offDomainAccess a) s = .next (s.offAccess a) ∧
    (s.bit Fld.PWR_OFFACC_VALID 0 0 = false →
      (s.offAccess a).bit Fld.PWR_OFFACC_VALID 0 0 = true ∧ (s.offAccess a).fld Fld.PWR_OFFACC_OFFSET 0 0 = a) ∧
    (s.bit Fld.PWR_OFFACC_VALID 0 0 = true →
      (s.offAccess a).bit Fld.PWR_OFFACC_VALID 0 0 = true ∧
      (s.offAccess a).fld Fld.PWR_OFFACC_OFFSET 0 0 = s.fld Fld.PWR_OFFACC_OFFSET 0 0) ∧
    (∀ b, b ≠ Reg.PWR_OFFACC.addr 0 0 → (s.offAccess a).rdA b = s.rdA b) ∧
    (∃ u : State, u.tr = s.tr ∧ u.mer = s.mer ∧ u.cfg = s.cfg ∧ s.offAccess a = u.log 0x24C1 0)

/-- A value outside its range is clamped to the nearest legal value, a tie to the lower, and an infinity to the limit of its
sign (R151): integers of either sign, multiples of a step, listed values, and binary32. -/
def Obligations.ClampNearest : Prop :=
  (∀ (lo hi : Nat) (w : Word), lo ≤ hi → hi < 2 ^ 32 →
    ∃ v : Word, rangeOf (.int lo hi) w = some v ∧ lo ≤ v.toNat ∧ v.toNat ≤ hi ∧
      ∀ x, lo ≤ x → x ≤ hi → ((w.toNat : Int) - v.toNat).natAbs ≤ ((w.toNat : Int) - x).natAbs) ∧
  (∀ (lo hi : Int) (w : Word), -(2 ^ 31) ≤ lo → lo ≤ hi → hi < 2 ^ 31 →
    ∃ v : Word, rangeOf (.sint lo hi) w = some v ∧ lo ≤ v.toInt ∧ v.toInt ≤ hi ∧
      ∀ x, lo ≤ x → x ≤ hi → (w.toInt - v.toInt).natAbs ≤ (w.toInt - x).natAbs) ∧
  (∀ (lo hi st : Nat) (w : Word), 0 < st → st ∣ lo → st ∣ hi → lo ≤ hi → hi < 2 ^ 32 →
    ∃ v : Word, rangeOf (.step lo hi st) w = some v ∧ lo ≤ v.toNat ∧ v.toNat ≤ hi ∧ st ∣ v.toNat ∧
      ∀ x, lo ≤ x → x ≤ hi → st ∣ x →
        ((w.toNat : Int) - v.toNat).natAbs < ((w.toNat : Int) - x).natAbs ∨
        (((w.toNat : Int) - v.toNat).natAbs = ((w.toNat : Int) - x).natAbs ∧ v.toNat ≤ x)) ∧
  (∀ (vals : List Nat) (w : Word), vals ≠ [] → vals.Pairwise (· < ·) → (∀ x ∈ vals, x < 2 ^ 32) →
    ∃ v : Word, rangeOf (.set vals) w = some v ∧ v.toNat ∈ vals ∧
      ∀ x ∈ vals, ((w.toNat : Int) - v.toNat).natAbs < ((w.toNat : Int) - x).natAbs ∨
        (((w.toNat : Int) - v.toNat).natAbs = ((w.toNat : Int) - x).natAbs ∧ v.toNat ≤ x)) ∧
  (∀ (lo hi w : Word), (f32 lo).isFin = true → (f32 hi).isFin = true → Fl.lt (f32 hi) (f32 lo) = false →
    rangeOf (.f32 lo hi) 0x7F800000 = some hi ∧ rangeOf (.f32 lo hi) 0xFF800000 = some lo ∧
    (isNan32 w = false → Fl.lt (f32 w) (f32 lo) = true → rangeOf (.f32 lo hi) w = some lo) ∧
    (isNan32 w = false → Fl.lt (f32 w) (f32 lo) = false → Fl.lt (f32 hi) (f32 w) = true →
      rangeOf (.f32 lo hi) w = some hi) ∧
    (isNan32 w = false → Fl.lt (f32 w) (f32 lo) = false → Fl.lt (f32 hi) (f32 w) = false →
      rangeOf (.f32 lo hi) w = some w))

/-- A completion-side doorbell value (R116) on an enabled ring: accepted when it steps forward by less than 2^31 and leaves
PI at most the ring's size ahead, and then it is the consumer index; ignored otherwise, and counted in BACKSTEP. The free
space is the size less the entries written and not yet consumed. -/
def Obligations.CompletionDoorbell : Prop :=
  ∀ (m : Nat) (v : Word) (s : State), m < 64 → s.domOn 5 = true → s.bit Fld.HIF_CQ_CTRL_ENABLE m 0 = true →
    let accepted := (v - s.rd Reg.HIF_CQ_CI m 0).toNat < 2 ^ 31 ∧ (s.rd Reg.HIF_CQ_PI m 0 - v).toNat ≤ s.cqSize m
    s.cqFree m = s.cqSize m - (s.rd Reg.HIF_CQ_PI m 0 - s.rd Reg.HIF_CQ_CI m 0).toNat ∧
    (accepted → ∃ t, exec (.cqDoorbell m v) s = .next t ∧ t.rd Reg.HIF_CQ_CI m 0 = v ∧
      t.rd Reg.HIF_CQ_PI m 0 = s.rd Reg.HIF_CQ_PI m 0 ∧
      t.cqFree m = s.cqSize m - (s.rd Reg.HIF_CQ_PI m 0 - v).toNat ∧
      t = { s with regs := t.regs, hif := { s.hif with stalled := s.hif.stalled.filter (fun n => n != m) } } ∧
      ∀ a, a ≠ Reg.HIF_CQ_CI.addr m 0 → a ≠ Reg.HIF_CQ_STAT.addr m 0 → t.rdA a = s.rdA a) ∧
    (¬accepted → exec (.cqDoorbell m v) s = .next (s.incF Fld.HIF_CQ_STAT_BACKSTEP m 0 1))

/-- Enabling a ring sets its producer and consumer indices to 0; for a module-to-host ring the shadow producer index in the
ring's memory becomes 0 as well (R113). -/
def Obligations.RingEnableZeroes : Prop :=
  (∀ (n : Nat) (v : Word) (s : State), n < 64 → s.domOn 5 = true → s.bit Fld.HIF_SQ_CTRL_ENABLE n 0 = false →
    ∃ t, exec (.ringEnable n v) s = .next t ∧
      (t.bit Fld.HIF_SQ_CTRL_ENABLE n 0 = true → t.rd Reg.HIF_SQ_PI n 0 = 0 ∧ t.rd Reg.HIF_SQ_CI n 0 = 0)) ∧
  (∀ (m : Nat) (v : Word) (s : State), m < 64 → s.domOn 5 = true → s.bit Fld.HIF_CQ_CTRL_ENABLE m 0 = false →
    ∃ t, exec (.ringEnable (64 + m) v) s = .next t ∧
      (t.bit Fld.HIF_CQ_CTRL_ENABLE m 0 = true →
        t.rd Reg.HIF_CQ_PI m 0 = 0 ∧ t.rd Reg.HIF_CQ_CI m 0 = 0 ∧
        memWord (t.ringMem (t.cqCores m)) (t.cqBase m + t.cqSize m * 32) = 0))

/-- A write to a plain register (R14): its RW bits take the written value, its W1C bits written 1 clear, its other bits stay,
and a read of it then answers them; no other register and nothing else of the module changes. -/
def Obligations.PlainRegisterWrite : Prop :=
  ∀ (a : Nat) (v : Word) (host : Bool) (s : State) (r : Reg),
    bar0Word a = true → (a < 0x28000 ∨ 0x28400 ≤ a) → s.domOn (domainOf a) = true → s.alive = true →
    regAt a = some r → r ∉ writeRows →
    ∃ t, exec (.registerWrite a v host) s = .next t ∧
      (∀ i, i < 32 → bitOf r.rw i = true → bitOf r.w1c i = false → bitOf (t.rdA a) i = bitOf v i) ∧
      (∀ i, i < 32 → bitOf r.rw i = false → bitOf r.w1c i = false → bitOf (t.rdA a) i = bitOf (s.rdA a) i) ∧
      (∀ i, i < 32 → bitOf r.rw i = false → bitOf r.w1c i = true →
        bitOf (t.rdA a) i = (bitOf (s.rdA a) i && !(bitOf v i))) ∧
      (∀ b, b ≠ a → t.rdA b = s.rdA b) ∧ t = { s with regs := t.regs }

/-- The completion record of an item (R127, R129, R132), on a completion ring with room and nothing held back: its eight words
stand in the ring's slot of the producer index, the producer index and the shadow producer index count it, no other byte of
the ring's memory changes, and the intake log holds the item's outcome. -/
def Obligations.CompletionRecord : Prop :=
  ∀ (it : Item) (st : Stamp) (status : Nat) (d0 d1 d2 d3 : Word) (s : State),
    let m := s.fld Fld.HIF_SQ_CTRL_CQ it.ring 0
    it.ring < 64 → it.origin = none → s.cqUp m = true → s.cqFree m ≠ 0 → s.hif.held = [] →
    let t := s.completeAt it st status d0 d1 d2 d3
    let pi := s.rd Reg.HIF_CQ_PI m 0
    let slot := s.cqBase m + pi.toNat % s.cqSize m * 32
    let shadow := s.cqBase m + s.cqSize m * 32
    let flags := (if status = 0x0002 ∨ status = 0x0201 then 1 else 0) + (if it.remote then 2 else 0)
    memWords (t.ringMem (s.cqCores m)) slot 8 =
      [it.seq, w32 (status + flags * 65536), w32 st.ns, w32 st.sec, d0, d1, d2, d3] ∧
    memWord (t.ringMem (s.cqCores m)) shadow = pi + 1 ∧ t.rd Reg.HIF_CQ_PI m 0 = pi + 1 ∧
    (∀ a, (a < slot ∨ slot + 32 ≤ a) → (a < shadow ∨ shadow + 4 ≤ a) →
      memGet (t.ringMem (s.cqCores m)) a = memGet (s.ringMem (s.cqCores m)) a) ∧
    t.ringMem (!(s.cqCores m)) = s.ringMem (!(s.cqCores m)) ∧
    t.HasVerdict it (if status < 0x100 then .applied status else .notApplied status)

/-- Budget 3 of a Facet (R216, R217): after it the AI_SLOTS of the Facet's channels sum to at most 32, no channel has more than
before, and no other value changes. -/
def Obligations.SlotBudget : Prop :=
  ∀ (n : Nat) (v : Val), n < 16 → (∀ c ∈ facetChans n, v.slots c ∈ [0, 1, 2, 4, 8, 16, 32]) →
    let u := budget3 n 64 v
    (facetChans n).foldl (fun a c => a + u.slots c) 0 ≤ 32 ∧ (∀ c ∈ facetChans n, u.slots c ≤ v.slots c) ∧
      (∀ k, (∀ c ∈ facetChans n, k ≠ cfgKey 0x12 c 0x10 0) → u.get k = v.get k)

/-- A scan of Lattice executes each word of the program at most once (R324), and LAT_SCANTIME.LAST is 400 ns and 2 ns a word. -/
def Obligations.ScanExecutesOnce : Prop :=
  (∀ (first : Bool) (m : LatMem) (s : State), (s.latRun first m).n ≤ s.latWords.length) ∧
  (∀ (n : Nat) (s : State), n ≤ 16384 → (s.latTime n).fld Fld.LAT_SCANTIME_LAST 0 0 = 400 + 2 * n)

/-- The Helix intake numbers every event it is offered (R430, R431): an event takes the counter's value and the records that
follow from it the next ones; a record in the log after the event was there before or carries one of those numbers; the log
never holds more than 16,384 records (R434). -/
def Obligations.HelixNumbersEvents : Prop :=
  ∀ (e : Event) (st : Stamp) (full : Bool) (s : State), ∃ t, exec (.helixEvent e st full) s = .next t ∧
    (∃ k, 1 ≤ k ∧ k ≤ 25 ∧ t.tr.hlx.seq = s.tr.hlx.seq + w32 k ∧
      ∀ r ∈ t.tr.hlx.log, r ∈ s.tr.hlx.log ∨ (r.seq - s.tr.hlx.seq).toNat < k) ∧
    (s.tr.hlx.log.length ≤ 16384 → t.tr.hlx.log.length ≤ 16384)

/-- Each Vertex source keeps a sequence number (R353): an event of it, mapped or not, advances it by 1, and an item that the
event makes carries the number it had. Sources 133 to 136 are those that an event may raise by its own record or fault. -/
def Obligations.VertexNumbersEvents : Prop :=
  ∀ (n inst code : Nat) (param : Word) (st : Stamp) (s : State), s.tr.vtx.running = true → n < 133 ∨ 136 < n →
    ∃ t, exec (.vertexEvent n inst code param st) s = .next t ∧
      tget 0 t.tr.vtx.srcSeq n = tget 0 s.tr.vtx.srcSeq n + 1 ∧
      ∀ i ∈ t.tr.vtx.items, i.source = n → i ∈ s.tr.vtx.items ∨ i.seq = tget 0 s.tr.vtx.srcSeq n

/-- The fault queue presents by severity (R596, R597): an entry that arrives and an acknowledgement leave nothing waiting above
the handling level, and an acknowledgement of a severity that has no presented entry has no effect. -/
def Obligations.FaultsPresentBySeverity : Prop :=
  (∀ (e : Event) (st : Stamp) (q : Word) (s : State), s.tr.flt.Ok →
    ∃ t, exec (.faultEntry e st q) s = .next t ∧ t.tr.flt.Ok) ∧
  (∀ (sev : Nat) (s : State), s.tr.flt.Ok → ∃ t, exec (.fltHack sev) s = .next t ∧ t.tr.flt.Ok) ∧
  (∀ (sev : Nat) (s : State), s.tr.flt.pres sev = none → exec (.fltHack sev) s = .next s)

/-- Stamps carry from nanoseconds to seconds at 1,000,000,000 (R482): a stamp never holds more nanoseconds, and time that
passes adds to the nanoseconds, or takes 1,000,000,000 from them and adds 1 to the 48-bit seconds. -/
def Obligations.StampCarries : Prop :=
  ∀ (t : Int) (k : Nat), k < 1000000000 →
    let a := stampOf t
    (stampOf t).ns < 1000000000 ∧ (stampOf t).sec < 2 ^ 48 ∧
    stampOf (t + (k : Int) * 4294967296) =
      (if a.ns + k < 1000000000 then ⟨a.sec, a.ns + k⟩ else ⟨(a.sec + 1) % 2 ^ 48, a.ns + k - 1000000000⟩)

/-- The laws of a memory: a byte written reads back and leaves every other address alone, a block of bytes likewise, writes
keep the canonical form, and canonical memories that read alike are equal. -/
def Obligations.MemoryLaws : Prop :=
  (∀ (m : Mem) (a : Nat) (b : Byte) (x : Nat), memGet (memSet m a b) x = if x = a then b else memGet m x) ∧
  (∀ (m : Mem) (a : Nat) (bs : List Byte) (x : Nat), memGet (memPut m a bs) x =
    if a ≤ x ∧ x < a + bs.length then bs.getD (x - a) 0 else memGet m x) ∧
  (∀ (m : Mem) (a : Nat) (bs : List Byte), Memory.wf m = true → Memory.wf (memPut m a bs) = true) ∧
  (∀ m m' : Mem, Memory.wf m = true → Memory.wf m' = true → (∀ a, memGet m a = memGet m' a) → m = m')

/-- When an item is not served at once: one for another module goes to that module (R525), and one from another module whose
deadline has passed completes FAILED_TIMEOUT (R136); else it waits, with nothing changed, until its turn has come (R120) and while
a handover holds it (R558) or the module does not serve its block; its intent is stated while a mirror waits for it (R549);
it completes FAILED_TARGET_ABSENT while its block is switched off (R36). -/
def Obligations.ItemsWaitOrFail : Prop :=
  ∀ (c : Instr) (it : Item) (s : State), servedItem c = some it →
    let away := it.remote && it.origin.isNone
    let late := (s.flight it.ring it.seq).any (fun f => f.late s.mer.base)
    (away = true → exec c s = .next (s.tryRemote it)) ∧
    (away = false → late = true → exec c s = .next (s.complete it stTimeout)) ∧
    (away = false → late = false → (s.itemTurn it = false ∨ s.undecided it = false ∨ s.frozen it = true ∨
      s.serving it.block = false) → exec c s = .next s) ∧
    (away = false → late = false → s.itemTurn it = true → s.undecided it = true → s.frozen it = false →
      s.serving it.block = true →
      ((s.mirWait it && !(s.lateIntent it)) = true → exec c s = .next (s.intend it)) ∧
      ((s.mirWait it && !(s.lateIntent it)) = false → s.blockOff it.block = true → exec c s = .next (s.absent it)))

/-- SYS_FW_WRITE stores the item's buffer bytes in the addressed image and leaves every other byte of flash alone (R101). -/
def Obligations.FirmwareWriteFrame : Prop :=
  ∀ (it : Item) (s : State), s.Ready it → it.isAgain = false → it.inst ≤ 1 → s.imageRuns it.inst = false →
    let len := (it.w 5).toNat
    let off := (it.w 6).toNat
    0 < len → len % 4 = 0 → len ≤ 1048576 → off % 4096 = 0 → off + len ≤ imageSize →
    ∃ t, exec (.sysFwWrite it) s = .next t ∧
      (∀ i, i < len → memGet t.flash (imageBase it.inst + off + i) =
        memGet (s.ringMem (s.sqCores it.ring)) (bufAddr it 3 + i)) ∧
      (∀ a, (a < imageBase it.inst + off ∨ imageBase it.inst + off + len ≤ a) → memGet t.flash a = memGet s.flash a) ∧
      t.mram = s.mram ∧ t.mer = s.mer ∧ t.HasVerdict it (.applied 0)
end

