-- ==== Sys2Proof/Laws/Quiet.lean ====
section
/-! SUPPORT. The parts of the state that few commands write: the queue, Meridian, the nonvolatile memories and the
Perimeter die. `State.quiet` holds them together, so that one lemma per operation says that it keeps them all. -/

namespace Sys2Proof.Machine

/-- The parts of the state that few commands write. -/
structure Quiet where
  pending : List Instr
  mer : MerSt
  flash : Mem
  mram : Mem
  die : PerSt

/-- Those parts of a state. -/
def State.quiet (s : State) : Quiet := ⟨s.pending, s.mer, s.flash, s.mram, s.per.die⟩

/-- Those parts of the next state, where there is one. -/
def quietOf (o : Host.Outcome State Fault Refusal) : Option Quiet :=
  match o with
  | .next t => some t.quiet
  | .fault _ => none
  | .refused _ => none

theorem State.quiet_mk (pending : List Instr) (regs : Tab Word) (mer : MerSt) (tr : Trace) (hif : HifSt) (cfg : CfgSt)
    (dram mram flash host : Mem) (sys : SysSt) (vxl : VxlSt) (mir : MirSt) (fct : FctSt) (tan : TanSt) (lat : LatSt)
    (arc : ArcSt) (prm : PrmSt) (loc : LocSt) (can : Tab CanCtl) (eth : EthSt) (per : PerSt) (out : List Out)
    (free : Nat) :
    (State.mk pending regs mer tr hif cfg dram mram flash host sys vxl mir fct tan lat arc prm loc can eth per out
      free).quiet = ⟨pending, mer, flash, mram, per.die⟩ := id rfl

theorem Quiet.fold (s : State) : Quiet.mk s.pending s.mer s.flash s.mram s.per.die = s.quiet := id rfl

theorem ite_quiet (c : Prop) [Decidable c] (a b : State) :
    (if c then a else b).quiet = if c then a.quiet else b.quiet := by split <;> rfl

theorem ite_fst {α β : Type} (c : Prop) [Decidable c] (a b : α × β) :
    (if c then a else b).1 = if c then a.1 else b.1 := by split <;> rfl

theorem ite_snd {α β : Type} (c : Prop) [Decidable c] (a b : α × β) :
    (if c then a else b).2 = if c then a.2 else b.2 := by split <;> rfl

theorem quietOf_next (s : State) : quietOf (.next s) = some s.quiet := id rfl
theorem quietOf_go (s : State) : quietOf (go s) = some s.quiet := id rfl

theorem ite_quietOf (c : Prop) [Decidable c] (a b : Host.Outcome State Fault Refusal) :
    quietOf (if c then a else b) = if c then quietOf a else quietOf b := by split <;> rfl

theorem foldl_quiet {β : Type} (f : State → β → State) (h : ∀ s b, (f s b).quiet = s.quiet) (l : List β) (s : State) :
    (l.foldl f s).quiet = s.quiet := by
  induction l generalizing s with
  | nil => rfl
  | cons x xs ih => simp only [List.foldl_cons, ih, h]

theorem foldl_fst_quiet {β γ : Type} (f : State × γ → β → State × γ) (h : ∀ r b, (f r b).1.quiet = r.1.quiet)
    (l : List β) (r : State × γ) : (l.foldl f r).1.quiet = r.1.quiet := by
  induction l generalizing r with
  | nil => rfl
  | cons x xs ih => simp only [List.foldl_cons, ih, h]

theorem after_quiet (o : Host.Outcome State Fault Refusal) (f : State → Host.Outcome State Fault Refusal) (q : Quiet)
    (ho : quietOf o = some q) (hf : ∀ t, quietOf (f t) = some t.quiet) : quietOf (after o f) = some q := by
  cases o with
  | next t => simp only [after, hf]; exact ho
  | fault r => cases ho
  | refused r => cases ho

theorem stateOf_quiet (o : Host.Outcome State Fault Refusal) (s : State) (h : quietOf o = some s.quiet) :
    (stateOf o s).quiet = s.quiet := by
  cases o with
  | next t => exact Option.some.inj h
  | fault r => cases h
  | refused r => cases h

end Sys2Proof.Machine
end

