-- ==== Sys2Proof/Laws/Tab.lean ====
section
/-! SUPPORT. The laws of the sparse stores: a value read after it has been written, every other key left alone, and the
canonical form kept by every operation. -/

namespace Sys2Proof.Machine

variable {α : Type}

theorem tabGet_del (d : Nat → α) (t : Tab α) (k j : Nat) :
    tabGet d (tabDel t k) j = if j = k then d j else tabGet d t j := by
  induction t with
  | nil => simp [tabDel, tabGet]
  | cons x t ih =>
    obtain ⟨k', v⟩ := x
    by_cases h : k = k'
    · subst h
      rw [tabDel, if_pos rfl, ih]
      by_cases hj : j = k <;> simp [tabGet, hj]
    · rw [tabDel, if_neg h, tabGet, tabGet, ih]
      by_cases hj : j = k'
      · subst hj; simp [Ne.symm h]
      · simp [hj]

theorem tabGet_ins_same (d : Nat → α) (t : Tab α) (k : Nat) (v : α) (h : ∀ x ∈ t, x.1 ≠ k) :
    tabGet d (tabIns t k v) k = v := by
  induction t with
  | nil => simp [tabIns, tabGet]
  | cons x t ih =>
    obtain ⟨k', v'⟩ := x
    have hk : k ≠ k' := fun e => h (k', v') (List.mem_cons_self ..) e.symm
    rw [tabIns]
    split
    · simp [tabGet]
    · rw [tabGet, if_neg hk]; exact ih (fun x hx => h x (List.mem_cons_of_mem _ hx))

theorem tabGet_ins_other (d : Nat → α) (t : Tab α) (k j : Nat) (v : α) (h : j ≠ k) :
    tabGet d (tabIns t k v) j = tabGet d t j := by
  induction t with
  | nil => simp [tabIns, tabGet, h]
  | cons x t ih =>
    obtain ⟨k', v'⟩ := x
    rw [tabIns]
    split
    · simp [tabGet, h]
    · simp only [tabGet, ih]

theorem tabDel_keys (t : Tab α) (k : Nat) : ∀ x ∈ tabDel t k, x.1 ≠ k := by
  induction t with
  | nil => simp [tabDel]
  | cons x t ih =>
    obtain ⟨k', v'⟩ := x
    rw [tabDel]
    split
    · exact ih
    · intro x hx
      rcases List.mem_cons.mp hx with rfl | hx
      · exact fun e => ‹¬k = k'› e.symm
      · exact ih x hx

/-- A value is read back, and every other key reads as before. -/
theorem tabGet_set [DecidableEq α] (d : Nat → α) (t : Tab α) (k j : Nat) (v : α) :
    tabGet d (tabSet d t k v) j = if j = k then v else tabGet d t j := by
  rw [tabSet]
  split
  · rename_i h
    rw [tabGet_del, h]
    split
    · rename_i e; rw [e]
    · rfl
  · by_cases hj : j = k
    · subst hj; rw [if_pos rfl, tabGet_ins_same _ _ _ _ (tabDel_keys t j)]
    · rw [if_neg hj, tabGet_ins_other _ _ _ _ _ hj, tabGet_del, if_neg hj]

@[simp] theorem tget_tset [DecidableEq α] (x : α) (t : Tab α) (k : Nat) (v : α) : tget x (tset x t k v) k = v := by
  rw [tget, tset, tabGet_set, if_pos rfl]

theorem tget_tset_ne [DecidableEq α] (x : α) (t : Tab α) (k j : Nat) (v : α) (h : j ≠ k) :
    tget x (tset x t k v) j = tget x t j := by rw [tget, tset, tabGet_set, if_neg h]; rfl

/-! ### The canonical form -/

theorem tabWfFrom_mono [DecidableEq α] (d : Nat → α) (a b : Nat) (h : a ≤ b) (t : Tab α) (w : tabWfFrom d b t = true) :
    tabWfFrom d a t = true := by
  cases t with
  | nil => rfl
  | cons x t =>
    simp only [tabWfFrom, Bool.and_eq_true, decide_eq_true_eq] at w ⊢
    exact ⟨⟨by omega, w.1.2⟩, w.2⟩

theorem tabWfFrom_del [DecidableEq α] (d : Nat → α) (a : Nat) (t : Tab α) (k : Nat) (w : tabWfFrom d a t = true) :
    tabWfFrom d a (tabDel t k) = true := by
  induction t generalizing a with
  | nil => rfl
  | cons x t ih =>
    obtain ⟨k', v⟩ := x
    simp only [tabWfFrom, Bool.and_eq_true, decide_eq_true_eq] at w
    rw [tabDel]
    split
    · exact ih a (tabWfFrom_mono d a k' (by omega) t w.2)
    · simp only [tabWfFrom, Bool.and_eq_true, decide_eq_true_eq]
      exact ⟨w.1, ih k' w.2⟩

theorem tabWfFrom_ins [DecidableEq α] (d : Nat → α) (a : Nat) (t : Tab α) (k : Nat) (v : α) (hv : v ≠ d k) (ha : a < k)
    (hk : ∀ x ∈ t, x.1 ≠ k) (w : tabWfFrom d a t = true) : tabWfFrom d a (tabIns t k v) = true := by
  induction t generalizing a with
  | nil => simp [tabIns, tabWfFrom, hv, ha]
  | cons x t ih =>
    obtain ⟨k', v'⟩ := x
    simp only [tabWfFrom, Bool.and_eq_true, decide_eq_true_eq] at w
    have hne : k' ≠ k := hk (k', v') (List.mem_cons_self ..)
    rw [tabIns]
    split
    · simp only [tabWfFrom, Bool.and_eq_true, decide_eq_true_eq]
      exact ⟨⟨ha, hv⟩, ⟨‹_›, w.1.2⟩, w.2⟩
    · simp only [tabWfFrom, Bool.and_eq_true, decide_eq_true_eq]
      exact ⟨w.1, ih k' (by omega) (fun x hx => hk x (List.mem_cons_of_mem _ hx)) w.2⟩

/-- A store without its first key's lower bound: what `tabWf` asks beyond `tabWfFrom`. -/
theorem tabWf_cons [DecidableEq α] (d : Nat → α) (k : Nat) (v : α) (t : Tab α) :
    tabWf d ((k, v) :: t) = true ↔ v ≠ d k ∧ tabWfFrom d k t = true := by simp [tabWf]

theorem tabWf_of_from [DecidableEq α] (d : Nat → α) (a : Nat) (t : Tab α) (w : tabWfFrom d a t = true) :
    tabWf d t = true := by
  cases t with
  | nil => rfl
  | cons x t =>
    simp only [tabWfFrom, Bool.and_eq_true, decide_eq_true_eq] at w
    exact (tabWf_cons d x.1 x.2 t).mpr ⟨w.1.2, w.2⟩

theorem tabWf_del [DecidableEq α] (d : Nat → α) (t : Tab α) (k : Nat) (w : tabWf d t = true) :
    tabWf d (tabDel t k) = true := by
  cases t with
  | nil => rfl
  | cons x t =>
    obtain ⟨k', v⟩ := x
    have h := (tabWf_cons d k' v t).mp w
    rw [tabDel]
    split
    · exact tabWf_of_from d k' _ (tabWfFrom_del d k' t k h.2)
    · exact (tabWf_cons d k' v _).mpr ⟨h.1, tabWfFrom_del d k' t k h.2⟩

theorem tabWf_ins [DecidableEq α] (d : Nat → α) (t : Tab α) (k : Nat) (v : α) (hv : v ≠ d k)
    (hk : ∀ x ∈ t, x.1 ≠ k) (w : tabWf d t = true) : tabWf d (tabIns t k v) = true := by
  cases t with
  | nil => simp [tabIns, tabWf, tabWfFrom, hv]
  | cons x t =>
    obtain ⟨k', v'⟩ := x
    have h := (tabWf_cons d k' v' t).mp w
    have hne : k' ≠ k := hk (k', v') (List.mem_cons_self ..)
    rw [tabIns]
    split
    · refine (tabWf_cons d k v _).mpr ⟨hv, ?_⟩
      simp only [tabWfFrom, Bool.and_eq_true, decide_eq_true_eq]
      exact ⟨⟨‹_›, h.1⟩, h.2⟩
    · refine (tabWf_cons d k' v' _).mpr ⟨h.1, ?_⟩
      exact tabWfFrom_ins d k' t k v hv (by omega) (fun x hx => hk x (List.mem_cons_of_mem _ hx)) h.2

/-- A write keeps the canonical form. -/
theorem tabWf_set [DecidableEq α] (d : Nat → α) (t : Tab α) (k : Nat) (v : α) (w : tabWf d t = true) :
    tabWf d (tabSet d t k v) = true := by
  rw [tabSet]
  split
  · exact tabWf_del d t k w
  · exact tabWf_ins d _ k v ‹_› (tabDel_keys t k) (tabWf_del d t k w)

/-! ### Memories -/

/-- A canonical store reads the default below its first key. -/
theorem tabGet_below [DecidableEq α] (d : Nat → α) (k j : Nat) (t : Tab α) (w : tabWfFrom d k t = true) (h : j ≤ k) :
    tabGet d t j = d j := by
  induction t generalizing k with
  | nil => rfl
  | cons x xs ih =>
    obtain ⟨a, v⟩ := x
    simp only [tabWfFrom, Bool.and_eq_true, decide_eq_true_eq] at w
    unfold tabGet
    rw [if_neg (by omega)]
    exact ih a w.2 (by omega)

/-- Canonical stores that read alike are equal. -/
theorem tabWf_ext [DecidableEq α] (d : Nat → α) (t t' : Tab α) (w : tabWf d t = true) (w' : tabWf d t' = true)
    (h : ∀ k, tabGet d t k = tabGet d t' k) : t = t' := by
  induction t generalizing t' with
  | nil =>
    cases t' with
    | nil => rfl
    | cons x xs =>
      obtain ⟨a, v⟩ := x
      simp only [tabWf, Bool.and_eq_true, decide_eq_true_eq] at w'
      have := h a
      simp only [tabGet, if_true] at this
      exact absurd this.symm w'.1
  | cons x xs ih =>
    obtain ⟨a, v⟩ := x
    simp only [tabWf, Bool.and_eq_true, decide_eq_true_eq] at w
    cases t' with
    | nil =>
      have := h a
      simp only [tabGet, if_true] at this
      exact absurd this w.1
    | cons y ys =>
      obtain ⟨b, u⟩ := y
      simp only [tabWf, Bool.and_eq_true, decide_eq_true_eq] at w'
      have hab : a = b := by
        rcases Nat.lt_trichotomy a b with c | c | c
        · have := h a
          simp only [tabGet, if_true, if_neg (show a ≠ b by omega)] at this
          rw [tabGet_below d b a ys w'.2 (by omega)] at this
          exact absurd this w.1
        · exact c
        · have := h b
          simp only [tabGet, if_true, if_neg (show b ≠ a by omega)] at this
          rw [tabGet_below d a b xs w.2 (by omega)] at this
          exact absurd this.symm w'.1
      subst hab
      have huv : v = u := by have := h a; simpa only [tabGet, if_true] using this
      subst huv
      congr 1
      refine ih ys (tabWf_of_from d a xs w.2) (tabWf_of_from d a ys w'.2) (fun k => ?_)
      by_cases c : k = a
      · rw [c, tabGet_below d a a xs w.2 (Nat.le_refl _), tabGet_below d a a ys w'.2 (Nat.le_refl _)]
      · have := h k
        simpa only [tabGet, if_neg c] using this

/-- A byte written is read back, and every other byte reads as before. -/
theorem memGet_memSet (m : Mem) (a b : Nat) (x : Byte) : memGet (memSet m a x) b = if b = a then x else memGet m b :=
  tabGet_set _ m a b x

theorem memSet_wf (m : Mem) (a : Nat) (x : Byte) (w : Memory.wf m = true) : Memory.wf (memSet m a x) = true :=
  tabWf_set _ m a x w

theorem memPut_wf (m : Mem) (a : Nat) (bs : List Byte) (w : Memory.wf m = true) : Memory.wf (memPut m a bs) = true := by
  induction bs generalizing m a with
  | nil => exact w
  | cons b bs ih => exact ih _ _ (memSet_wf m a b w)

theorem memPutWords_wf (m : Mem) (a : Nat) (ws : List Word) (w : Memory.wf m = true) :
    Memory.wf (memPutWords m a ws) = true := memPut_wf m a _ w

/-- A byte outside the bytes written reads as before. -/
theorem memGet_memPut_out (m : Mem) (a b : Nat) (bs : List Byte) (h : b < a ∨ a + bs.length ≤ b) :
    memGet (memPut m a bs) b = memGet m b := by
  induction bs generalizing m a with
  | nil => rfl
  | cons x bs ih =>
    simp only [List.length_cons] at h
    rw [memPut, ih _ _ (by omega), memGet_memSet, if_neg (by omega)]

/-- The bytes written are read back. -/
theorem memGet_memPut_in (m : Mem) (a : Nat) (bs : List Byte) (i : Nat) (h : i < bs.length) :
    memGet (memPut m a bs) (a + i) = bs[i] := by
  induction bs generalizing m a i with
  | nil => simp at h
  | cons x bs ih =>
    rw [memPut]
    cases i with
    | zero => rw [memGet_memPut_out _ _ _ _ (by omega), memGet_memSet, if_pos (by omega)]; rfl
    | succ i =>
      simp only [List.length_cons] at h
      rw [show a + (i + 1) = (a + 1) + i by omega, ih _ _ _ (by omega)]
      rfl

end Sys2Proof.Machine
end

