-- ==== Sys2Proof/Laws/Keeps.lean ====
section
/-! SUPPORT. What a write to one of the parts of `State.quiet` keeps of them: the queue, Meridian's invariant, and the
canonical form of the nonvolatile memories. -/

namespace Sys2Proof.Machine

/-- What a command outside the Perimeter die keeps of those parts. -/
structure Keeps (p q : Quiet) : Prop where
  pending : q.pending = p.pending
  mer : p.mer.Ok → q.mer.Ok
  flash : Memory.wf p.flash = true → Memory.wf q.flash = true
  mram : Memory.wf p.mram = true → Memory.wf q.mram = true
  die : q.die = p.die

/-- An outcome is a next state that keeps them. -/
def KeepsOut (p : Quiet) (o : Host.Outcome State Fault Refusal) : Prop := ∃ t, o = .next t ∧ Keeps p t.quiet

theorem Keeps.rfl' (p : Quiet) : Keeps p p := ⟨rfl, id, id, id, rfl⟩

theorem Keeps.trans {p q r : Quiet} (h : Keeps p q) (k : Keeps q r) : Keeps p r :=
  ⟨k.pending.trans h.pending, fun x => k.mer (h.mer x), fun x => k.flash (h.flash x), fun x => k.mram (h.mram x),
    k.die.trans h.die⟩

theorem keeps_ite {p : Quiet} {c : Prop} [Decidable c] {a b : Quiet} (ha : Keeps p a) (hb : Keeps p b) :
    Keeps p (if c then a else b) := by split <;> assumption

theorem keeps_iteS {p : Quiet} {c : Prop} [Decidable c] {a b : State} (ha : Keeps p a.quiet) (hb : Keeps p b.quiet) :
    Keeps p (if c then a else b).quiet := by split <;> assumption

theorem keepsOut_next {p : Quiet} {s : State} (h : Keeps p s.quiet) : KeepsOut p (.next s) := ⟨s, rfl, h⟩
theorem keepsOut_go {p : Quiet} {s : State} (h : Keeps p s.quiet) : KeepsOut p (go s) := ⟨s, rfl, h⟩

theorem keepsOut_ite {p : Quiet} {c : Prop} [Decidable c] {a b : Host.Outcome State Fault Refusal}
    (ha : KeepsOut p a) (hb : KeepsOut p b) : KeepsOut p (if c then a else b) := by split <;> assumption

/-- A command that leaves those parts alone keeps them. -/
theorem keepsOut_quiet {p : Quiet} {o : Host.Outcome State Fault Refusal} {q : Quiet} (h : quietOf o = some q)
    (k : Keeps p q) : KeepsOut p o := by
  cases o with
  | next t => exact ⟨t, rfl, (Option.some.inj h) ▸ k⟩
  | fault r => cases h
  | refused r => cases h

theorem foldl_keeps {β : Type} {p : Quiet} (f : State → β → State) (h : ∀ s b, Keeps p s.quiet → Keeps p (f s b).quiet)
    (l : List β) (s : State) (k : Keeps p s.quiet) : Keeps p (l.foldl f s).quiet := by
  induction l generalizing s with
  | nil => exact k
  | cons x xs ih => exact ih _ (h s x k)

theorem keepsOut_after {p : Quiet} {o : Host.Outcome State Fault Refusal} {f : State → Host.Outcome State Fault Refusal}
    (ho : KeepsOut p o) (hf : ∀ t, Keeps p t.quiet → KeepsOut p (f t)) : KeepsOut p (after o f) := by
  obtain ⟨t, rfl, h⟩ := ho
  exact hf t h

theorem keeps_stateOf {p : Quiet} {o : Host.Outcome State Fault Refusal} (s : State) (h : KeepsOut p o) :
    Keeps p (stateOf o s).quiet := by
  obtain ⟨t, rfl, h⟩ := h
  exact h

end Sys2Proof.Machine
end

