-- ==== Sys2Proof/Laws/QuietAll.lean ====
section
/-! SUPPORT. One lemma per operation and command that writes none of the parts of `State.quiet`: it keeps them all, and a
command answers a next state. -/

set_option linter.unusedSimpArgs false
set_option maxRecDepth 4000

namespace Sys2Proof.Machine

theorem State.dropItem_quiet (s : State) (it : Item) :
    (State.dropItem s it).quiet = s.quiet := by
  unfold State.dropItem
  simp only [↓State.quiet_mk, ↓Quiet.fold]

theorem State.redoAdd_quiet (s : State) (it : Item) :
    (State.redoAdd s it).quiet = s.quiet := by
  unfold State.redoAdd
  simp only [↓State.quiet_mk, ↓Quiet.fold]
  (repeat' split) <;> simp only [↓State.quiet_mk, ↓Quiet.fold]

theorem State.emit_quiet (s : State) (o : Out) :
    (State.emit s o).quiet = s.quiet := by
  unfold State.emit
  simp only [↓State.quiet_mk, ↓Quiet.fold]

theorem State.intakeSet_quiet (s : State) (ring : Nat) (seq : Word) (v : Verdict) (written : Bool) :
    (State.intakeSet s ring seq v written).quiet = s.quiet := by
  unfold State.intakeSet
  simp only [↓State.quiet_mk, ↓Quiet.fold]
  (repeat' split) <;> simp only [↓State.quiet_mk, ↓Quiet.fold]

theorem State.wrA_quiet (s : State) (a : Nat) (w : Word) :
    (State.wrA s a w).quiet = s.quiet := by
  unfold State.wrA
  simp only [↓State.quiet_mk, ↓Quiet.fold]

theorem State.wr_quiet (s : State) (r : Reg) (i : Nat) (j : Nat) (w : Word) :
    (State.wr s r i j w).quiet = s.quiet := by
  unfold State.wr
  simp only [↓State.wrA_quiet]

theorem State.setF_quiet (s : State) (f : Fld) (i : Nat) (j : Nat) (v : Nat) :
    (State.setF s f i j v).quiet = s.quiet := by
  unfold State.setF
  simp only [↓State.wr_quiet]

theorem State.incF_quiet (s : State) (f : Fld) (i : Nat) (j : Nat) (k : Nat) :
    (State.incF s f i j k).quiet = s.quiet := by
  unfold State.incF
  simp only [↓State.setF_quiet]

theorem State.setDram_quiet (s : State) (m : Mem) :
    (State.setDram s m).quiet = s.quiet := by
  unfold State.setDram
  simp only [↓State.quiet_mk, ↓Quiet.fold, ↓ite_quiet, ite_self]

theorem State.setRingMem_quiet (s : State) (cores : Bool) (m : Mem) :
    (State.setRingMem s cores m).quiet = s.quiet := by
  unfold State.setRingMem
  simp only [↓State.quiet_mk, ↓Quiet.fold, ↓ite_quiet, ite_self, ↓State.setDram_quiet]

theorem State.report_quiet (s : State) (ws : List Work) :
    (State.report s ws).quiet = s.quiet := by
  unfold State.report
  simp only [↓State.quiet_mk, ↓Quiet.fold]

theorem State.raise_quiet (s : State) (n : Nat) (inst : Nat) (code : Nat) (param : Word) :
    (State.raise s n inst code param).quiet = s.quiet := by
  unfold State.raise
  simp only [↓State.report_quiet]

theorem State.cqIrq_quiet (s : State) (m : Nat) :
    (State.cqIrq s m).quiet = s.quiet := by
  unfold State.cqIrq
  simp only [↓State.quiet_mk, ↓Quiet.fold, ↓ite_quiet, ite_self, ↓State.raise_quiet]

theorem State.cqWrite_quiet (s : State) (m : Nat) (words : List Word) (irq : Bool) :
    (State.cqWrite s m words irq).quiet = s.quiet := by
  unfold State.cqWrite
  simp only [↓State.quiet_mk, ↓Quiet.fold, ↓ite_quiet, ite_self, ↓State.wr_quiet, ↓State.setRingMem_quiet, ↓State.setF_quiet, ↓State.cqIrq_quiet]

theorem State.cqPost_quiet (s : State) (m : Nat) (words : List Word) (sq : Option Nat) (irq : Bool) (record : optParam Bool false) :
    (State.cqPost s m words sq irq record).quiet = s.quiet := by
  unfold State.cqPost
  simp only [↓State.quiet_mk, ↓Quiet.fold, ↓ite_quiet, ite_self, ↓State.incF_quiet, ↓State.cqWrite_quiet]

theorem State.sqSettle_quiet (s : State) (n : Nat) :
    (State.sqSettle s n).quiet = s.quiet := by
  unfold State.sqSettle
  simp only [↓ite_quiet, ite_self, ↓State.setF_quiet]

theorem State.postRecord_quiet (s : State) (it : Item) (st : Stamp) (status : Nat) (d0 : Word) (d1 : Word) (d2 : Word) (d3 : Word) :
    (State.postRecord s it st status d0 d1 d2 d3).quiet = s.quiet := by
  unfold State.postRecord
  simp only [↓State.cqPost_quiet, ↓State.sqSettle_quiet, ↓State.intakeSet_quiet]

theorem State.completeAt_quiet (s : State) (it : Item) (st : Stamp) (status : Nat) (d0 : Word) (d1 : Word) (d2 : Word) (d3 : Word) :
    (State.completeAt s it st status d0 d1 d2 d3).quiet = s.quiet := by
  unfold State.completeAt
  simp only [↓State.quiet_mk, ↓Quiet.fold, ↓ite_quiet, ↓State.dropItem_quiet, ↓State.redoAdd_quiet, ↓State.emit_quiet, ↓State.intakeSet_quiet, ↓State.postRecord_quiet]
  (repeat' split) <;> simp only [↓State.quiet_mk, ↓Quiet.fold, ↓ite_quiet, ↓State.dropItem_quiet, ↓State.redoAdd_quiet, ↓State.emit_quiet, ↓State.intakeSet_quiet, ↓State.postRecord_quiet]

theorem State.complete_quiet (s : State) (it : Item) (status : Nat) (d0 : optParam Word 0) (d1 : optParam Word 0) (d2 : optParam Word 0) (d3 : optParam Word 0) :
    (State.complete s it status d0 d1 d2 d3).quiet = s.quiet := by
  unfold State.complete
  simp only [↓State.completeAt_quiet]

theorem State.showShadows_quiet (s : State) (g : Nat) :
    (State.showShadows s g).quiet = s.quiet := by
  unfold State.showShadows
  simp only [↓State.setF_quiet]

theorem State.setGen_quiet (s : State) (g : Nat) (x : GenSt) :
    (State.setGen s g x).quiet = s.quiet := by
  unfold State.setGen
  simp only [↓State.quiet_mk, ↓Quiet.fold]

theorem State.arcUnset_quiet (s : State) (g : Nat) (k : Nat × Word) :
    (State.arcUnset s g k).quiet = s.quiet := by
  unfold State.arcUnset
  simp only [↓State.showShadows_quiet, ↓State.setGen_quiet]

theorem State.stopUnset_quiet (s : State) (f : Inflight) :
    (State.stopUnset s f).quiet = s.quiet := by
  unfold State.stopUnset
  (repeat' split) <;> simp only [↓State.setF_quiet]

theorem State.withdraw_quiet (s : State) (f : Inflight) :
    (State.withdraw s f).quiet = s.quiet := by
  unfold State.withdraw
  simp only [↓ite_quiet, ite_self, ↓State.arcUnset_quiet, ↓State.stopUnset_quiet]

theorem State.setFacet_quiet (s : State) (n : Nat) (f : FacetSt) :
    (State.setFacet s n f).quiet = s.quiet := by
  unfold State.setFacet
  simp only [↓State.quiet_mk, ↓Quiet.fold]

theorem State.facetAbort_quiet (s : State) (cs : List Change) :
    (State.facetAbort s cs).quiet = s.quiet := by
  unfold State.facetAbort
  simp only [↓ite_quiet, ite_self, implies_true, ↓foldl_quiet, ↓State.setFacet_quiet]

theorem State.stagePut_quiet (s : State) (cs : List Change) :
    (State.stagePut s cs).quiet = s.quiet := by
  unfold State.stagePut
  simp only [↓State.quiet_mk, ↓Quiet.fold]

theorem State.stageBack_quiet (s : State) (cs : List Change) :
    (State.stageBack s cs).quiet = s.quiet := by
  unfold State.stageBack
  simp only [↓State.stagePut_quiet]

theorem State.giveBack_quiet (s : State) (moved : Bool) (given : List Change) :
    (State.giveBack s moved given).quiet = s.quiet := by
  unfold State.giveBack
  simp only [↓ite_quiet, ite_self, ↓State.stageBack_quiet]

theorem State.cfgSweep_quiet (s : State) :
    (State.cfgSweep s).quiet = s.quiet := by
  unfold State.cfgSweep
  simp only [↓State.quiet_mk, ↓Quiet.fold, implies_true, ↓foldl_quiet, ↓State.facetAbort_quiet, ↓State.giveBack_quiet]
  (repeat' split) <;> simp only [↓State.quiet_mk, ↓Quiet.fold, implies_true, ↓foldl_quiet, ↓State.facetAbort_quiet, ↓State.giveBack_quiet]

theorem State.abortNow_quiet (s : State) (it : Item) (f : Inflight) :
    (State.abortNow s it f).quiet = s.quiet := by
  unfold State.abortNow
  simp only [↓ite_quiet, ite_self, ↓State.complete_quiet, ↓State.withdraw_quiet, ↓State.raise_quiet, ↓State.cfgSweep_quiet]

theorem State.abortsDone_quiet (s : State) (f : CanTx) (aborted : Bool) :
    (State.abortsDone s f aborted).quiet = s.quiet := by
  unfold State.abortsDone
  simp only [implies_true, ↓foldl_quiet, ↓State.complete_quiet]

theorem State.absent_quiet (s : State) (it : Item) :
    (State.absent s it).quiet = s.quiet := by
  unfold State.absent
  simp only [↓State.complete_quiet]

theorem State.regsOff_quiet (s : State) (n : Nat) (keep : Nat → Bool) :
    (State.regsOff s n keep).quiet = s.quiet := by
  unfold State.regsOff
  simp only [↓State.quiet_mk, ↓Quiet.fold]

theorem State.setPrm_quiet (s : State) (p : PrmSt) :
    (State.setPrm s p).quiet = s.quiet := by
  unfold State.setPrm
  simp only [↓State.quiet_mk, ↓Quiet.fold]

theorem State.prmShow_quiet (s : State) :
    (State.prmShow s).quiet = s.quiet := by
  unfold State.prmShow
  simp only [↓State.setF_quiet]

theorem State.setUnit_quiet (s : State) (u : Nat) (x : UnitSt) :
    (State.setUnit s u x).quiet = s.quiet := by
  unfold State.setUnit
  simp only [↓State.setPrm_quiet]

theorem State.unitTo_quiet (s : State) (u : Nat) (st : Nat) :
    (State.unitTo s u st).quiet = s.quiet := by
  unfold State.unitTo
  simp only [↓ite_quiet, ite_self, ↓State.prmShow_quiet, ↓State.setF_quiet, ↓State.setUnit_quiet]

theorem State.prmStop_quiet (s : State) :
    (State.prmStop s).quiet = s.quiet := by
  unfold State.prmStop
  simp only [implies_true, ↓foldl_quiet, ↓State.setPrm_quiet, ↓State.unitTo_quiet]

theorem State.setHlx_quiet (s : State) (h : HlxSt) :
    (State.setHlx s h).quiet = s.quiet := by
  unfold State.setHlx
  simp only [↓State.quiet_mk, ↓Quiet.fold]

theorem State.acqDown_quiet (s : State) (warm : Bool) :
    (State.acqDown s warm).quiet = s.quiet := by
  unfold State.acqDown
  simp only [↓State.regsOff_quiet, ↓State.prmStop_quiet, ↓State.setHlx_quiet]

theorem State.logAt_quiet (s : State) (st : Stamp) (code : Nat) (inst : Nat) (p0 : Word) (p1 : Word) (p2 : Word) (p3 : Word) :
    (State.logAt s st code inst p0 p1 p2 p3).quiet = s.quiet := by
  unfold State.logAt
  simp only [↓State.report_quiet]

theorem State.log_quiet (s : State) (code : Nat) (inst : Nat) (p0 : optParam Word 0) (p1 : optParam Word 0) (p2 : optParam Word 0) (p3 : optParam Word 0) :
    (State.log s code inst p0 p1 p2 p3).quiet = s.quiet := by
  unfold State.log
  simp only [↓State.logAt_quiet]

theorem State.setTrack_quiet (s : State) (t : Nat) (x : TrackSt) :
    (State.setTrack s t x).quiet = s.quiet := by
  unfold State.setTrack
  simp only [↓State.quiet_mk, ↓Quiet.fold]

theorem State.actFail_quiet (s : State) (t : Nat) (a : Nat) (reason : Nat) (failhold : Bool) :
    (State.actFail s t a reason failhold).quiet = s.quiet := by
  unfold State.actFail
  simp only [↓ite_quiet, ite_self, ↓State.log_quiet, ↓State.incF_quiet, ↓State.setTrack_quiet]

theorem State.rampShow_quiet (s : State) :
    (State.rampShow s).quiet = s.quiet := by
  unfold State.rampShow
  simp only [↓State.setF_quiet]

theorem State.tanShow_quiet (s : State) (l : Nat) :
    (State.tanShow s l).quiet = s.quiet := by
  unfold State.tanShow
  simp only [↓State.setF_quiet]

theorem State.setLoop_quiet (s : State) (l : Nat) (p : LoopSt) :
    (State.setLoop s l p).quiet = s.quiet := by
  unfold State.setLoop
  simp only [↓State.quiet_mk, ↓Quiet.fold]

theorem State.rampFree_quiet (s : State) (g : Nat) :
    (State.rampFree s g).quiet = s.quiet := by
  unfold State.rampFree
  simp only [↓State.rampShow_quiet, ↓State.wr_quiet, ↓State.tanShow_quiet, ↓State.setLoop_quiet]

theorem State.rampStop_quiet (s : State) (l : Nat) :
    (State.rampStop s l).quiet = s.quiet := by
  unfold State.rampStop
  (repeat' split) <;> simp only [↓State.rampFree_quiet]

theorem State.locSet_quiet (s : State) (l : Nat) (v : Word) :
    (State.locSet s l v).quiet = s.quiet := by
  unfold State.locSet
  simp only [↓State.setLoop_quiet]

theorem State.rampAct_quiet (s : State) (t : Nat) (n : Nat) (l : Nat) (tgt : Word) (rate : Word) :
    (State.rampAct s t n l tgt rate).quiet = s.quiet := by
  unfold State.rampAct
  simp only [↓State.quiet_mk, ↓Quiet.fold, ↓State.wr_quiet, ↓State.rampShow_quiet, ↓State.tanShow_quiet, ↓State.setLoop_quiet]
  (repeat' split) <;> simp only [↓State.quiet_mk, ↓Quiet.fold, ↓State.wr_quiet, ↓State.rampShow_quiet, ↓State.tanShow_quiet, ↓State.setLoop_quiet]

theorem State.actLoop_quiet (s : State) (t : Nat) (n : Nat) (ty : Nat) (l : Nat) (b : Word) (c : Word) :
    (State.actLoop s t n ty l b c).1.quiet = s.quiet := by
  unfold State.actLoop
  simp only [↓ite_quiet, ite_self, ↓ite_fst, ↓State.rampStop_quiet, ↓State.setLoop_quiet, ↓State.locSet_quiet, ↓State.rampAct_quiet]

theorem State.actToken_quiet (s : State) (t : Nat) (a : Nat) (w1 : Word) (w2 : Word) (failhold : Bool) :
    (State.actToken s t a w1 w2 failhold).1.quiet = s.quiet := by
  unfold State.actToken
  simp only [↓State.quiet_mk, ↓Quiet.fold, ↓ite_quiet, ite_self, ↓ite_fst, ↓State.emit_quiet]

theorem State.setChan_quiet (s : State) (ch : Nat) (c : ChanSt) :
    (State.setChan s ch c).quiet = s.quiet := by
  unfold State.setChan
  simp only [↓State.quiet_mk, ↓Quiet.fold]

theorem State.ownerWrite_quiet (s : State) (ch : Nat) (v : Word) :
    (State.ownerWrite s ch v).quiet = s.quiet := by
  unfold State.ownerWrite
  simp only [↓State.setChan_quiet]

theorem State.arcLocEn_quiet (s : State) (g : Nat) (on : Bool) :
    (State.arcLocEn s g on).quiet = s.quiet := by
  unfold State.arcLocEn
  simp only [↓ite_quiet, ite_self, ↓State.setGen_quiet, ↓State.setF_quiet]

theorem State.unitMet_quiet (s : State) (u : Nat) (t : Int) :
    (State.unitMet s u t).quiet = s.quiet := by
  unfold State.unitMet
  simp only [↓ite_quiet, ite_self, ↓State.setPrm_quiet]

theorem State.trgEvent_quiet (s : State) (kind : Nat) (arg : Nat) (t : Int) :
    (State.trgEvent s kind arg t).quiet = s.quiet := by
  unfold State.trgEvent
  simp only [↓ite_quiet, ite_self, implies_true, ↓foldl_quiet, ↓State.unitMet_quiet]

theorem State.wrapF_quiet (s : State) (f : Fld) (i : Nat) (j : Nat) (k : Nat) :
    (State.wrapF s f i j k).quiet = s.quiet := by
  unfold State.wrapF
  simp only [↓State.setF_quiet]

theorem State.showBacklog_quiet (s : State) :
    (State.showBacklog s).quiet = s.quiet := by
  unfold State.showBacklog
  simp only [↓ite_quiet, ite_self, ↓State.setF_quiet]

theorem State.prmDiscard_quiet (s : State) :
    (State.prmDiscard s).quiet = s.quiet := by
  unfold State.prmDiscard
  simp only [↓ite_quiet, ite_self, ↓State.setPrm_quiet, ↓State.showBacklog_quiet, ↓State.incF_quiet, ↓State.log_quiet]

theorem State.bkPut_quiet (s : State) (ws : List Word) :
    (State.bkPut s ws).quiet = s.quiet := by
  unfold State.bkPut
  simp only [↓State.quiet_mk, ↓Quiet.fold, ↓ite_quiet, ite_self, ↓State.prmDiscard_quiet, ↓State.showBacklog_quiet]

theorem State.prmEntry_quiet (s : State) (ty : Nat) (spc : Nat) (ws : List Word) :
    (State.prmEntry s ty spc ws).quiet = s.quiet := by
  unfold State.prmEntry
  simp only [↓ite_quiet, ite_self, ↓State.wrapF_quiet, ↓State.bkPut_quiet]

theorem State.prmMarker_quiet (s : State) (soft : Bool) (track : Nat) (code : Nat) (param : Word) (t : Int) :
    (State.prmMarker s soft track code param t).quiet = s.quiet := by
  unfold State.prmMarker
  simp only [↓ite_quiet, ite_self, ↓State.trgEvent_quiet, ↓State.prmEntry_quiet]

theorem State.cntPut_quiet (s : State) (o : CntOp) :
    (State.cntPut s o).quiet = s.quiet := by
  unfold State.cntPut
  simp only [↓State.quiet_mk, ↓Quiet.fold]

theorem State.action_quiet (s : State) (t : Nat) (n : Nat) (a : Nat) (failhold : Bool) :
    (State.action s t n a failhold).1.quiet = s.quiet := by
  unfold State.action
  simp only [↓State.actLoop_quiet, ↓State.ownerWrite_quiet, ↓State.arcLocEn_quiet, ↓State.prmMarker_quiet, ↓State.actToken_quiet, ↓State.cntPut_quiet, ↓State.raise_quiet]
  (repeat' split) <;> simp only [↓State.actLoop_quiet, ↓State.ownerWrite_quiet, ↓State.arcLocEn_quiet, ↓State.prmMarker_quiet, ↓State.actToken_quiet, ↓State.cntPut_quiet, ↓State.raise_quiet]

theorem State.actions_quiet (s : State) (t : Nat) (n : Nat) (first : Nat) (k : Nat) (failhold : Bool) :
    (State.actions s t n first k failhold).quiet = s.quiet := by
  unfold State.actions
  simp only [↓ite_quiet, ite_self, implies_true, ↓foldl_quiet, ↓State.action_quiet, ↓State.actFail_quiet]

theorem State.admitPubs_quiet (s : State) (ungranted : Nat) :
    (State.admitPubs s ungranted).quiet = s.quiet := by
  unfold State.admitPubs
  simp only [↓State.quiet_mk, ↓Quiet.fold]

theorem State.setVtx_quiet (s : State) (v : VtxSt) :
    (State.setVtx s v).quiet = s.quiet := by
  unfold State.setVtx
  simp only [↓State.quiet_mk, ↓Quiet.fold]

theorem State.vtxDown_quiet (s : State) (warm : Bool) :
    (State.vtxDown s warm).quiet = s.quiet := by
  unfold State.vtxDown
  simp only [↓ite_quiet, ite_self, ↓State.setVtx_quiet, ↓State.log_quiet]

theorem State.injEnd_quiet (s : State) (l : Nat) (reason : Nat) :
    (State.injEnd s l reason).quiet = s.quiet := by
  unfold State.injEnd
  simp only [↓State.quiet_mk, ↓Quiet.fold, ↓State.setF_quiet, ↓State.setLoop_quiet, ↓State.log_quiet, ↓State.tanShow_quiet]
  (repeat' split) <;> simp only [↓State.quiet_mk, ↓Quiet.fold, ↓State.setF_quiet, ↓State.setLoop_quiet, ↓State.log_quiet, ↓State.tanShow_quiet]

theorem State.latState_quiet (s : State) (new : Nat) (cause : Nat) :
    (State.latState s new cause).quiet = s.quiet := by
  unfold State.latState
  simp only [↓ite_quiet, ite_self, ↓State.setF_quiet, ↓State.log_quiet]

theorem State.slotTo_quiet (s : State) (k : Nat) (st : Nat) :
    (State.slotTo s k st).quiet = s.quiet := by
  unfold State.slotTo
  simp only [↓State.setF_quiet]

theorem State.slotsFail_quiet (s : State) :
    (State.slotsFail s).quiet = s.quiet := by
  unfold State.slotsFail
  simp only [↓ite_quiet, ite_self, implies_true, ↓foldl_quiet, ↓State.log_quiet, ↓State.slotTo_quiet]

theorem State.engEnds_quiet (s : State) :
    (State.engEnds s).quiet = s.quiet := by
  unfold State.engEnds
  simp only [↓ite_quiet, ite_self, implies_true, ↓foldl_quiet, ↓State.injEnd_quiet, ↓State.log_quiet, ↓State.latState_quiet, ↓State.slotsFail_quiet]

theorem State.cntDefs_quiet (s : State) (keys : List Nat) :
    (State.cntDefs s keys).quiet = s.quiet := by
  unfold State.cntDefs
  simp only [↓ite_quiet, ite_self, implies_true, ↓foldl_quiet, ↓State.wr_quiet]

theorem State.locCold_quiet (s : State) :
    (State.locCold s).quiet = s.quiet := by
  unfold State.locCold
  simp only [↓State.quiet_mk, ↓Quiet.fold, implies_true, ↓foldl_quiet, ↓State.wr_quiet, ↓State.cntDefs_quiet]

theorem State.mirTo_quiet (s : State) (new : Nat) :
    (State.mirTo s new).quiet = s.quiet := by
  unfold State.mirTo
  simp only [↓ite_quiet, ite_self, ↓State.setF_quiet, ↓State.raise_quiet, ↓State.log_quiet]

theorem State.qinitShow_quiet (s : State) :
    (State.qinitShow s).quiet = s.quiet := by
  unfold State.qinitShow
  simp only [implies_true, ↓foldl_quiet, ↓State.wr_quiet]

theorem State.engDown_quiet (s : State) (warm : Bool) :
    (State.engDown s warm).quiet = s.quiet := by
  unfold State.engDown
  simp only [↓State.quiet_mk, ↓Quiet.fold, ↓ite_quiet, ite_self, ↓State.vtxDown_quiet, ↓State.engEnds_quiet, ↓State.locCold_quiet, ↓State.mirTo_quiet, ↓State.regsOff_quiet, ↓State.qinitShow_quiet, ↓State.setF_quiet]

theorem State.netDown_quiet (s : State) :
    (State.netDown s).quiet = s.quiet := by
  unfold State.netDown
  simp only [↓State.quiet_mk, ↓Quiet.fold, ↓State.regsOff_quiet]

theorem State.setCo_quiet (s : State) (e : Nat) (c : CoEntry) :
    (State.setCo s e c).quiet = s.quiet := by
  unfold State.setCo
  simp only [↓State.quiet_mk, ↓Quiet.fold]

theorem State.facetBad_quiet (s : State) (n : Nat) :
    (State.facetBad s n).quiet = s.quiet := by
  unfold State.facetBad
  simp only [↓ite_quiet, ite_self, implies_true, ↓foldl_quiet, ↓State.setCo_quiet, ↓State.setChan_quiet, ↓State.setF_quiet]

theorem State.setGenState_quiet (s : State) (g : Nat) (st : Nat) :
    (State.setGenState s g st).quiet = s.quiet := by
  unfold State.setGenState
  simp only [↓State.setF_quiet, ↓State.wr_quiet]

theorem State.showTrips_quiet (s : State) :
    (State.showTrips s).quiet = s.quiet := by
  unfold State.showTrips
  simp only [↓ite_quiet, ite_self, implies_true, ↓foldl_quiet, ↓State.setF_quiet]

theorem State.arcReset_quiet (s : State) :
    (State.arcReset s).quiet = s.quiet := by
  unfold State.arcReset
  simp only [↓State.quiet_mk, ↓Quiet.fold, implies_true, ↓foldl_quiet, ↓State.setGenState_quiet, ↓State.showTrips_quiet, ↓State.wr_quiet]

theorem State.flkDown_quiet (s : State) :
    (State.flkDown s).quiet = s.quiet := by
  unfold State.flkDown
  simp only [↓State.quiet_mk, ↓Quiet.fold, ↓ite_quiet, ite_self, implies_true, ↓foldl_quiet, ↓State.facetBad_quiet, ↓State.arcReset_quiet, ↓State.showTrips_quiet, ↓State.wr_quiet, ↓State.regsOff_quiet, ↓State.setFacet_quiet, ↓State.setChan_quiet]

theorem State.allDown_quiet (s : State) :
    (State.allDown s).quiet = s.quiet := by
  unfold State.allDown
  simp only [↓State.quiet_mk, ↓Quiet.fold, ↓State.acqDown_quiet, ↓State.engDown_quiet, ↓State.netDown_quiet, ↓State.regsOff_quiet, ↓State.flkDown_quiet]

theorem State.latShow_quiet (s : State) :
    (State.latShow s).quiet = s.quiet := by
  unfold State.latShow
  simp only [↓State.setF_quiet]

theorem State.latCompare_quiet (s : State) (n : Nat) (m : Tab Word) (q : Tab Word) :
    (State.latCompare s n m q).quiet = s.quiet := by
  unfold State.latCompare
  simp only [↓State.quiet_mk, ↓Quiet.fold, ↓ite_quiet, ite_self, ↓State.incF_quiet, ↓State.wr_quiet, ↓State.log_quiet]

theorem State.mirLat_quiet (s : State) (img : Image) :
    (State.mirLat s img).quiet = s.quiet := by
  unfold State.mirLat
  simp only [↓State.quiet_mk, ↓Quiet.fold, ↓State.latShow_quiet, ↓State.latCompare_quiet]
  (repeat' split) <;> simp only [↓State.quiet_mk, ↓Quiet.fold, ↓State.latShow_quiet, ↓State.latCompare_quiet]

theorem State.setLatMem_quiet (s : State) (m : LatMem) :
    (State.setLatMem s m).quiet = s.quiet := by
  unfold State.setLatMem
  simp only [↓State.quiet_mk, ↓Quiet.fold]

theorem State.setProcRegs_quiet (s : State) (regs : Tab Word) :
    (State.setProcRegs s regs).quiet = s.quiet := by
  unfold State.setProcRegs
  simp only [↓State.quiet_mk, ↓Quiet.fold, implies_true, ↓foldl_quiet, ↓State.wrA_quiet]

theorem State.locShow_quiet (s : State) :
    (State.locShow s).quiet = s.quiet := by
  unfold State.locShow
  simp only [↓State.setF_quiet]

theorem State.arcShown_quiet (s : State) :
    (State.arcShown s).quiet = s.quiet := by
  unfold State.arcShown
  simp only [implies_true, ↓foldl_quiet, ↓State.setF_quiet, ↓State.setGenState_quiet]

theorem State.setOuts_quiet (s : State) (os : List OutImg) :
    (State.setOuts s os).quiet = s.quiet := by
  unfold State.setOuts
  simp only [implies_true, ↓foldl_quiet, ↓State.setChan_quiet]

theorem State.setProc_quiet (s : State) (p : ProcImg) :
    (State.setProc s p).quiet = s.quiet := by
  unfold State.setProc
  simp only [↓State.quiet_mk, ↓Quiet.fold, implies_true, ↓foldl_quiet, ↓State.setLatMem_quiet, ↓State.setProcRegs_quiet, ↓State.rampShow_quiet, ↓State.locShow_quiet, ↓State.showTrips_quiet, ↓State.arcShown_quiet, ↓State.setOuts_quiet, ↓State.tanShow_quiet]

theorem State.takeChanges_quiet (s : State) (cs : List Change) :
    (State.takeChanges s cs).quiet = s.quiet := by
  unfold State.takeChanges
  simp only [↓State.quiet_mk, ↓Quiet.fold]

theorem State.reqRefuse_quiet (s : State) (r : LoopReq) :
    (State.reqRefuse s r).quiet = s.quiet := by
  unfold State.reqRefuse
  (repeat' split) <;> simp only [↓State.complete_quiet]

theorem State.enterState_quiet (s : State) (l : Nat) (new : Nat) :
    (State.enterState s l new).quiet = s.quiet := by
  unfold State.enterState
  simp only [↓ite_quiet, ite_self, ↓State.log_quiet, ↓State.setLoop_quiet, ↓State.injEnd_quiet]

theorem State.tanCount_quiet (s : State) :
    (State.tanCount s).quiet = s.quiet := by
  unfold State.tanCount
  simp only [↓State.setF_quiet]

theorem State.loopTake_quiet (s : State) (l : Nat) (cs : List Change) :
    (State.loopTake s l cs).quiet = s.quiet := by
  unfold State.loopTake
  simp only [↓ite_quiet, ite_self, implies_true, ↓foldl_quiet, ↓State.takeChanges_quiet, ↓State.reqRefuse_quiet, ↓State.enterState_quiet, ↓State.tanShow_quiet, ↓State.tanCount_quiet, ↓State.setLoop_quiet]

theorem State.takenTan_quiet (s : State) (cs : List Change) :
    (State.takenTan s cs).1.quiet = s.quiet := by
  unfold State.takenTan
  simp only [↓ite_quiet, ite_self, implies_true, ↓foldl_quiet, ↓State.loopTake_quiet, ↓State.log_quiet]

theorem State.arcLoad_quiet (s : State) (g : Nat) :
    (State.arcLoad s g).quiet = s.quiet := by
  unfold State.arcLoad
  simp only [↓State.setGen_quiet, ↓State.wr_quiet]

theorem State.clampedAway_quiet (s : State) (it : Item) (dev : Nat) (st : Stamp) (cs : List Clamp) :
    (State.clampedAway s it dev st cs).quiet = s.quiet := by
  unfold State.clampedAway
  simp only [↓State.emit_quiet, ↓State.intakeSet_quiet, ↓State.dropItem_quiet, ↓State.redoAdd_quiet]

theorem State.postClamp_quiet (s : State) (it : Item) (st : Stamp) (c : Clamp) :
    (State.postClamp s it st c).quiet = s.quiet := by
  unfold State.postClamp
  simp only [↓ite_quiet, ite_self, ↓State.cqPost_quiet]

theorem State.completeClampedAt_quiet (s : State) (it : Item) (st : Stamp) (cs : List Clamp) :
    (State.completeClampedAt s it st cs).quiet = s.quiet := by
  unfold State.completeClampedAt
  simp only [↓ite_quiet, implies_true, ↓foldl_quiet, ↓State.completeAt_quiet, ↓State.clampedAway_quiet, ↓State.postClamp_quiet]
  (repeat' split) <;> simp only [↓ite_quiet, implies_true, ↓foldl_quiet, ↓State.completeAt_quiet, ↓State.clampedAway_quiet, ↓State.postClamp_quiet]

theorem State.completeClamped_quiet (s : State) (it : Item) (cs : List Clamp) :
    (State.completeClamped s it cs).quiet = s.quiet := by
  unfold State.completeClamped
  simp only [↓State.completeClampedAt_quiet]

theorem State.setDone_quiet (s : State) (g : Nat) (k : Nat × Word) :
    (State.setDone s g k).quiet = s.quiet := by
  unfold State.setDone
  simp only [↓ite_quiet, ↓State.completeClamped_quiet]
  (repeat' split) <;> simp only [↓ite_quiet, ↓State.completeClamped_quiet]

theorem State.arcTransfer_quiet (s : State) (g : Nat) :
    (State.arcTransfer s g).1.quiet = s.quiet := by
  unfold State.arcTransfer
  simp only [↓ite_quiet, ↓ite_fst, ↓State.wr_quiet, ↓State.showShadows_quiet, ↓State.setGen_quiet, ↓State.setDone_quiet]
  (repeat' split) <;> simp only [↓ite_quiet, ↓ite_fst, ↓State.wr_quiet, ↓State.showShadows_quiet, ↓State.setGen_quiet, ↓State.setDone_quiet]

theorem State.arcEnables_quiet (s : State) (g : Nat) :
    (State.arcEnables s g).quiet = s.quiet := by
  unfold State.arcEnables
  simp only [↓State.setF_quiet]

theorem State.logLim_quiet (s : State) (per : Nat) (code : Nat) (inst : Nat) (mk : Nat → Word × Word) :
    (State.logLim s per code inst mk).quiet = s.quiet := by
  unfold State.logLim
  simp only [↓State.quiet_mk, ↓Quiet.fold, ↓ite_quiet, ite_self, ↓State.log_quiet]

theorem State.startPeriod_quiet (s : State) (g : Nat) :
    (State.startPeriod s g).quiet = s.quiet := by
  unfold State.startPeriod
  simp only [↓ite_quiet, ite_self, ↓State.wr_quiet, ↓State.setF_quiet, ↓State.setGen_quiet, ↓State.incF_quiet, ↓State.log_quiet, ↓State.logLim_quiet]

theorem State.arcPass_quiet (s : State) (g : Nat) (k : Nat) :
    (State.arcPass s g k).quiet = s.quiet := by
  unfold State.arcPass
  simp only [↓ite_quiet, ite_self, ↓State.raise_quiet, ↓State.trgEvent_quiet]

theorem State.arcEvent_quiet (s : State) (g : Nat) (k : Nat) :
    (State.arcEvent s g k).quiet = s.quiet := by
  unfold State.arcEvent
  simp only [↓ite_quiet, ite_self, ↓State.setGen_quiet, ↓State.arcPass_quiet]

theorem State.genStart1_quiet (s : State) (g : Nat) (mode : Nat) :
    (State.genStart1 s g mode).quiet = s.quiet := by
  unfold State.genStart1
  simp only [↓ite_quiet, ite_self, ↓State.setGenState_quiet, ↓State.setGen_quiet, ↓State.arcTransfer_quiet, ↓State.arcEnables_quiet, ↓State.startPeriod_quiet, ↓State.log_quiet, ↓State.arcEvent_quiet]

theorem State.slaveStart_quiet (s : State) (g : Nat) (mode : Nat) :
    (State.slaveStart s g mode).quiet = s.quiet := by
  unfold State.slaveStart
  simp only [↓ite_quiet, ite_self, ↓State.genStart1_quiet, ↓State.setGenState_quiet, ↓State.setGen_quiet]

theorem State.genStart_quiet (s : State) (g : Nat) (mode : Nat) :
    (State.genStart s g mode).quiet = s.quiet := by
  unfold State.genStart
  simp only [implies_true, ↓foldl_quiet, ↓State.slaveStart_quiet, ↓State.genStart1_quiet]

theorem State.arcTake_quiet (s : State) (g : Nat) (en : Bool) :
    (State.arcTake s g en).1.quiet = s.quiet := by
  unfold State.arcTake
  simp only [↓ite_quiet, ite_self, ↓ite_fst, ↓State.showShadows_quiet, ↓State.setGen_quiet, ↓State.arcLoad_quiet, ↓State.genStart_quiet]

theorem State.takenArc_quiet (s : State) (keys : List Nat) :
    (State.takenArc s keys).1.quiet = s.quiet := by
  unfold State.takenArc
  simp only [↓ite_quiet, ite_self, ↓ite_fst, ↓State.arcTake_quiet]
  refine foldl_fst_quiet _ (fun r g => ?_) _ _
  simp only [↓ite_quiet, ite_self, ↓ite_fst, ↓State.arcTake_quiet]

theorem State.takenLoc_quiet (s : State) (keys : List Nat) :
    (State.takenLoc s keys).1.quiet = s.quiet := by
  unfold State.takenLoc
  simp only [↓State.cntDefs_quiet]

theorem State.pushUpd_quiet (s : State) (n : Nat) (u : FctUpd) :
    (State.pushUpd s n u).quiet = s.quiet := by
  unfold State.pushUpd
  simp only [↓ite_quiet, ite_self, ↓State.setFacet_quiet]

theorem State.showCal_quiet (s : State) (ch : Nat) :
    (State.showCal s ch).quiet = s.quiet := by
  unfold State.showCal
  simp only [↓State.setF_quiet]

theorem State.linkDeliver_quiet (s : State) (n : Nat) :
    (State.linkDeliver s n).quiet = s.quiet := by
  unfold State.linkDeliver
  simp only [↓ite_quiet, ite_self, implies_true, ↓foldl_quiet, ↓State.showCal_quiet, ↓State.setFacet_quiet]

theorem State.takenFct_quiet (s : State) (cs : List Change) :
    (State.takenFct s cs).quiet = s.quiet := by
  unfold State.takenFct
  simp only [↓State.quiet_mk, ↓Quiet.fold, ↓ite_quiet, ite_self, implies_true, ↓foldl_quiet, ↓State.setChan_quiet, ↓State.pushUpd_quiet, ↓State.setFacet_quiet, ↓State.linkDeliver_quiet]

theorem State.histAlloc_quiet (s : State) (cause : Nat) :
    (State.histAlloc s cause).quiet = s.quiet := by
  unfold State.histAlloc
  simp only [↓State.quiet_mk, ↓Quiet.fold, ↓State.log_quiet, ↓State.wr_quiet]

theorem State.prmRealloc_quiet (s : State) :
    (State.prmRealloc s).quiet = s.quiet := by
  unfold State.prmRealloc
  simp only [↓ite_quiet, ite_self, ↓State.histAlloc_quiet]

theorem State.histFct_quiet (s : State) :
    (State.histFct s).quiet = s.quiet := by
  unfold State.histFct
  simp only [↓State.prmRealloc_quiet, ↓State.setPrm_quiet]

theorem State.sendOn_quiet (s : State) (p : Nat) (f : Frame) :
    (State.sendOn s p f).quiet = s.quiet := by
  unfold State.sendOn
  simp only [↓ite_quiet, ite_self, ↓State.emit_quiet]

theorem State.sendFrame_quiet (s : State) (ports : List Nat) (ty : Nat) (scope : Bool) (dst : Nat) (kind : Nat) (aux : Word) (payload : List Word) :
    (State.sendFrame s ports ty scope dst kind aux payload).quiet = s.quiet := by
  unfold State.sendFrame
  simp only [↓State.quiet_mk, ↓Quiet.fold, implies_true, ↓foldl_quiet, ↓State.sendOn_quiet]

theorem State.uplinkNote_quiet (s : State) (k : Nat) (u : Nat) :
    (State.uplinkNote s k u).quiet = s.quiet := by
  unfold State.uplinkNote
  simp only [↓State.quiet_mk, ↓Quiet.fold, ↓ite_quiet, ite_self, ↓State.log_quiet, ↓State.setF_quiet]

theorem State.setUplink_quiet (s : State) (u : Nat) :
    (State.setUplink s u).quiet = s.quiet := by
  unfold State.setUplink
  simp only [↓ite_quiet, ite_self, ↓State.sendFrame_quiet, ↓State.uplinkNote_quiet]

theorem State.portFall_quiet (s : State) (port : Nat) :
    (State.portFall s port).quiet = s.quiet := by
  unfold State.portFall
  simp only [↓ite_quiet, ite_self, ↓State.log_quiet, ↓State.setF_quiet, ↓State.setUplink_quiet]

theorem State.coFresh_quiet (s : State) (ints : List Nat) (e : Nat) :
    (State.coFresh s ints e).quiet = s.quiet := by
  unfold State.coFresh
  simp only [↓State.quiet_mk, ↓Quiet.fold, ↓ite_quiet, ite_self, ↓State.setCo_quiet]

theorem State.sendTo_quiet (s : State) (ty : Nat) (dst : Nat) (kind : Nat) (payload : List Word) :
    (State.sendTo s ty dst kind payload).quiet = s.quiet := by
  unfold State.sendTo
  simp only [↓State.sendFrame_quiet]

theorem State.sendTable_quiet (s : State) (t : List (Nat × Nat)) :
    (State.sendTable s t).quiet = s.quiet := by
  unfold State.sendTable
  simp only [implies_true, ↓foldl_quiet, ↓State.sendTo_quiet]

theorem State.takenVxl_quiet (s : State) (j : CfgJob) :
    (State.takenVxl s j).quiet = s.quiet := by
  unfold State.takenVxl
  simp only [↓State.quiet_mk, ↓Quiet.fold, ↓ite_quiet, ite_self, implies_true, ↓foldl_quiet, ↓State.portFall_quiet, ↓State.coFresh_quiet, ↓State.sendTable_quiet]

theorem State.ethSet_quiet (s : State) (ring : Nat) (seq : Word) (g : Option EthTx) :
    (State.ethSet s ring seq g).quiet = s.quiet := by
  unfold State.ethSet
  simp only [↓State.quiet_mk, ↓Quiet.fold]

theorem State.completeEv_quiet (s : State) (it : Item) (status : Nat) (code : Nat) (inst : Nat) (p0 : optParam Word 0) (p1 : optParam Word 0) (p2 : optParam Word 0) (p3 : optParam Word 0) :
    (State.completeEv s it status code inst p0 p1 p2 p3).quiet = s.quiet := by
  unfold State.completeEv
  simp only [↓State.complete_quiet, ↓State.log_quiet]

theorem State.ethFinish_quiet (s : State) (f : EthTx) (p : Nat) :
    (State.ethFinish s f p).quiet = s.quiet := by
  unfold State.ethFinish
  simp only [↓State.ethSet_quiet, ↓State.completeEv_quiet, ↓State.completeAt_quiet]
  (repeat' split) <;> simp only [↓State.ethSet_quiet, ↓State.completeEv_quiet, ↓State.completeAt_quiet]

theorem State.ethCopyGone_quiet (s : State) (f : EthTx) (p : Nat) :
    (State.ethCopyGone s f p).quiet = s.quiet := by
  unfold State.ethCopyGone
  simp only [↓ite_quiet, ite_self, ↓State.ethFinish_quiet, ↓State.ethSet_quiet]

theorem State.ethDrop_quiet (s : State) (p : Nat) :
    (State.ethDrop s p).quiet = s.quiet := by
  unfold State.ethDrop
  simp only [implies_true, ↓foldl_quiet, ↓State.ethCopyGone_quiet]

theorem State.ethClean_quiet (s : State) :
    (State.ethClean s).quiet = s.quiet := by
  unfold State.ethClean
  simp only [↓State.quiet_mk, ↓Quiet.fold]

theorem State.ethLinkDown_quiet (s : State) (p : Nat) :
    (State.ethLinkDown s p).quiet = s.quiet := by
  unfold State.ethLinkDown
  simp only [↓ite_quiet, ite_self, ↓State.ethDrop_quiet, ↓State.ethClean_quiet, ↓State.log_quiet, ↓State.setF_quiet]

theorem State.takenEth_quiet (s : State) (keys : List Nat) :
    (State.takenEth s keys).quiet = s.quiet := by
  unfold State.takenEth
  simp only [↓ite_quiet, ite_self, implies_true, ↓foldl_quiet, ↓State.ethLinkDown_quiet]

theorem State.setCan_quiet (s : State) (c : Nat) (x : CanCtl) :
    (State.setCan s c x).quiet = s.quiet := by
  unfold State.setCan
  simp only [↓State.quiet_mk, ↓Quiet.fold]

theorem State.canDone_quiet (s : State) (c : Nat) (f : CanTx) (st : Stamp) (status : Nat) (d0 : Word) (d1 : Word) :
    (State.canDone s c f st status d0 d1).quiet = s.quiet := by
  unfold State.canDone
  simp only [↓State.setCan_quiet, ↓State.completeAt_quiet, ↓State.abortsDone_quiet, ↓State.raise_quiet]
  (repeat' split) <;> simp only [↓State.setCan_quiet, ↓State.completeAt_quiet, ↓State.abortsDone_quiet, ↓State.raise_quiet]

theorem State.canNote_quiet (s : State) (f : CanTx) (on : Bool) :
    (State.canNote s f on).quiet = s.quiet := by
  unfold State.canNote
  simp only [↓State.quiet_mk, ↓Quiet.fold]

theorem State.canCut_quiet (s : State) (c : Nat) :
    (State.canCut s c).quiet = s.quiet := by
  unfold State.canCut
  simp only [↓State.setCan_quiet, ↓State.log_quiet, ↓State.canDone_quiet, ↓State.canNote_quiet]
  (repeat' split) <;> simp only [↓State.setCan_quiet, ↓State.log_quiet, ↓State.canDone_quiet, ↓State.canNote_quiet]

theorem State.canClear_quiet (s : State) (c : Nat) (status : Nat) (d0 : Word) (d1 : Word) :
    (State.canClear s c status d0 d1).quiet = s.quiet := by
  unfold State.canClear
  simp only [implies_true, ↓foldl_quiet, ↓State.canDone_quiet]

theorem State.canTakeMode_quiet (s : State) (c : Nat) :
    (State.canTakeMode s c).quiet = s.quiet := by
  unfold State.canTakeMode
  simp only [↓ite_quiet, ite_self, ↓State.wr_quiet, ↓State.setF_quiet, ↓State.log_quiet, ↓State.canClear_quiet]

theorem State.takenCan_quiet (s : State) (keys : List Nat) :
    (State.takenCan s keys).quiet = s.quiet := by
  unfold State.takenCan
  simp only [↓ite_quiet, ite_self, implies_true, ↓foldl_quiet, ↓State.canCut_quiet, ↓State.canTakeMode_quiet]

theorem State.arcGatesOff_quiet (s : State) :
    (State.arcGatesOff s).quiet = s.quiet := by
  unfold State.arcGatesOff
  simp only [↓ite_quiet, ite_self, implies_true, ↓foldl_quiet, ↓State.setF_quiet]

theorem State.latPublish_quiet (s : State) (m : Tab Word) (q : Tab Word) :
    (State.latPublish s m q).quiet = s.quiet := by
  unfold State.latPublish
  simp only [↓ite_quiet, ite_self, implies_true, ↓foldl_quiet, ↓State.wr_quiet, ↓State.log_quiet, ↓State.raise_quiet, ↓State.ownerWrite_quiet, ↓State.arcGatesOff_quiet]

theorem State.latPubInit_quiet (s : State) :
    (State.latPubInit s).quiet = s.quiet := by
  unfold State.latPubInit
  simp only [↓State.latPublish_quiet]

theorem State.latShadowOff_quiet (s : State) (cause : Nat) :
    (State.latShadowOff s cause).quiet = s.quiet := by
  unfold State.latShadowOff
  simp only [↓State.quiet_mk, ↓Quiet.fold, ↓ite_quiet, ite_self, ↓State.latState_quiet]

theorem State.takenLat_quiet (s : State) (prog : Bool) :
    (State.takenLat s prog).quiet = s.quiet := by
  unfold State.takenLat
  simp only [↓State.quiet_mk, ↓Quiet.fold, ↓State.latShow_quiet, ↓State.log_quiet, ↓State.latPubInit_quiet, ↓State.latState_quiet, ↓State.latShadowOff_quiet, ↓State.arcGatesOff_quiet]
  (repeat' split) <;> simp only [↓State.quiet_mk, ↓Quiet.fold, ↓State.latShow_quiet, ↓State.log_quiet, ↓State.latPubInit_quiet, ↓State.latState_quiet, ↓State.latShadowOff_quiet, ↓State.arcGatesOff_quiet]

theorem State.setCnt_quiet (s : State) (q : Nat) (v : Int) :
    (State.setCnt s q v).quiet = s.quiet := by
  unfold State.setCnt
  simp only [↓ite_quiet, ite_self, ↓State.setVtx_quiet, ↓State.log_quiet]

theorem State.takenVtx_quiet (s : State) (was : List Nat) :
    (State.takenVtx s was).quiet = s.quiet := by
  unfold State.takenVtx
  simp only [↓ite_quiet, ite_self, implies_true, ↓foldl_quiet, ↓State.setCnt_quiet, ↓State.setVtx_quiet]

theorem State.prmGap_quiet (s : State) (cause : Nat) (t0 : Int) (t1 : Int) (entries : Nat) (vals : Nat) (w7 : Nat) :
    (State.prmGap s cause t0 t1 entries vals w7).quiet = s.quiet := by
  unfold State.prmGap
  simp only [↓ite_quiet, ite_self, ↓State.raise_quiet, ↓State.prmEntry_quiet]

theorem State.setRed_quiet (s : State) (e : Nat) (k : Nat) (r : Option RedSt) :
    (State.setRed s e k r).quiet = s.quiet := by
  unfold State.setRed
  simp only [↓State.setPrm_quiet]

theorem State.redBegin_quiet (s : State) (anew : Bool) :
    (State.redBegin s anew).quiet = s.quiet := by
  unfold State.redBegin
  simp only [↓ite_quiet, ite_self, implies_true, ↓foldl_quiet, ↓State.setRed_quiet]

theorem State.armInit_quiet (s : State) (us : List Nat) :
    (State.armInit s us).quiet = s.quiet := by
  unfold State.armInit
  simp only [↓ite_quiet, ite_self, implies_true, ↓foldl_quiet, ↓State.unitTo_quiet, ↓State.setUnit_quiet]

theorem State.prmStart_quiet (s : State) (cause : Nat) :
    (State.prmStart s cause).quiet = s.quiet := by
  unfold State.prmStart
  simp only [↓ite_quiet, ite_self, ↓State.prmGap_quiet, ↓State.setPrm_quiet, ↓State.log_quiet, ↓State.redBegin_quiet, ↓State.armInit_quiet]

theorem State.takenPrm_quiet (s : State) (keys : List Nat) (hist : Bool) :
    (State.takenPrm s keys hist).quiet = s.quiet := by
  unfold State.takenPrm
  simp only [↓State.quiet_mk, ↓Quiet.fold, ↓ite_quiet, ite_self, implies_true, ↓foldl_quiet, ↓State.prmStart_quiet, ↓State.unitTo_quiet, ↓State.redBegin_quiet, ↓State.armInit_quiet, ↓State.setPrm_quiet, ↓State.histAlloc_quiet]

theorem State.takenHlx_quiet (s : State) :
    (State.takenHlx s).quiet = s.quiet := by
  unfold State.takenHlx
  simp only [↓State.quiet_mk, ↓Quiet.fold, ↓ite_quiet, ite_self]

theorem State.fresh_quiet (s : State) :
    (State.fresh s).2.quiet = s.quiet := by
  unfold State.fresh
  simp only [↓State.quiet_mk, ↓Quiet.fold]

theorem State.journalGrow_quiet (s : State) :
    (State.journalGrow s).quiet = s.quiet := by
  unfold State.journalGrow
  simp only [↓State.quiet_mk, ↓Quiet.fold, ↓State.fresh_quiet]

theorem State.lostEng_quiet (s : State) (n : Nat) (t : Int) :
    (State.lostEng s n t).quiet = s.quiet := by
  unfold State.lostEng
  simp only [↓State.quiet_mk, ↓Quiet.fold]

theorem State.coPut_quiet (s : State) (e : Nat) (v : Word) (q : Nat) (t : Int) :
    (State.coPut s e v q t).quiet = s.quiet := by
  unfold State.coPut
  simp only [↓State.setCo_quiet]

theorem State.sampleEng_quiet (s : State) (ch : Nat) (v : Word) (q : Nat) (t : Int) :
    (State.sampleEng s ch v q t).quiet = s.quiet := by
  unfold State.sampleEng
  simp only [↓State.quiet_mk, ↓Quiet.fold, ↓ite_quiet, ite_self, ↓State.lostEng_quiet, ↓State.coPut_quiet]

theorem State.sample_quiet (s : State) (ch : Nat) (v : Word) (q : Nat) (t : Int) (raw : optParam Word 0) :
    (State.sample s ch v q t raw).quiet = s.quiet := by
  unfold State.sample
  simp only [↓State.quiet_mk, ↓Quiet.fold, ↓ite_quiet, ite_self, ↓State.setF_quiet, ↓State.wr_quiet, ↓State.sampleEng_quiet]

theorem State.modeChange_quiet (s : State) (ch : Nat) (m : Nat) (mv : Int) (t : Int) :
    (State.modeChange s ch m mv t).quiet = s.quiet := by
  unfold State.modeChange
  (repeat' split) <;> simp only [↓State.setChan_quiet, ↓State.setFacet_quiet, ↓State.sample_quiet]

theorem State.setSlot_quiet (s : State) (n : Nat) (sl : Nat) (x : FbSlot) :
    (State.setSlot s n sl x).quiet = s.quiet := by
  unfold State.setSlot
  simp only [↓State.setFacet_quiet, ↓State.wr_quiet]

theorem State.showActive_quiet (s : State) (n : Nat) :
    (State.showActive s n).quiet = s.quiet := by
  unfold State.showActive
  simp only [↓ite_quiet, ite_self, implies_true, ↓foldl_quiet, ↓State.setF_quiet, ↓State.wr_quiet]

theorem State.applyUpd_quiet (s : State) (n : Nat) (u : FctUpd) (volts : List Int) (t : Int) :
    (State.applyUpd s n u volts t).quiet = s.quiet := by
  unfold State.applyUpd
  simp only [↓State.quiet_mk, ↓Quiet.fold, ↓ite_quiet, ite_self, implies_true, ↓foldl_quiet, ↓State.setFacet_quiet, ↓State.modeChange_quiet, ↓State.setSlot_quiet, ↓State.showActive_quiet]

theorem State.arcGo_quiet (s : State) (at' : Int) :
    (State.arcGo s at').quiet = s.quiet := by
  unfold State.arcGo
  simp only [↓ite_quiet, ite_self, implies_true, ↓foldl_quiet, ↓State.setGenState_quiet, ↓State.setGen_quiet]

theorem State.arcItem_quiet (s : State) (it : Item) (k : State → State) (hk : ∀ x, (k x).quiet = x.quiet) :
    (State.arcItem s it k).quiet = s.quiet := by
  unfold State.arcItem
  simp only [↓ite_quiet, ite_self, ↓State.complete_quiet, *]

theorem State.arcLost_quiet (s : State) (seq : Word) :
    (State.arcLost s seq).quiet = s.quiet := by
  unfold State.arcLost
  simp only [implies_true, ↓foldl_quiet, ↓State.setGen_quiet, ↓State.setF_quiet, ↓State.setGenState_quiet, ↓State.complete_quiet]

theorem State.arcQuiet_quiet (s : State) :
    (State.arcQuiet s).quiet = s.quiet := by
  unfold State.arcQuiet
  simp only [implies_true, ↓foldl_quiet, ↓State.setF_quiet]

theorem State.holdItem_quiet (s : State) (opcode : Nat) (it : Item) (note : List Word) :
    (State.holdItem s opcode it note).quiet = s.quiet := by
  unfold State.holdItem
  simp only [↓State.quiet_mk, ↓Quiet.fold]
  (repeat' split) <;> simp only [↓State.quiet_mk, ↓Quiet.fold]

theorem State.arcSet_quiet (s : State) (it : Item) :
    (State.arcSet s it).quiet = s.quiet := by
  unfold State.arcSet
  simp only [↓ite_quiet, ite_self, ↓State.complete_quiet, ↓State.holdItem_quiet, ↓State.showShadows_quiet, ↓State.setGen_quiet]

theorem State.arcStart_quiet (s : State) (it : Item) :
    (State.arcStart s it).quiet = s.quiet := by
  unfold State.arcStart
  simp only [↓ite_quiet, ite_self, ↓State.complete_quiet, ↓State.genStart_quiet, ↓State.setGenState_quiet, ↓State.setGen_quiet, ↓State.holdItem_quiet]

theorem State.genStop_quiet (s : State) (g : Nat) (cause : Nat) :
    (State.genStop s g cause).quiet = s.quiet := by
  unfold State.genStop
  simp only [↓State.setF_quiet, ↓State.setGenState_quiet, ↓State.log_quiet, ↓State.setGen_quiet]

theorem State.disarmGen_quiet (s : State) (g : Nat) (seq : Word) :
    (State.disarmGen s g seq).quiet = s.quiet := by
  unfold State.disarmGen
  simp only [↓State.genStop_quiet, ↓State.setGen_quiet, ↓State.complete_quiet]
  (repeat' split) <;> simp only [↓State.genStop_quiet, ↓State.setGen_quiet, ↓State.complete_quiet]

theorem State.reqComplete_quiet (s : State) (k : Option (Nat × Word)) :
    (State.reqComplete s k).quiet = s.quiet := by
  unfold State.reqComplete
  (repeat' split) <;> simp only [↓State.complete_quiet]

theorem State.genStopAll_quiet (s : State) (g : Nat) (cause : Nat) :
    (State.genStopAll s g cause).quiet = s.quiet := by
  unfold State.genStopAll
  simp only [↓ite_quiet, ite_self, implies_true, ↓foldl_quiet, ↓State.genStop_quiet]

theorem State.arcStop_quiet (s : State) (it : Item) :
    (State.arcStop s it).quiet = s.quiet := by
  unfold State.arcStop
  simp only [↓ite_quiet, ite_self, ↓State.complete_quiet, ↓State.disarmGen_quiet, ↓State.reqComplete_quiet, ↓State.genStopAll_quiet, ↓State.setGen_quiet, ↓State.holdItem_quiet]

theorem State.arcTrip_quiet (s : State) (src : Nat) (active : Bool) :
    (State.arcTrip s src active).quiet = s.quiet := by
  unfold State.arcTrip
  simp only [↓ite_quiet, ite_self, ↓State.setF_quiet, ↓State.showTrips_quiet, ↓State.log_quiet]

theorem State.assertLine_quiet (s : State) (c : Nat) :
    (State.assertLine s c).quiet = s.quiet := by
  unfold State.assertLine
  simp only [↓State.setVtx_quiet, ↓State.setF_quiet]

theorem State.lostPrm_quiet (s : State) (n : Nat) (t : Int) :
    (State.lostPrm s n t).quiet = s.quiet := by
  unfold State.lostPrm
  simp only [↓State.quiet_mk, ↓Quiet.fold, ↓ite_quiet, ite_self]

theorem State.lostMark_quiet (s : State) (n : Nat) (t : Int) :
    (State.lostMark s n t).quiet = s.quiet := by
  unfold State.lostMark
  simp only [↓State.lostPrm_quiet, ↓State.lostEng_quiet]

theorem State.diagLost_quiet (s : State) (n : Nat) (seq : Word) :
    (State.diagLost s n seq).quiet = s.quiet := by
  unfold State.diagLost
  simp only [↓State.setF_quiet, ↓State.setFacet_quiet, ↓State.complete_quiet]
  (repeat' split) <;> simp only [↓State.setF_quiet, ↓State.setFacet_quiet, ↓State.complete_quiet]

theorem State.linkDown_quiet (s : State) (n : Nat) :
    (State.linkDown s n).quiet = s.quiet := by
  unfold State.linkDown
  simp only [↓State.facetBad_quiet, ↓State.incF_quiet, ↓State.setF_quiet, ↓State.setFacet_quiet, ↓State.diagLost_quiet, ↓State.log_quiet]

theorem State.badUp_quiet (s : State) (n : Nat) (codeErr : Bool) :
    (State.badUp s n codeErr).quiet = s.quiet := by
  unfold State.badUp
  simp only [↓ite_quiet, ite_self, ↓State.lostMark_quiet, ↓State.incF_quiet, ↓State.logLim_quiet, ↓State.setFacet_quiet, ↓State.linkDown_quiet]

theorem State.baseTell_quiet (s : State) :
    (State.baseTell s).quiet = s.quiet := by
  unfold State.baseTell
  simp only [↓ite_quiet, ite_self, ↓State.log_quiet]

theorem State.mirAcked_quiet (s : State) (ack : Word) :
    (State.mirAcked s ack).quiet = s.quiet := by
  unfold State.mirAcked
  simp only [↓State.quiet_mk, ↓Quiet.fold, ↓State.wr_quiet]

theorem State.syncTime_quiet (s : State) :
    (State.syncTime s).quiet = s.quiet := by
  unfold State.syncTime
  simp only [↓State.quiet_mk, ↓Quiet.fold, ↓State.wr_quiet]
  (repeat' split) <;> simp only [↓State.quiet_mk, ↓Quiet.fold, ↓State.wr_quiet]

theorem State.startTransfer_quiet (s : State) (cause : Nat) :
    (State.startTransfer s cause).quiet = s.quiet := by
  unfold State.startTransfer
  simp only [↓State.quiet_mk, ↓Quiet.fold, ↓State.log_quiet]

theorem State.fromStandby_quiet (s : State) (was : Nat) (now : Nat) (ack : Word) (again : Nat) (resync : Bool) :
    (State.fromStandby s was now ack again resync).quiet = s.quiet := by
  unfold State.fromStandby
  simp only [↓State.quiet_mk, ↓Quiet.fold, ↓ite_quiet, ite_self, ↓State.mirAcked_quiet, ↓State.syncTime_quiet, ↓State.startTransfer_quiet]

theorem State.trySync_quiet (s : State) :
    (State.trySync s).quiet = s.quiet := by
  unfold State.trySync
  simp only [↓ite_quiet, ite_self, implies_true, ↓foldl_quiet, ↓State.syncTime_quiet, ↓State.mirTo_quiet, ↓State.log_quiet, ↓State.complete_quiet]

theorem State.canModes_quiet (s : State) :
    (State.canModes s).quiet = s.quiet := by
  unfold State.canModes
  simp only [implies_true, ↓foldl_quiet, ↓State.canTakeMode_quiet]

theorem State.latFollow_quiet (s : State) :
    (State.latFollow s).quiet = s.quiet := by
  unfold State.latFollow
  simp only [↓State.quiet_mk, ↓Quiet.fold, ↓ite_quiet, ite_self, ↓State.latShow_quiet, ↓State.latState_quiet]

theorem State.dropShared_quiet (s : State) :
    (State.dropShared s).quiet = s.quiet := by
  unfold State.dropShared
  simp only [↓State.quiet_mk, ↓Quiet.fold, ↓State.cfgSweep_quiet]

theorem State.toStandby_quiet (s : State) :
    (State.toStandby s).quiet = s.quiet := by
  unfold State.toStandby
  simp only [↓State.quiet_mk, ↓Quiet.fold, implies_true, ↓foldl_quiet, ↓State.arcQuiet_quiet, ↓State.canModes_quiet, ↓State.latFollow_quiet, ↓State.dropShared_quiet, ↓State.mirTo_quiet, ↓State.setLoop_quiet]

theorem State.lagShow_quiet (s : State) :
    (State.lagShow s).quiet = s.quiet := by
  unfold State.lagShow
  simp only [↓State.setF_quiet]

theorem State.pairUpdate_quiet (s : State) :
    (State.pairUpdate s).quiet = s.quiet := by
  unfold State.pairUpdate
  simp only [↓ite_quiet, ite_self, implies_true, ↓foldl_quiet, ↓State.pushUpd_quiet, ↓State.setF_quiet]

theorem State.beatAct_quiet (s : State) (was : Nat) (now : Nat) (w1 : Word) (w2 : Word) (again : Nat) (resync : Bool) :
    (State.beatAct s was now w1 w2 again resync).quiet = s.quiet := by
  unfold State.beatAct
  simp only [↓ite_quiet, ite_self, ↓State.fromStandby_quiet, ↓State.trySync_quiet, ↓State.toStandby_quiet, ↓State.lagShow_quiet, ↓State.pairUpdate_quiet]

theorem State.degraded_quiet (s : State) :
    (State.degraded s).quiet = s.quiet := by
  unfold State.degraded
  simp only [↓State.setF_quiet]

theorem State.pathGood_quiet (s : State) (path : Nat) :
    (State.pathGood s path).quiet = s.quiet := by
  unfold State.pathGood
  simp only [↓State.quiet_mk, ↓Quiet.fold, ↓ite_quiet, ite_self, ↓State.setF_quiet, ↓State.degraded_quiet, ↓State.log_quiet]

theorem State.beatNote_quiet (s : State) (path : Nat) (w0 : Word) (w3 : Word) :
    (State.beatNote s path w0 w3).quiet = s.quiet := by
  unfold State.beatNote
  simp only [↓State.quiet_mk, ↓Quiet.fold, ↓State.setF_quiet, ↓State.pathGood_quiet]

theorem State.bkSkip_quiet (s : State) :
    (State.bkSkip s).quiet = s.quiet := by
  unfold State.bkSkip
  simp only [↓ite_quiet, ite_self, ↓State.setPrm_quiet, ↓State.incF_quiet, ↓State.log_quiet]

theorem State.jobDone_quiet (s : State) (j : CfgJob) :
    (State.jobDone s j).quiet = s.quiet := by
  unfold State.jobDone
  simp only [↓State.quiet_mk, ↓Quiet.fold, ↓ite_quiet, ite_self, ↓State.complete_quiet]

theorem State.blockTaken_quiet (s : State) (ring : Nat) (seq : Word) (b : Nat) :
    (State.blockTaken s ring seq b).quiet = s.quiet := by
  unfold State.blockTaken
  simp only [↓State.quiet_mk, ↓Quiet.fold, ↓State.jobDone_quiet]
  (repeat' split) <;> simp only [↓State.quiet_mk, ↓Quiet.fold, ↓State.jobDone_quiet]

theorem State.blockStep_quiet (s : State) (b : Nat) (inst : Nat) :
    (State.blockStep s b inst).quiet = s.quiet := by
  unfold State.blockStep
  simp only [↓State.quiet_mk, ↓Quiet.fold, implies_true, ↓foldl_quiet, ↓State.blockTaken_quiet]

theorem State.blockWait_quiet (s : State) (ring : Nat) (seq : Word) (b : Nat) (insts : List Nat) :
    (State.blockWait s ring seq b insts).quiet = s.quiet := by
  unfold State.blockWait
  simp only [↓State.quiet_mk, ↓Quiet.fold, ↓ite_quiet, ite_self, ↓State.blockTaken_quiet]

theorem State.loopsInit_quiet (s : State) (out : State → Nat → Word) :
    (State.loopsInit s out).quiet = s.quiet := by
  unfold State.loopsInit
  simp only [implies_true, ↓foldl_quiet, ↓State.setLoop_quiet]

theorem State.locElapse_quiet (s : State) (k : Nat) (all : Bool) :
    (State.locElapse s k all).quiet = s.quiet := by
  unfold State.locElapse
  simp only [↓ite_quiet, ite_self, implies_true, ↓foldl_quiet, ↓State.wr_quiet]

theorem State.blocksGo_quiet (s : State) (at' : Int) :
    (State.blocksGo s at').quiet = s.quiet := by
  unfold State.blocksGo
  simp only [↓State.quiet_mk, ↓Quiet.fold, ↓ite_quiet, ite_self, ↓State.loopsInit_quiet, ↓State.latShadowOff_quiet, ↓State.locElapse_quiet, ↓State.canModes_quiet, ↓State.arcGo_quiet]

theorem State.blocksGone_quiet (s : State) (n : Nat) :
    (State.blocksGone s n).quiet = s.quiet := by
  unfold State.blocksGone
  simp only [↓State.quiet_mk, ↓Quiet.fold, implies_true, ↓foldl_quiet, ↓State.blockTaken_quiet]

theorem State.bootImage_quiet (s : State) (sel : Nat) :
    (State.bootImage s sel).2.quiet = s.quiet := by
  unfold State.bootImage
  simp only [↓State.quiet_mk, ↓Quiet.fold, ↓ite_quiet, ite_self, ↓ite_snd, ↓State.setF_quiet, ↓State.log_quiet]

theorem State.bufPut_quiet (s : State) (it : Item) (a : Nat) (ws : List Word) :
    (State.bufPut s it a ws).quiet = s.quiet := by
  unfold State.bufPut
  simp only [↓State.setRingMem_quiet]

theorem State.bufPutBytes_quiet (s : State) (it : Item) (a : Nat) (bs : List Byte) :
    (State.bufPutBytes s it a bs).quiet = s.quiet := by
  unfold State.bufPutBytes
  simp only [↓State.setRingMem_quiet]

theorem go_quiet (s : State) :
    quietOf (go s) = some s.quiet := by
  unfold go
  simp only [↓quietOf_next]

theorem execCanRecover_quiet (c : Nat) (s : State) :
    quietOf (execCanRecover c s) = some s.quiet := by
  unfold execCanRecover
  simp only [↓quietOf_go, ↓ite_quietOf, ite_self, ↓State.setF_quiet]

theorem State.busoffWrite_quiet (s : State) (c : Nat) (v : Word) :
    quietOf (State.busoffWrite s c v) = some s.quiet := by
  unfold State.busoffWrite
  simp only [↓quietOf_go, ↓ite_quietOf, ite_self, ↓State.setF_quiet, ↓execCanRecover_quiet]

theorem State.canErrors_quiet (s : State) (c : Nat) (tec : Nat) (rc : Nat) :
    (State.canErrors s c tec rc).quiet = s.quiet := by
  unfold State.canErrors
  simp only [↓ite_quiet, ite_self, ↓State.setF_quiet, ↓State.log_quiet]

theorem State.canFailed_quiet (s : State) (c : Nat) (f : CanTx) :
    (State.canFailed s c f).quiet = s.quiet := by
  unfold State.canFailed
  simp only [↓State.setCan_quiet, ↓State.canDone_quiet, ↓State.log_quiet, ↓State.canNote_quiet]
  (repeat' split) <;> simp only [↓State.setCan_quiet, ↓State.canDone_quiet, ↓State.log_quiet, ↓State.canNote_quiet]

theorem State.canFifo_quiet (s : State) (c : Nat) (own : Bool) (id : Word) (ctl : Word) (bytes : List Byte) (st : Stamp) :
    (State.canFifo s c own id ctl bytes st).quiet = s.quiet := by
  unfold State.canFifo
  simp only [↓ite_quiet, ite_self, ↓State.setCan_quiet, ↓State.incF_quiet]

theorem State.canLost_quiet (s : State) (c : Nat) :
    (State.canLost s c).quiet = s.quiet := by
  unfold State.canLost
  simp only [↓State.log_quiet, ↓State.setCan_quiet]
  (repeat' split) <;> simp only [↓State.log_quiet, ↓State.setCan_quiet]

theorem State.canRestart_quiet (s : State) :
    (State.canRestart s).quiet = s.quiet := by
  unfold State.canRestart
  simp only [implies_true, ↓foldl_quiet, ↓State.setCan_quiet]

theorem State.canTx_quiet (s : State) (it : Item) :
    (State.canTx s it).quiet = s.quiet := by
  unfold State.canTx
  simp only [↓ite_quiet, ↓State.complete_quiet, ↓State.holdItem_quiet, ↓State.setCan_quiet]
  (repeat' split) <;> simp only [↓ite_quiet, ↓State.complete_quiet, ↓State.holdItem_quiet, ↓State.setCan_quiet]

theorem State.recKeep_quiet (s : State) (no : Word) (ws : List Word) :
    (State.recKeep s no ws).quiet = s.quiet := by
  unfold State.recKeep
  simp only [↓State.quiet_mk, ↓Quiet.fold]

theorem State.recWrite_quiet (s : State) (no : Word) (es : List (Nat × Nat × List Word)) :
    (State.recWrite s no es).quiet = s.quiet := by
  unfold State.recWrite
  simp only [↓ite_quiet, ite_self, implies_true, ↓foldl_quiet, ↓State.prmEntry_quiet, ↓State.setPrm_quiet, ↓State.recKeep_quiet, ↓State.fresh_quiet]

theorem State.capEnd_quiet (s : State) (c : CapRec) :
    (State.capEnd s c).quiet = s.quiet := by
  unfold State.capEnd
  simp only [↓ite_quiet, ite_self, ↓State.setPrm_quiet, ↓State.prmGap_quiet, ↓State.recWrite_quiet]

theorem State.capture_quiet (s : State) (final : Bool) :
    (State.capture s final).quiet = s.quiet := by
  unfold State.capture
  simp only [↓State.quiet_mk, ↓Quiet.fold, ↓State.wr_quiet]

theorem State.commitChanges_quiet (s : State) (cs : List Change) :
    (State.commitChanges s cs).quiet = s.quiet := by
  unfold State.commitChanges
  simp only [↓State.quiet_mk, ↓Quiet.fold, ↓State.journalGrow_quiet]

theorem State.noteItem_quiet (s : State) (it : Item) (note : List Word) :
    (State.noteItem s it note).quiet = s.quiet := by
  unfold State.noteItem
  simp only [↓State.quiet_mk, ↓Quiet.fold]

theorem State.commitItem_quiet (s : State) (it : Item) (status : Nat) :
    (State.commitItem s it status).quiet = s.quiet := by
  unfold State.commitItem
  simp only [↓State.quiet_mk, ↓Quiet.fold, ↓ite_quiet, ite_self, ↓State.redoAdd_quiet, ↓State.intakeSet_quiet]

theorem State.cfgCommit_quiet (s : State) (j : CfgJob) :
    (State.cfgCommit s j).quiet = s.quiet := by
  unfold State.cfgCommit
  simp only [↓State.quiet_mk, ↓Quiet.fold, ↓ite_quiet, ite_self, ↓State.commitChanges_quiet, ↓State.noteItem_quiet, ↓State.commitItem_quiet, ↓State.log_quiet, ↓State.jobDone_quiet]

theorem State.cfgDefaults_quiet (s : State) (n : Nat) :
    (State.cfgDefaults s n).quiet = s.quiet := by
  unfold State.cfgDefaults
  simp only [↓State.quiet_mk, ↓Quiet.fold]

theorem State.cfgReject_quiet (s : State) (it : Item) (given : List Change) (moved : Bool) (k : Nat) (w : Word) :
    (State.cfgReject s it given moved k w).quiet = s.quiet := by
  unfold State.cfgReject
  simp only [↓State.log_quiet, ↓State.facetAbort_quiet, ↓State.giveBack_quiet, ↓State.complete_quiet]

theorem State.facetShadow_quiet (s : State) (cs : List Change) :
    (State.facetShadow s cs).quiet = s.quiet := by
  unfold State.facetShadow
  simp only [↓ite_quiet, ite_self, implies_true, ↓foldl_quiet, ↓State.setFacet_quiet]

theorem State.cfgEnd_quiet (s : State) (it : Item) (given : List Change) (moved : Bool) (dry : Bool) (old : Tab Word) (ints : List Nat) (v0 : Val) :
    (State.cfgEnd s it given moved dry old ints v0).quiet = s.quiet := by
  unfold State.cfgEnd
  simp only [↓State.quiet_mk, ↓Quiet.fold, implies_true, ↓foldl_quiet, ↓State.cfgReject_quiet, ↓State.postClamp_quiet, ↓State.complete_quiet, ↓State.giveBack_quiet, ↓State.holdItem_quiet, ↓State.facetShadow_quiet]
  (repeat' split) <;> simp only [↓State.quiet_mk, ↓Quiet.fold, implies_true, ↓foldl_quiet, ↓State.cfgReject_quiet, ↓State.postClamp_quiet, ↓State.complete_quiet, ↓State.giveBack_quiet, ↓State.holdItem_quiet, ↓State.facetShadow_quiet]

theorem State.stageDrop_quiet (s : State) (ks : List Nat) :
    (State.stageDrop s ks).quiet = s.quiet := by
  unfold State.stageDrop
  simp only [↓State.quiet_mk, ↓Quiet.fold]

theorem State.cfgRun_quiet (s : State) (it : Item) (dry : Bool) :
    (State.cfgRun s it dry).quiet = s.quiet := by
  unfold State.cfgRun
  simp only [↓State.quiet_mk, ↓Quiet.fold, ↓State.complete_quiet, ↓State.stageDrop_quiet, ↓State.cfgReject_quiet, ↓State.sendTo_quiet, ↓State.holdItem_quiet, ↓State.cfgEnd_quiet]
  (repeat' split) <;> simp only [↓State.quiet_mk, ↓Quiet.fold, ↓State.complete_quiet, ↓State.stageDrop_quiet, ↓State.cfgReject_quiet, ↓State.sendTo_quiet, ↓State.holdItem_quiet, ↓State.cfgEnd_quiet]

theorem State.chgFlush_quiet (s : State) :
    (State.chgFlush s).quiet = s.quiet := by
  unfold State.chgFlush
  simp only [↓State.prmEntry_quiet, ↓State.setPrm_quiet]
  (repeat' split) <;> simp only [↓State.prmEntry_quiet, ↓State.setPrm_quiet]

theorem State.chgEmit_quiet (s : State) (e : Nat) (v : Word) (q : Nat) (t : Int) :
    (State.chgEmit s e v q t).quiet = s.quiet := by
  unfold State.chgEmit
  simp only [↓State.setPrm_quiet, ↓State.prmEntry_quiet, ↓State.chgFlush_quiet]
  (repeat' split) <;> simp only [↓State.setPrm_quiet, ↓State.prmEntry_quiet, ↓State.chgFlush_quiet]

theorem State.chkCapture_quiet (s : State) :
    (State.chkCapture s).quiet = s.quiet := by
  unfold State.chkCapture
  simp only [↓State.quiet_mk, ↓Quiet.fold, ↓State.setF_quiet]

theorem State.chkWritten_quiet (s : State) :
    (State.chkWritten s).quiet = s.quiet := by
  unfold State.chkWritten
  simp only [↓State.quiet_mk, ↓Quiet.fold, ↓State.setF_quiet]
  (repeat' split) <;> simp only [↓State.quiet_mk, ↓Quiet.fold, ↓State.setF_quiet]

theorem State.chkNow_quiet (s : State) :
    (State.chkNow s).quiet = s.quiet := by
  unfold State.chkNow
  simp only [↓State.chkWritten_quiet, ↓State.chkCapture_quiet]

theorem State.ckptBad_quiet (s : State) (n : Nat) :
    (State.ckptBad s n).quiet = s.quiet := by
  unfold State.ckptBad
  simp only [↓State.quiet_mk, ↓Quiet.fold, ↓ite_quiet, ite_self, ↓State.setF_quiet]

theorem State.clkLost_quiet (s : State) (n : Nat) :
    (State.clkLost s n).quiet = s.quiet := by
  unfold State.clkLost
  simp only [↓State.quiet_mk, ↓Quiet.fold, ↓State.wr_quiet, ↓State.log_quiet]

theorem State.cntItem_quiet (s : State) (op : Nat) (it : Item) (kind : Nat) (v : Int) :
    (State.cntItem s op it kind v).quiet = s.quiet := by
  unfold State.cntItem
  simp only [↓ite_quiet, ite_self, ↓State.complete_quiet, ↓State.cntPut_quiet, ↓State.holdItem_quiet]

theorem State.cntSet_quiet (s : State) (c : Nat) (v : Int) :
    (State.cntSet s c v).quiet = s.quiet := by
  unfold State.cntSet
  simp only [↓ite_quiet, ite_self, ↓State.setF_quiet, ↓State.log_quiet]

theorem State.cntOp_quiet (s : State) (st : Stamp) (o : CntOp) :
    (State.cntOp s st o).quiet = s.quiet := by
  unfold State.cntOp
  rcases o with ⟨k, c, v, item⟩
  cases item with
  | none => simp only [↓ite_quiet, ite_self, ↓State.completeAt_quiet, ↓State.cntSet_quiet]
  | some i => cases h : s.flight i.1 i.2 <;> simp only [h, Option.map, ↓ite_quiet, ite_self, ↓State.completeAt_quiet, ↓State.cntSet_quiet]

theorem State.cntOps_quiet (st : Stamp) (l : List CntOp) (s : State) : (State.cntOps st l s).quiet = s.quiet := by
  induction l generalizing s with
  | nil => rfl
  | cons o os ih =>
    unfold State.cntOps
    split <;> simp only [↓ih, ↓State.quiet_mk, ↓Quiet.fold, ↓State.cntOp_quiet]

theorem State.facetCold_quiet (s : State) (n : Nat) :
    (State.facetCold s n).quiet = s.quiet := by
  unfold State.facetCold
  simp only [↓State.quiet_mk, ↓Quiet.fold, implies_true, ↓foldl_quiet, ↓State.setFacet_quiet, ↓State.setF_quiet, ↓State.setChan_quiet]

theorem State.showSlices_quiet (s : State) (n : Nat) :
    (State.showSlices s n).quiet = s.quiet := by
  unfold State.showSlices
  simp only [implies_true, ↓foldl_quiet, ↓State.wr_quiet]

theorem State.linkTrained_quiet (s : State) (n : Nat) (delay : Nat) :
    (State.linkTrained s n delay).quiet = s.quiet := by
  unfold State.linkTrained
  simp only [implies_true, ↓foldl_quiet, ↓State.setF_quiet, ↓State.showSlices_quiet, ↓State.setFacet_quiet, ↓State.setChan_quiet, ↓State.log_quiet, ↓State.linkDeliver_quiet]

theorem State.trainLinks_quiet (s : State) (links : List (Nat × Nat)) :
    (State.trainLinks s links).quiet = s.quiet := by
  unfold State.trainLinks
  simp only [↓ite_quiet, ite_self, implies_true, ↓foldl_quiet, ↓State.linkTrained_quiet]

theorem State.coldFacets_quiet (s : State) (links : List (Nat × Nat)) :
    (State.coldFacets s links).quiet = s.quiet := by
  unfold State.coldFacets
  simp only [↓ite_quiet, ite_self, implies_true, ↓foldl_quiet, ↓State.facetCold_quiet, ↓State.trainLinks_quiet, ↓State.log_quiet]

theorem State.logSynth_quiet (s : State) (code : Nat) (p0 : Word) (p1 : Word) (p2 : Word) (p3 : Word) :
    (State.logSynth s code p0 p1 p2 p3).quiet = s.quiet := by
  unfold State.logSynth
  simp only [↓State.report_quiet]

theorem State.hlxStart_quiet (s : State) (cause : Nat) :
    (State.hlxStart s cause).quiet = s.quiet := by
  unfold State.hlxStart
  simp only [↓State.setHlx_quiet, ↓State.logSynth_quiet]
  (repeat' split) <;> simp only [↓State.setHlx_quiet, ↓State.logSynth_quiet]

theorem State.sfpRead_quiet (s : State) (l : List (Nat × Sfp)) :
    (State.sfpRead s l).quiet = s.quiet := by
  unfold State.sfpRead
  simp only [↓State.quiet_mk, ↓Quiet.fold, ↓State.setF_quiet]

theorem State.coldRegs_quiet (s : State) (cause : Nat) :
    (State.coldRegs s cause).quiet = s.quiet := by
  unfold State.coldRegs
  simp only [↓State.quiet_mk, ↓Quiet.fold, ↓ite_quiet, ite_self, ↓State.wr_quiet, ↓State.setF_quiet]

theorem State.tripsOn_quiet (s : State) (trips : Nat) :
    (State.tripsOn s trips).quiet = s.quiet := by
  unfold State.tripsOn
  simp only [↓ite_quiet, ite_self, implies_true, ↓foldl_quiet, ↓State.arcTrip_quiet]

theorem State.kickAll_quiet (s : State) :
    (State.kickAll s).quiet = s.quiet := by
  unfold State.kickAll
  simp only [↓State.quiet_mk, ↓Quiet.fold]

theorem State.imageCopy_quiet (s : State) (i : Nat) :
    (State.imageCopy s i).quiet = s.quiet := by
  unfold State.imageCopy
  simp only [↓State.quiet_mk, ↓Quiet.fold]

theorem State.showDriven_quiet (s : State) :
    (State.showDriven s).quiet = s.quiet := by
  unfold State.showDriven
  simp only [↓ite_quiet, ite_self, implies_true, ↓foldl_quiet, ↓State.wr_quiet]

theorem Val.view_quiet (v : Val) (s : State) :
    (Val.view v s).quiet = s.quiet := by
  unfold Val.view
  simp only [↓State.quiet_mk, ↓Quiet.fold]

theorem State.loadClamp_quiet (s : State) (v : Val) (c : Clamp) :
    (State.loadClamp s v c).quiet = s.quiet := by
  unfold State.loadClamp
  simp only [↓State.log_quiet]

theorem State.loadVxl_quiet (s : State) (warm : Bool) :
    (State.loadVxl s warm).quiet = s.quiet := by
  unfold State.loadVxl
  simp only [↓State.quiet_mk, ↓Quiet.fold, ↓ite_quiet, ite_self, implies_true, ↓foldl_quiet, ↓State.coFresh_quiet, ↓State.setF_quiet]

theorem State.imageFind_quiet (s : State) (bad : Bool) :
    (State.imageFind s bad).quiet = s.quiet := by
  unfold State.imageFind
  simp only [↓State.quiet_mk, ↓Quiet.fold, ↓ite_quiet, ite_self, ↓State.log_quiet]

theorem State.prmCold_quiet (s : State) :
    (State.prmCold s).quiet = s.quiet := by
  unfold State.prmCold
  simp only [↓State.wr_quiet, ↓State.setPrm_quiet, ↓State.redBegin_quiet, ↓State.armInit_quiet, ↓State.histAlloc_quiet]

theorem State.showPatches_quiet (s : State) :
    (State.showPatches s).quiet = s.quiet := by
  unfold State.showPatches
  simp only [↓State.setF_quiet]

theorem State.patchPut_quiet (s : State) (tgt : Nat) (idx : Nat) (v : Word) :
    (State.patchPut s tgt idx v).quiet = s.quiet := by
  unfold State.patchPut
  simp only [↓ite_quiet, ite_self, ↓State.setLatMem_quiet, ↓State.takeChanges_quiet, ↓State.commitChanges_quiet]

theorem State.patchDo_quiet (s : State) (it : Item) :
    (State.patchDo s it).quiet = s.quiet := by
  unfold State.patchDo
  simp only [↓ite_quiet, ite_self, ↓State.log_quiet, ↓State.patchPut_quiet, ↓State.complete_quiet, ↓State.completeClamped_quiet]

theorem State.patchNext_quiet (s : State) :
    (State.patchNext s).quiet = s.quiet := by
  unfold State.patchNext
  simp only [↓State.quiet_mk, ↓Quiet.fold, ↓State.showPatches_quiet, ↓State.patchDo_quiet]
  (repeat' split) <;> simp only [↓State.quiet_mk, ↓Quiet.fold, ↓State.showPatches_quiet, ↓State.patchDo_quiet]

theorem State.latTime_quiet (s : State) (n : Nat) :
    (State.latTime s n).quiet = s.quiet := by
  unfold State.latTime
  simp only [↓ite_quiet, ite_self, ↓State.setF_quiet]

theorem State.latEvents_quiet (s : State) (evs : List Event) :
    (State.latEvents s evs).quiet = s.quiet := by
  unfold State.latEvents
  simp only [implies_true, ↓foldl_quiet, ↓State.log_quiet]

theorem State.latPubK_quiet (s : State) (k : Tab Bool) :
    (State.latPubK s k).quiet = s.quiet := by
  unfold State.latPubK
  simp only [implies_true, ↓foldl_quiet, ↓State.wr_quiet]

theorem State.latScan_quiet (s : State) :
    (State.latScan s).quiet = s.quiet := by
  unfold State.latScan
  simp only [↓State.quiet_mk, ↓Quiet.fold, ↓State.patchNext_quiet, ↓State.wrapF_quiet, ↓State.latTime_quiet, ↓State.latEvents_quiet, ↓State.latPubK_quiet, ↓State.latPublish_quiet, ↓State.complete_quiet]
  (repeat' split) <;> simp only [↓State.quiet_mk, ↓Quiet.fold, ↓State.patchNext_quiet, ↓State.wrapF_quiet, ↓State.latTime_quiet, ↓State.latEvents_quiet, ↓State.latPubK_quiet, ↓State.latPublish_quiet, ↓State.complete_quiet]

theorem State.latStart_quiet (s : State) :
    (State.latStart s).quiet = s.quiet := by
  unfold State.latStart
  simp only [↓State.quiet_mk, ↓Quiet.fold, ↓ite_quiet, ite_self, ↓State.latState_quiet, ↓State.latScan_quiet]

theorem State.vtxStart_quiet (s : State) :
    (State.vtxStart s).quiet = s.quiet := by
  unfold State.vtxStart
  simp only [↓ite_quiet, ite_self, implies_true, ↓foldl_quiet, ↓State.setCnt_quiet, ↓State.setVtx_quiet]

theorem State.engStart_quiet (s : State) :
    (State.engStart s).quiet = s.quiet := by
  unfold State.engStart
  simp only [↓State.quiet_mk, ↓Quiet.fold, ↓ite_quiet, ite_self, ↓State.latStart_quiet, ↓State.vtxStart_quiet, ↓State.loopsInit_quiet, ↓State.takenArc_quiet]

theorem State.toActive_quiet (s : State) :
    (State.toActive s).quiet = s.quiet := by
  unfold State.toActive
  simp only [↓State.canModes_quiet, ↓State.mirTo_quiet]

theorem State.mirRole_quiet (s : State) :
    (State.mirRole s).quiet = s.quiet := by
  unfold State.mirRole
  simp only [↓State.quiet_mk, ↓Quiet.fold, ↓ite_quiet, ite_self, ↓State.setF_quiet, ↓State.toStandby_quiet, ↓State.toActive_quiet, ↓State.mirTo_quiet]

theorem State.partnerHeard_quiet (s : State) (partner : Option Nat) :
    (State.partnerHeard s partner).quiet = s.quiet := by
  unfold State.partnerHeard
  simp only [↓State.quiet_mk, ↓Quiet.fold, ↓State.pathGood_quiet]
  (repeat' split) <;> simp only [↓State.quiet_mk, ↓Quiet.fold, ↓State.pathGood_quiet]

theorem State.trialTell_quiet (s : State) :
    (State.trialTell s).quiet = s.quiet := by
  unfold State.trialTell
  simp only [↓State.quiet_mk, ↓Quiet.fold, ↓State.log_quiet]
  (repeat' split) <;> simp only [↓State.quiet_mk, ↓Quiet.fold, ↓State.log_quiet]

theorem State.hotTell_quiet (s : State) :
    (State.hotTell s).quiet = s.quiet := by
  unfold State.hotTell
  simp only [↓State.quiet_mk, ↓Quiet.fold, ↓ite_quiet, ite_self, ↓State.log_quiet]

theorem State.strapRead_quiet (s : State) (straps : Nat) :
    (State.strapRead s straps).quiet = s.quiet := by
  unfold State.strapRead
  simp only [↓State.quiet_mk, ↓Quiet.fold, ↓ite_quiet, ite_self, ↓State.setF_quiet, ↓State.wr_quiet, ↓State.log_quiet]

theorem State.inMode_quiet (s : State) (m : RunMode) :
    (State.inMode s m).quiet = s.quiet := by
  unfold State.inMode
  simp only [↓State.quiet_mk, ↓Quiet.fold]

theorem State.compare_quiet (s : State) (n : Nat) (volts : List Int) :
    (State.compare s n volts).quiet = s.quiet := by
  unfold State.compare
  simp only [↓ite_quiet, ite_self, implies_true, ↓foldl_quiet, ↓State.setChan_quiet]

theorem State.frameChunk_quiet (s : State) (n : Nat) (i : Nat) :
    (State.frameChunk s n i).2.quiet = s.quiet := by
  unfold State.frameChunk
  simp only [↓State.quiet_mk, ↓Quiet.fold, ↓ite_quiet, ite_self, ↓ite_snd]

theorem State.hartEnd_quiet (s : State) (n : Nat) :
    (State.hartEnd s n).quiet = s.quiet := by
  unfold State.hartEnd
  simp only [↓State.setF_quiet, ↓State.setFacet_quiet]

theorem State.intend_quiet (s : State) (it : Item) :
    (State.intend s it).quiet = s.quiet := by
  unfold State.intend
  simp only [↓State.quiet_mk, ↓Quiet.fold]

theorem State.frameHart_quiet (s : State) (n : Nat) :
    (State.frameHart s n).2.2.quiet = s.quiet := by
  unfold State.frameHart
  simp only [↓State.quiet_mk, ↓Quiet.fold, ↓State.hartEnd_quiet, ↓State.setFacet_quiet, ↓State.intend_quiet, ↓State.commitItem_quiet]
  (repeat' split) <;> simp only [↓State.quiet_mk, ↓Quiet.fold, ↓State.hartEnd_quiet, ↓State.setFacet_quiet, ↓State.intend_quiet, ↓State.commitItem_quiet]

theorem State.composeFrame_quiet (s : State) (n : Nat) :
    (State.composeFrame s n).2.quiet = s.quiet := by
  unfold State.composeFrame
  simp only [↓State.frameChunk_quiet, ↓State.frameHart_quiet, ↓State.setFacet_quiet]

theorem State.convStep_quiet (s : State) (n : Nat) (fseq : Nat) (list : List (Option Nat)) (conv : List (Int × Int)) (j : Nat) :
    (State.convStep s n fseq list conv j).quiet = s.quiet := by
  unfold State.convStep
  simp only [↓State.setChan_quiet, ↓State.setFacet_quiet]
  (repeat' split) <;> simp only [↓State.setChan_quiet, ↓State.setFacet_quiet]

theorem State.frameSamples_quiet (s : State) (n : Nat) (fseq : Nat) (conv : List (Int × Int)) :
    (State.frameSamples s n fseq conv).2.quiet = s.quiet := by
  unfold State.frameSamples
  simp only [implies_true, ↓foldl_quiet, ↓State.convStep_quiet, ↓State.setFacet_quiet]

theorem State.composeUp_quiet (s : State) (n : Nat) (x : FieldFrame) :
    (State.composeUp s n x).2.quiet = s.quiet := by
  unfold State.composeUp
  simp only [implies_true, ↓foldl_quiet, ↓State.compare_quiet, ↓State.frameSamples_quiet, ↓State.setChan_quiet, ↓State.setFacet_quiet]

theorem State.coreCtrl_quiet (s : State) (c : Nat) (value : Word) :
    (State.coreCtrl s c value).quiet = s.quiet := by
  unfold State.coreCtrl
  simp only [↓ite_quiet, ite_self, ↓State.setF_quiet]

theorem execVtxCoreEnable_quiet (core : Nat) (value : Word) (s : State) :
    quietOf (execVtxCoreEnable core value s) = some s.quiet := by
  unfold execVtxCoreEnable
  simp only [↓quietOf_go, ↓ite_quietOf, ↓State.coreCtrl_quiet, ↓State.setF_quiet, ↓State.log_quiet]
  (repeat' split) <;> simp only [↓quietOf_go, ↓ite_quietOf, ↓State.coreCtrl_quiet, ↓State.setF_quiet, ↓State.log_quiet]

theorem execVtxCoreDisable_quiet (core : Nat) (s : State) :
    quietOf (execVtxCoreDisable core s) = some s.quiet := by
  unfold execVtxCoreDisable
  simp only [↓quietOf_go, ↓ite_quietOf, ite_self, ↓State.setF_quiet]

theorem execVtxCoreFlush_quiet (core : Nat) (s : State) :
    quietOf (execVtxCoreFlush core s) = some s.quiet := by
  unfold execVtxCoreFlush
  simp only [↓quietOf_go, ↓ite_quietOf, ite_self, ↓State.log_quiet, ↓State.setVtx_quiet]

theorem State.coreWrite_quiet (s : State) (c : Nat) (v : Word) :
    quietOf (State.coreWrite s c v) = some s.quiet := by
  unfold State.coreWrite
  refine after_quiet _ _ _ ?_ (fun t => ?_) <;> simp only [↓quietOf_go, ↓ite_quietOf, ite_self, ↓execVtxCoreEnable_quiet, ↓execVtxCoreDisable_quiet, ↓State.coreCtrl_quiet, ↓execVtxCoreFlush_quiet]

theorem State.corrected_quiet (s : State) (region : Nat) (addr : Nat) :
    (State.corrected s region addr).quiet = s.quiet := by
  unfold State.corrected
  simp only [↓State.quiet_mk, ↓Quiet.fold, ↓ite_quiet, ite_self, ↓State.incF_quiet, ↓State.wr_quiet, ↓State.setF_quiet, ↓State.logLim_quiet, ↓State.log_quiet]

theorem State.cqEnable_quiet (s : State) (m : Nat) :
    (State.cqEnable s m).quiet = s.quiet := by
  unfold State.cqEnable
  simp only [↓State.quiet_mk, ↓Quiet.fold, ↓State.setF_quiet, ↓State.wr_quiet, ↓State.setRingMem_quiet, ↓State.log_quiet]
  (repeat' split) <;> simp only [↓State.quiet_mk, ↓Quiet.fold, ↓State.setF_quiet, ↓State.wr_quiet, ↓State.setRingMem_quiet, ↓State.log_quiet]

theorem State.sqSettleAll_quiet (s : State) :
    (State.sqSettleAll s).quiet = s.quiet := by
  unfold State.sqSettleAll
  simp only [implies_true, ↓foldl_quiet, ↓State.sqSettle_quiet]

theorem State.cqOff_quiet (s : State) (m : Nat) :
    (State.cqOff s m).quiet = s.quiet := by
  unfold State.cqOff
  simp only [↓State.quiet_mk, ↓Quiet.fold, ↓State.setF_quiet, ↓State.sqSettleAll_quiet]

theorem State.crcBad_quiet (s : State) (port : Nat) :
    (State.crcBad s port).quiet = s.quiet := by
  unfold State.crcBad
  simp only [↓State.quiet_mk, ↓Quiet.fold, ↓ite_quiet, ite_self, ↓State.incF_quiet, ↓State.portFall_quiet]

theorem State.crcGood_quiet (s : State) (port : Nat) :
    (State.crcGood s port).quiet = s.quiet := by
  unfold State.crcGood
  simp only [↓State.quiet_mk, ↓Quiet.fold]

theorem State.cross_quiet (s : State) (port : Nat) (g : Frame) :
    (State.cross s port g).quiet = s.quiet := by
  unfold State.cross
  simp only [↓State.quiet_mk, ↓Quiet.fold, ↓ite_quiet, ite_self, implies_true, ↓foldl_quiet, ↓State.sendOn_quiet]

theorem State.crossingUe_quiet (s : State) (n : Nat) (crossing : Nat) :
    (State.crossingUe s n crossing).quiet = s.quiet := by
  unfold State.crossingUe
  simp only [↓State.quiet_mk, ↓Quiet.fold, ↓ite_quiet, ite_self]

theorem State.cycGo_quiet (s : State) (p : Nat) :
    (State.cycGo s p).quiet = s.quiet := by
  unfold State.cycGo
  simp only [↓State.quiet_mk, ↓Quiet.fold, ↓ite_quiet, ite_self, implies_true, ↓foldl_quiet, ↓State.wrapF_quiet]

theorem State.cycLate_quiet (s : State) :
    (State.cycLate s).quiet = s.quiet := by
  unfold State.cycLate
  simp only [↓State.quiet_mk, ↓Quiet.fold, ↓State.incF_quiet, ↓State.log_quiet]
  (repeat' split) <;> simp only [↓State.quiet_mk, ↓Quiet.fold, ↓State.incF_quiet, ↓State.log_quiet]

theorem State.deliverGap_quiet (s : State) (m : Nat) (g : GapAcc) :
    (State.deliverGap s m g).quiet = s.quiet := by
  unfold State.deliverGap
  simp only [↓State.wrapF_quiet, ↓State.cqWrite_quiet, ↓State.incF_quiet, ↓State.setPrm_quiet, ↓State.raise_quiet]

theorem State.deliver_quiet (m n : Nat) (s : State) : (State.deliver m n s).quiet = s.quiet := by
  induction n generalizing s with
  | zero => rfl
  | succ n ih =>
    unfold State.deliver
    (repeat' split) <;> simp only [↓ih, ↓ite_quiet, ite_self, ↓State.deliverGap_quiet, ↓State.bkSkip_quiet, ↓State.cqWrite_quiet, ↓State.setPrm_quiet]

theorem State.diDeliver_quiet (s : State) (ch : Nat) (on : Bool) (t : Int) :
    (State.diDeliver s ch on t).quiet = s.quiet := by
  unfold State.diDeliver
  simp only [↓ite_quiet, ite_self, ↓State.sample_quiet, ↓State.setChan_quiet, ↓State.report_quiet, ↓State.logAt_quiet]

theorem State.diagRatio_quiet (s : State) (d : DiagSt) (mA : Word) (mB : Word) :
    (State.diagRatio s d mA mB).2.quiet = s.quiet := by
  unfold State.diagRatio
  simp only [↓ite_quiet, ite_self, ↓ite_snd, ↓State.fresh_quiet]

theorem State.perLines_quiet (s : State) :
    (State.perLines s).quiet = s.quiet := by
  unfold State.perLines
  simp only [↓State.arcTrip_quiet]

theorem State.directClamp_quiet (s : State) (off : Nat) (req : Word) (app : Word) :
    (State.directClamp s off req app).quiet = s.quiet := by
  unfold State.directClamp
  simp only [↓ite_quiet, ite_self, ↓State.log_quiet, ↓State.setF_quiet, ↓State.incF_quiet]

theorem State.directFct_quiet (s : State) (ch : Nat) (vals : List (Cf × Nat)) :
    (State.directFct s ch vals).quiet = s.quiet := by
  unfold State.directFct
  simp only [↓State.pushUpd_quiet, ↓State.takeChanges_quiet]

theorem State.setCf_quiet (s : State) (c : Cf) (i : Nat) (e : Nat) (v : Word) :
    (State.setCf s c i e v).quiet = s.quiet := by
  unfold State.setCf
  simp only [↓State.quiet_mk, ↓Quiet.fold]

theorem State.directWord_quiet (s : State) (off : Nat) (c : Cf) (i : Nat) (e : Nat) (w : Word) :
    (State.directWord s off c i e w).quiet = s.quiet := by
  unfold State.directWord
  simp only [↓State.directClamp_quiet, ↓State.setCf_quiet]

theorem State.dispatchTo_quiet (s : State) (prio : Nat) (i : VtxItem) (c : Nat) :
    (State.dispatchTo s prio i c).quiet = s.quiet := by
  unfold State.dispatchTo
  simp only [↓ite_quiet, ite_self, ↓State.setVtx_quiet, ↓State.wr_quiet, ↓State.setDram_quiet, ↓State.assertLine_quiet]

theorem State.redrive_quiet (s : State) (ch : Nat) :
    (State.redrive s ch).quiet = s.quiet := by
  unfold State.redrive
  simp only [↓ite_quiet, ite_self, ↓State.setChan_quiet, ↓State.log_quiet]

theorem State.doOff_quiet (s : State) (ch : Nat) :
    (State.doOff s ch).quiet = s.quiet := by
  unfold State.doOff
  simp only [↓State.log_quiet, ↓State.redrive_quiet, ↓State.setChan_quiet]

theorem State.domAbsent_quiet (s : State) (n : Nat) :
    (State.domAbsent s n).quiet = s.quiet := by
  unfold State.domAbsent
  simp only [implies_true, ↓foldl_quiet, ↓State.blocksGone_quiet, ↓State.absent_quiet]

theorem State.dramLost_quiet (s : State) :
    (State.dramLost s).quiet = s.quiet := by
  unfold State.dramLost
  simp only [↓State.quiet_mk, ↓Quiet.fold]

theorem State.domDown_quiet (s : State) (n : Nat) :
    (State.domDown s n).quiet = s.quiet := by
  unfold State.domDown
  simp only [↓ite_quiet, ite_self, ↓State.engDown_quiet, ↓State.acqDown_quiet, ↓State.netDown_quiet, ↓State.regsOff_quiet, ↓State.flkDown_quiet, ↓State.dramLost_quiet]

theorem State.domEvent_quiet (s : State) (n : Nat) (code : Nat) :
    (State.domEvent s n code).quiet = s.quiet := by
  unfold State.domEvent
  simp only [↓State.quiet_mk, ↓Quiet.fold, ↓State.log_quiet]

theorem State.domOff_quiet (s : State) (n : Nat) :
    (State.domOff s n).quiet = s.quiet := by
  unfold State.domOff
  simp only [↓State.quiet_mk, ↓Quiet.fold, ↓State.domDown_quiet, ↓State.domEvent_quiet]

theorem State.domRise_quiet (s : State) (n : Nat) :
    (State.domRise s n).quiet = s.quiet := by
  unfold State.domRise
  simp only [↓State.quiet_mk, ↓Quiet.fold, ↓State.log_quiet]

theorem State.domUp_quiet (s : State) (n : Nat) :
    (State.domUp s n).quiet = s.quiet := by
  unfold State.domUp
  simp only [↓State.quiet_mk, ↓Quiet.fold, ↓ite_quiet, ite_self, ↓State.cfgDefaults_quiet, ↓State.vtxStart_quiet, ↓State.hlxStart_quiet]

theorem State.dupForget_quiet (s : State) :
    (State.dupForget s).quiet = s.quiet := by
  unfold State.dupForget
  simp only [↓State.quiet_mk, ↓Quiet.fold]

theorem State.endFreeze_quiet (s : State) (cause : Nat) :
    (State.endFreeze s cause).1.quiet = s.quiet := by
  unfold State.endFreeze
  simp only [↓State.logSynth_quiet, ↓State.setHlx_quiet]
  (repeat' split) <;> simp only [↓State.logSynth_quiet, ↓State.setHlx_quiet]

theorem State.setEthp_quiet (s : State) (p : Nat) (x : EthPort) :
    (State.setEthp s p x).quiet = s.quiet := by
  unfold State.setEthp
  simp only [↓State.quiet_mk, ↓Quiet.fold]

theorem State.ethFifo_quiet (s : State) (p : Nat) (bs : List Byte) (lan : Nat) (st : Stamp) :
    (State.ethFifo s p bs lan st).quiet = s.quiet := by
  unfold State.ethFifo
  simp only [↓ite_quiet, ite_self, ↓State.wrapF_quiet, ↓State.setEthp_quiet, ↓State.incF_quiet]

theorem State.ethLost_quiet (s : State) (p : Nat) :
    (State.ethLost s p).quiet = s.quiet := by
  unfold State.ethLost
  simp only [↓State.log_quiet, ↓State.setEthp_quiet]
  (repeat' split) <;> simp only [↓State.log_quiet, ↓State.setEthp_quiet]

theorem State.ethRestart_quiet (s : State) :
    (State.ethRestart s).quiet = s.quiet := by
  unfold State.ethRestart
  simp only [↓State.quiet_mk, ↓Quiet.fold]

theorem State.ethStart_quiet (s : State) (p : Nat) :
    (State.ethStart s p).quiet = s.quiet := by
  unfold State.ethStart
  simp only [↓ite_quiet, ↓State.ethDrop_quiet, ↓State.cycGo_quiet, ↓State.ethSet_quiet, ↓State.commitItem_quiet]
  (repeat' split) <;> simp only [↓ite_quiet, ↓State.ethDrop_quiet, ↓State.cycGo_quiet, ↓State.ethSet_quiet, ↓State.commitItem_quiet]

theorem State.ethTx_quiet (s : State) (it : Item) :
    (State.ethTx s it).quiet = s.quiet := by
  unfold State.ethTx
  simp only [↓State.quiet_mk, ↓Quiet.fold, ↓ite_quiet, ite_self, implies_true, ↓foldl_quiet, ↓State.complete_quiet, ↓State.holdItem_quiet, ↓State.ethStart_quiet]

theorem State.reqDone_quiet (s : State) (l : Nat) (r : LoopReq) (t : Int) :
    (State.reqDone s l r t).quiet = s.quiet := by
  unfold State.reqDone
  (repeat' split) <;> simp only [↓State.completeClampedAt_quiet]

theorem State.takeReq_quiet (s : State) (l : Nat) (t : Int) (r : LoopReq) :
    (State.takeReq s l t r).quiet = s.quiet := by
  unfold State.takeReq
  simp only [↓ite_quiet, ↓State.reqDone_quiet, ↓State.setLoop_quiet]
  (repeat' split) <;> simp only [↓ite_quiet, ↓State.reqDone_quiet, ↓State.setLoop_quiet]

theorem State.takeReqs_quiet (n : Nat) (t : Int) (l : List LoopReq) (s : State) :
    (State.takeReqs n t l s).quiet = s.quiet := by
  induction l generalizing s with
  | nil => rfl
  | cons r rs ih =>
    unfold State.takeReqs
    split <;> simp only [↓ih, ↓State.takeReq_quiet, ↓State.setLoop_quiet]

theorem State.undoKeep_quiet (s : State) (l : Nat) :
    (State.undoKeep s l).quiet = s.quiet := by
  unfold State.undoKeep
  simp only [↓State.setLoop_quiet]

theorem State.injEnter_quiet (s : State) (l : Nat) (new : Nat) (item : Option (Nat × Word)) :
    (State.injEnter s l new item).quiet = s.quiet := by
  unfold State.injEnter
  simp only [↓State.enterState_quiet, ↓State.setLoop_quiet, ↓State.complete_quiet]
  (repeat' split) <;> simp only [↓State.enterState_quiet, ↓State.setLoop_quiet, ↓State.complete_quiet]

theorem State.loopRestore_quiet (s : State) (l : Nat) (u : LoopUndo) :
    (State.loopRestore s l u).quiet = s.quiet := by
  unfold State.loopRestore
  simp only [↓State.setLoop_quiet, ↓State.wr_quiet]

theorem State.sampleUndo_quiet (s : State) (l : Nat) :
    (State.sampleUndo s l).quiet = s.quiet := by
  unfold State.sampleUndo
  (repeat' split) <;> simp only [↓State.loopRestore_quiet]

theorem State.missEvent_quiet (s : State) (l : Nat) (late : Nat) (none : Nat) :
    (State.missEvent s l late none).quiet = s.quiet := by
  unfold State.missEvent
  simp only [↓ite_quiet, ite_self, ↓State.log_quiet, ↓State.setLoop_quiet]

theorem State.missSample_quiet (s : State) (l : Nat) (cause : Nat) :
    (State.missSample s l cause).quiet = s.quiet := by
  unfold State.missSample
  simp only [↓ite_quiet, ite_self, ↓State.sampleUndo_quiet, ↓State.setF_quiet, ↓State.setLoop_quiet, ↓State.incF_quiet, ↓State.injEnd_quiet, ↓State.missEvent_quiet]

theorem State.numMiss_quiet (s : State) (l : Nat) (open_ : Bool) :
    (State.numMiss s l open_).quiet = s.quiet := by
  unfold State.numMiss
  simp only [↓ite_quiet, ite_self, ↓State.missSample_quiet, ↓State.setF_quiet, ↓State.setLoop_quiet, ↓State.log_quiet]

theorem State.injBegin_quiet (s : State) (l : Nat) (j : Inject) (item : Option (Nat × Word)) (t : Int) :
    (State.injBegin s l j item t).quiet = s.quiet := by
  unfold State.injBegin
  simp only [↓State.wr_quiet, ↓State.setLoop_quiet, ↓State.log_quiet, ↓State.completeAt_quiet, ↓State.completeClampedAt_quiet]
  (repeat' split) <;> simp only [↓State.wr_quiet, ↓State.setLoop_quiet, ↓State.log_quiet, ↓State.completeAt_quiet, ↓State.completeClampedAt_quiet]

theorem State.injValue_quiet (s : State) (j : Inject) (t : Int) :
    (State.injValue s j t).2.quiet = s.quiet := by
  unfold State.injValue
  simp only [↓ite_quiet, ite_self, ↓ite_snd, ↓State.fresh_quiet]

theorem State.injNow_quiet (s : State) (l : Nat) (item : Option (Nat × Word)) (t : Int) :
    (State.injNow s l item t).2.quiet = s.quiet := by
  unfold State.injNow
  split
  · rfl
  · rename_i j h
    simp only [↓ite_quiet, ite_self, ↓State.injBegin_quiet, ↓State.injEnd_quiet]
    split
    · simp only [↓ite_quiet, ite_self, ↓State.injBegin_quiet, ↓State.injEnd_quiet]
    · rename_i j1 h1
      have e := State.injValue_quiet (if j.samples = 0 then s.injBegin l j item t else s) j1 ((t - j1.t0) / 4294967296)
      split <;> (rename_i s2 h2; rw [h2] at e; simp only [↓ite_quiet, ite_self, ↓State.injBegin_quiet, ↓State.injEnd_quiet] at e ⊢; exact e)

theorem State.lawStore_quiet (s : State) (l : Nat) (o : LawOut) (write : Bool) :
    (State.lawStore s l o write).quiet = s.quiet := by
  unfold State.lawStore
  simp only [↓State.setLoop_quiet, ↓State.setF_quiet, ↓State.wr_quiet]

theorem State.injCarry_quiet (s : State) (l : Nat) (v : Fl) (o : LawOut) (t : Int) :
    (State.injCarry s l v o t).quiet = s.quiet := by
  unfold State.injCarry
  simp only [↓State.setLoop_quiet]
  (repeat' split) <;> simp only [↓State.setLoop_quiet]

theorem State.spTrack_quiet (s : State) (l : Nat) (pv : Fl) (usable : Bool) :
    (State.spTrack s l pv usable).quiet = s.quiet := by
  unfold State.spTrack
  simp only [↓ite_quiet, ite_self, ↓State.setLoop_quiet]

theorem State.lawSample_quiet (s : State) (l : Nat) (x : Sample) (usable : Bool) (item : Option (Nat × Word)) :
    (State.lawSample s l x usable item).quiet = s.quiet := by
  unfold State.lawSample
  simp only [↓ite_quiet, ite_self, ↓State.injNow_quiet, ↓State.numMiss_quiet, ↓State.wr_quiet, ↓State.lawStore_quiet, ↓State.setF_quiet, ↓State.setLoop_quiet, ↓State.injCarry_quiet, ↓State.spTrack_quiet]

theorem State.heldLimits_quiet (s : State) (l : Nat) (spLim : Bool) :
    (State.heldLimits s l spLim).quiet = s.quiet := by
  unfold State.heldLimits
  simp only [↓State.setF_quiet]

theorem State.heldStore_quiet (s : State) (l : Nat) (v : Option Word) :
    (State.heldStore s l v).quiet = s.quiet := by
  unfold State.heldStore
  simp only [↓State.wr_quiet, ↓State.setLoop_quiet]
  (repeat' split) <;> simp only [↓State.wr_quiet, ↓State.setLoop_quiet]

theorem State.trackSample_quiet (s : State) (l : Nat) (o : LawOut) :
    (State.trackSample s l o).quiet = s.quiet := by
  unfold State.trackSample
  simp only [↓State.heldStore_quiet, ↓State.setLoop_quiet]

theorem State.heldSample_quiet (s : State) (l : Nat) (x : Sample) (usable : Bool) :
    (State.heldSample s l x usable).quiet = s.quiet := by
  unfold State.heldSample
  simp only [↓State.heldLimits_quiet, ↓State.wr_quiet, ↓State.setLoop_quiet, ↓State.heldStore_quiet, ↓State.incF_quiet, ↓State.trackSample_quiet, ↓State.spTrack_quiet]
  (repeat' split) <;> simp only [↓State.heldLimits_quiet, ↓State.wr_quiet, ↓State.setLoop_quiet, ↓State.heldStore_quiet, ↓State.incF_quiet, ↓State.trackSample_quiet, ↓State.spTrack_quiet]

theorem State.evalLoop_quiet (s : State) (l : Nat) (x : Sample) :
    (State.evalLoop s l x).quiet = s.quiet := by
  unfold State.evalLoop
  simp only [↓ite_quiet, ite_self, ↓State.setLoop_quiet, ↓State.takeReqs_quiet, ↓State.log_quiet, ↓State.undoKeep_quiet, ↓State.setF_quiet, ↓State.injEnter_quiet, ↓State.numMiss_quiet, ↓State.lawSample_quiet, ↓State.heldSample_quiet, ↓State.tanShow_quiet]

theorem State.expireRemote_quiet (s : State) :
    (State.expireRemote s).quiet = s.quiet := by
  unfold State.expireRemote
  simp only [implies_true, ↓foldl_quiet, ↓State.complete_quiet]

theorem State.trkTo_quiet (s : State) (t : Nat) (new : Nat) :
    (State.trkTo s t new).quiet = s.quiet := by
  unfold State.trkTo
  simp only [↓ite_quiet, ite_self, ↓State.locShow_quiet, ↓State.setF_quiet, ↓State.setTrack_quiet, ↓State.log_quiet, ↓State.raise_quiet]

theorem State.rampsTo_quiet (s : State) (t : Nat) (st : Nat) (n : Nat) :
    (State.rampsTo s t st n).quiet = s.quiet := by
  unfold State.rampsTo
  simp only [↓State.quiet_mk, ↓Quiet.fold, implies_true, ↓foldl_quiet, ↓State.setF_quiet]

theorem State.slotWithdraw_quiet (s : State) (t : Nat) :
    (State.slotWithdraw s t).quiet = s.quiet := by
  unfold State.slotWithdraw
  simp only [↓State.quiet_mk, ↓Quiet.fold, implies_true, ↓foldl_quiet, ↓State.slotTo_quiet, ↓State.emit_quiet]
  (repeat' split) <;> simp only [↓State.quiet_mk, ↓Quiet.fold, implies_true, ↓foldl_quiet, ↓State.slotTo_quiet, ↓State.emit_quiet]

theorem State.trkHold_quiet (s : State) (t : Nat) (n : Nat) (cause : Nat) :
    (State.trkHold s t n cause).quiet = s.quiet := by
  unfold State.trkHold
  simp only [↓State.setTrack_quiet, ↓State.trkTo_quiet, ↓State.rampsTo_quiet, ↓State.slotWithdraw_quiet, ↓State.log_quiet, ↓State.setF_quiet]

theorem State.failHold_quiet (s : State) (n : Nat) (t : Nat) :
    (State.failHold s n t).quiet = s.quiet := by
  unfold State.failHold
  simp only [↓ite_quiet, ite_self, ↓State.setTrack_quiet, ↓State.trkHold_quiet]

theorem State.ueNote_quiet (s : State) (region : Nat) (addr : Nat) (rebuilt : Bool) :
    (State.ueNote s region addr rebuilt).quiet = s.quiet := by
  unfold State.ueNote
  simp only [↓State.incF_quiet, ↓State.wr_quiet, ↓State.setF_quiet]

theorem State.warmTrigger_quiet (s : State) (cause : Nat) :
    (State.warmTrigger s cause).quiet = s.quiet := by
  unfold State.warmTrigger
  simp only [↓State.quiet_mk, ↓Quiet.fold, ↓ite_quiet, ite_self, ↓State.log_quiet, ↓State.acqDown_quiet, ↓State.engDown_quiet, ↓State.flkDown_quiet, ↓State.setF_quiet, ↓State.incF_quiet, ↓State.ethRestart_quiet, ↓State.canRestart_quiet]

theorem State.faultPath_quiet (s : State) (region : Nat) (addr : Nat) :
    (State.faultPath s region addr).quiet = s.quiet := by
  unfold State.faultPath
  simp only [↓State.quiet_mk, ↓Quiet.fold, ↓State.ueNote_quiet, ↓State.setF_quiet, ↓State.warmTrigger_quiet]

theorem State.fctDiag_quiet (s : State) (it : Item) (wire : Bool) :
    (State.fctDiag s it wire).quiet = s.quiet := by
  unfold State.fctDiag
  simp only [↓ite_quiet, ite_self, ↓State.complete_quiet, ↓State.setFacet_quiet, ↓State.holdItem_quiet, ↓State.setF_quiet]

theorem State.fctOutput_quiet (s : State) (it : Item) :
    (State.fctOutput s it).quiet = s.quiet := by
  unfold State.fctOutput
  simp only [↓ite_quiet, ite_self, ↓State.complete_quiet, ↓State.holdItem_quiet]

theorem State.fctTrim_quiet (s : State) (it : Item) :
    (State.fctTrim s it).quiet = s.quiet := by
  unfold State.fctTrim
  simp only [↓ite_quiet, ite_self, ↓State.complete_quiet, ↓State.holdItem_quiet]

theorem State.intakeAdd_quiet (s : State) (ring : Nat) (seq : Word) (v : Verdict) :
    (State.intakeAdd s ring seq v).quiet = s.quiet := by
  unfold State.intakeAdd
  simp only [↓State.quiet_mk, ↓Quiet.fold]

theorem State.fetchReject_quiet (s : State) (it : Item) (status : Nat) (d0 : Word) :
    (State.fetchReject s it status d0).quiet = s.quiet := by
  unfold State.fetchReject
  simp only [↓ite_quiet, ite_self, ↓State.cqPost_quiet, ↓State.postRecord_quiet, ↓State.intakeAdd_quiet]

theorem State.fetchStalls_quiet (s : State) :
    (State.fetchStalls s).quiet = s.quiet := by
  unfold State.fetchStalls
  simp only [↓State.quiet_mk, ↓Quiet.fold, ↓ite_quiet, ite_self, implies_true, ↓foldl_quiet, ↓State.incF_quiet]

theorem State.unitFire_quiet (s : State) (u : Nat) (t : Int) :
    (State.unitFire s u t).quiet = s.quiet := by
  unfold State.unitFire
  simp only [↓State.wr_quiet, ↓State.wrapF_quiet, ↓State.unitTo_quiet, ↓State.setUnit_quiet, ↓State.setPrm_quiet]

theorem State.unitSupp_quiet (s : State) (u : Nat) :
    (State.unitSupp s u).quiet = s.quiet := by
  unfold State.unitSupp
  simp only [↓ite_quiet, ite_self, ↓State.incF_quiet, ↓State.setUnit_quiet, ↓State.log_quiet]

theorem State.setCoinc_quiet (s : State) (g : Int) :
    (State.setCoinc s g).quiet = s.quiet := by
  unfold State.setCoinc
  simp only [↓State.setPrm_quiet]

theorem State.fireGroup_quiet (s : State) (us : List (Nat × Int)) (g : Int) :
    (State.fireGroup s us g).quiet = s.quiet := by
  unfold State.fireGroup
  simp only [↓ite_quiet, ite_self, ↓State.unitFire_quiet, ↓State.unitSupp_quiet, ↓State.setCoinc_quiet]
  refine foldl_quiet _ (fun s u => ?_) _ _
  split <;> simp only [↓ite_quiet, ite_self, ↓State.unitFire_quiet, ↓State.unitSupp_quiet, ↓State.setCoinc_quiet]

theorem State.flashBad_quiet (s : State) (f : Fld) (n : Nat) :
    (State.flashBad s f n).quiet = s.quiet := by
  unfold State.flashBad
  simp only [↓State.log_quiet, ↓State.setF_quiet]

theorem State.frameOutput_quiet (s : State) (it : Item) :
    (State.frameOutput s it).quiet = s.quiet := by
  unfold State.frameOutput
  simp only [↓ite_quiet, ite_self, ↓State.completeClamped_quiet, ↓State.ownerWrite_quiet]

theorem State.restoreOut_quiet (s : State) (ch : Nat) (cause : Nat) :
    (State.restoreOut s ch cause).quiet = s.quiet := by
  unfold State.restoreOut
  simp only [↓State.log_quiet, ↓State.setChan_quiet]

theorem State.frameRestore_quiet (s : State) (it : Item) :
    (State.frameRestore s it).quiet = s.quiet := by
  unfold State.frameRestore
  simp only [implies_true, ↓foldl_quiet, ↓State.complete_quiet, ↓State.restoreOut_quiet]

theorem State.frameTrim_quiet (s : State) (it : Item) :
    (State.frameTrim s it).quiet = s.quiet := by
  unfold State.frameTrim
  simp only [↓State.complete_quiet, ↓State.setFacet_quiet]

theorem State.fwRefuse_quiet (s : State) (it : Item) :
    (State.fwRefuse s it).quiet = s.quiet := by
  unfold State.fwRefuse
  simp only [↓State.fresh_quiet, ↓State.complete_quiet]

theorem State.handTo_quiet (s : State) (l : Nat) (v : Word) :
    (State.handTo s l v).quiet = s.quiet := by
  unfold State.handTo
  simp only [↓State.quiet_mk, ↓Quiet.fold, ↓State.ownerWrite_quiet, ↓State.setLoop_quiet]
  (repeat' split) <;> simp only [↓State.quiet_mk, ↓Quiet.fold, ↓State.ownerWrite_quiet, ↓State.setLoop_quiet]

theorem State.hartCut_quiet (s : State) (n : Nat) :
    (State.hartCut s n).quiet = s.quiet := by
  unfold State.hartCut
  simp only [↓State.quiet_mk, ↓Quiet.fold, ↓State.setFacet_quiet, ↓State.hartEnd_quiet]
  (repeat' split) <;> simp only [↓State.quiet_mk, ↓Quiet.fold, ↓State.setFacet_quiet, ↓State.hartEnd_quiet]

theorem State.hartReply_quiet (s : State) (n : Nat) (body : List Byte) (checkOk : Bool) :
    (State.hartReply s n body checkOk).quiet = s.quiet := by
  unfold State.hartReply
  simp only [↓State.incF_quiet, ↓State.bufPutBytes_quiet, ↓State.hartEnd_quiet, ↓State.completeAt_quiet]
  (repeat' split) <;> simp only [↓State.incF_quiet, ↓State.bufPutBytes_quiet, ↓State.hartEnd_quiet, ↓State.completeAt_quiet]

theorem State.heldItem_quiet (s : State) (cause : Nat) (x : Inflight) :
    (State.heldItem s cause x).quiet = s.quiet := by
  unfold State.heldItem
  simp only [↓ite_quiet, ite_self, ↓State.completeAt_quiet, ↓State.complete_quiet]

theorem State.heldWritten_quiet (s : State) (h : HeldEntry) :
    (State.heldWritten s h).quiet = s.quiet := by
  unfold State.heldWritten
  simp only [↓State.quiet_mk, ↓Quiet.fold]
  (repeat' split) <;> simp only [↓State.quiet_mk, ↓Quiet.fold]

theorem State.hifQuery_quiet (s : State) (it : Item) :
    (State.hifQuery s it).quiet = s.quiet := by
  unfold State.hifQuery
  simp only [↓ite_quiet, ↓State.complete_quiet]
  (repeat' split) <;> simp only [↓ite_quiet, ↓State.complete_quiet]

theorem State.histPut_quiet (s : State) (ch : Nat) (h : HistCh) (raw : Word) (t : Int) :
    (State.histPut s ch h raw t).1.quiet = s.quiet := by
  unfold State.histPut
  simp only [↓State.quiet_mk, ↓Quiet.fold]

theorem State.hlxRead_quiet (s : State) (it : Item) :
    (State.hlxRead s it).quiet = s.quiet := by
  unfold State.hlxRead
  simp only [↓ite_quiet, ↓State.complete_quiet, ↓State.bufPut_quiet]
  (repeat' split) <;> simp only [↓ite_quiet, ↓State.complete_quiet, ↓State.bufPut_quiet]

theorem State.injAfter_quiet (s : State) (l : Nat) (c : CapIn) :
    (State.injAfter s l c).quiet = s.quiet := by
  unfold State.injAfter
  simp only [↓State.quiet_mk, ↓Quiet.fold, ↓State.setF_quiet, ↓State.setLoop_quiet, ↓State.injEnd_quiet, ↓State.tanShow_quiet]
  (repeat' split) <;> simp only [↓State.quiet_mk, ↓Quiet.fold, ↓State.setF_quiet, ↓State.setLoop_quiet, ↓State.injEnd_quiet, ↓State.tanShow_quiet]

theorem State.intakeSave_quiet (s : State) :
    (State.intakeSave s).quiet = s.quiet := by
  unfold State.intakeSave
  simp only [↓State.quiet_mk, ↓Quiet.fold]

theorem State.sqOff_quiet (s : State) (n : Nat) :
    (State.sqOff s n).quiet = s.quiet := by
  unfold State.sqOff
  simp only [↓State.setF_quiet]

theorem hostRingOff_quiet (s : State) (n : Nat) :
    (hostRingOff s n).quiet = s.quiet := by
  unfold hostRingOff
  simp only [↓ite_quiet, ite_self, ↓State.sqOff_quiet, ↓State.cqOff_quiet]

theorem execPcieLinkDown_quiet (s : State) :
    quietOf (execPcieLinkDown s) = some s.quiet := by
  unfold execPcieLinkDown
  simp only [↓State.quiet_mk, ↓Quiet.fold, ↓quietOf_go, implies_true, ↓foldl_quiet, ↓hostRingOff_quiet, ↓State.setF_quiet, ↓State.log_quiet]

theorem execVxlPortDown_quiet (port : Nat) (s : State) :
    quietOf (execVxlPortDown port s) = some s.quiet := by
  unfold execVxlPortDown
  simp only [↓quietOf_go, ↓ite_quietOf, ite_self, ↓State.portFall_quiet]

theorem State.interfaceDown_quiet (s : State) (n : Nat) :
    (State.interfaceDown s n).quiet = s.quiet := by
  unfold State.interfaceDown
  simp only [↓ite_quiet, ite_self, implies_true, ↓stateOf_quiet, ↓foldl_quiet, ↓stateOf_quiet, ↓execPcieLinkDown_quiet, ↓execVxlPortDown_quiet, ↓State.ethLinkDown_quiet]

theorem State.joined_quiet (s : State) (n : Nat) (d : Nat) :
    (State.joined s n d).quiet = s.quiet := by
  unfold State.joined
  simp only [↓State.quiet_mk, ↓Quiet.fold, ↓ite_quiet, ite_self, ↓State.setF_quiet, ↓State.raise_quiet, ↓State.log_quiet]

theorem State.journalCut_quiet (s : State) :
    (State.journalCut s).quiet = s.quiet := by
  unfold State.journalCut
  simp only [↓State.quiet_mk, ↓Quiet.fold, ↓ite_quiet, ite_self, ↓State.fresh_quiet]

theorem State.judge_quiet (s : State) (n : Nat) (e : Nat) :
    (State.judge s n e).quiet = s.quiet := by
  unfold State.judge
  simp only [↓State.quiet_mk, ↓Quiet.fold, ↓ite_quiet, ite_self, ↓State.setCo_quiet]

theorem State.keptCut_quiet (s : State) (addr : Nat) :
    (State.keptCut s addr).1.quiet = s.quiet := by
  unfold State.keptCut
  simp only [↓State.quiet_mk, ↓Quiet.fold, ↓ite_quiet, ite_self, ↓ite_fst]
  refine foldl_fst_quiet _ (fun r g => ?_) _ _
  simp only [↓State.quiet_mk, ↓Quiet.fold, ↓ite_quiet, ite_self, ↓ite_fst]

theorem State.latStopNow_quiet (s : State) (it : Item) :
    (State.latStopNow s it).quiet = s.quiet := by
  unfold State.latStopNow
  simp only [↓State.quiet_mk, ↓Quiet.fold, ↓ite_quiet, ite_self, ↓State.latState_quiet, ↓State.latPubInit_quiet, ↓State.setF_quiet, ↓State.complete_quiet]

theorem State.latCarry_quiet (s : State) (old : LatProg) :
    (State.latCarry s old).quiet = s.quiet := by
  unfold State.latCarry
  simp only [↓State.quiet_mk, ↓Quiet.fold, ↓State.log_quiet]

theorem State.latGo_quiet (s : State) :
    (State.latGo s).quiet = s.quiet := by
  unfold State.latGo
  simp only [↓State.quiet_mk, ↓Quiet.fold, ↓ite_quiet, ite_self, ↓State.latState_quiet, ↓State.latCarry_quiet, ↓State.latScan_quiet]

theorem State.latShadowOn_quiet (s : State) (it : Item) :
    (State.latShadowOn s it).quiet = s.quiet := by
  unfold State.latShadowOn
  simp only [↓State.quiet_mk, ↓Quiet.fold, ↓State.wr_quiet, ↓State.complete_quiet, ↓State.log_quiet, ↓State.latState_quiet]

theorem State.latShScan_quiet (s : State) (n : Nat) (m : LatMem) :
    (State.latShScan s n m).quiet = s.quiet := by
  unfold State.latShScan
  simp only [↓State.quiet_mk, ↓Quiet.fold, ↓ite_quiet, ite_self, ↓State.wrapF_quiet, ↓State.latTime_quiet, ↓State.latEvents_quiet, ↓State.latCompare_quiet]

theorem State.latBoundary_quiet (s : State) (n : Nat) :
    (State.latBoundary s n).quiet = s.quiet := by
  unfold State.latBoundary
  simp only [↓State.latStopNow_quiet, ↓State.latScan_quiet, ↓State.latCarry_quiet, ↓State.latState_quiet, ↓State.latGo_quiet, ↓State.latShadowOn_quiet, ↓State.latShScan_quiet]
  (repeat' split) <;> simp only [↓State.latStopNow_quiet, ↓State.latScan_quiet, ↓State.latCarry_quiet, ↓State.latState_quiet, ↓State.latGo_quiet, ↓State.latShadowOn_quiet, ↓State.latShScan_quiet]

theorem State.latShadow_quiet (s : State) (it : Item) :
    (State.latShadow s it).quiet = s.quiet := by
  unfold State.latShadow
  simp only [↓State.quiet_mk, ↓Quiet.fold, ↓ite_quiet, ite_self, ↓State.complete_quiet, ↓State.latShadowOff_quiet, ↓State.holdItem_quiet]

theorem State.leaveList_quiet (s : State) (device : Nat) (cause : Nat) :
    (State.leaveList s device cause).quiet = s.quiet := by
  unfold State.leaveList
  simp only [↓State.quiet_mk, ↓Quiet.fold, ↓ite_quiet, ite_self]

theorem State.remoteLeave_quiet (s : State) :
    (State.remoteLeave s).quiet = s.quiet := by
  unfold State.remoteLeave
  simp only [implies_true, ↓foldl_quiet, ↓State.complete_quiet]

theorem State.leaveTold_quiet (s : State) :
    (State.leaveTold s).quiet = s.quiet := by
  unfold State.leaveTold
  simp only [↓ite_quiet, ite_self, ↓State.sendTo_quiet, ↓State.remoteLeave_quiet]

theorem State.left_quiet (s : State) (d : Nat) (cause : Nat) :
    (State.left s d cause).quiet = s.quiet := by
  unfold State.left
  simp only [↓State.quiet_mk, ↓Quiet.fold, ↓ite_quiet, ↓State.raise_quiet, ↓State.log_quiet, ↓State.setF_quiet, ↓State.complete_quiet]
  (repeat' split) <;> simp only [↓State.quiet_mk, ↓Quiet.fold, ↓ite_quiet, ↓State.raise_quiet, ↓State.log_quiet, ↓State.setF_quiet, ↓State.complete_quiet]

theorem State.linkGap_quiet (s : State) (n : Nat) (r : LinkRun) (t1 : Int) :
    (State.linkGap s n r t1).quiet = s.quiet := by
  unfold State.linkGap
  simp only [↓ite_quiet, ite_self, ↓State.incF_quiet, ↓State.prmGap_quiet, ↓State.log_quiet]

theorem State.locCounter_quiet (s : State) (it : Item) :
    (State.locCounter s it).quiet = s.quiet := by
  unfold State.locCounter
  simp only [↓ite_quiet, ite_self, ↓State.complete_quiet, ↓State.cntItem_quiet]

theorem State.locQueue_quiet (s : State) (op : Nat) (it : Item) :
    (State.locQueue s op it).quiet = s.quiet := by
  unfold State.locQueue
  simp only [↓ite_quiet, ite_self, ↓State.complete_quiet, ↓State.holdItem_quiet, ↓State.setTrack_quiet]

theorem State.trkTrans_quiet (s : State) (t : Nat) (n : Nat) :
    (State.trkTrans s t n).quiet = s.quiet := by
  unfold State.trkTrans
  simp only [↓State.quiet_mk, ↓Quiet.fold, ↓State.setTrack_quiet, ↓State.blockStep_quiet]

theorem State.stepStart_quiet (s : State) (t : Nat) (p : Nat) (cause : Nat) (n : Nat) (sched : Bool) :
    (State.stepStart s t p cause n sched).quiet = s.quiet := by
  unfold State.stepStart
  simp only [↓ite_quiet, ite_self, ↓State.trkTrans_quiet, ↓State.setF_quiet, ↓State.setTrack_quiet, ↓State.trkTo_quiet, ↓State.wrapF_quiet, ↓State.wr_quiet, ↓State.log_quiet, ↓State.raise_quiet, ↓State.actions_quiet]

theorem State.slotFire_quiet (s : State) (k : Nat) (n : Nat) :
    (State.slotFire s k n).quiet = s.quiet := by
  unfold State.slotFire
  simp only [↓ite_quiet, ite_self, ↓State.log_quiet, ↓State.stepStart_quiet, ↓State.slotTo_quiet, ↓State.trkHold_quiet]

theorem State.rampsStop_quiet (s : State) (t : Nat) :
    (State.rampsStop s t).quiet = s.quiet := by
  unfold State.rampsStop
  simp only [implies_true, ↓foldl_quiet, ↓State.rampFree_quiet]

theorem State.trkAbort_quiet (s : State) (t : Nat) (n : Nat) (cause : Nat) :
    (State.trkAbort s t n cause).quiet = s.quiet := by
  unfold State.trkAbort
  simp only [↓ite_quiet, ite_self, ↓State.log_quiet, ↓State.slotWithdraw_quiet, ↓State.rampsStop_quiet, ↓State.stepStart_quiet, ↓State.setF_quiet, ↓State.trkTo_quiet, ↓State.trkTrans_quiet]

theorem State.slotArm_quiet (s : State) (it : Item) (st : Stamp) :
    (State.slotArm s it st).quiet = s.quiet := by
  unfold State.slotArm
  simp only [↓State.quiet_mk, ↓Quiet.fold, ↓ite_quiet, ite_self, implies_true, ↓foldl_quiet, ↓State.completeAt_quiet, ↓State.wr_quiet, ↓State.emit_quiet, ↓State.log_quiet, ↓State.setF_quiet]

theorem State.trkCmd_quiet (s : State) (t : Nat) (n : Nat) (op : Nat) (it : Item) :
    (State.trkCmd s t n op it).quiet = s.quiet := by
  unfold State.trkCmd
  simp only [↓ite_quiet, ite_self, ↓State.slotArm_quiet, ↓State.completeAt_quiet, ↓State.slotWithdraw_quiet, ↓State.stepStart_quiet, ↓State.rampsTo_quiet, ↓State.trkHold_quiet, ↓State.trkAbort_quiet, ↓State.trkTo_quiet, ↓State.trkTrans_quiet, ↓State.rampsStop_quiet, ↓State.setTrack_quiet]
  (repeat' split) <;> simp only [↓ite_quiet, ite_self, ↓State.slotArm_quiet, ↓State.completeAt_quiet, ↓State.slotWithdraw_quiet, ↓State.stepStart_quiet, ↓State.rampsTo_quiet, ↓State.trkHold_quiet, ↓State.trkAbort_quiet, ↓State.trkTo_quiet, ↓State.trkTrans_quiet, ↓State.rampsStop_quiet, ↓State.setTrack_quiet]

theorem State.trkCmds_quiet (t n : Nat) (l : List (Nat × Word)) (s : State) : (State.trkCmds t n l s).quiet = s.quiet := by
  induction l generalizing s with
  | nil => rfl
  | cons k r ih =>
    unfold State.trkCmds
    (repeat' split) <;> simp only [↓ih, ↓State.setTrack_quiet, ↓State.trkCmd_quiet, ↓State.trkCmd_quiet, ↓State.setTrack_quiet]

theorem State.successor_quiet (s : State) (t : Nat) (n : Nat) (kind : Nat) (p : Nat) (cause : Nat) :
    (State.successor s t n kind p cause).quiet = s.quiet := by
  unfold State.successor
  simp only [↓ite_quiet, ite_self, ↓State.stepStart_quiet, ↓State.trkAbort_quiet, ↓State.trkTrans_quiet, ↓State.trkHold_quiet, ↓State.setTrack_quiet, ↓State.trkTo_quiet, ↓State.log_quiet]

theorem State.trkEval_quiet (s : State) (t : Nat) (n : Nat) :
    (State.trkEval s t n).quiet = s.quiet := by
  unfold State.trkEval
  simp only [↓ite_quiet, ↓State.setTrack_quiet, ↓State.wr_quiet, ↓State.successor_quiet]
  (repeat' split) <;> simp only [↓ite_quiet, ↓State.setTrack_quiet, ↓State.wr_quiet, ↓State.successor_quiet]

theorem State.trkTick_quiet (s : State) (n : Nat) (t : Nat) :
    (State.trkTick s n t).quiet = s.quiet := by
  unfold State.trkTick
  simp only [↓ite_quiet, ite_self, ↓State.trkTo_quiet, ↓State.trkTrans_quiet, ↓State.slotWithdraw_quiet, ↓State.rampsStop_quiet, ↓State.trkAbort_quiet, ↓State.trkCmds_quiet, ↓State.setTrack_quiet, ↓State.trkHold_quiet, ↓State.trkEval_quiet]

theorem State.rampTick_quiet (s : State) (n : Nat) (g : Nat) :
    (State.rampTick s n g).quiet = s.quiet := by
  unfold State.rampTick
  simp only [↓ite_quiet, ite_self, ↓State.log_quiet, ↓State.rampFree_quiet, ↓State.locSet_quiet, ↓State.wr_quiet]

theorem State.locTick_quiet (s : State) (n : Nat) :
    (State.locTick s n).quiet = s.quiet := by
  unfold State.locTick
  simp only [↓State.quiet_mk, ↓Quiet.fold, ↓ite_quiet, ite_self, implies_true, ↓foldl_quiet, ↓State.setF_quiet, ↓State.cntOps_quiet, ↓State.slotFire_quiet, ↓State.trkTick_quiet, ↓State.rampTick_quiet, ↓State.failHold_quiet]

theorem State.loopTick_quiet (s : State) (n : Nat) (l : Nat) :
    (State.loopTick s n l).quiet = s.quiet := by
  unfold State.loopTick
  simp only [↓ite_quiet, ↓State.missSample_quiet, ↓State.setLoop_quiet]
  (repeat' split) <;> simp only [↓ite_quiet, ↓State.missSample_quiet, ↓State.setLoop_quiet]

theorem State.lossWrite_quiet (s : State) (v : Word) :
    (State.lossWrite s v).quiet = s.quiet := by
  unfold State.lossWrite
  simp only [↓State.wr_quiet]

theorem State.lsShow_quiet (s : State) (volt : Nat) :
    (State.lsShow s volt).quiet = s.quiet := by
  unfold State.lsShow
  simp only [↓State.setF_quiet]

theorem State.malformed_quiet (s : State) (bar2 : Bool) (offset : Nat) :
    (State.malformed s bar2 offset).quiet = s.quiet := by
  unfold State.malformed
  simp only [↓ite_quiet, ite_self, ↓State.incF_quiet, ↓State.setF_quiet, ↓State.log_quiet]

theorem State.showMembers_quiet (s : State) (version : Nat) :
    (State.showMembers s version).quiet = s.quiet := by
  unfold State.showMembers
  simp only [↓State.setF_quiet]

theorem State.managerMark_quiet (s : State) (n : Nat) :
    (State.managerMark s n).quiet = s.quiet := by
  unfold State.managerMark
  simp only [↓State.quiet_mk, ↓Quiet.fold, implies_true, ↓foldl_quiet, ↓State.joined_quiet, ↓State.left_quiet, ↓State.showMembers_quiet, ↓State.setF_quiet, ↓State.log_quiet, ↓State.sendFrame_quiet]
  (repeat' split) <;> simp only [↓State.quiet_mk, ↓Quiet.fold, implies_true, ↓foldl_quiet, ↓State.joined_quiet, ↓State.left_quiet, ↓State.showMembers_quiet, ↓State.setF_quiet, ↓State.log_quiet, ↓State.sendFrame_quiet]

theorem State.mbxWrite_quiet (s : State) (c : Nat) (id : Word) (ctl : Word) (bytes : List Byte) (st : Stamp) :
    (State.mbxWrite s c id ctl bytes st).quiet = s.quiet := by
  unfold State.mbxWrite
  simp only [implies_true, ↓foldl_quiet, ↓State.wr_quiet]

theorem State.msixWrite_quiet (s : State) (k : Nat) (v : Word) :
    (State.msixWrite s k v).quiet = s.quiet := by
  unfold State.msixWrite
  simp only [↓State.quiet_mk, ↓Quiet.fold, ↓ite_quiet, ite_self]

theorem State.noteExport_quiet (s : State) :
    (State.noteExport s).quiet = s.quiet := by
  unfold State.noteExport
  simp only [↓State.quiet_mk, ↓Quiet.fold]

theorem State.offAccess_quiet (s : State) (offset : Nat) :
    (State.offAccess s offset).quiet = s.quiet := by
  unfold State.offAccess
  simp only [↓ite_quiet, ite_self, ↓State.setF_quiet, ↓State.log_quiet]

theorem State.onward_quiet (s : State) (port : Nat) (g : Frame) :
    (State.onward s port g).quiet = s.quiet := by
  unfold State.onward
  simp only [↓ite_quiet, ite_self, ↓State.sendOn_quiet]

theorem State.outDiffer_quiet (s : State) (o : OutImg) :
    (State.outDiffer s o).quiet = s.quiet := by
  unfold State.outDiffer
  simp only [↓ite_quiet, ite_self, ↓State.fresh_quiet, ↓State.log_quiet]

theorem State.outsDiffer_quiet (s : State) (os : List OutImg) :
    (State.outsDiffer s os).quiet = s.quiet := by
  unfold State.outsDiffer
  simp only [implies_true, ↓foldl_quiet, ↓State.outDiffer_quiet]

theorem State.sendRemote_quiet (s : State) (op : Nat) (it : Item) :
    (State.sendRemote s op it).quiet = s.quiet := by
  unfold State.sendRemote
  simp only [↓State.quiet_mk, ↓Quiet.fold, ↓ite_quiet, ite_self, ↓State.emit_quiet, ↓State.complete_quiet]

theorem State.tryRemote_quiet (s : State) (it : Item) :
    (State.tryRemote s it).quiet = s.quiet := by
  unfold State.tryRemote
  (repeat' split) <;> simp only [↓State.intend_quiet, ↓State.sendRemote_quiet]

theorem serve_quiet (it : Item) (s : State) (k : State → State) (hk : ∀ x, (k x).quiet = x.quiet) :
    quietOf (serve it s k) = some s.quiet := by
  unfold serve
  simp only [↓quietOf_go, ↓ite_quietOf, ite_self, ↓State.tryRemote_quiet, ↓State.complete_quiet, ↓State.intend_quiet, ↓State.absent_quiet, *]

theorem execSysFwVerify_quiet (it : Item) (s : State) :
    quietOf (execSysFwVerify it s) = some s.quiet := by
  unfold execSysFwVerify
  simp only [↓ite_quiet, ite_self, implies_true, ↓serve_quiet, ↓State.complete_quiet]

theorem execSysFwTrial_quiet (it : Item) (s : State) :
    quietOf (execSysFwTrial it s) = some s.quiet := by
  unfold execSysFwTrial
  simp only [↓State.quiet_mk, ↓Quiet.fold, ↓ite_quiet, ite_self, implies_true, ↓serve_quiet, ↓State.complete_quiet, ↓State.fwRefuse_quiet]

theorem execSysFwConfirm_quiet (it : Item) (s : State) :
    quietOf (execSysFwConfirm it s) = some s.quiet := by
  unfold execSysFwConfirm
  simp only [↓State.quiet_mk, ↓Quiet.fold, ↓ite_quiet, ite_self, implies_true, ↓serve_quiet, ↓State.complete_quiet, ↓State.setF_quiet]

theorem State.stageItem_quiet (s : State) (it : Item) (cs : List Change) (detail : Nat) :
    (State.stageItem s it cs detail).quiet = s.quiet := by
  unfold State.stageItem
  simp only [↓ite_quiet, ite_self, ↓State.stagePut_quiet, ↓State.complete_quiet]

theorem execCfgStage_quiet (it : Item) (s : State) :
    quietOf (execCfgStage it s) = some s.quiet := by
  unfold execCfgStage
  simp only [implies_true, ↓serve_quiet, ↓State.complete_quiet, ↓State.stageItem_quiet]
  (repeat' split) <;> simp only [implies_true, ↓serve_quiet, ↓State.complete_quiet, ↓State.stageItem_quiet]

theorem execCfgStageTable_quiet (it : Item) (s : State) :
    quietOf (execCfgStageTable it s) = some s.quiet := by
  unfold execCfgStageTable
  simp only [implies_true, ↓serve_quiet, ↓State.complete_quiet, ↓State.stageItem_quiet]
  (repeat' split) <;> simp only [implies_true, ↓serve_quiet, ↓State.complete_quiet, ↓State.stageItem_quiet]

theorem execCfgDiscard_quiet (it : Item) (s : State) :
    quietOf (execCfgDiscard it s) = some s.quiet := by
  unfold execCfgDiscard
  simp only [implies_true, ↓serve_quiet, ↓State.complete_quiet, ↓State.stageDrop_quiet]
  (repeat' split) <;> simp only [implies_true, ↓serve_quiet, ↓State.complete_quiet, ↓State.stageDrop_quiet]

theorem execCfgRead_quiet (it : Item) (s : State) :
    quietOf (execCfgRead it s) = some s.quiet := by
  unfold execCfgRead
  simp only [implies_true, ↓serve_quiet, ↓State.complete_quiet]
  (repeat' split) <;> simp only [implies_true, ↓serve_quiet, ↓State.complete_quiet]

theorem execCfgPersist_quiet (it : Item) (s : State) :
    quietOf (execCfgPersist it s) = some s.quiet := by
  unfold execCfgPersist
  simp only [↓ite_quiet, ite_self, implies_true, ↓serve_quiet, ↓State.complete_quiet, ↓State.commitChanges_quiet]

theorem execCfgImageExport_quiet (it : Item) (s : State) :
    quietOf (execCfgImageExport it s) = some s.quiet := by
  unfold execCfgImageExport
  simp only [↓ite_quiet, ite_self, implies_true, ↓serve_quiet, ↓State.complete_quiet, ↓State.bufPutBytes_quiet, ↓State.noteExport_quiet]

theorem execCfgImageImport_quiet (it : Item) (s : State) :
    quietOf (execCfgImageImport it s) = some s.quiet := by
  unfold execCfgImageImport
  refine serve_quiet _ _ _ (fun s => ?_)
  simp only [↓ite_quiet, ↓State.complete_quiet, ↓State.stageItem_quiet]
  split
  · rfl
  · split <;> simp only [↓ite_quiet, ↓State.complete_quiet, ↓State.stageItem_quiet]

theorem execVtxPost_quiet (it : Item) (s : State) :
    quietOf (execVtxPost it s) = some s.quiet := by
  unfold execVtxPost
  simp only [↓ite_quiet, ite_self, implies_true, ↓serve_quiet, ↓State.complete_quiet, ↓State.raise_quiet]

theorem execVtxSignal_quiet (it : Item) (s : State) :
    quietOf (execVtxSignal it s) = some s.quiet := by
  unfold execVtxSignal
  simp only [↓ite_quiet, ite_self, implies_true, ↓serve_quiet, ↓State.complete_quiet, ↓State.setCnt_quiet]

theorem State.tanItem_quiet (s : State) (it : Item) (k : State → State) (hk : ∀ x, (k x).quiet = x.quiet) :
    (State.tanItem s it k).quiet = s.quiet := by
  unfold State.tanItem
  simp only [↓ite_quiet, ite_self, ↓State.complete_quiet, *]

theorem State.tanReq_quiet (s : State) (it : Item) (opcode : Nat) (kind : Nat) (v : Word) (note : List Word) :
    (State.tanReq s it opcode kind v note).quiet = s.quiet := by
  unfold State.tanReq
  simp only [↓State.holdItem_quiet, ↓State.setLoop_quiet]

theorem execTanMode_quiet (it : Item) (s : State) :
    quietOf (execTanMode it s) = some s.quiet := by
  unfold execTanMode
  simp only [↓ite_quiet, ite_self, implies_true, ↓serve_quiet, ↓State.tanItem_quiet, ↓State.complete_quiet, ↓State.tanReq_quiet]

theorem execTanSetpoint_quiet (it : Item) (s : State) :
    quietOf (execTanSetpoint it s) = some s.quiet := by
  unfold execTanSetpoint
  simp only [↓ite_quiet, ite_self, implies_true, ↓serve_quiet, ↓State.tanItem_quiet, ↓State.complete_quiet, ↓State.tanReq_quiet]

theorem execTanManout_quiet (it : Item) (s : State) :
    quietOf (execTanManout it s) = some s.quiet := by
  unfold execTanManout
  simp only [↓ite_quiet, ite_self, implies_true, ↓serve_quiet, ↓State.tanItem_quiet, ↓State.complete_quiet, ↓State.tanReq_quiet]

theorem execTanInject_quiet (it : Item) (s : State) :
    quietOf (execTanInject it s) = some s.quiet := by
  unfold execTanInject
  simp only [↓ite_quiet, ite_self, implies_true, ↓serve_quiet, ↓State.tanItem_quiet, ↓State.complete_quiet, ↓State.tanReq_quiet]

theorem execTanInjectStop_quiet (it : Item) (s : State) :
    quietOf (execTanInjectStop it s) = some s.quiet := by
  unfold execTanInjectStop
  simp only [↓ite_quiet, ite_self, implies_true, ↓serve_quiet, ↓State.tanItem_quiet, ↓State.complete_quiet, ↓State.tanReq_quiet]

theorem execLocStart_quiet (it : Item) (s : State) :
    quietOf (execLocStart it s) = some s.quiet := by
  unfold execLocStart
  simp only [implies_true, ↓serve_quiet, ↓State.locQueue_quiet]

theorem execLocHold_quiet (it : Item) (s : State) :
    quietOf (execLocHold it s) = some s.quiet := by
  unfold execLocHold
  simp only [implies_true, ↓serve_quiet, ↓State.locQueue_quiet]

theorem execLocResume_quiet (it : Item) (s : State) :
    quietOf (execLocResume it s) = some s.quiet := by
  unfold execLocResume
  simp only [implies_true, ↓serve_quiet, ↓State.locQueue_quiet]

theorem execLocAbort_quiet (it : Item) (s : State) :
    quietOf (execLocAbort it s) = some s.quiet := by
  unfold execLocAbort
  simp only [implies_true, ↓serve_quiet, ↓State.locQueue_quiet]

theorem execLocJump_quiet (it : Item) (s : State) :
    quietOf (execLocJump it s) = some s.quiet := by
  unfold execLocJump
  simp only [implies_true, ↓serve_quiet, ↓State.locQueue_quiet]

theorem execLocReset_quiet (it : Item) (s : State) :
    quietOf (execLocReset it s) = some s.quiet := by
  unfold execLocReset
  simp only [implies_true, ↓serve_quiet, ↓State.locQueue_quiet]

theorem execLocToken_quiet (it : Item) (s : State) :
    quietOf (execLocToken it s) = some s.quiet := by
  unfold execLocToken
  simp only [↓ite_quiet, ite_self, implies_true, ↓serve_quiet, ↓State.complete_quiet, ↓State.cntItem_quiet]

theorem execLocCounterSet_quiet (it : Item) (s : State) :
    quietOf (execLocCounterSet it s) = some s.quiet := by
  unfold execLocCounterSet
  simp only [implies_true, ↓serve_quiet, ↓State.locCounter_quiet]

theorem execLocSchedArm_quiet (it : Item) (s : State) :
    quietOf (execLocSchedArm it s) = some s.quiet := by
  unfold execLocSchedArm
  simp only [↓ite_quiet, ite_self, implies_true, ↓serve_quiet, ↓State.complete_quiet, ↓State.locQueue_quiet]

theorem execLocSchedCancel_quiet (it : Item) (s : State) :
    quietOf (execLocSchedCancel it s) = some s.quiet := by
  unfold execLocSchedCancel
  simp only [implies_true, ↓serve_quiet, ↓State.locQueue_quiet]

theorem execLatStop_quiet (it : Item) (s : State) :
    quietOf (execLatStop it s) = some s.quiet := by
  unfold execLatStop
  simp only [↓State.quiet_mk, ↓Quiet.fold, ↓ite_quiet, ite_self, implies_true, ↓serve_quiet, ↓State.complete_quiet, ↓State.holdItem_quiet]

theorem execLatStart_quiet (it : Item) (s : State) :
    quietOf (execLatStart it s) = some s.quiet := by
  unfold execLatStart
  simp only [↓State.quiet_mk, ↓Quiet.fold, ↓ite_quiet, ite_self, implies_true, ↓serve_quiet, ↓State.complete_quiet, ↓State.holdItem_quiet]

theorem execArcSet_quiet (it : Item) (s : State) :
    quietOf (execArcSet it s) = some s.quiet := by
  unfold execArcSet
  simp only [implies_true, ↓serve_quiet, ↓State.arcItem_quiet, ↓State.arcSet_quiet]

theorem execArcStartAt_quiet (it : Item) (s : State) :
    quietOf (execArcStartAt it s) = some s.quiet := by
  unfold execArcStartAt
  simp only [implies_true, ↓serve_quiet, ↓State.arcItem_quiet, ↓State.arcStart_quiet]

theorem execArcStopAtEnd_quiet (it : Item) (s : State) :
    quietOf (execArcStopAtEnd it s) = some s.quiet := by
  unfold execArcStopAtEnd
  simp only [implies_true, ↓serve_quiet, ↓State.arcItem_quiet, ↓State.arcStop_quiet]

theorem execArcClear_quiet (it : Item) (s : State) :
    quietOf (execArcClear it s) = some s.quiet := by
  unfold execArcClear
  simp only [↓ite_quiet, ite_self, implies_true, ↓foldl_quiet, ↓serve_quiet, ↓State.showTrips_quiet, ↓State.setF_quiet, ↓State.log_quiet, ↓State.complete_quiet]

theorem execEngine_quiet (op : Nat) (it : Item) (s : State) :
    quietOf (execEngine op it s) = some s.quiet := by
  unfold execEngine
  (repeat' split) <;> simp only [↓quietOf_go, ↓execTanMode_quiet, ↓execTanSetpoint_quiet, ↓execTanManout_quiet, ↓execTanInject_quiet, ↓execTanInjectStop_quiet, ↓execLocStart_quiet, ↓execLocHold_quiet, ↓execLocResume_quiet, ↓execLocAbort_quiet, ↓execLocJump_quiet, ↓execLocReset_quiet, ↓execLocToken_quiet, ↓execLocCounterSet_quiet, ↓execLocSchedArm_quiet, ↓execLocSchedCancel_quiet, ↓State.patchDo_quiet, ↓execLatStop_quiet, ↓execLatStart_quiet, ↓execArcSet_quiet, ↓execArcStartAt_quiet, ↓execArcStopAtEnd_quiet, ↓execArcClear_quiet]

theorem State.unitItem_quiet (s : State) (it : Item) (k : State → State) (hk : ∀ x, (k x).quiet = x.quiet) :
    (State.unitItem s it k).quiet = s.quiet := by
  unfold State.unitItem
  simp only [↓ite_quiet, ite_self, ↓State.complete_quiet, *]

theorem execPrmArm_quiet (it : Item) (s : State) :
    quietOf (execPrmArm it s) = some s.quiet := by
  unfold execPrmArm
  simp only [↓ite_quiet, ite_self, implies_true, ↓serve_quiet, ↓State.unitItem_quiet, ↓State.complete_quiet, ↓State.setUnit_quiet, ↓State.unitTo_quiet]

theorem execPrmDisarm_quiet (it : Item) (s : State) :
    quietOf (execPrmDisarm it s) = some s.quiet := by
  unfold execPrmDisarm
  simp only [↓ite_quiet, ite_self, implies_true, ↓serve_quiet, ↓State.unitItem_quiet, ↓State.complete_quiet, ↓State.unitTo_quiet]

theorem execPrmTrigger_quiet (it : Item) (s : State) :
    quietOf (execPrmTrigger it s) = some s.quiet := by
  unfold execPrmTrigger
  simp only [↓ite_quiet, ite_self, implies_true, ↓serve_quiet, ↓State.unitItem_quiet, ↓State.complete_quiet, ↓State.setCoinc_quiet, ↓State.unitFire_quiet]

theorem execPrmMark_quiet (it : Item) (s : State) :
    quietOf (execPrmMark it s) = some s.quiet := by
  unfold execPrmMark
  simp only [implies_true, ↓serve_quiet, ↓State.complete_quiet, ↓State.prmMarker_quiet]

theorem execPrmRead_quiet (it : Item) (s : State) :
    quietOf (execPrmRead it s) = some s.quiet := by
  unfold execPrmRead
  refine serve_quiet _ _ _ (fun s => ?_)
  split <;> simp only [↓State.complete_quiet, ↓State.bufPutBytes_quiet]

theorem execPrmHistRead_quiet (it : Item) (s : State) :
    quietOf (execPrmHistRead it s) = some s.quiet := by
  unfold execPrmHistRead
  refine serve_quiet _ _ _ (fun s => ?_)
  simp only [↓ite_quiet, ↓State.complete_quiet, ↓State.bufPut_quiet]
  split
  · rfl
  · split
    · rfl
    · split
      · rfl
      · split <;> simp only [↓ite_quiet, ↓State.complete_quiet, ↓State.bufPut_quiet]

theorem execHlxRead_quiet (it : Item) (s : State) :
    quietOf (execHlxRead it s) = some s.quiet := by
  unfold execHlxRead
  simp only [implies_true, ↓serve_quiet, ↓State.hlxRead_quiet]

theorem execHlxFreeze_quiet (it : Item) (s : State) :
    quietOf (execHlxFreeze it s) = some s.quiet := by
  unfold execHlxFreeze
  simp only [↓ite_quiet, ite_self, implies_true, ↓serve_quiet, ↓State.complete_quiet, ↓State.setHlx_quiet]

theorem execHlxUnfreeze_quiet (it : Item) (s : State) :
    quietOf (execHlxUnfreeze it s) = some s.quiet := by
  unfold execHlxUnfreeze
  simp only [↓ite_quiet, ite_self, implies_true, ↓serve_quiet, ↓State.complete_quiet, ↓State.endFreeze_quiet]

theorem execHlxFfRearm_quiet (it : Item) (s : State) :
    quietOf (execHlxFfRearm it s) = some s.quiet := by
  unfold execHlxFfRearm
  refine serve_quiet _ _ _ (fun s => ?_)
  split <;> simp only [↓State.complete_quiet, ↓State.setHlx_quiet]

theorem execEthTxFlush_quiet (it : Item) (s : State) :
    quietOf (execEthTxFlush it s) = some s.quiet := by
  unfold execEthTxFlush
  refine serve_quiet _ _ _ (fun s => ?_)
  simp only [↓ite_quiet, ↓State.complete_quiet, ↓State.ethClean_quiet, ↓State.ethSet_quiet]
  split
  · rfl
  · refine (foldl_quiet _ (fun s f => ?_) _ _).trans (by simp only [↓ite_quiet, ↓State.complete_quiet, ↓State.ethClean_quiet, ↓State.ethSet_quiet])
    split <;> simp only [↓ite_quiet, ↓State.complete_quiet, ↓State.ethClean_quiet, ↓State.ethSet_quiet]

theorem execCanTx_quiet (it : Item) (s : State) :
    quietOf (execCanTx it s) = some s.quiet := by
  unfold execCanTx
  simp only [implies_true, ↓serve_quiet, ↓State.canTx_quiet]

theorem execCanFlush_quiet (it : Item) (s : State) :
    quietOf (execCanFlush it s) = some s.quiet := by
  unfold execCanFlush
  simp only [↓ite_quiet, ite_self, implies_true, ↓foldl_quiet, ↓serve_quiet, ↓State.complete_quiet, ↓State.canDone_quiet]

theorem execVxlWrite_quiet (it : Item) (s : State) :
    quietOf (execVxlWrite it s) = some s.quiet := by
  unfold execVxlWrite
  simp only [↓ite_quiet, ite_self, implies_true, ↓serve_quiet, ↓State.complete_quiet, ↓State.coPut_quiet]

theorem execVxlLeave_quiet (it : Item) (s : State) :
    quietOf (execVxlLeave it s) = some s.quiet := by
  unfold execVxlLeave
  simp only [↓ite_quiet, ite_self, implies_true, ↓serve_quiet, ↓State.complete_quiet, ↓State.holdItem_quiet, ↓State.leaveList_quiet, ↓State.sendTo_quiet]

theorem execVxlMembers_quiet (it : Item) (s : State) :
    quietOf (execVxlMembers it s) = some s.quiet := by
  unfold execVxlMembers
  simp only [implies_true, ↓serve_quiet, ↓State.complete_quiet, ↓State.bufPut_quiet]

theorem State.reqAsked_quiet (s : State) :
    (State.reqAsked s).quiet = s.quiet := by
  rfl

theorem execPerStopReq_quiet (it : Item) (s : State) :
    quietOf (execPerStopReq it s) = some s.quiet := by
  unfold execPerStopReq
  (repeat' split) <;> simp only [↓ite_quiet, ite_self, implies_true, ↓serve_quiet, ↓State.complete_quiet, ↓State.reqAsked_quiet, ↓State.setF_quiet, ↓State.holdItem_quiet]

theorem execFctOutput_quiet (it : Item) (s : State) :
    quietOf (execFctOutput it s) = some s.quiet := by
  unfold execFctOutput
  simp only [implies_true, ↓serve_quiet, ↓State.fctOutput_quiet]

theorem execFctRestore_quiet (it : Item) (s : State) :
    quietOf (execFctRestore it s) = some s.quiet := by
  unfold execFctRestore
  simp only [↓ite_quiet, ite_self, implies_true, ↓serve_quiet, ↓State.complete_quiet, ↓State.holdItem_quiet]

theorem execFctPiclear_quiet (it : Item) (s : State) :
    quietOf (execFctPiclear it s) = some s.quiet := by
  unfold execFctPiclear
  simp only [↓ite_quiet, ite_self, implies_true, ↓serve_quiet, ↓State.complete_quiet, ↓State.wr_quiet]

theorem execFctCal_quiet (it : Item) (s : State) :
    quietOf (execFctCal it s) = some s.quiet := by
  unfold execFctCal
  simp only [↓ite_quiet, ite_self, implies_true, ↓serve_quiet, ↓State.complete_quiet, ↓State.holdItem_quiet, ↓State.setFacet_quiet]

theorem execFctDiagPath_quiet (it : Item) (s : State) :
    quietOf (execFctDiagPath it s) = some s.quiet := by
  unfold execFctDiagPath
  simp only [implies_true, ↓serve_quiet, ↓State.fctDiag_quiet]

theorem execFctCalsetRead_quiet (it : Item) (s : State) :
    quietOf (execFctCalsetRead it s) = some s.quiet := by
  unfold execFctCalsetRead
  simp only [↓ite_quiet, ite_self, implies_true, ↓serve_quiet, ↓State.complete_quiet, ↓State.bufPut_quiet]

theorem execFctCalsetWrite_quiet (it : Item) (s : State) :
    quietOf (execFctCalsetWrite it s) = some s.quiet := by
  unfold execFctCalsetWrite
  simp only [↓ite_quiet, ite_self, implies_true, ↓serve_quiet, ↓State.complete_quiet, ↓State.holdItem_quiet]

theorem execFctTrimdrive_quiet (it : Item) (s : State) :
    quietOf (execFctTrimdrive it s) = some s.quiet := by
  unfold execFctTrimdrive
  simp only [implies_true, ↓serve_quiet, ↓State.fctTrim_quiet]

theorem execRest_quiet (op : Nat) (it : Item) (s : State) :
    quietOf (execRest op it s) = some s.quiet := by
  unfold execRest
  (repeat' split) <;> simp only [↓quietOf_go, ↓execPrmArm_quiet, ↓execPrmDisarm_quiet, ↓execPrmTrigger_quiet, ↓execPrmMark_quiet, ↓execPrmRead_quiet, ↓execPrmHistRead_quiet, ↓execHlxRead_quiet, ↓execHlxFreeze_quiet, ↓execHlxUnfreeze_quiet, ↓execHlxFfRearm_quiet, ↓execEthTxFlush_quiet, ↓execCanTx_quiet, ↓execCanFlush_quiet, ↓execVxlWrite_quiet, ↓execVxlLeave_quiet, ↓execVxlMembers_quiet, ↓execPerStopReq_quiet, ↓execFctOutput_quiet, ↓execFctRestore_quiet, ↓execFctPiclear_quiet, ↓execFctCal_quiet, ↓execFctDiagPath_quiet, ↓execFctCalsetRead_quiet, ↓execFctCalsetWrite_quiet, ↓execFctTrimdrive_quiet]

theorem State.takeRing_quiet (s : State) (img : Image) (n : Nat) :
    (State.takeRing s img n).quiet = s.quiet := by
  unfold State.takeRing
  simp only [↓ite_quiet, ite_self, ↓State.wr_quiet]

theorem State.partnerLost_quiet (s : State) :
    (State.partnerLost s).quiet = s.quiet := by
  unfold State.partnerLost
  simp only [↓State.quiet_mk, ↓Quiet.fold, ↓ite_quiet, ite_self, implies_true, ↓foldl_quiet, ↓State.log_quiet, ↓State.complete_quiet]

theorem State.pathDown_quiet (s : State) (path : Nat) :
    (State.pathDown s path).quiet = s.quiet := by
  unfold State.pathDown
  simp only [↓State.quiet_mk, ↓Quiet.fold, ↓ite_quiet, ite_self, ↓State.incF_quiet, ↓State.setF_quiet, ↓State.log_quiet, ↓State.degraded_quiet]

theorem State.plainWrite_quiet (s : State) (r : Reg) (a : Nat) (v : Word) :
    (State.plainWrite s r a v).quiet = s.quiet := by
  unfold State.plainWrite
  simp only [↓State.wrA_quiet]

theorem State.prpNew_quiet (s : State) (src : Nat) (seq : Nat) :
    (State.prpNew s src seq).1.quiet = s.quiet := by
  unfold State.prpNew
  simp only [↓State.quiet_mk, ↓Quiet.fold, ↓ite_quiet, ite_self, ↓ite_fst, ↓State.incF_quiet]

theorem State.prpWrong_quiet (s : State) (p : Nat) (bs : List Byte) :
    (State.prpWrong s p bs).quiet = s.quiet := by
  unfold State.prpWrong
  simp only [↓State.logLim_quiet, ↓State.incF_quiet]

theorem State.putEntries_quiet (s : State) (m : Nat) (es : List (List Word)) :
    (State.putEntries s m es).quiet = s.quiet := by
  unfold State.putEntries
  simp only [implies_true, ↓foldl_quiet, ↓State.cqWrite_quiet]

theorem State.pwrBusy_quiet (s : State) :
    (State.pwrBusy s).quiet = s.quiet := by
  unfold State.pwrBusy
  simp only [↓State.setF_quiet]

theorem State.pwrDeny_quiet (s : State) (reason : Nat) (dom : Nat) :
    (State.pwrDeny s reason dom).quiet = s.quiet := by
  unfold State.pwrDeny
  simp only [↓ite_quiet, ite_self, ↓State.wr_quiet, ↓State.log_quiet]

theorem State.raiseFaults_quiet (s : State) :
    (State.raiseFaults s).quiet = s.quiet := by
  unfold State.raiseFaults
  simp only [↓State.quiet_mk, ↓Quiet.fold]

theorem State.rampEnd_quiet (s : State) :
    (State.rampEnd s).quiet = s.quiet := by
  unfold State.rampEnd
  simp only [↓State.quiet_mk, ↓Quiet.fold, ↓ite_quiet, ite_self, implies_true, ↓foldl_quiet, ↓State.completeAt_quiet]

theorem State.rampOff_quiet (s : State) (base : Nat) :
    (State.rampOff s base).quiet = s.quiet := by
  unfold State.rampOff
  simp only [↓State.quiet_mk, ↓Quiet.fold]

theorem State.recEnter_quiet (s : State) (r : RecSt) :
    (State.recEnter s r).quiet = s.quiet := by
  unfold State.recEnter
  simp only [↓ite_quiet, ite_self, ↓State.recWrite_quiet, ↓State.log_quiet, ↓State.raise_quiet]

theorem State.recFeed_quiet (s : State) (ch : Nat) (h : HistCh) (miss : Nat) (raw : Word) (t : Int) :
    (State.recFeed s ch h miss raw t).quiet = s.quiet := by
  unfold State.recFeed
  simp only [↓State.setPrm_quiet]

theorem State.redClose_quiet (s : State) (e : Nat) (k : Nat) (r : RedSt) :
    (State.redClose s e k r).quiet = s.quiet := by
  unfold State.redClose
  simp only [↓State.prmEntry_quiet, ↓State.setRed_quiet]

theorem State.redTo_quiet (e k : Nat) (t : Int) (n : Nat) (s : State) : (State.redTo e k t n s).quiet = s.quiet := by
  induction n generalizing s with
  | zero => rfl
  | succ n ih =>
    unfold State.redTo
    split <;> simp only [ih, ↓State.redClose_quiet, ↓ite_quiet, ite_self, ↓State.redClose_quiet]

theorem State.redValue_quiet (s : State) (e : Nat) (c : CoEntry) (k : Nat) :
    (State.redValue s e c k).quiet = s.quiet := by
  unfold State.redValue
  split
  · rfl
  · simp only [↓ite_quiet, ite_self, ↓State.redTo_quiet, ↓State.setRed_quiet]
    split
    · simp only [↓ite_quiet, ite_self, ↓State.redTo_quiet, ↓State.setRed_quiet]
    · simp only [↓ite_quiet, ite_self, ↓State.redTo_quiet, ↓State.setRed_quiet]

theorem State.redoTan_quiet (s : State) (op : Nat) (it : Item) :
    (State.redoTan s op it).quiet = s.quiet := by
  unfold State.redoTan
  simp only [↓ite_quiet, ite_self, ↓State.setLoop_quiet]

theorem State.redoItem_quiet (s : State) (op : Nat) (it : Item) :
    (State.redoItem s op it).quiet = s.quiet := by
  unfold State.redoItem
  simp only [↓ite_quiet, ite_self, ↓State.redoTan_quiet, ↓State.trkCmd_quiet, ↓State.cntOp_quiet, ↓State.patchDo_quiet, ↓State.frameOutput_quiet]

theorem State.redriveAll_quiet (s : State) (n : Nat) :
    (State.redriveAll s n).quiet = s.quiet := by
  unfold State.redriveAll
  simp only [implies_true, ↓foldl_quiet, ↓State.redrive_quiet]

theorem State.resetRejected_quiet (s : State) (reason : Nat) (ms : Nat) :
    (State.resetRejected s reason ms).quiet = s.quiet := by
  unfold State.resetRejected
  simp only [↓State.log_quiet, ↓State.incF_quiet]

theorem State.resume_quiet (s : State) (c : Checkpoint) :
    (State.resume s c).quiet = s.quiet := by
  unfold State.resume
  simp only [↓State.setProc_quiet, ↓State.locElapse_quiet]

theorem State.ringBase_quiet (s : State) (r : Reg) (a : Nat) (enable : Bool) (v : Word) :
    quietOf (State.ringBase s r a enable v) = some s.quiet := by
  unfold State.ringBase
  simp only [↓quietOf_go, ↓ite_quietOf, ite_self, ↓State.wrA_quiet]

theorem State.sqEnable_quiet (s : State) (n : Nat) :
    (State.sqEnable s n).quiet = s.quiet := by
  unfold State.sqEnable
  simp only [↓State.quiet_mk, ↓Quiet.fold, ↓State.setF_quiet, ↓State.wr_quiet, ↓State.log_quiet]
  (repeat' split) <;> simp only [↓State.quiet_mk, ↓Quiet.fold, ↓State.setF_quiet, ↓State.wr_quiet, ↓State.log_quiet]

theorem execRingEnable_quiet (ring : Nat) (value : Word) (s : State) :
    quietOf (execRingEnable ring value s) = some s.quiet := by
  unfold execRingEnable
  simp only [↓quietOf_go, ↓ite_quietOf, ite_self, ↓State.sqEnable_quiet, ↓State.wr_quiet, ↓State.cqEnable_quiet]

theorem execRingDisable_quiet (ring : Nat) (s : State) :
    quietOf (execRingDisable ring s) = some s.quiet := by
  unfold execRingDisable
  simp only [↓quietOf_go, ↓ite_quietOf, ite_self, ↓State.sqOff_quiet, ↓State.setF_quiet, ↓State.cqOff_quiet]

theorem State.ringCtrl_quiet (s : State) (r : Reg) (a : Nat) (ring : Nat) (v : Word) :
    quietOf (State.ringCtrl s r a ring v) = some s.quiet := by
  unfold State.ringCtrl
  simp only [↓quietOf_go, ↓ite_quietOf, ite_self, ↓execRingEnable_quiet, ↓execRingDisable_quiet, ↓State.wrA_quiet]

theorem State.ringError_quiet (s : State) (ring : Nat) (err : Nat) :
    (State.ringError s ring err).quiet = s.quiet := by
  unfold State.ringError
  simp only [↓ite_quiet, ite_self, ↓State.setF_quiet, ↓State.log_quiet]

theorem State.scanEntry_quiet (s : State) (src : Nat) (n : Nat) (x : ScanEntry) :
    (State.scanEntry s src n x).quiet = s.quiet := by
  unfold State.scanEntry
  simp only [↓State.quiet_mk, ↓Quiet.fold, ↓State.setCo_quiet]
  (repeat' split) <;> simp only [↓State.quiet_mk, ↓Quiet.fold, ↓State.setCo_quiet]

theorem State.scanSeen_quiet (s : State) (src : Nat) :
    (State.scanSeen s src).quiet = s.quiet := by
  unfold State.scanSeen
  simp only [↓State.quiet_mk, ↓Quiet.fold, ↓ite_quiet, ite_self]

theorem State.sendScan_quiet (s : State) (n : Nat) :
    (State.sendScan s n).quiet = s.quiet := by
  unfold State.sendScan
  simp only [↓ite_quiet, ite_self, implies_true, ↓foldl_quiet, ↓State.sendTo_quiet, ↓State.sendFrame_quiet]

theorem State.setSlice_quiet (s : State) (n : Nat) (k : Nat) (x : Int × Int × Int) :
    (State.setSlice s n k x).quiet = s.quiet := by
  unfold State.setSlice
  simp only [↓State.setFacet_quiet]

theorem State.setSupply_quiet (s : State) (ch : Nat) (need : Nat) :
    (State.setSupply s ch need).quiet = s.quiet := by
  unfold State.setSupply
  simp only [↓State.setF_quiet, ↓State.setChan_quiet]

theorem State.shedGroup_quiet (s : State) (n : Nat) (g : Nat) :
    (State.shedGroup s n g).quiet = s.quiet := by
  unfold State.shedGroup
  simp only [↓ite_quiet, ite_self, implies_true, ↓foldl_quiet, ↓State.log_quiet, ↓State.redrive_quiet, ↓State.setChan_quiet]

theorem State.showPer_quiet (s : State) :
    (State.showPer s).quiet = s.quiet := by
  unfold State.showPer
  simp only [implies_true, ↓foldl_quiet, ↓State.wr_quiet]
  (repeat' split) <;> simp only [implies_true, ↓foldl_quiet, ↓State.wr_quiet]

theorem State.slotStart_quiet (s : State) (n : Nat) (sl : Nat) (inp : Option Word) :
    (State.slotStart s n sl inp).quiet = s.quiet := by
  unfold State.slotStart
  simp only [↓State.setSlot_quiet]
  (repeat' split) <;> simp only [↓State.setSlot_quiet]

theorem State.slotsStart_quiet (s : State) (n : Nat) (outs : List Nat) (ins : List (Option Word)) :
    (State.slotsStart s n outs ins).quiet = s.quiet := by
  unfold State.slotsStart
  simp only [↓ite_quiet, ite_self, implies_true, ↓foldl_quiet, ↓State.slotStart_quiet]

theorem State.spotWord_quiet (s : State) (n : Nat) (ch : Nat) (flags : Nat) (code : Nat) :
    (State.spotWord s n ch flags code).quiet = s.quiet := by
  unfold State.spotWord
  simp only [↓ite_quiet, ite_self, ↓State.wr_quiet]

theorem State.stateIdx_quiet (s : State) (n : Nat) (idx : Word) :
    (State.stateIdx s n idx).quiet = s.quiet := by
  unfold State.stateIdx
  simp only [↓State.quiet_mk, ↓Quiet.fold]

theorem State.stopDone_quiet (s : State) :
    (State.stopDone s).quiet = s.quiet := by
  unfold State.stopDone
  (repeat' split) <;> simp only [implies_true, ↓foldl_quiet, ↓State.complete_quiet]

theorem State.streamLost_quiet (s : State) (r : LossRun) :
    (State.streamLost s r).quiet = s.quiet := by
  unfold State.streamLost
  simp only [↓ite_quiet, ite_self, ↓State.setHlx_quiet, ↓State.logSynth_quiet]

theorem State.switchHold_quiet (s : State) :
    (State.switchHold s).quiet = s.quiet := by
  unfold State.switchHold
  simp only [↓State.quiet_mk, ↓Quiet.fold, ↓State.capture_quiet]

theorem State.syncLeft_quiet (s : State) (cause : Nat) :
    (State.syncLeft s cause).quiet = s.quiet := by
  unfold State.syncLeft
  simp only [↓State.quiet_mk, ↓Quiet.fold, ↓State.log_quiet, ↓State.mirTo_quiet, ↓State.latShadowOff_quiet]

theorem State.takeAck_quiet (s : State) (n : Nat) (ack : Nat) :
    (State.takeAck s n ack).quiet = s.quiet := by
  unfold State.takeAck
  simp only [↓State.setFacet_quiet, ↓State.setF_quiet, ↓State.commitItem_quiet]
  (repeat' split) <;> simp only [↓State.setFacet_quiet, ↓State.setF_quiet, ↓State.commitItem_quiet]

theorem State.takeCmd_quiet (s : State) (n : Nat) (cmd : Nat) (arg : Nat) :
    (State.takeCmd s n cmd arg).quiet = s.quiet := by
  unfold State.takeCmd
  simp only [↓ite_quiet, ite_self, ↓State.setFacet_quiet, ↓State.setChan_quiet]

theorem State.takeDescriptor_quiet (s : State) (n : Nat) (ws : List Word) :
    (State.takeDescriptor s n ws).quiet = s.quiet := by
  unfold State.takeDescriptor
  simp only [↓State.quiet_mk, ↓Quiet.fold, ↓State.fetchReject_quiet, ↓State.intakeAdd_quiet, ↓State.tryRemote_quiet]
  (repeat' split) <;> simp only [↓State.quiet_mk, ↓Quiet.fold, ↓State.fetchReject_quiet, ↓State.intakeAdd_quiet, ↓State.tryRemote_quiet]

theorem State.takeDi_quiet (s : State) (n : Nat) (b : Int) (bs : List Byte) :
    (State.takeDi s n b bs).quiet = s.quiet := by
  unfold State.takeDi
  simp only [↓ite_quiet, ite_self, implies_true, ↓foldl_quiet, ↓State.diDeliver_quiet]

theorem State.takeOut_quiet (s : State) (ch : Nat) (cfgValid : Bool) (v : Word) :
    (State.takeOut s ch cfgValid v).quiet = s.quiet := by
  unfold State.takeOut
  simp only [↓ite_quiet, ↓State.setChan_quiet, ↓State.setSlot_quiet]
  (repeat' split) <;> simp only [↓ite_quiet, ↓State.setChan_quiet, ↓State.setSlot_quiet]

theorem State.takeHart_quiet (s : State) (n : Nat) (ctl : Nat) (data : Byte) :
    (State.takeHart s n ctl data).quiet = s.quiet := by
  unfold State.takeHart
  simp only [↓State.setFacet_quiet, ↓State.emit_quiet]
  (repeat' split) <;> simp only [↓State.setFacet_quiet, ↓State.emit_quiet]

theorem State.takeDown_quiet (s : State) (n : Nat) (bs : List Byte) (volts : List Int) :
    (State.takeDown s n bs volts).quiet = s.quiet := by
  unfold State.takeDown
  simp only [↓ite_quiet, ite_self, implies_true, ↓foldl_quiet, ↓State.setFacet_quiet, ↓State.applyUpd_quiet, ↓State.takeOut_quiet, ↓State.takeHart_quiet, ↓State.takeCmd_quiet, ↓State.redriveAll_quiet, ↓State.log_quiet]
  (repeat' split) <;> simp only [↓ite_quiet, ite_self, implies_true, ↓foldl_quiet, ↓State.setFacet_quiet, ↓State.applyUpd_quiet, ↓State.takeOut_quiet, ↓State.takeHart_quiet, ↓State.takeCmd_quiet, ↓State.redriveAll_quiet, ↓State.log_quiet]

theorem State.takeEdge_quiet (s : State) (ch : Nat) (t : Int) :
    (State.takeEdge s ch t).quiet = s.quiet := by
  unfold State.takeEdge
  simp only [↓State.wr_quiet, ↓State.setChan_quiet]

theorem State.takeFrame_quiet (s : State) (f : Frame) :
    (State.takeFrame s f).quiet = s.quiet := by
  unfold State.takeFrame
  simp only [↓State.quiet_mk, ↓Quiet.fold, ↓ite_quiet, ite_self, ↓State.uplinkNote_quiet]

theorem State.takeHartRx_quiet (s : State) (n : Nat) (rxc : Nat) (rxd : Nat) :
    (State.takeHartRx s n rxc rxd).quiet = s.quiet := by
  unfold State.takeHartRx
  simp only [↓ite_quiet, ite_self, ↓State.setFacet_quiet, ↓State.hartReply_quiet]
  (repeat' split) <;> simp only [↓ite_quiet, ite_self, ↓State.setFacet_quiet, ↓State.hartReply_quiet]

theorem State.takePresent_quiet (s : State) (n : Nat) (t0 : Int) (bs : List Byte) :
    (State.takePresent s n t0 bs).quiet = s.quiet := by
  unfold State.takePresent
  simp only [↓ite_quiet, ite_self, implies_true, ↓foldl_quiet, ↓State.setChan_quiet, ↓State.setF_quiet, ↓State.wr_quiet, ↓State.coPut_quiet]

theorem State.takeSample_quiet (s : State) (n : Nat) (fseq : Nat) (t0 : Int) (w : Word) :
    (State.takeSample s n fseq t0 w).quiet = s.quiet := by
  unfold State.takeSample
  simp only [↓ite_quiet, ite_self, ↓State.spotWord_quiet, ↓State.setFacet_quiet, ↓State.sample_quiet, ↓State.setChan_quiet]

theorem State.takeStatus_quiet (s : State) (n : Nat) (bs : List Byte) :
    (State.takeStatus s n bs).quiet = s.quiet := by
  unfold State.takeStatus
  simp only [implies_true, ↓foldl_quiet, ↓State.wr_quiet, ↓State.setF_quiet, ↓State.setFacet_quiet]

theorem State.takeUp_quiet (s : State) (n : Nat) (bs : List Byte) :
    (State.takeUp s n bs).quiet = s.quiet := by
  unfold State.takeUp
  (repeat' split) <;> simp only [↓State.quiet_mk, ↓Quiet.fold, ↓ite_quiet, ite_self, implies_true, ↓foldl_quiet, ↓State.takeStatus_quiet, ↓State.setFacet_quiet, ↓State.takeSample_quiet, ↓State.takeEdge_quiet, ↓State.takeHartRx_quiet, ↓State.takeAck_quiet, ↓State.takePresent_quiet, ↓State.takeDi_quiet, ↓State.setChan_quiet]

theorem State.tanDue_quiet (s : State) (n : Nat) (l : Nat) :
    (State.tanDue s n l).quiet = s.quiet := by
  unfold State.tanDue
  simp only [↓ite_quiet, ite_self, ↓State.blockStep_quiet, ↓State.loopTake_quiet]

theorem State.tempShow_quiet (s : State) (junction : Int) (board : Int) :
    (State.tempShow s junction board).quiet = s.quiet := by
  unfold State.tempShow
  simp only [↓State.quiet_mk, ↓Quiet.fold, ↓State.setF_quiet]

theorem State.totalShed_quiet (s : State) (n : Nat) (k : Nat) :
    (State.totalShed s n k).quiet = s.quiet := by
  unfold State.totalShed
  simp only [↓State.setFacet_quiet, ↓State.doOff_quiet]
  (repeat' split) <;> simp only [↓State.setFacet_quiet, ↓State.doOff_quiet]

theorem State.typeSubs_quiet (s : State) (ints : List Nat) :
    (State.typeSubs s ints).quiet = s.quiet := by
  unfold State.typeSubs
  simp only [↓State.quiet_mk, ↓Quiet.fold]

theorem State.uePrism_quiet (s : State) (addr : Nat) :
    (State.uePrism s addr).quiet = s.quiet := by
  unfold State.uePrism
  simp only [↓ite_quiet, ite_self, ↓State.keptCut_quiet, ↓State.setPrm_quiet, ↓State.log_quiet]

theorem State.ueVertex_quiet (s : State) (slot : Nat) :
    (State.ueVertex s slot).quiet = s.quiet := by
  unfold State.ueVertex
  simp only [↓State.setVtx_quiet]
  (repeat' split) <;> simp only [↓State.setVtx_quiet]

theorem State.ueStaged_quiet (s : State) (n : Nat) :
    (State.ueStaged s n).quiet = s.quiet := by
  unfold State.ueStaged
  simp only [↓State.quiet_mk, ↓Quiet.fold]
  (repeat' split) <;> simp only [↓State.quiet_mk, ↓Quiet.fold]

theorem State.ueLoss_quiet (s : State) (region : Nat) (addr : Nat) (obj : Nat) :
    (State.ueLoss s region addr obj).quiet = s.quiet := by
  unfold State.ueLoss
  simp only [↓State.quiet_mk, ↓Quiet.fold, ↓ite_quiet, ite_self, ↓State.uePrism_quiet, ↓State.setHlx_quiet, ↓State.setLoop_quiet, ↓State.setCo_quiet, ↓State.ueVertex_quiet, ↓State.ueStaged_quiet, ↓State.crossingUe_quiet]

theorem State.uePoison_quiet (s : State) (addr : Nat) :
    (State.uePoison s addr).quiet = s.quiet := by
  unfold State.uePoison
  simp only [↓State.log_quiet, ↓State.ueNote_quiet]

theorem State.uePoisoned_quiet (s : State) (region : Nat) (addr : Nat) :
    (State.uePoisoned s region addr).quiet = s.quiet := by
  unfold State.uePoisoned
  simp only [↓State.quiet_mk, ↓Quiet.fold, ↓State.log_quiet, ↓State.ueNote_quiet]

theorem State.ueRebuilt_quiet (s : State) (region : Nat) (addr : Nat) :
    (State.ueRebuilt s region addr).quiet = s.quiet := by
  unfold State.ueRebuilt
  simp only [↓State.log_quiet, ↓State.ueNote_quiet]

theorem State.unitEnd_quiet (s : State) (u : Nat) :
    (State.unitEnd s u).quiet = s.quiet := by
  unfold State.unitEnd
  simp only [↓State.unitTo_quiet]

theorem State.unitSample_quiet (s : State) (u : Nat) (x : PrmIn) :
    (State.unitSample s u x).quiet = s.quiet := by
  unfold State.unitSample
  simp only [↓ite_quiet, ite_self, ↓ite_fst, ↓ite_snd, ↓State.setUnit_quiet, ↓State.unitMet_quiet]

theorem State.viewSeen_quiet (s : State) :
    (State.viewSeen s).quiet = s.quiet := by
  rfl

theorem State.wdExpire_quiet (s : State) (source : Nat) (late : Nat) :
    (State.wdExpire s source late).quiet = s.quiet := by
  unfold State.wdExpire
  simp only [↓State.warmTrigger_quiet, ↓State.incF_quiet, ↓State.setF_quiet]

theorem State.winTaken_quiet (s : State) (f : Frame) :
    (State.winTaken s f).quiet = s.quiet := by
  unfold State.winTaken
  simp only [↓State.quiet_mk, ↓Quiet.fold]

theorem execSysResetWarm_quiet (value : Word) (s : State) :
    quietOf (execSysResetWarm value s) = some s.quiet := by
  unfold execSysResetWarm
  simp only [↓ite_quiet, ↓quietOf_go, ↓ite_quietOf, ite_self, ↓State.warmTrigger_quiet, ↓State.chkNow_quiet]

theorem execPwrUnlockWrite_quiet (value : Word) (s : State) :
    quietOf (execPwrUnlockWrite value s) = some s.quiet := by
  unfold execPwrUnlockWrite
  simp only [↓State.quiet_mk, ↓Quiet.fold, ↓quietOf_go, ↓ite_quietOf, ite_self]

theorem execPwrCtrlWrite_quiet (value : Word) (host : Bool) (s : State) :
    quietOf (execPwrCtrlWrite value host s) = some s.quiet := by
  unfold execPwrCtrlWrite
  simp only [↓quietOf_go, ↓ite_quietOf, implies_true, ↓foldl_quiet, ↓State.pwrDeny_quiet, ↓State.wr_quiet, ↓State.domRise_quiet, ↓State.domOff_quiet, ↓State.pwrBusy_quiet]
  (repeat' split) <;> simp only [↓quietOf_go, ↓ite_quietOf, implies_true, ↓foldl_quiet, ↓State.pwrDeny_quiet, ↓State.wr_quiet, ↓State.domRise_quiet, ↓State.domOff_quiet, ↓State.pwrBusy_quiet]

theorem execCfgDataWrite_quiet (value : Word) (s : State) :
    quietOf (execCfgDataWrite value s) = some s.quiet := by
  unfold execCfgDataWrite
  simp only [↓State.quiet_mk, ↓Quiet.fold, ↓quietOf_go, ↓ite_quietOf, ite_self, ↓State.stagePut_quiet]

theorem execFltHack_quiet (sev : Nat) (s : State) :
    quietOf (execFltHack sev s) = some s.quiet := by
  unfold execFltHack
  simp only [↓State.quiet_mk, ↓Quiet.fold, ↓quietOf_go, ↓ite_quietOf, ite_self]

theorem execFltWdWrite_quiet (value : Word) (s : State) :
    quietOf (execFltWdWrite value s) = some s.quiet := by
  unfold execFltWdWrite
  simp only [↓quietOf_go, ↓ite_quietOf, ite_self, ↓State.kickAll_quiet, ↓State.wr_quiet]

theorem execFltWdkick_quiet (value : Word) (s : State) :
    quietOf (execFltWdkick value s) = some s.quiet := by
  unfold execFltWdkick
  simp only [↓State.quiet_mk, ↓Quiet.fold, ↓quietOf_go, ↓ite_quietOf, ite_self]

theorem execMerSnap_quiet (s : State) :
    quietOf (execMerSnap s) = some s.quiet := by
  unfold execMerSnap
  simp only [↓quietOf_go, ↓ite_quietOf, ite_self, ↓State.wr_quiet]

theorem execVtxCoreCiWrite_quiet (core : Nat) (value : Word) (s : State) :
    quietOf (execVtxCoreCiWrite core value s) = some s.quiet := by
  unfold execVtxCoreCiWrite
  simp only [↓ite_quiet, ↓quietOf_go, ↓ite_quietOf, ite_self, ↓State.wr_quiet, ↓State.setF_quiet, ↓State.incF_quiet]

theorem execVtxCoreDone_quiet (core : Nat) (value : Word) (s : State) :
    quietOf (execVtxCoreDone core value s) = some s.quiet := by
  unfold execVtxCoreDone
  simp only [↓ite_quiet, ↓quietOf_go, ↓ite_quietOf, ite_self, implies_true, ↓foldl_quiet, ↓State.setVtx_quiet, ↓State.log_quiet, ↓State.setCnt_quiet]
  (repeat' split) <;> simp only [↓ite_quiet, ↓quietOf_go, ↓ite_quietOf, ite_self, implies_true, ↓foldl_quiet, ↓State.setVtx_quiet, ↓State.log_quiet, ↓State.setCnt_quiet]

theorem execVtxCoreRaise_quiet (core : Nat) (source : Nat) (s : State) :
    quietOf (execVtxCoreRaise core source s) = some s.quiet := by
  unfold execVtxCoreRaise
  simp only [↓quietOf_go, ↓ite_quietOf, ite_self, ↓State.setVtx_quiet, ↓State.raise_quiet]

theorem execTanGainWrite_quiet (t : Nat) (i : Nat) (value : Word) (s : State) :
    quietOf (execTanGainWrite t i value s) = some s.quiet := by
  unfold execTanGainWrite
  simp only [↓quietOf_go, ↓ite_quietOf, ite_self, ↓State.directWord_quiet]

theorem execTanKffWrite_quiet (l : Nat) (value : Word) (s : State) :
    quietOf (execTanKffWrite l value s) = some s.quiet := by
  unfold execTanKffWrite
  simp only [↓quietOf_go, ↓ite_quietOf, ite_self, ↓State.directWord_quiet]

theorem execTanDfiltWrite_quiet (l : Nat) (value : Word) (s : State) :
    quietOf (execTanDfiltWrite l value s) = some s.quiet := by
  unfold execTanDfiltWrite
  simp only [↓quietOf_go, ↓ite_quietOf, ite_self, ↓State.directWord_quiet]

theorem execArcBootWrite_quiet (g : Nat) (value : Word) (s : State) :
    quietOf (execArcBootWrite g value s) = some s.quiet := by
  unfold execArcBootWrite
  simp only [↓quietOf_go, ↓ite_quietOf, ite_self, ↓State.directWord_quiet]

theorem execArcIrqdivWrite_quiet (g : Nat) (value : Word) (s : State) :
    quietOf (execArcIrqdivWrite g value s) = some s.quiet := by
  unfold execArcIrqdivWrite
  simp only [↓quietOf_go, ↓ite_quietOf, ite_self, ↓State.directWord_quiet]

theorem execMirLocalWrite_quiet (hi : Bool) (value : Word) (s : State) :
    quietOf (execMirLocalWrite hi value s) = some s.quiet := by
  unfold execMirLocalWrite
  simp only [↓quietOf_go, ↓ite_quietOf, ite_self, ↓State.wr_quiet]

theorem execPerStopWrite_quiet (value : Word) (s : State) :
    quietOf (execPerStopWrite value s) = some s.quiet := by
  unfold execPerStopWrite
  simp only [↓quietOf_go, ↓ite_quietOf, ite_self, ↓State.setF_quiet]

theorem execFctDithrWrite_quiet (ch : Nat) (value : Word) (s : State) :
    quietOf (execFctDithrWrite ch value s) = some s.quiet := by
  unfold execFctDithrWrite
  simp only [↓quietOf_go, ↓ite_quietOf, ite_self, ↓State.directClamp_quiet, ↓State.directFct_quiet]

theorem execFctDebounceWrite_quiet (ch : Nat) (value : Word) (s : State) :
    quietOf (execFctDebounceWrite ch value s) = some s.quiet := by
  unfold execFctDebounceWrite
  simp only [↓quietOf_go, ↓ite_quietOf, ite_self, ↓State.directClamp_quiet, ↓State.directFct_quiet]

theorem execFctSpotSelWrite_quiet (n : Nat) (value : Word) (s : State) :
    quietOf (execFctSpotSelWrite n value s) = some s.quiet := by
  unfold execFctSpotSelWrite
  simp only [↓quietOf_go, ↓ite_quietOf, ite_self, ↓State.wr_quiet]

theorem State.writeEng_quiet (s : State) (r : Reg) (a : Nat) (v : Word) :
    quietOf (State.writeEng s r a v) = some s.quiet := by
  unfold State.writeEng
  simp only [↓quietOf_go, ↓ite_quietOf, ite_self, ↓State.coreWrite_quiet, ↓State.ringBase_quiet, ↓execVtxCoreCiWrite_quiet, ↓execVtxCoreDone_quiet, ↓execVtxCoreRaise_quiet, ↓execTanGainWrite_quiet, ↓execTanKffWrite_quiet, ↓execTanDfiltWrite_quiet, ↓execArcBootWrite_quiet, ↓execArcIrqdivWrite_quiet, ↓State.busoffWrite_quiet, ↓execMirLocalWrite_quiet, ↓execPerStopWrite_quiet, ↓execFctDithrWrite_quiet, ↓execFctDebounceWrite_quiet, ↓execFctSpotSelWrite_quiet, ↓State.plainWrite_quiet]

theorem State.zeroRead_quiet (s : State) (bar2 : Bool) (offset : Nat) :
    (State.zeroRead s bar2 offset).quiet = s.quiet := by
  unfold State.zeroRead
  simp only [↓State.emit_quiet]

theorem execMalformedAccess_quiet (acc : BarAccess) (offset : Nat) (s : State) :
    quietOf (execMalformedAccess acc offset s) = some s.quiet := by
  unfold execMalformedAccess
  simp only [↓ite_quiet, ↓quietOf_go, ↓ite_quietOf, ite_self, ↓State.malformed_quiet, ↓State.zeroRead_quiet]

theorem execOffDomainAccess_quiet (offset : Nat) (s : State) :
    quietOf (execOffDomainAccess offset s) = some s.quiet := by
  unfold execOffDomainAccess
  simp only [↓quietOf_go, ↓ite_quietOf, ite_self, ↓State.offAccess_quiet]

theorem execMirTokenRead_quiet (s : State) :
    quietOf (execMirTokenRead s) = some s.quiet := by
  unfold execMirTokenRead
  simp only [↓State.quiet_mk, ↓Quiet.fold, ↓quietOf_go, ↓ite_quietOf, ite_self, ↓State.fresh_quiet, ↓State.setF_quiet]

theorem execClockRestored_quiet (n : Nat) (s : State) :
    quietOf (execClockRestored n s) = some s.quiet := by
  unfold execClockRestored
  simp only [↓quietOf_go, ↓ite_quietOf, ite_self, ↓State.wr_quiet]

theorem execPwrUnlockExpiry_quiet (s : State) :
    quietOf (execPwrUnlockExpiry s) = some s.quiet := by
  unfold execPwrUnlockExpiry
  simp only [↓State.quiet_mk, ↓Quiet.fold, ↓quietOf_go]

theorem execDomainPowerGood_quiet (n : Nat) (s : State) :
    quietOf (execDomainPowerGood n s) = some s.quiet := by
  unfold execDomainPowerGood
  simp only [↓State.quiet_mk, ↓Quiet.fold, ↓ite_quiet, ↓quietOf_go, ↓ite_quietOf, ite_self, ↓State.wr_quiet, ↓State.pwrBusy_quiet, ↓State.domUp_quiet]

theorem execDomainOffComplete_quiet (n : Nat) (s : State) :
    quietOf (execDomainOffComplete n s) = some s.quiet := by
  unfold execDomainOffComplete
  simp only [↓State.quiet_mk, ↓Quiet.fold, ↓quietOf_go, ↓ite_quietOf, ite_self, ↓State.wr_quiet, ↓State.pwrBusy_quiet, ↓State.domAbsent_quiet]

theorem execBaseIdChange_quiet (code : Nat) (s : State) :
    quietOf (execBaseIdChange code s) = some s.quiet := by
  unfold execBaseIdChange
  simp only [↓State.quiet_mk, ↓Quiet.fold, ↓quietOf_go, ↓ite_quietOf, ite_self, ↓State.log_quiet]

theorem execLsSag_quiet (volt : Nat) (s : State) :
    quietOf (execLsSag volt s) = some s.quiet := by
  unfold execLsSag
  simp only [↓quietOf_go, ↓ite_quietOf, ite_self, ↓State.lsShow_quiet, ↓State.log_quiet]

theorem execPowerFail_quiet (volt : Nat) (s : State) :
    quietOf (execPowerFail volt s) = some s.quiet := by
  unfold execPowerFail
  simp only [↓State.quiet_mk, ↓Quiet.fold, ↓ite_quiet, ↓quietOf_go, ↓ite_quietOf, ite_self, ↓State.lsShow_quiet, ↓State.intakeSave_quiet, ↓State.log_quiet, ↓State.chkNow_quiet, ↓State.acqDown_quiet, ↓State.ethRestart_quiet, ↓State.canRestart_quiet, ↓State.engDown_quiet, ↓State.flkDown_quiet]

theorem execSelfRefreshLost_quiet (s : State) :
    quietOf (execSelfRefreshLost s) = some s.quiet := by
  unfold execSelfRefreshLost
  simp only [↓State.quiet_mk, ↓Quiet.fold, ↓quietOf_go, ↓ite_quietOf, ite_self, ↓State.dramLost_quiet]

theorem execTempWarn_quiet (temps : Temps) (s : State) :
    quietOf (execTempWarn temps s) = some s.quiet := by
  unfold execTempWarn
  simp only [↓quietOf_go, ↓ite_quietOf, ite_self, ↓State.tempShow_quiet, ↓State.log_quiet]

theorem execTempCritical_quiet (temps : Temps) (s : State) :
    quietOf (execTempCritical temps s) = some s.quiet := by
  unfold execTempCritical
  simp only [↓quietOf_go, ↓ite_quietOf, ite_self, ↓State.tempShow_quiet, ↓State.log_quiet]

theorem execThermalShutdown_quiet (temps : Temps) (s : State) :
    quietOf (execThermalShutdown temps s) = some s.quiet := by
  unfold execThermalShutdown
  simp only [↓State.quiet_mk, ↓Quiet.fold, ↓ite_quiet, ↓quietOf_go, ↓ite_quietOf, ite_self, implies_true, ↓foldl_quiet, ↓State.tempShow_quiet, ↓State.domEvent_quiet, ↓State.dramLost_quiet, ↓State.wr_quiet, ↓State.allDown_quiet]

theorem execLeverOpen_quiet (s : State) :
    quietOf (execLeverOpen s) = some s.quiet := by
  unfold execLeverOpen
  simp only [↓quietOf_go, ↓State.setF_quiet, ↓State.log_quiet]

theorem execLeverClose_quiet (s : State) :
    quietOf (execLeverClose s) = some s.quiet := by
  unfold execLeverClose
  simp only [↓quietOf_go, ↓State.setF_quiet]

theorem execPresenceContactLost_quiet (contact : Nat) (s : State) :
    quietOf (execPresenceContactLost contact s) = some s.quiet := by
  unfold execPresenceContactLost
  simp only [↓quietOf_go, ↓ite_quietOf, ite_self, ↓State.setF_quiet, ↓State.log_quiet]

theorem execPresenceLost_quiet (s : State) :
    quietOf (execPresenceLost s) = some s.quiet := by
  unfold execPresenceLost
  simp only [↓State.quiet_mk, ↓Quiet.fold, ↓quietOf_go, ↓ite_quietOf, ite_self, ↓State.setF_quiet, ↓State.leaveTold_quiet, ↓State.emit_quiet, ↓State.switchHold_quiet]

theorem execRemovalOutputsOff_quiet (s : State) :
    quietOf (execRemovalOutputsOff s) = some s.quiet := by
  unfold execRemovalOutputsOff
  simp only [↓State.quiet_mk, ↓Quiet.fold, ↓quietOf_go, implies_true, ↓foldl_quiet, ↓State.redriveAll_quiet, ↓State.setFacet_quiet, ↓State.log_quiet, ↓State.lsShow_quiet]
  (repeat' split) <;> simp only [↓State.quiet_mk, ↓Quiet.fold, ↓quietOf_go, implies_true, ↓foldl_quiet, ↓State.redriveAll_quiet, ↓State.setFacet_quiet, ↓State.log_quiet, ↓State.lsShow_quiet]

theorem execCheckpointPeriod_quiet (s : State) :
    quietOf (execCheckpointPeriod s) = some s.quiet := by
  unfold execCheckpointPeriod
  simp only [↓State.quiet_mk, ↓Quiet.fold, ↓quietOf_go, ↓ite_quietOf, ite_self]

theorem execCheckpointCapture_quiet (s : State) :
    quietOf (execCheckpointCapture s) = some s.quiet := by
  unfold execCheckpointCapture
  simp only [↓quietOf_go, ↓ite_quietOf, ite_self, ↓State.setF_quiet, ↓State.chkCapture_quiet]

theorem execCheckpointWriteDone_quiet (s : State) :
    quietOf (execCheckpointWriteDone s) = some s.quiet := by
  unfold execCheckpointWriteDone
  simp only [↓quietOf_go, ↓ite_quietOf, ite_self, ↓State.chkWritten_quiet, ↓State.chkCapture_quiet]

theorem execPcieLinkUp_quiet (speed : Nat) (width : Nat) (s : State) :
    quietOf (execPcieLinkUp speed width s) = some s.quiet := by
  unfold execPcieLinkUp
  simp only [↓quietOf_go, ↓ite_quietOf, ite_self, ↓State.setF_quiet, ↓State.raiseFaults_quiet, ↓State.log_quiet]

theorem execSqDoorbell_quiet (ring : Nat) (value : Word) (s : State) :
    quietOf (execSqDoorbell ring value s) = some s.quiet := by
  unfold execSqDoorbell
  simp only [↓quietOf_go, ↓ite_quietOf, ite_self, ↓State.malformed_quiet, ↓State.incF_quiet, ↓State.wr_quiet, ↓State.ringError_quiet]

theorem execCqDoorbell_quiet (m : Nat) (value : Word) (s : State) :
    quietOf (execCqDoorbell m value s) = some s.quiet := by
  unfold execCqDoorbell
  simp only [↓State.quiet_mk, ↓Quiet.fold, ↓ite_quiet, ↓quietOf_go, ↓ite_quietOf, ite_self, ↓State.malformed_quiet, ↓State.wr_quiet, ↓State.setF_quiet, ↓State.incF_quiet]

theorem execDescriptorFetch_quiet (s : State) :
    quietOf (execDescriptorFetch s) = some s.quiet := by
  unfold execDescriptorFetch
  simp only [↓State.quiet_mk, ↓Quiet.fold, ↓quietOf_go, ↓State.fetchStalls_quiet, ↓State.stateIdx_quiet, ↓State.ringError_quiet, ↓State.uePoison_quiet, ↓State.wr_quiet, ↓State.takeDescriptor_quiet]
  (repeat' split) <;> simp only [↓State.quiet_mk, ↓Quiet.fold, ↓quietOf_go, ↓State.fetchStalls_quiet, ↓State.stateIdx_quiet, ↓State.ringError_quiet, ↓State.uePoison_quiet, ↓State.wr_quiet, ↓State.takeDescriptor_quiet]

theorem execCqCoalesceTimeout_quiet (m : Nat) (s : State) :
    quietOf (execCqCoalesceTimeout m s) = some s.quiet := by
  unfold execCqCoalesceTimeout
  simp only [↓quietOf_go, ↓ite_quietOf, ite_self, ↓State.cqIrq_quiet]

theorem flushHeld_quiet (l kept : List HeldEntry) (s : State) : (flushHeld l kept s).quiet = s.quiet := by
  induction l generalizing kept s with
  | nil => simp only [flushHeld, ↓State.quiet_mk, ↓Quiet.fold, ↓State.sqSettleAll_quiet, ↓State.heldWritten_quiet, ↓State.cqWrite_quiet]
  | cons h hs ih =>
    unfold flushHeld
    (repeat' split) <;> simp only [↓ih, ↓State.quiet_mk, ↓Quiet.fold, ↓State.sqSettleAll_quiet, ↓State.heldWritten_quiet, ↓State.cqWrite_quiet]

theorem execReportRoomResume_quiet (m : Nat) (s : State) :
    quietOf (execReportRoomResume m s) = some s.quiet := by
  unfold execReportRoomResume
  simp only [↓quietOf_go, ↓ite_quietOf, ite_self, ↓flushHeld_quiet]

theorem execHostDmaError_quiet (ring : Nat) (s : State) :
    quietOf (execHostDmaError ring s) = some s.quiet := by
  unfold execHostDmaError
  simp only [↓quietOf_go, ↓State.ringError_quiet]

theorem execHifNop_quiet (it : Item) (s : State) :
    quietOf (execHifNop it s) = some s.quiet := by
  unfold execHifNop
  simp only [implies_true, ↓serve_quiet, ↓State.complete_quiet]

theorem execHifAbort_quiet (it : Item) (s : State) :
    quietOf (execHifAbort it s) = some s.quiet := by
  unfold execHifAbort
  simp only [↓quietOf_go, ↓ite_quietOf, ↓State.intend_quiet, ↓State.complete_quiet, ↓State.holdItem_quiet, ↓State.noteItem_quiet, ↓State.abortNow_quiet]
  (repeat' split) <;> simp only [↓quietOf_go, ↓ite_quietOf, ↓State.intend_quiet, ↓State.complete_quiet, ↓State.holdItem_quiet, ↓State.noteItem_quiet, ↓State.abortNow_quiet]

theorem execHifQuery_quiet (it : Item) (s : State) :
    quietOf (execHifQuery it s) = some s.quiet := by
  unfold execHifQuery
  (repeat' split) <;> simp only [implies_true, ↓serve_quiet, ↓State.hifQuery_quiet]

theorem execCfgValidateCommit_quiet (it : Item) (s : State) :
    quietOf (execCfgValidateCommit it s) = some s.quiet := by
  unfold execCfgValidateCommit
  (repeat' split) <;> simp only [↓ite_quiet, ite_self, implies_true, ↓serve_quiet, ↓State.complete_quiet, ↓State.cfgRun_quiet]

theorem execCfgDryRun_quiet (it : Item) (s : State) :
    quietOf (execCfgDryRun it s) = some s.quiet := by
  unfold execCfgDryRun
  (repeat' split) <;> simp only [↓ite_quiet, ite_self, implies_true, ↓serve_quiet, ↓State.complete_quiet, ↓State.cfgRun_quiet]

theorem execCfgJournalWritten_quiet (ring : Nat) (seq : Word) (s : State) :
    quietOf (execCfgJournalWritten ring seq s) = some s.quiet := by
  unfold execCfgJournalWritten
  (repeat' split) <;> simp only [↓quietOf_go, ↓State.cfgSweep_quiet, ↓State.intend_quiet, ↓State.cfgCommit_quiet]

theorem execFullImageWritten_quiet (s : State) :
    quietOf (execFullImageWritten s) = some s.quiet := by
  unfold execFullImageWritten
  simp only [↓State.quiet_mk, ↓Quiet.fold, ↓quietOf_go, ↓ite_quietOf, ite_self, ↓State.log_quiet]

theorem execDownstreamFrameRx_quiet (n : Nat) (sof : Bool) (codeErr : Bool) (bytes : List Byte) (x : FieldFrame) (s : State) :
    quietOf (execDownstreamFrameRx n sof codeErr bytes x s) = some s.quiet := by
  unfold execDownstreamFrameRx
  simp only [↓ite_quiet, ↓quietOf_go, ↓ite_quietOf, ite_self, ↓State.composeUp_quiet, ↓State.redriveAll_quiet, ↓State.emit_quiet, ↓State.takeDown_quiet]

theorem execUpstreamFrameRx_quiet (n : Nat) (sof : Bool) (codeErr : Bool) (bytes : List Byte) (s : State) :
    quietOf (execUpstreamFrameRx n sof codeErr bytes s) = some s.quiet := by
  unfold execUpstreamFrameRx
  simp only [↓quietOf_go, ↓ite_quietOf, ite_self, ↓State.takeUp_quiet, ↓State.badUp_quiet]

theorem execFacetLinkDown_quiet (n : Nat) (s : State) :
    quietOf (execFacetLinkDown n s) = some s.quiet := by
  unfold execFacetLinkDown
  simp only [↓quietOf_go, ↓ite_quietOf, ite_self, ↓State.linkDown_quiet]

theorem execFacetLinkUp_quiet (n : Nat) (delay : Nat) (s : State) :
    quietOf (execFacetLinkUp n delay s) = some s.quiet := by
  unfold execFacetLinkUp
  simp only [↓quietOf_go, ↓ite_quietOf, ite_self, ↓State.linkTrained_quiet]

theorem execPerimOffLine_quiet (n : Nat) (s : State) :
    quietOf (execPerimOffLine n s) = some s.quiet := by
  unfold execPerimOffLine
  simp only [↓quietOf_go, ↓State.redriveAll_quiet, ↓State.setFacet_quiet]

theorem execPerimOffRelease_quiet (n : Nat) (s : State) :
    quietOf (execPerimOffRelease n s) = some s.quiet := by
  unfold execPerimOffRelease
  simp only [↓quietOf_go, ↓State.redriveAll_quiet, ↓State.setFacet_quiet]

theorem execFacetWdtExpiry_quiet (n : Nat) (ins : List (Option Word)) (s : State) :
    quietOf (execFacetWdtExpiry n ins s) = some s.quiet := by
  unfold execFacetWdtExpiry
  simp only [↓quietOf_go, ↓ite_quietOf, ite_self, implies_true, ↓foldl_quiet, ↓State.hartCut_quiet, ↓State.setChan_quiet, ↓State.slotsStart_quiet, ↓State.setFacet_quiet, ↓State.log_quiet, ↓State.redriveAll_quiet]

theorem execFallbackEval_quiet (n : Nat) (slot : Nat) (inp : Option Word) (s : State) :
    quietOf (execFallbackEval n slot inp s) = some s.quiet := by
  unfold execFallbackEval
  simp only [↓quietOf_go, ↓ite_quietOf, ↓State.log_quiet, ↓State.setSlot_quiet, ↓State.redriveAll_quiet]
  (repeat' split) <;> simp only [↓quietOf_go, ↓ite_quietOf, ↓State.log_quiet, ↓State.setSlot_quiet, ↓State.redriveAll_quiet]

theorem execFallbackExpiry_quiet (n : Nat) (slot : Nat) (s : State) :
    quietOf (execFallbackExpiry n slot s) = some s.quiet := by
  unfold execFallbackExpiry
  simp only [↓quietOf_go, ↓ite_quietOf, ite_self, ↓State.setSlot_quiet, ↓State.setChan_quiet, ↓State.log_quiet, ↓State.redriveAll_quiet]

theorem execPairReleaseRamp_quiet (n : Nat) (s : State) :
    quietOf (execPairReleaseRamp n s) = some s.quiet := by
  unfold execPairReleaseRamp
  simp only [↓quietOf_go, ↓ite_quietOf, ite_self, ↓State.redriveAll_quiet, ↓State.setFacet_quiet]

theorem execDiChange_quiet (ch : Nat) (level : DiLevel) (st : Stamp) (s : State) :
    quietOf (execDiChange ch level st s) = some s.quiet := by
  unfold execDiChange
  simp only [↓ite_quiet, ↓quietOf_go, ↓ite_quietOf, ite_self, ↓State.setChan_quiet, ↓State.diDeliver_quiet]

theorem execDoOverload_quiet (ch : Nat) (s : State) :
    quietOf (execDoOverload ch s) = some s.quiet := by
  unfold execDoOverload
  simp only [↓quietOf_go, ↓ite_quietOf, ite_self, ↓State.doOff_quiet]

theorem execDoRetry_quiet (ch : Nat) (s : State) :
    quietOf (execDoRetry ch s) = some s.quiet := by
  unfold execDoRetry
  simp only [↓quietOf_go, ↓ite_quietOf, ite_self, ↓State.log_quiet, ↓State.redrive_quiet, ↓State.setChan_quiet]

theorem execDoTotalOverload_quiet (n : Nat) (s : State) :
    quietOf (execDoTotalOverload n s) = some s.quiet := by
  unfold execDoTotalOverload
  (repeat' split) <;> simp only [↓quietOf_go, ↓State.totalShed_quiet]

theorem execDoTotalShedNext_quiet (n : Nat) (still : Bool) (s : State) :
    quietOf (execDoTotalShedNext n still s) = some s.quiet := by
  unfold execDoTotalShedNext
  simp only [↓quietOf_go, ↓State.totalShed_quiet, ↓State.log_quiet, ↓State.setFacet_quiet]
  (repeat' split) <;> simp only [↓quietOf_go, ↓State.totalShed_quiet, ↓State.log_quiet, ↓State.setFacet_quiet]

theorem execDoMismatch_quiet (ch : Nat) (mv : Int) (limited : Bool) (s : State) :
    quietOf (execDoMismatch ch mv limited s) = some s.quiet := by
  unfold execDoMismatch
  simp only [↓quietOf_go, ↓ite_quietOf, ite_self, ↓State.log_quiet, ↓State.setChan_quiet]

theorem execDoMismatchClear_quiet (sig : ChanVolt) (s : State) :
    quietOf (execDoMismatchClear sig s) = some s.quiet := by
  unfold execDoMismatchClear
  simp only [↓quietOf_go, ↓ite_quietOf, ite_self, ↓State.setChan_quiet]

theorem execSupWarn_quiet (n : Nat) (volt : Nat) (s : State) :
    quietOf (execSupWarn n volt s) = some s.quiet := by
  unfold execSupWarn
  simp only [↓quietOf_go, ↓ite_quietOf, ite_self, ↓State.log_quiet, ↓State.setFacet_quiet]

theorem execSupLow_quiet (n : Nat) (volt : Nat) (s : State) :
    quietOf (execSupLow n volt s) = some s.quiet := by
  unfold execSupLow
  simp only [↓quietOf_go, ↓ite_quietOf, ite_self, ↓State.log_quiet, ↓State.setFacet_quiet]

theorem execShedGroupInstant_quiet (n : Nat) (volt : Nat) (s : State) :
    quietOf (execShedGroupInstant n volt s) = some s.quiet := by
  unfold execShedGroupInstant
  simp only [↓quietOf_go, ↓State.setFacet_quiet, ↓State.shedGroup_quiet]
  (repeat' split) <;> simp only [↓quietOf_go, ↓State.setFacet_quiet, ↓State.shedGroup_quiet]

theorem execShedRestart_quiet (n : Nat) (volt : Nat) (s : State) :
    quietOf (execShedRestart n volt s) = some s.quiet := by
  unfold execShedRestart
  simp only [↓quietOf_go, ↓ite_quietOf, ite_self, ↓State.setFacet_quiet]

theorem execSupRecovered_quiet (n : Nat) (volt : Nat) (s : State) :
    quietOf (execSupRecovered n volt s) = some s.quiet := by
  unfold execSupRecovered
  simp only [↓quietOf_go, ↓ite_quietOf, ite_self, ↓State.log_quiet, ↓State.setFacet_quiet]

theorem execAutoRestoreGroup_quiet (n : Nat) (s : State) :
    quietOf (execAutoRestoreGroup n s) = some s.quiet := by
  unfold execAutoRestoreGroup
  simp only [↓ite_quiet, ↓quietOf_go, ite_self, implies_true, ↓foldl_quiet, ↓State.restoreOut_quiet, ↓State.setFacet_quiet]
  (repeat' split) <;> simp only [↓ite_quiet, ↓quietOf_go, ite_self, implies_true, ↓foldl_quiet, ↓State.restoreOut_quiet, ↓State.setFacet_quiet]

theorem execFacetSupplyReset_quiet (n : Nat) (s : State) :
    quietOf (execFacetSupplyReset n s) = some s.quiet := by
  unfold execFacetSupplyReset
  simp only [↓State.quiet_mk, ↓Quiet.fold, ↓quietOf_go, implies_true, ↓foldl_quiet, ↓State.setChan_quiet, ↓State.setFacet_quiet, ↓State.log_quiet, ↓State.showSlices_quiet, ↓State.wr_quiet, ↓State.setSlot_quiet]

theorem execFacetPowerUp_quiet (n : Nat) (s : State) :
    quietOf (execFacetPowerUp n s) = some s.quiet := by
  unfold execFacetPowerUp
  simp only [↓ite_quiet, ↓quietOf_go, ite_self, implies_true, ↓foldl_quiet, ↓State.setChan_quiet, ↓State.redriveAll_quiet, ↓State.setFacet_quiet]

theorem execPiGateEnd_quiet (ch : Nat) (s : State) :
    quietOf (execPiGateEnd ch s) = some s.quiet := by
  unfold execPiGateEnd
  simp only [↓quietOf_go, ↓ite_quietOf, ite_self, ↓State.setChan_quiet, ↓State.wr_quiet, ↓State.sample_quiet]

theorem execSliceCorrection_quiet (n : Nat) (slice : Nat) (dOff : Int) (dGain : Int) (dSkew : Int) (s : State) :
    quietOf (execSliceCorrection n slice dOff dGain dSkew s) = some s.quiet := by
  unfold execSliceCorrection
  simp only [↓quietOf_go, ↓ite_quietOf, ite_self, ↓State.setSlice_quiet, ↓State.showSlices_quiet, ↓State.log_quiet, ↓State.setF_quiet]

theorem execFctCalDone_quiet (n : Nat) (found : CalFound) (s : State) :
    quietOf (execFctCalDone n found s) = some s.quiet := by
  unfold execFctCalDone
  simp only [↓quietOf_go, ↓ite_quietOf, ↓State.incF_quiet, ↓State.setF_quiet, ↓State.setFacet_quiet, ↓State.completeEv_quiet, ↓State.log_quiet, ↓State.showSlices_quiet, ↓State.complete_quiet]
  (repeat' split) <;> simp only [↓quietOf_go, ↓ite_quietOf, ↓State.incF_quiet, ↓State.setF_quiet, ↓State.setFacet_quiet, ↓State.completeEv_quiet, ↓State.log_quiet, ↓State.showSlices_quiet, ↓State.complete_quiet]

theorem execFctDiagWire_quiet (it : Item) (s : State) :
    quietOf (execFctDiagWire it s) = some s.quiet := by
  unfold execFctDiagWire
  simp only [implies_true, ↓serve_quiet, ↓State.fctDiag_quiet]

theorem execDiagDone_quiet (n : Nat) (mA : Word) (mB : Word) (s : State) :
    quietOf (execDiagDone n mA mB s) = some s.quiet := by
  unfold execDiagDone
  simp only [↓quietOf_go, ↓State.diagRatio_quiet, ↓State.setFacet_quiet, ↓State.setF_quiet, ↓State.log_quiet, ↓State.complete_quiet]
  (repeat' split) <;> simp only [↓quietOf_go, ↓State.diagRatio_quiet, ↓State.setFacet_quiet, ↓State.setF_quiet, ↓State.log_quiet, ↓State.complete_quiet]

theorem execFctTrimdriveRelease_quiet (it : Item) (s : State) :
    quietOf (execFctTrimdriveRelease it s) = some s.quiet := by
  unfold execFctTrimdriveRelease
  simp only [implies_true, ↓serve_quiet, ↓State.fctTrim_quiet]

theorem execFctHart_quiet (it : Item) (s : State) :
    quietOf (execFctHart it s) = some s.quiet := by
  unfold execFctHart
  simp only [↓ite_quiet, ite_self, implies_true, ↓serve_quiet, ↓State.complete_quiet, ↓State.setFacet_quiet, ↓State.holdItem_quiet, ↓State.setF_quiet]

theorem execHartReply_quiet (n : Nat) (bytes : List Byte) (clean : Bool) (s : State) :
    quietOf (execHartReply n bytes clean s) = some s.quiet := by
  unfold execHartReply
  (repeat' split) <;> simp only [↓quietOf_go, ↓State.hartReply_quiet]

theorem execHartReplyTimeout_quiet (n : Nat) (s : State) :
    quietOf (execHartReplyTimeout n s) = some s.quiet := by
  unfold execHartReplyTimeout
  (repeat' split) <;> simp only [↓quietOf_go, ↓State.completeAt_quiet, ↓State.incF_quiet, ↓State.hartEnd_quiet]

theorem execHartTxTimeout_quiet (n : Nat) (s : State) :
    quietOf (execHartTxTimeout n s) = some s.quiet := by
  unfold execHartTxTimeout
  (repeat' split) <;> simp only [↓quietOf_go, ↓State.hartCut_quiet]

theorem execHartUnsolicited_quiet (n : Nat) (s : State) :
    quietOf (execHartUnsolicited n s) = some s.quiet := by
  unfold execHartUnsolicited
  (repeat' split) <;> simp only [↓quietOf_go, ↓State.incF_quiet]

theorem execAiOpenDetect_quiet (m : ChanMeas) (s : State) :
    quietOf (execAiOpenDetect m s) = some s.quiet := by
  unfold execAiOpenDetect
  simp only [↓quietOf_go, ↓ite_quietOf, ite_self, ↓State.log_quiet, ↓State.setChan_quiet]

theorem execAiOpenClear_quiet (m : ChanMeas) (s : State) :
    quietOf (execAiOpenClear m s) = some s.quiet := by
  unfold execAiOpenClear
  simp only [↓quietOf_go, ↓ite_quietOf, ite_self, ↓State.setChan_quiet]

theorem execAoCompliance_quiet (ch : Nat) (meas : Word) (need : Nat) (s : State) :
    quietOf (execAoCompliance ch meas need s) = some s.quiet := by
  unfold execAoCompliance
  simp only [↓quietOf_go, ↓ite_quietOf, ite_self, ↓State.setSupply_quiet, ↓State.log_quiet, ↓State.setChan_quiet]

theorem execAoOpen_quiet (m : ChanMeas) (s : State) :
    quietOf (execAoOpen m s) = some s.quiet := by
  unfold execAoOpen
  simp only [↓quietOf_go, ↓ite_quietOf, ite_self, ↓State.log_quiet, ↓State.setChan_quiet]

theorem execAoThermalStep_quiet (ch : Nat) (stage : StageHeat) (s : State) :
    quietOf (execAoThermalStep ch stage s) = some s.quiet := by
  unfold execAoThermalStep
  simp only [↓quietOf_go, ↓ite_quietOf, ite_self, ↓State.setSupply_quiet, ↓State.setF_quiet, ↓State.redrive_quiet, ↓State.setChan_quiet]

theorem execAoVOverload_quiet (ch : Nat) (s : State) :
    quietOf (execAoVOverload ch s) = some s.quiet := by
  unfold execAoVOverload
  simp only [↓quietOf_go, ↓ite_quietOf, ite_self, ↓State.log_quiet, ↓State.setChan_quiet]

theorem execLoopTick_quiet (s : State) :
    quietOf (execLoopTick s) = some s.quiet := by
  unfold execLoopTick
  simp only [↓quietOf_go, ↓ite_quietOf, ite_self, implies_true, ↓foldl_quiet, ↓State.tanDue_quiet, ↓State.expireRemote_quiet, ↓State.loopTick_quiet, ↓State.setLoop_quiet]

theorem execLoopReady_quiet (l : Nat) (s : State) :
    quietOf (execLoopReady l s) = some s.quiet := by
  unfold execLoopReady
  simp only [↓quietOf_go, ↓State.setLoop_quiet]
  (repeat' split) <;> simp only [↓quietOf_go, ↓State.setLoop_quiet]

theorem execLoopEvaluation_quiet (s : State) :
    quietOf (execLoopEvaluation s) = some s.quiet := by
  unfold execLoopEvaluation
  simp only [↓quietOf_go, ↓ite_quietOf, ↓State.missSample_quiet, ↓State.evalLoop_quiet]
  (repeat' split) <;> simp only [↓quietOf_go, ↓ite_quietOf, ↓State.missSample_quiet, ↓State.evalLoop_quiet]

theorem execLoopResultHandoff_quiet (l : Nat) (s : State) :
    quietOf (execLoopResultHandoff l s) = some s.quiet := by
  unfold execLoopResultHandoff
  simp only [↓quietOf_go, ↓State.missSample_quiet, ↓State.setLoop_quiet, ↓State.setF_quiet, ↓State.injAfter_quiet, ↓State.handTo_quiet]
  (repeat' split) <;> simp only [↓quietOf_go, ↓State.missSample_quiet, ↓State.setLoop_quiet, ↓State.setF_quiet, ↓State.injAfter_quiet, ↓State.handTo_quiet]

theorem execLoopDeadlineMiss_quiet (l : Nat) (s : State) :
    quietOf (execLoopDeadlineMiss l s) = some s.quiet := by
  unfold execLoopDeadlineMiss
  (repeat' split) <;> simp only [↓quietOf_go, ↓State.missSample_quiet]

theorem execLocusTick_quiet (s : State) :
    quietOf (execLocusTick s) = some s.quiet := by
  unfold execLocusTick
  simp only [↓quietOf_go, ↓ite_quietOf, ite_self, ↓State.locTick_quiet, ↓State.expireRemote_quiet]

theorem execStepTimeout_quiet (t : Nat) (s : State) :
    quietOf (execStepTimeout t s) = some s.quiet := by
  unfold execStepTimeout
  simp only [↓quietOf_go, ↓ite_quietOf, ite_self, ↓State.trkTick_quiet]

theorem execSchedSlotFire_quiet (k : Nat) (s : State) :
    quietOf (execSchedSlotFire k s) = some s.quiet := by
  unfold execSchedSlotFire
  simp only [↓quietOf_go, ↓ite_quietOf, ite_self, ↓State.slotFire_quiet]

theorem execReadinessTokenRx_quiet (grp : Nat) (t : Stamp) (idx : Nat) (sent : Stamp) (s : State) :
    quietOf (execReadinessTokenRx grp t idx sent s) = some s.quiet := by
  unfold execReadinessTokenRx
  simp only [↓State.quiet_mk, ↓Quiet.fold, ↓quietOf_go, ↓State.setF_quiet]
  (repeat' split) <;> simp only [↓State.quiet_mk, ↓Quiet.fold, ↓quietOf_go, ↓State.setF_quiet]

theorem execPendingTokenExpiry_quiet (s : State) :
    quietOf (execPendingTokenExpiry s) = some s.quiet := by
  unfold execPendingTokenExpiry
  simp only [↓State.quiet_mk, ↓Quiet.fold, ↓quietOf_go]

theorem execWithdrawNoticeRx_quiet (grp : Nat) (t : Stamp) (idx : Nat) (s : State) :
    quietOf (execWithdrawNoticeRx grp t idx s) = some s.quiet := by
  unfold execWithdrawNoticeRx
  simp only [↓State.quiet_mk, ↓Quiet.fold, ↓quietOf_go, ↓State.setF_quiet]
  (repeat' split) <;> simp only [↓State.quiet_mk, ↓Quiet.fold, ↓quietOf_go, ↓State.setF_quiet]

theorem execRemoteTokenOutcome_quiet (no : Nat) (status : Nat) (s : State) :
    quietOf (execRemoteTokenOutcome no status s) = some s.quiet := by
  unfold execRemoteTokenOutcome
  simp only [↓State.quiet_mk, ↓Quiet.fold, ↓quietOf_go, ↓State.actFail_quiet]
  (repeat' split) <;> simp only [↓State.quiet_mk, ↓Quiet.fold, ↓quietOf_go, ↓State.actFail_quiet]

theorem execLocCounterAdd_quiet (it : Item) (s : State) :
    quietOf (execLocCounterAdd it s) = some s.quiet := by
  unfold execLocCounterAdd
  simp only [implies_true, ↓serve_quiet, ↓State.locCounter_quiet]

theorem execLatticeScan_quiet (s : State) :
    quietOf (execLatticeScan s) = some s.quiet := by
  unfold execLatticeScan
  simp only [↓State.quiet_mk, ↓Quiet.fold, ↓quietOf_go, ↓ite_quietOf, ite_self, ↓State.latBoundary_quiet, ↓State.expireRemote_quiet]

theorem execLatTimerExpiry_quiet (n : Nat) (acc : Bool) (s : State) :
    quietOf (execLatTimerExpiry n acc s) = some s.quiet := by
  unfold execLatTimerExpiry
  simp only [↓quietOf_go, ↓State.setLatMem_quiet]
  (repeat' split) <;> simp only [↓quietOf_go, ↓State.setLatMem_quiet]

theorem execLatPatch_quiet (it : Item) (s : State) :
    quietOf (execLatPatch it s) = some s.quiet := by
  unfold execLatPatch
  simp only [↓State.quiet_mk, ↓Quiet.fold, ↓ite_quiet, ite_self, implies_true, ↓serve_quiet, ↓State.complete_quiet, ↓State.patchDo_quiet, ↓State.holdItem_quiet, ↓State.showPatches_quiet]

theorem execLatStopBoundary_quiet (s : State) :
    quietOf (execLatStopBoundary s) = some s.quiet := by
  unfold execLatStopBoundary
  simp only [↓State.quiet_mk, ↓Quiet.fold, ↓quietOf_go, ↓State.latStopNow_quiet]
  (repeat' split) <;> simp only [↓State.quiet_mk, ↓Quiet.fold, ↓quietOf_go, ↓State.latStopNow_quiet]

theorem execLatShadowStart_quiet (it : Item) (s : State) :
    quietOf (execLatShadowStart it s) = some s.quiet := by
  unfold execLatShadowStart
  simp only [implies_true, ↓serve_quiet, ↓State.latShadow_quiet]

theorem execLatShadowStop_quiet (it : Item) (s : State) :
    quietOf (execLatShadowStop it s) = some s.quiet := by
  unfold execLatShadowStop
  simp only [implies_true, ↓serve_quiet, ↓State.latShadow_quiet]

theorem execLatCmpRead_quiet (it : Item) (s : State) :
    quietOf (execLatCmpRead it s) = some s.quiet := by
  unfold execLatCmpRead
  simp only [↓ite_quiet, ite_self, implies_true, ↓serve_quiet, ↓State.complete_quiet, ↓State.bufPut_quiet]

theorem execVertexEvent_quiet (source : Nat) (inst : Nat) (code : Nat) (param : Word) (st : Stamp) (s : State) :
    quietOf (execVertexEvent source inst code param st s) = some s.quiet := by
  unfold execVertexEvent
  simp only [↓quietOf_go, ↓State.report_quiet]

theorem execDepRelease_quiet (queue : Nat) (s : State) :
    quietOf (execDepRelease queue s) = some s.quiet := by
  unfold execDepRelease
  simp only [↓quietOf_go, ↓ite_quietOf, ite_self, ↓State.setVtx_quiet, ↓State.setCnt_quiet]

theorem execVertexDispatch_quiet (s : State) :
    quietOf (execVertexDispatch s) = some s.quiet := by
  unfold execVertexDispatch
  simp only [↓quietOf_go, ↓ite_quietOf, ↓State.dispatchTo_quiet]
  (repeat' split) <;> simp only [↓quietOf_go, ↓ite_quietOf, ↓State.dispatchTo_quiet]

theorem execVtxCoalesceTimeout_quiet (core : Nat) (s : State) :
    quietOf (execVtxCoalesceTimeout core s) = some s.quiet := by
  unfold execVtxCoalesceTimeout
  simp only [↓quietOf_go, ↓ite_quietOf, ite_self, ↓State.assertLine_quiet]

theorem execArcPeriodBoundary_quiet (g : Nat) (s : State) :
    quietOf (execArcPeriodBoundary g s) = some s.quiet := by
  unfold execArcPeriodBoundary
  simp only [↓ite_quiet, ↓quietOf_go, ↓ite_quietOf, ite_self, ↓State.genStart1_quiet, ↓State.reqComplete_quiet, ↓State.genStopAll_quiet, ↓State.blockStep_quiet, ↓State.setGen_quiet, ↓State.arcTransfer_quiet, ↓State.arcEnables_quiet, ↓State.startPeriod_quiet, ↓State.arcEvent_quiet]

theorem execArcEdgeEvent_quiet (g : Nat) (off : Bool) (s : State) :
    quietOf (execArcEdgeEvent g off s) = some s.quiet := by
  unfold execArcEdgeEvent
  simp only [↓quietOf_go, ↓ite_quietOf, ite_self, ↓State.arcEvent_quiet]

theorem execArcStartNow_quiet (it : Item) (s : State) :
    quietOf (execArcStartNow it s) = some s.quiet := by
  unfold execArcStartNow
  simp only [implies_true, ↓serve_quiet, ↓State.arcItem_quiet, ↓State.arcStart_quiet]

theorem execArcArmedStart_quiet (g : Nat) (s : State) :
    quietOf (execArcArmedStart g s) = some s.quiet := by
  unfold execArcArmedStart
  simp only [↓quietOf_go, ↓ite_quietOf, ↓State.setGen_quiet, ↓State.genStart_quiet, ↓State.reqComplete_quiet, ↓State.setGenState_quiet]
  (repeat' split) <;> simp only [↓quietOf_go, ↓ite_quietOf, ↓State.setGen_quiet, ↓State.genStart_quiet, ↓State.reqComplete_quiet, ↓State.setGenState_quiet]

theorem execArcStopNow_quiet (it : Item) (s : State) :
    quietOf (execArcStopNow it s) = some s.quiet := by
  unfold execArcStopNow
  simp only [implies_true, ↓serve_quiet, ↓State.arcItem_quiet, ↓State.arcStop_quiet]

theorem execArcTrip_quiet (src : Nat) (active : Bool) (s : State) :
    quietOf (execArcTrip src active s) = some s.quiet := by
  unfold execArcTrip
  simp only [↓quietOf_go, ↓ite_quietOf, ite_self, ↓State.arcTrip_quiet]

theorem execPrismSample_quiet (s : State) :
    quietOf (execPrismSample s) = some s.quiet := by
  unfold execPrismSample
  simp only [↓State.quiet_mk, ↓Quiet.fold, ↓ite_quiet, ↓quietOf_go, ite_self, implies_true, ↓foldl_quiet, ↓State.histPut_quiet, ↓State.recFeed_quiet, ↓State.unitSample_quiet, ↓State.linkGap_quiet, ↓State.setPrm_quiet]
  (repeat' split) <;> simp only [↓State.quiet_mk, ↓Quiet.fold, ↓ite_quiet, ↓quietOf_go, ite_self, implies_true, ↓foldl_quiet, ↓State.histPut_quiet, ↓State.recFeed_quiet, ↓State.unitSample_quiet, ↓State.linkGap_quiet, ↓State.setPrm_quiet]

theorem execCoValue_quiet (e : Nat) (s : State) :
    quietOf (execCoValue e s) = some s.quiet := by
  unfold execCoValue
  simp only [↓ite_quiet, ↓quietOf_go, ↓ite_quietOf, ite_self, implies_true, ↓foldl_quiet, ↓State.redValue_quiet, ↓State.chgEmit_quiet]

theorem execChangeEntryTimeout_quiet (s : State) :
    quietOf (execChangeEntryTimeout s) = some s.quiet := by
  unfold execChangeEntryTimeout
  (repeat' split) <;> simp only [↓quietOf_go, ↓State.chgFlush_quiet]

theorem execCoMaxintExpiry_quiet (e : Nat) (s : State) :
    quietOf (execCoMaxintExpiry e s) = some s.quiet := by
  unfold execCoMaxintExpiry
  simp only [↓quietOf_go, ↓ite_quietOf, ite_self, ↓State.chgEmit_quiet]

theorem execReductionComplete_quiet (e : Nat) (k : Nat) (s : State) :
    quietOf (execReductionComplete e k s) = some s.quiet := by
  unfold execReductionComplete
  (repeat' split) <;> simp only [↓quietOf_go, ↓State.redClose_quiet]

theorem execTriggerFire_quiet (u : Nat) (s : State) :
    quietOf (execTriggerFire u s) = some s.quiet := by
  unfold execTriggerFire
  simp only [↓quietOf_go, ↓State.fireGroup_quiet, ↓State.setPrm_quiet]
  (repeat' split) <;> simp only [↓quietOf_go, ↓State.fireGroup_quiet, ↓State.setPrm_quiet]

theorem execTriggerTimeReached_quiet (u : Nat) (s : State) :
    quietOf (execTriggerTimeReached u s) = some s.quiet := by
  unfold execTriggerTimeReached
  simp only [↓ite_quiet, ↓quietOf_go, ↓ite_quietOf, ite_self, ↓State.setUnit_quiet, ↓State.setCoinc_quiet, ↓State.unitFire_quiet, ↓State.unitSupp_quiet]

theorem execRecordComplete_quiet (u : Nat) (s : State) :
    quietOf (execRecordComplete u s) = some s.quiet := by
  unfold execRecordComplete
  split
  · rfl
  · simp only [↓ite_quiet, ↓quietOf_go, ↓ite_quietOf, ite_self, ↓State.unitEnd_quiet, ↓State.unitTo_quiet, ↓State.setPrm_quiet, ↓State.recEnter_quiet, ↓State.prmRealloc_quiet]
    (repeat' split) <;> first
    | rfl
    | (refine congrArg some ((foldl_quiet _ (fun s k => ?_) _ _).trans ?_)
       · split <;> simp only [↓ite_quiet, ↓quietOf_go, ↓ite_quietOf, ite_self, ↓State.unitEnd_quiet, ↓State.unitTo_quiet, ↓State.setPrm_quiet, ↓State.recEnter_quiet, ↓State.prmRealloc_quiet]
       · simp only [↓ite_quiet, ↓quietOf_go, ↓ite_quietOf, ite_self, ↓State.unitEnd_quiet, ↓State.unitTo_quiet, ↓State.setPrm_quiet, ↓State.recEnter_quiet, ↓State.prmRealloc_quiet])

theorem execHoldoffEnd_quiet (u : Nat) (s : State) :
    quietOf (execHoldoffEnd u s) = some s.quiet := by
  unfold execHoldoffEnd
  simp only [↓quietOf_go, ↓ite_quietOf, ite_self, ↓State.unitEnd_quiet]

theorem execCaptureEntry_quiet (s : State) :
    quietOf (execCaptureEntry s) = some s.quiet := by
  unfold execCaptureEntry
  simp only [↓State.quiet_mk, ↓Quiet.fold, ↓quietOf_go, ↓State.setPrm_quiet, ↓State.capEnd_quiet, ↓State.recWrite_quiet, ↓State.log_quiet]
  (repeat' split) <;> simp only [↓State.quiet_mk, ↓Quiet.fold, ↓quietOf_go, ↓State.setPrm_quiet, ↓State.capEnd_quiet, ↓State.recWrite_quiet, ↓State.log_quiet]

theorem execPrismStreamDeliver_quiet (s : State) :
    quietOf (execPrismStreamDeliver s) = some s.quiet := by
  unfold execPrismStreamDeliver
  simp only [↓quietOf_go, ↓ite_quietOf, ite_self, ↓State.showBacklog_quiet, ↓State.deliver_quiet]

theorem execHelixEvent_quiet (e : Event) (st : Stamp) (full : Bool) (s : State) :
    quietOf (execHelixEvent e st full s) = some s.quiet := by
  unfold execHelixEvent
  simp only [↓State.quiet_mk, ↓Quiet.fold, ↓quietOf_go, ↓ite_quietOf, ite_self, ↓State.setHlx_quiet, ↓State.report_quiet]

theorem execHlxIntakeResume_quiet (s : State) :
    quietOf (execHlxIntakeResume s) = some s.quiet := by
  unfold execHlxIntakeResume
  simp only [↓quietOf_go, ↓State.logSynth_quiet, ↓State.setHlx_quiet]
  (repeat' split) <;> simp only [↓quietOf_go, ↓State.logSynth_quiet, ↓State.setHlx_quiet]

theorem streamOut_quiet (m : Nat) (l : List HlxRec) (s : State) : (streamOut m l s).quiet = s.quiet := by
  induction l generalizing s with
  | nil => simp only [streamOut, ↓State.cqWrite_quiet, ↓State.setHlx_quiet, ↓ite_quiet, ite_self, ↓State.setHlx_quiet]
  | cons r rs ih =>
    unfold streamOut
    simp only [ih, ↓State.cqWrite_quiet, ↓State.setHlx_quiet, ↓ite_quiet, ite_self, ↓State.setHlx_quiet]

theorem execHlxStreamDeliver_quiet (s : State) :
    quietOf (execHlxStreamDeliver s) = some s.quiet := by
  unfold execHlxStreamDeliver
  simp only [↓quietOf_go, ↓streamOut_quiet, ↓State.streamLost_quiet]
  (repeat' split) <;> simp only [↓quietOf_go, ↓streamOut_quiet, ↓State.streamLost_quiet]

theorem execFreezeTimeout_quiet (s : State) :
    quietOf (execFreezeTimeout s) = some s.quiet := by
  unfold execFreezeTimeout
  simp only [↓quietOf_go, ↓ite_quietOf, ite_self, ↓State.endFreeze_quiet]

theorem execCanTxAttempt_quiet (c : Nat) (s : State) :
    quietOf (execCanTxAttempt c s) = some s.quiet := by
  unfold execCanTxAttempt
  simp only [↓quietOf_go, ↓ite_quietOf, ↓State.canNote_quiet, ↓State.setCan_quiet]
  (repeat' split) <;> simp only [↓quietOf_go, ↓ite_quietOf, ↓State.canNote_quiet, ↓State.setCan_quiet]

theorem execCanAttemptEnd_quiet (c : Nat) (ok : Bool) (st : Stamp) (tec : Nat) (rec_ : Nat) (s : State) :
    quietOf (execCanAttemptEnd c ok st tec rec_ s) = some s.quiet := by
  unfold execCanAttemptEnd
  simp only [↓State.quiet_mk, ↓Quiet.fold, ↓quietOf_go, ↓ite_quietOf, ↓State.setCan_quiet, ↓State.canErrors_quiet, ↓State.canDone_quiet, ↓State.wrapF_quiet, ↓State.canFailed_quiet]
  (repeat' split) <;> simp only [↓State.quiet_mk, ↓Quiet.fold, ↓quietOf_go, ↓ite_quietOf, ↓State.setCan_quiet, ↓State.canErrors_quiet, ↓State.canDone_quiet, ↓State.wrapF_quiet, ↓State.canFailed_quiet]

theorem execCanFrameRx_quiet (c : Nat) (own : Bool) (id : Word) (ctl : Word) (bytes : List Byte) (st : Stamp) (tec : Nat) (rec_ : Nat) (s : State) :
    quietOf (execCanFrameRx c own id ctl bytes st tec rec_ s) = some s.quiet := by
  unfold execCanFrameRx
  simp only [↓ite_quiet, ↓quietOf_go, ↓ite_quietOf, ite_self, ↓State.canFifo_quiet, ↓State.wrapF_quiet, ↓State.mbxWrite_quiet, ↓State.canErrors_quiet]

theorem execCanRxDeliver_quiet (c : Nat) (s : State) :
    quietOf (execCanRxDeliver c s) = some s.quiet := by
  unfold execCanRxDeliver
  simp only [↓quietOf_go, ↓ite_quietOf, ↓State.canLost_quiet, ↓State.putEntries_quiet, ↓State.setCan_quiet, ↓State.report_quiet]
  (repeat' split) <;> simp only [↓quietOf_go, ↓ite_quietOf, ↓State.canLost_quiet, ↓State.putEntries_quiet, ↓State.setCan_quiet, ↓State.report_quiet]

theorem execCanBusOff_quiet (c : Nat) (tec : Nat) (s : State) :
    quietOf (execCanBusOff c tec s) = some s.quiet := by
  unfold execCanBusOff
  simp only [↓quietOf_go, ↓ite_quietOf, ↓State.setF_quiet, ↓State.incF_quiet, ↓State.setCan_quiet, ↓State.log_quiet, ↓State.canDone_quiet]
  (repeat' split) <;> simp only [↓quietOf_go, ↓ite_quietOf, ↓State.setF_quiet, ↓State.incF_quiet, ↓State.setCan_quiet, ↓State.log_quiet, ↓State.canDone_quiet]

theorem execCanBusoffRecovered_quiet (c : Nat) (s : State) :
    quietOf (execCanBusoffRecovered c s) = some s.quiet := by
  unfold execCanBusoffRecovered
  simp only [↓quietOf_go, ↓ite_quietOf, ite_self, ↓State.wr_quiet, ↓State.setF_quiet, ↓State.log_quiet]

theorem execEthTx_quiet (it : Item) (s : State) :
    quietOf (execEthTx it s) = some s.quiet := by
  unfold execEthTx
  simp only [implies_true, ↓serve_quiet, ↓State.ethTx_quiet]

theorem execEthFrameRx_quiet (port : Nat) (bytes : List Byte) (fcsOk : Bool) (st : Stamp) (s : State) :
    quietOf (execEthFrameRx port bytes fcsOk st s) = some s.quiet := by
  unfold execEthFrameRx
  simp only [↓quietOf_go, ↓ite_quietOf, ↓State.incF_quiet, ↓State.ethFifo_quiet, ↓State.prpWrong_quiet, ↓State.prpNew_quiet, ↓State.dupForget_quiet]
  (repeat' split) <;> simp only [↓quietOf_go, ↓ite_quietOf, ↓State.incF_quiet, ↓State.ethFifo_quiet, ↓State.prpWrong_quiet, ↓State.prpNew_quiet, ↓State.dupForget_quiet]

theorem execEthRxDeliver_quiet (port : Nat) (s : State) :
    quietOf (execEthRxDeliver port s) = some s.quiet := by
  unfold execEthRxDeliver
  simp only [↓quietOf_go, ↓State.ethLost_quiet, ↓State.putEntries_quiet, ↓State.setEthp_quiet, ↓State.report_quiet]
  (repeat' split) <;> simp only [↓quietOf_go, ↓State.ethLost_quiet, ↓State.putEntries_quiet, ↓State.setEthp_quiet, ↓State.report_quiet]

theorem execPrpEntryForget_quiet (s : State) :
    quietOf (execPrpEntryForget s) = some s.quiet := by
  unfold execPrpEntryForget
  simp only [↓quietOf_go, ↓State.dupForget_quiet]

theorem execPrpSupervision_quiet (s : State) :
    quietOf (execPrpSupervision s) = some s.quiet := by
  unfold execPrpSupervision
  simp only [↓State.quiet_mk, ↓Quiet.fold, ↓quietOf_go, ↓ite_quietOf, ite_self]

theorem execCyclicFrameSend_quiet (s : State) :
    quietOf (execCyclicFrameSend s) = some s.quiet := by
  unfold execCyclicFrameSend
  simp only [↓State.quiet_mk, ↓Quiet.fold, ↓quietOf_go, ↓State.cycLate_quiet, ↓State.cycGo_quiet, ↓State.setF_quiet]

theorem execCyclicFrameLate_quiet (s : State) :
    quietOf (execCyclicFrameLate s) = some s.quiet := by
  unfold execCyclicFrameLate
  simp only [↓quietOf_go, ↓State.cycLate_quiet]

theorem execEthLinkUp_quiet (port : Nat) (speed : Nat) (s : State) :
    quietOf (execEthLinkUp port speed s) = some s.quiet := by
  unfold execEthLinkUp
  simp only [↓quietOf_go, ↓ite_quietOf, ite_self, ↓State.setF_quiet, ↓State.ethStart_quiet, ↓State.log_quiet]

theorem execEthLinkDown_quiet (port : Nat) (s : State) :
    quietOf (execEthLinkDown port s) = some s.quiet := by
  unfold execEthLinkDown
  simp only [↓quietOf_go, ↓ite_quietOf, ite_self, ↓State.ethLinkDown_quiet]

theorem execVxlPortUp_quiet (port : Nat) (neighbour : Nat) (s : State) :
    quietOf (execVxlPortUp port neighbour s) = some s.quiet := by
  unfold execVxlPortUp
  simp only [↓ite_quiet, ↓quietOf_go, ↓ite_quietOf, ite_self, ↓State.log_quiet, ↓State.setF_quiet, ↓State.setUplink_quiet]

theorem execHelloSend_quiet (s : State) :
    quietOf (execHelloSend s) = some s.quiet := by
  unfold execHelloSend
  simp only [↓State.quiet_mk, ↓Quiet.fold, ↓ite_quiet, ↓quietOf_go, ite_self, implies_true, ↓foldl_quiet, ↓State.emit_quiet]

theorem execHelloRx_quiet (port : Nat) (device : Nat) (ring : Option Nat) (peerPort : Nat) (s : State) :
    quietOf (execHelloRx port device ring peerPort s) = some s.quiet := by
  unfold execHelloRx
  simp only [↓State.quiet_mk, ↓Quiet.fold, ↓quietOf_go, ↓ite_quietOf, ↓State.setF_quiet]
  (repeat' split) <;> simp only [↓State.quiet_mk, ↓Quiet.fold, ↓quietOf_go, ↓ite_quietOf, ↓State.setF_quiet]

theorem execRingNumberTimeout_quiet (s : State) :
    quietOf (execRingNumberTimeout s) = some s.quiet := by
  unfold execRingNumberTimeout
  simp only [↓quietOf_go, ↓ite_quietOf, ite_self, ↓State.setF_quiet]

theorem execVxlFrameRx_quiet (port : Nat) (f : Frame) (crcOk : Bool) (s : State) :
    quietOf (execVxlFrameRx port f crcOk s) = some s.quiet := by
  unfold execVxlFrameRx
  simp only [↓ite_quiet, ↓quietOf_go, ↓ite_quietOf, ite_self, ↓State.crcBad_quiet, ↓State.crcGood_quiet, ↓State.onward_quiet, ↓State.cross_quiet, ↓State.takeFrame_quiet, ↓State.winTaken_quiet]

theorem execTimeMarkSend_quiet (s : State) :
    quietOf (execTimeMarkSend s) = some s.quiet := by
  unfold execTimeMarkSend
  simp only [↓quietOf_go, ↓ite_quietOf, ite_self, ↓State.sendFrame_quiet]

theorem execLinkDelayMeasure_quiet (port : Nat) (roundTrip : Int) (s : State) :
    quietOf (execLinkDelayMeasure port roundTrip s) = some s.quiet := by
  unfold execLinkDelayMeasure
  simp only [↓quietOf_go, ↓ite_quietOf, ite_self, ↓State.wr_quiet]

theorem execCycleMark_quiet (n : Nat) (s : State) :
    quietOf (execCycleMark n s) = some s.quiet := by
  unfold execCycleMark
  simp only [↓State.quiet_mk, ↓Quiet.fold, ↓ite_quiet, ↓quietOf_go, ↓ite_quietOf, ite_self, ↓State.wr_quiet, ↓State.managerMark_quiet, ↓State.sendScan_quiet]

theorem execScanRx_quiet (src : Nat) (n : Nat) (es : List ScanEntry) (s : State) :
    quietOf (execScanRx src n es s) = some s.quiet := by
  unfold execScanRx
  simp only [↓State.quiet_mk, ↓Quiet.fold, ↓ite_quiet, ↓quietOf_go, ↓ite_quietOf, ite_self, implies_true, ↓foldl_quiet, ↓State.scanSeen_quiet, ↓State.scanEntry_quiet, ↓State.logLim_quiet, ↓State.log_quiet]

theorem execCycleJudgement_quiet (n : Nat) (s : State) :
    quietOf (execCycleJudgement n s) = some s.quiet := by
  unfold execCycleJudgement
  simp only [↓State.quiet_mk, ↓Quiet.fold, ↓ite_quiet, ↓quietOf_go, ↓ite_quietOf, ite_self, implies_true, ↓foldl_quiet, ↓State.judge_quiet, ↓State.log_quiet]

theorem execManagerLost_quiet (s : State) :
    quietOf (execManagerLost s) = some s.quiet := by
  unfold execManagerLost
  simp only [↓quietOf_go, ↓ite_quietOf, ite_self, ↓State.setF_quiet]

theorem execGrantRequestRx_quiet (device : Nat) (pubs : List Nat) (subs : List Nat) (s : State) :
    quietOf (execGrantRequestRx device pubs subs s) = some s.quiet := by
  unfold execGrantRequestRx
  simp only [↓State.quiet_mk, ↓Quiet.fold, ↓quietOf_go, ↓ite_quietOf, ite_self, ↓State.wr_quiet, ↓State.sendTable_quiet, ↓State.sendTo_quiet]

theorem execGrantTimeout_quiet (s : State) :
    quietOf (execGrantTimeout s) = some s.quiet := by
  unfold execGrantTimeout
  simp only [↓State.quiet_mk, ↓Quiet.fold, ↓quietOf_go, ↓State.giveBack_quiet, ↓State.complete_quiet, ↓State.facetAbort_quiet]
  (repeat' split) <;> simp only [↓State.quiet_mk, ↓Quiet.fold, ↓quietOf_go, ↓State.giveBack_quiet, ↓State.complete_quiet, ↓State.facetAbort_quiet]

theorem execRemoteItemRx_quiet (opcode : Nat) (it : Item) (deadline : Stamp) (s : State) :
    quietOf (execRemoteItemRx opcode it deadline s) = some s.quiet := by
  unfold execRemoteItemRx
  simp only [↓State.quiet_mk, ↓Quiet.fold, ↓quietOf_go, ↓ite_quietOf, ite_self, ↓State.emit_quiet, ↓State.intakeAdd_quiet]

theorem execRemoteResultRx_quiet (ring : Nat) (seq : Word) (status : Nat) (res : ResultAt) (d0 : Word) (d1 : Word) (d2 : Word) (d3 : Word) (s : State) :
    quietOf (execRemoteResultRx ring seq status res d0 d1 d2 d3 s) = some s.quiet := by
  unfold execRemoteResultRx
  (repeat' split) <;> simp only [↓quietOf_go, ↓State.completeClampedAt_quiet, ↓State.completeAt_quiet]

theorem execRemoteQueryTimer_quiet (ring : Nat) (seq : Word) (s : State) :
    quietOf (execRemoteQueryTimer ring seq s) = some s.quiet := by
  unfold execRemoteQueryTimer
  simp only [↓State.quiet_mk, ↓Quiet.fold, ↓quietOf_go, ↓State.emit_quiet, ↓State.log_quiet]
  (repeat' split) <;> simp only [↓State.quiet_mk, ↓Quiet.fold, ↓quietOf_go, ↓State.emit_quiet, ↓State.log_quiet]

theorem execRemoteQueryRx_quiet (device : Nat) (ring : Nat) (seq : Word) (s : State) :
    quietOf (execRemoteQueryRx device ring seq s) = some s.quiet := by
  unfold execRemoteQueryRx
  simp only [↓State.quiet_mk, ↓Quiet.fold, ↓quietOf_go, ↓ite_quietOf, ↓State.emit_quiet]
  (repeat' split) <;> simp only [↓State.quiet_mk, ↓Quiet.fold, ↓quietOf_go, ↓ite_quietOf, ↓State.emit_quiet]

theorem execJoinRequest_quiet (s : State) :
    quietOf (execJoinRequest s) = some s.quiet := by
  unfold execJoinRequest
  simp only [↓quietOf_go, ↓ite_quietOf, ite_self, ↓State.setF_quiet, ↓State.sendTo_quiet]

theorem execJoinRequestRx_quiet (device : Nat) (slot : Nat) (ring : Nat) (locked : Bool) (s : State) :
    quietOf (execJoinRequestRx device slot ring locked s) = some s.quiet := by
  unfold execJoinRequestRx
  simp only [↓State.quiet_mk, ↓Quiet.fold, ↓quietOf_go, ↓ite_quietOf, ite_self, ↓State.sendTo_quiet, ↓State.log_quiet]

theorem execPresenceTimeout_quiet (device : Nat) (s : State) :
    quietOf (execPresenceTimeout device s) = some s.quiet := by
  unfold execPresenceTimeout
  simp only [↓quietOf_go, ↓ite_quietOf, ite_self, ↓State.leaveList_quiet]

theorem execHeartbeatSend_quiet (s : State) :
    quietOf (execHeartbeatSend s) = some s.quiet := by
  unfold execHeartbeatSend
  simp only [↓State.quiet_mk, ↓Quiet.fold, ↓ite_quiet, ↓quietOf_go, ↓ite_quietOf, ite_self, ↓State.pairUpdate_quiet, ↓State.rampEnd_quiet, ↓State.lagShow_quiet]

theorem execHeartbeatRx_quiet (path : Nat) (w0 : Word) (w1 : Word) (w2 : Word) (w3 : Word) (again : Nat) (resync : Bool) (s : State) :
    quietOf (execHeartbeatRx path w0 w1 w2 w3 again resync s) = some s.quiet := by
  unfold execHeartbeatRx
  simp only [↓quietOf_go, ↓ite_quietOf, ite_self, ↓State.beatAct_quiet, ↓State.beatNote_quiet]

theorem execPathLost_quiet (path : Nat) (s : State) :
    quietOf (execPathLost path s) = some s.quiet := by
  unfold execPathLost
  simp only [↓ite_quiet, ↓quietOf_go, ↓ite_quietOf, ite_self, ↓State.pathDown_quiet, ↓State.partnerLost_quiet, ↓State.syncLeft_quiet, ↓State.pairUpdate_quiet]

theorem execEpochCapture_quiet (s : State) :
    quietOf (execEpochCapture s) = some s.quiet := by
  unfold execEpochCapture
  simp only [↓quietOf_go, ↓ite_quietOf, ite_self, ↓State.capture_quiet]

theorem execSyncLagTimeout_quiet (s : State) :
    quietOf (execSyncLagTimeout s) = some s.quiet := by
  unfold execSyncLagTimeout
  simp only [↓quietOf_go, ↓ite_quietOf, ite_self, ↓State.syncLeft_quiet, ↓State.lagShow_quiet]

theorem execArbWaitExpiry_quiet (s : State) :
    quietOf (execArbWaitExpiry s) = some s.quiet := by
  unfold execArbWaitExpiry
  simp only [↓quietOf_go, ↓ite_quietOf, ite_self, ↓State.toActive_quiet]

theorem execMirrorWaitTimeout_quiet (s : State) :
    quietOf (execMirrorWaitTimeout s) = some s.quiet := by
  unfold execMirrorWaitTimeout
  simp only [↓State.quiet_mk, ↓Quiet.fold, ↓quietOf_go, ↓ite_quietOf, ite_self]

theorem execPairYield_quiet (s : State) :
    quietOf (execPairYield s) = some s.quiet := by
  unfold execPairYield
  simp only [↓quietOf_go, ↓ite_quietOf, ite_self, ↓State.toStandby_quiet, ↓State.log_quiet, ↓State.rampOff_quiet]

theorem execMirSwitch_quiet (it : Item) (s : State) :
    quietOf (execMirSwitch it s) = some s.quiet := by
  unfold execMirSwitch
  simp only [↓State.quiet_mk, ↓Quiet.fold, ↓ite_quiet, ite_self, implies_true, ↓serve_quiet, ↓State.complete_quiet, ↓State.holdItem_quiet]

theorem execSwitchInstant_quiet (s : State) :
    quietOf (execSwitchInstant s) = some s.quiet := by
  unfold execSwitchInstant
  (repeat' split) <;> simp only [↓quietOf_go, ↓State.switchHold_quiet, ↓State.commitItem_quiet]

theorem execLeaveNoticeRx_quiet (s : State) :
    quietOf (execLeaveNoticeRx s) = some s.quiet := by
  unfold execLeaveNoticeRx
  simp only [↓State.quiet_mk, ↓Quiet.fold, ↓quietOf_go, ↓ite_quietOf, ite_self]

theorem execMirResync_quiet (it : Item) (s : State) :
    quietOf (execMirResync it s) = some s.quiet := by
  unfold execMirResync
  simp only [↓State.quiet_mk, ↓Quiet.fold, ↓ite_quiet, ite_self, implies_true, ↓serve_quiet, ↓State.complete_quiet, ↓State.holdItem_quiet]

theorem execResetOneChannel_quiet (ms : Nat) (s : State) :
    quietOf (execResetOneChannel ms s) = some s.quiet := by
  unfold execResetOneChannel
  simp only [↓quietOf_go, ↓ite_quietOf, ite_self, ↓State.resetRejected_quiet]

theorem execCrossLinkExchange_quiet (s : State) :
    quietOf (execCrossLinkExchange s) = some s.quiet := by
  unfold execCrossLinkExchange
  simp only [↓quietOf_go]

theorem execStatusFrame_quiet (ok : Bool) (s : State) :
    quietOf (execStatusFrame ok s) = some s.quiet := by
  unfold execStatusFrame
  simp only [↓ite_quiet, ↓quietOf_go, ↓ite_quietOf, ite_self, ↓State.incF_quiet, ↓State.viewSeen_quiet, ↓State.setF_quiet, ↓State.wr_quiet, ↓State.showPer_quiet, ↓State.raise_quiet, ↓State.stopDone_quiet]

theorem execStatusChannelLoss_quiet (s : State) :
    quietOf (execStatusChannelLoss s) = some s.quiet := by
  unfold execStatusChannelLoss
  simp only [↓quietOf_go, ↓ite_quietOf, ite_self, ↓State.setF_quiet, ↓State.wr_quiet, ↓State.log_quiet, ↓State.raise_quiet]

theorem execFaultEntry_quiet (e : Event) (st : Stamp) (seq : Word) (s : State) :
    quietOf (execFaultEntry e st seq s) = some s.quiet := by
  unfold execFaultEntry
  simp only [↓quietOf_go, ↓State.report_quiet]

theorem execEccCorrected_quiet (region : Nat) (addr : Nat) (s : State) :
    quietOf (execEccCorrected region addr s) = some s.quiet := by
  unfold execEccCorrected
  simp only [↓quietOf_go, ↓ite_quietOf, ite_self, ↓State.corrected_quiet]

theorem execEccUncorrectable_quiet (region : Nat) (addr : Nat) (obj : Nat) (dirty : Bool) (s : State) :
    quietOf (execEccUncorrectable region addr obj dirty s) = some s.quiet := by
  unfold execEccUncorrectable
  simp only [↓State.quiet_mk, ↓Quiet.fold, ↓ite_quiet, ↓quietOf_go, ↓ite_quietOf, ite_self, ↓State.uePoisoned_quiet, ↓State.ueRebuilt_quiet, ↓State.ueLoss_quiet, ↓State.log_quiet, ↓State.ueNote_quiet, ↓State.syncLeft_quiet, ↓State.faultPath_quiet]

theorem execPatrolScrub_quiet (percent : Nat) (dram : Bool) (s : State) :
    quietOf (execPatrolScrub percent dram s) = some s.quiet := by
  unfold execPatrolScrub
  simp only [↓ite_quiet, ↓quietOf_go, ↓ite_quietOf, ite_self, ↓State.setF_quiet, ↓State.incF_quiet]

theorem execFlashCheck_quiet (identBad : Bool) (s : State) :
    quietOf (execFlashCheck identBad s) = some s.quiet := by
  unfold execFlashCheck
  simp only [↓ite_quiet, ↓quietOf_go, ↓ite_quietOf, ite_self, ↓State.flashBad_quiet]

theorem execCoreWdtExpiry_quiet (s : State) :
    quietOf (execCoreWdtExpiry s) = some s.quiet := by
  unfold execCoreWdtExpiry
  simp only [↓quietOf_go, ↓ite_quietOf, ite_self, ↓State.wdExpire_quiet]

theorem execEngineWdtExpiry_quiet (source : Nat) (us : Nat) (s : State) :
    quietOf (execEngineWdtExpiry source us s) = some s.quiet := by
  unfold execEngineWdtExpiry
  simp only [↓quietOf_go, ↓ite_quietOf, ite_self, ↓State.log_quiet, ↓State.wdExpire_quiet]

theorem execAoComplianceClear_quiet (m : ChanMeas) (s : State) :
    quietOf (execAoComplianceClear m s) = some s.quiet := by
  unfold execAoComplianceClear
  simp only [↓quietOf_go, ↓ite_quietOf, ite_self, ↓State.setChan_quiet]

theorem execAoOpenClear_quiet (m : ChanMeas) (s : State) :
    quietOf (execAoOpenClear m s) = some s.quiet := by
  unfold execAoOpenClear
  simp only [↓quietOf_go, ↓ite_quietOf, ite_self, ↓State.setChan_quiet]

theorem execAoVOverloadClear_quiet (ch : Nat) (s : State) :
    quietOf (execAoVOverloadClear ch s) = some s.quiet := by
  unfold execAoVOverloadClear
  simp only [↓quietOf_go, ↓ite_quietOf, ite_self, ↓State.setChan_quiet]

theorem execMsixEnable_quiet (s : State) :
    quietOf (execMsixEnable s) = some s.quiet := by
  unfold execMsixEnable
  simp only [↓State.quiet_mk, ↓Quiet.fold, ↓quietOf_go, ↓State.raiseFaults_quiet]

theorem execGrantReplyRx_quiet (pubs : List Nat) (subs : List Nat) (ints : List Nat) (bad : Option Nat) (s : State) :
    quietOf (execGrantReplyRx pubs subs ints bad s) = some s.quiet := by
  unfold execGrantReplyRx
  simp only [↓State.quiet_mk, ↓Quiet.fold, ↓quietOf_go, ↓State.typeSubs_quiet, ↓State.cfgReject_quiet, ↓State.cfgEnd_quiet]
  (repeat' split) <;> simp only [↓State.quiet_mk, ↓Quiet.fold, ↓quietOf_go, ↓State.typeSubs_quiet, ↓State.cfgReject_quiet, ↓State.cfgEnd_quiet]

theorem execCycleFrameRx_quiet (n : Nat) (period : Nat) (version : Nat) (joins : List Nat) (leaves : List (Nat × Nat)) (ungranted : Nat) (s : State) :
    quietOf (execCycleFrameRx n period version joins leaves ungranted s) = some s.quiet := by
  unfold execCycleFrameRx
  simp only [↓State.quiet_mk, ↓Quiet.fold, ↓ite_quiet, ↓quietOf_go, ↓ite_quietOf, ite_self, implies_true, ↓foldl_quiet, ↓State.setF_quiet, ↓State.joined_quiet, ↓State.left_quiet, ↓State.admitPubs_quiet, ↓State.showMembers_quiet, ↓State.log_quiet]

theorem execJoinReplyRx_quiet (reason : Nat) (s : State) :
    quietOf (execJoinReplyRx reason s) = some s.quiet := by
  unfold execJoinReplyRx
  simp only [↓quietOf_go, ↓State.log_quiet, ↓State.setF_quiet]

theorem execQueryAnswerRx_quiet (ring : Nat) (seq : Word) (verdict : Nat) (status : Nat) (s : State) :
    quietOf (execQueryAnswerRx ring seq verdict status s) = some s.quiet := by
  unfold execQueryAnswerRx
  (repeat' split) <;> simp only [↓quietOf_go, ↓State.complete_quiet]

theorem execLeaveRequestRx_quiet (device : Nat) (cause : Nat) (s : State) :
    quietOf (execLeaveRequestRx device cause s) = some s.quiet := by
  unfold execLeaveRequestRx
  simp only [↓quietOf_go, ↓ite_quietOf, ite_self, ↓State.leaveList_quiet]

end Sys2Proof.Machine
end

