-- ==== Sys2Proof/Laws/State.lean ====
section
/-! SUPPORT. One lemma per part of the state and per named update: what the update leaves of the part. No later proof
unfolds a record update. -/

namespace Sys2Proof.Machine

/-! `State.wrA` -/

@[simp] theorem State.wrA_pending (s : State) (a : Nat) (w : Word) : (s.wrA a w).pending = s.pending := rfl
@[simp] theorem State.wrA_regs (s : State) (a : Nat) (w : Word) : (s.wrA a w).regs = tabSet regReset s.regs a w := rfl
@[simp] theorem State.wrA_mer (s : State) (a : Nat) (w : Word) : (s.wrA a w).mer = s.mer := rfl
@[simp] theorem State.wrA_tr (s : State) (a : Nat) (w : Word) : (s.wrA a w).tr = s.tr := rfl
@[simp] theorem State.wrA_hif (s : State) (a : Nat) (w : Word) : (s.wrA a w).hif = s.hif := rfl
@[simp] theorem State.wrA_cfg (s : State) (a : Nat) (w : Word) : (s.wrA a w).cfg = s.cfg := rfl
@[simp] theorem State.wrA_dram (s : State) (a : Nat) (w : Word) : (s.wrA a w).dram = s.dram := rfl
@[simp] theorem State.wrA_mram (s : State) (a : Nat) (w : Word) : (s.wrA a w).mram = s.mram := rfl
@[simp] theorem State.wrA_flash (s : State) (a : Nat) (w : Word) : (s.wrA a w).flash = s.flash := rfl
@[simp] theorem State.wrA_host (s : State) (a : Nat) (w : Word) : (s.wrA a w).host = s.host := rfl
@[simp] theorem State.wrA_sys (s : State) (a : Nat) (w : Word) : (s.wrA a w).sys = s.sys := rfl
@[simp] theorem State.wrA_vxl (s : State) (a : Nat) (w : Word) : (s.wrA a w).vxl = s.vxl := rfl
@[simp] theorem State.wrA_mir (s : State) (a : Nat) (w : Word) : (s.wrA a w).mir = s.mir := rfl
@[simp] theorem State.wrA_fct (s : State) (a : Nat) (w : Word) : (s.wrA a w).fct = s.fct := rfl
@[simp] theorem State.wrA_tan (s : State) (a : Nat) (w : Word) : (s.wrA a w).tan = s.tan := rfl
@[simp] theorem State.wrA_lat (s : State) (a : Nat) (w : Word) : (s.wrA a w).lat = s.lat := rfl
@[simp] theorem State.wrA_arc (s : State) (a : Nat) (w : Word) : (s.wrA a w).arc = s.arc := rfl
@[simp] theorem State.wrA_prm (s : State) (a : Nat) (w : Word) : (s.wrA a w).prm = s.prm := rfl
@[simp] theorem State.wrA_loc (s : State) (a : Nat) (w : Word) : (s.wrA a w).loc = s.loc := rfl
@[simp] theorem State.wrA_can (s : State) (a : Nat) (w : Word) : (s.wrA a w).can = s.can := rfl
@[simp] theorem State.wrA_eth (s : State) (a : Nat) (w : Word) : (s.wrA a w).eth = s.eth := rfl
@[simp] theorem State.wrA_per (s : State) (a : Nat) (w : Word) : (s.wrA a w).per = s.per := rfl
@[simp] theorem State.wrA_out (s : State) (a : Nat) (w : Word) : (s.wrA a w).out = s.out := rfl
@[simp] theorem State.wrA_free (s : State) (a : Nat) (w : Word) : (s.wrA a w).free = s.free := rfl

/-! `State.wr` -/

@[simp] theorem State.wr_pending (s : State) (r : Reg) (i j : Nat) (w : Word) :
    (s.wr r i j w).pending = s.pending := rfl
@[simp] theorem State.wr_mer (s : State) (r : Reg) (i j : Nat) (w : Word) : (s.wr r i j w).mer = s.mer := rfl
@[simp] theorem State.wr_tr (s : State) (r : Reg) (i j : Nat) (w : Word) : (s.wr r i j w).tr = s.tr := rfl
@[simp] theorem State.wr_hif (s : State) (r : Reg) (i j : Nat) (w : Word) : (s.wr r i j w).hif = s.hif := rfl
@[simp] theorem State.wr_cfg (s : State) (r : Reg) (i j : Nat) (w : Word) : (s.wr r i j w).cfg = s.cfg := rfl
@[simp] theorem State.wr_dram (s : State) (r : Reg) (i j : Nat) (w : Word) : (s.wr r i j w).dram = s.dram := rfl
@[simp] theorem State.wr_mram (s : State) (r : Reg) (i j : Nat) (w : Word) : (s.wr r i j w).mram = s.mram := rfl
@[simp] theorem State.wr_flash (s : State) (r : Reg) (i j : Nat) (w : Word) : (s.wr r i j w).flash = s.flash := rfl
@[simp] theorem State.wr_host (s : State) (r : Reg) (i j : Nat) (w : Word) : (s.wr r i j w).host = s.host := rfl
@[simp] theorem State.wr_sys (s : State) (r : Reg) (i j : Nat) (w : Word) : (s.wr r i j w).sys = s.sys := rfl
@[simp] theorem State.wr_vxl (s : State) (r : Reg) (i j : Nat) (w : Word) : (s.wr r i j w).vxl = s.vxl := rfl
@[simp] theorem State.wr_mir (s : State) (r : Reg) (i j : Nat) (w : Word) : (s.wr r i j w).mir = s.mir := rfl
@[simp] theorem State.wr_fct (s : State) (r : Reg) (i j : Nat) (w : Word) : (s.wr r i j w).fct = s.fct := rfl
@[simp] theorem State.wr_tan (s : State) (r : Reg) (i j : Nat) (w : Word) : (s.wr r i j w).tan = s.tan := rfl
@[simp] theorem State.wr_lat (s : State) (r : Reg) (i j : Nat) (w : Word) : (s.wr r i j w).lat = s.lat := rfl
@[simp] theorem State.wr_arc (s : State) (r : Reg) (i j : Nat) (w : Word) : (s.wr r i j w).arc = s.arc := rfl
@[simp] theorem State.wr_prm (s : State) (r : Reg) (i j : Nat) (w : Word) : (s.wr r i j w).prm = s.prm := rfl
@[simp] theorem State.wr_loc (s : State) (r : Reg) (i j : Nat) (w : Word) : (s.wr r i j w).loc = s.loc := rfl
@[simp] theorem State.wr_can (s : State) (r : Reg) (i j : Nat) (w : Word) : (s.wr r i j w).can = s.can := rfl
@[simp] theorem State.wr_eth (s : State) (r : Reg) (i j : Nat) (w : Word) : (s.wr r i j w).eth = s.eth := rfl
@[simp] theorem State.wr_per (s : State) (r : Reg) (i j : Nat) (w : Word) : (s.wr r i j w).per = s.per := rfl
@[simp] theorem State.wr_out (s : State) (r : Reg) (i j : Nat) (w : Word) : (s.wr r i j w).out = s.out := rfl
@[simp] theorem State.wr_free (s : State) (r : Reg) (i j : Nat) (w : Word) : (s.wr r i j w).free = s.free := rfl

/-! `State.setF` -/

@[simp] theorem State.setF_pending (s : State) (f : Fld) (i j v : Nat) : (s.setF f i j v).pending = s.pending := rfl
@[simp] theorem State.setF_mer (s : State) (f : Fld) (i j v : Nat) : (s.setF f i j v).mer = s.mer := rfl
@[simp] theorem State.setF_tr (s : State) (f : Fld) (i j v : Nat) : (s.setF f i j v).tr = s.tr := rfl
@[simp] theorem State.setF_hif (s : State) (f : Fld) (i j v : Nat) : (s.setF f i j v).hif = s.hif := rfl
@[simp] theorem State.setF_cfg (s : State) (f : Fld) (i j v : Nat) : (s.setF f i j v).cfg = s.cfg := rfl
@[simp] theorem State.setF_dram (s : State) (f : Fld) (i j v : Nat) : (s.setF f i j v).dram = s.dram := rfl
@[simp] theorem State.setF_mram (s : State) (f : Fld) (i j v : Nat) : (s.setF f i j v).mram = s.mram := rfl
@[simp] theorem State.setF_flash (s : State) (f : Fld) (i j v : Nat) : (s.setF f i j v).flash = s.flash := rfl
@[simp] theorem State.setF_host (s : State) (f : Fld) (i j v : Nat) : (s.setF f i j v).host = s.host := rfl
@[simp] theorem State.setF_sys (s : State) (f : Fld) (i j v : Nat) : (s.setF f i j v).sys = s.sys := rfl
@[simp] theorem State.setF_vxl (s : State) (f : Fld) (i j v : Nat) : (s.setF f i j v).vxl = s.vxl := rfl
@[simp] theorem State.setF_mir (s : State) (f : Fld) (i j v : Nat) : (s.setF f i j v).mir = s.mir := rfl
@[simp] theorem State.setF_fct (s : State) (f : Fld) (i j v : Nat) : (s.setF f i j v).fct = s.fct := rfl
@[simp] theorem State.setF_tan (s : State) (f : Fld) (i j v : Nat) : (s.setF f i j v).tan = s.tan := rfl
@[simp] theorem State.setF_lat (s : State) (f : Fld) (i j v : Nat) : (s.setF f i j v).lat = s.lat := rfl
@[simp] theorem State.setF_arc (s : State) (f : Fld) (i j v : Nat) : (s.setF f i j v).arc = s.arc := rfl
@[simp] theorem State.setF_prm (s : State) (f : Fld) (i j v : Nat) : (s.setF f i j v).prm = s.prm := rfl
@[simp] theorem State.setF_loc (s : State) (f : Fld) (i j v : Nat) : (s.setF f i j v).loc = s.loc := rfl
@[simp] theorem State.setF_can (s : State) (f : Fld) (i j v : Nat) : (s.setF f i j v).can = s.can := rfl
@[simp] theorem State.setF_eth (s : State) (f : Fld) (i j v : Nat) : (s.setF f i j v).eth = s.eth := rfl
@[simp] theorem State.setF_per (s : State) (f : Fld) (i j v : Nat) : (s.setF f i j v).per = s.per := rfl
@[simp] theorem State.setF_out (s : State) (f : Fld) (i j v : Nat) : (s.setF f i j v).out = s.out := rfl
@[simp] theorem State.setF_free (s : State) (f : Fld) (i j v : Nat) : (s.setF f i j v).free = s.free := rfl

/-! `State.incF` -/

@[simp] theorem State.incF_pending (s : State) (f : Fld) (i j k : Nat) : (s.incF f i j k).pending = s.pending := rfl
@[simp] theorem State.incF_mer (s : State) (f : Fld) (i j k : Nat) : (s.incF f i j k).mer = s.mer := rfl
@[simp] theorem State.incF_tr (s : State) (f : Fld) (i j k : Nat) : (s.incF f i j k).tr = s.tr := rfl
@[simp] theorem State.incF_hif (s : State) (f : Fld) (i j k : Nat) : (s.incF f i j k).hif = s.hif := rfl
@[simp] theorem State.incF_cfg (s : State) (f : Fld) (i j k : Nat) : (s.incF f i j k).cfg = s.cfg := rfl
@[simp] theorem State.incF_dram (s : State) (f : Fld) (i j k : Nat) : (s.incF f i j k).dram = s.dram := rfl
@[simp] theorem State.incF_mram (s : State) (f : Fld) (i j k : Nat) : (s.incF f i j k).mram = s.mram := rfl
@[simp] theorem State.incF_flash (s : State) (f : Fld) (i j k : Nat) : (s.incF f i j k).flash = s.flash := rfl
@[simp] theorem State.incF_host (s : State) (f : Fld) (i j k : Nat) : (s.incF f i j k).host = s.host := rfl
@[simp] theorem State.incF_sys (s : State) (f : Fld) (i j k : Nat) : (s.incF f i j k).sys = s.sys := rfl
@[simp] theorem State.incF_vxl (s : State) (f : Fld) (i j k : Nat) : (s.incF f i j k).vxl = s.vxl := rfl
@[simp] theorem State.incF_mir (s : State) (f : Fld) (i j k : Nat) : (s.incF f i j k).mir = s.mir := rfl
@[simp] theorem State.incF_fct (s : State) (f : Fld) (i j k : Nat) : (s.incF f i j k).fct = s.fct := rfl
@[simp] theorem State.incF_tan (s : State) (f : Fld) (i j k : Nat) : (s.incF f i j k).tan = s.tan := rfl
@[simp] theorem State.incF_lat (s : State) (f : Fld) (i j k : Nat) : (s.incF f i j k).lat = s.lat := rfl
@[simp] theorem State.incF_arc (s : State) (f : Fld) (i j k : Nat) : (s.incF f i j k).arc = s.arc := rfl
@[simp] theorem State.incF_prm (s : State) (f : Fld) (i j k : Nat) : (s.incF f i j k).prm = s.prm := rfl
@[simp] theorem State.incF_loc (s : State) (f : Fld) (i j k : Nat) : (s.incF f i j k).loc = s.loc := rfl
@[simp] theorem State.incF_can (s : State) (f : Fld) (i j k : Nat) : (s.incF f i j k).can = s.can := rfl
@[simp] theorem State.incF_eth (s : State) (f : Fld) (i j k : Nat) : (s.incF f i j k).eth = s.eth := rfl
@[simp] theorem State.incF_per (s : State) (f : Fld) (i j k : Nat) : (s.incF f i j k).per = s.per := rfl
@[simp] theorem State.incF_out (s : State) (f : Fld) (i j k : Nat) : (s.incF f i j k).out = s.out := rfl
@[simp] theorem State.incF_free (s : State) (f : Fld) (i j k : Nat) : (s.incF f i j k).free = s.free := rfl

/-! `State.wrapF` -/

@[simp] theorem State.wrapF_pending (s : State) (f : Fld) (i j k : Nat) : (s.wrapF f i j k).pending = s.pending := rfl
@[simp] theorem State.wrapF_mer (s : State) (f : Fld) (i j k : Nat) : (s.wrapF f i j k).mer = s.mer := rfl
@[simp] theorem State.wrapF_tr (s : State) (f : Fld) (i j k : Nat) : (s.wrapF f i j k).tr = s.tr := rfl
@[simp] theorem State.wrapF_hif (s : State) (f : Fld) (i j k : Nat) : (s.wrapF f i j k).hif = s.hif := rfl
@[simp] theorem State.wrapF_cfg (s : State) (f : Fld) (i j k : Nat) : (s.wrapF f i j k).cfg = s.cfg := rfl
@[simp] theorem State.wrapF_dram (s : State) (f : Fld) (i j k : Nat) : (s.wrapF f i j k).dram = s.dram := rfl
@[simp] theorem State.wrapF_mram (s : State) (f : Fld) (i j k : Nat) : (s.wrapF f i j k).mram = s.mram := rfl
@[simp] theorem State.wrapF_flash (s : State) (f : Fld) (i j k : Nat) : (s.wrapF f i j k).flash = s.flash := rfl
@[simp] theorem State.wrapF_host (s : State) (f : Fld) (i j k : Nat) : (s.wrapF f i j k).host = s.host := rfl
@[simp] theorem State.wrapF_sys (s : State) (f : Fld) (i j k : Nat) : (s.wrapF f i j k).sys = s.sys := rfl
@[simp] theorem State.wrapF_vxl (s : State) (f : Fld) (i j k : Nat) : (s.wrapF f i j k).vxl = s.vxl := rfl
@[simp] theorem State.wrapF_mir (s : State) (f : Fld) (i j k : Nat) : (s.wrapF f i j k).mir = s.mir := rfl
@[simp] theorem State.wrapF_fct (s : State) (f : Fld) (i j k : Nat) : (s.wrapF f i j k).fct = s.fct := rfl
@[simp] theorem State.wrapF_tan (s : State) (f : Fld) (i j k : Nat) : (s.wrapF f i j k).tan = s.tan := rfl
@[simp] theorem State.wrapF_lat (s : State) (f : Fld) (i j k : Nat) : (s.wrapF f i j k).lat = s.lat := rfl
@[simp] theorem State.wrapF_arc (s : State) (f : Fld) (i j k : Nat) : (s.wrapF f i j k).arc = s.arc := rfl
@[simp] theorem State.wrapF_prm (s : State) (f : Fld) (i j k : Nat) : (s.wrapF f i j k).prm = s.prm := rfl
@[simp] theorem State.wrapF_loc (s : State) (f : Fld) (i j k : Nat) : (s.wrapF f i j k).loc = s.loc := rfl
@[simp] theorem State.wrapF_can (s : State) (f : Fld) (i j k : Nat) : (s.wrapF f i j k).can = s.can := rfl
@[simp] theorem State.wrapF_eth (s : State) (f : Fld) (i j k : Nat) : (s.wrapF f i j k).eth = s.eth := rfl
@[simp] theorem State.wrapF_per (s : State) (f : Fld) (i j k : Nat) : (s.wrapF f i j k).per = s.per := rfl
@[simp] theorem State.wrapF_out (s : State) (f : Fld) (i j k : Nat) : (s.wrapF f i j k).out = s.out := rfl
@[simp] theorem State.wrapF_free (s : State) (f : Fld) (i j k : Nat) : (s.wrapF f i j k).free = s.free := rfl

/-! `State.setCf` -/

@[simp] theorem State.setCf_pending (s : State) (c : Cf) (i e : Nat) (v : Word) :
    (s.setCf c i e v).pending = s.pending := rfl
@[simp] theorem State.setCf_regs (s : State) (c : Cf) (i e : Nat) (v : Word) : (s.setCf c i e v).regs = s.regs := rfl
@[simp] theorem State.setCf_mer (s : State) (c : Cf) (i e : Nat) (v : Word) : (s.setCf c i e v).mer = s.mer := rfl
@[simp] theorem State.setCf_tr (s : State) (c : Cf) (i e : Nat) (v : Word) : (s.setCf c i e v).tr = s.tr := rfl
@[simp] theorem State.setCf_hif (s : State) (c : Cf) (i e : Nat) (v : Word) : (s.setCf c i e v).hif = s.hif := rfl
@[simp] theorem State.setCf_dram (s : State) (c : Cf) (i e : Nat) (v : Word) : (s.setCf c i e v).dram = s.dram := rfl
@[simp] theorem State.setCf_mram (s : State) (c : Cf) (i e : Nat) (v : Word) : (s.setCf c i e v).mram = s.mram := rfl
@[simp] theorem State.setCf_flash (s : State) (c : Cf) (i e : Nat) (v : Word) :
    (s.setCf c i e v).flash = s.flash := rfl
@[simp] theorem State.setCf_host (s : State) (c : Cf) (i e : Nat) (v : Word) : (s.setCf c i e v).host = s.host := rfl
@[simp] theorem State.setCf_sys (s : State) (c : Cf) (i e : Nat) (v : Word) : (s.setCf c i e v).sys = s.sys := rfl
@[simp] theorem State.setCf_vxl (s : State) (c : Cf) (i e : Nat) (v : Word) : (s.setCf c i e v).vxl = s.vxl := rfl
@[simp] theorem State.setCf_mir (s : State) (c : Cf) (i e : Nat) (v : Word) : (s.setCf c i e v).mir = s.mir := rfl
@[simp] theorem State.setCf_fct (s : State) (c : Cf) (i e : Nat) (v : Word) : (s.setCf c i e v).fct = s.fct := rfl
@[simp] theorem State.setCf_tan (s : State) (c : Cf) (i e : Nat) (v : Word) : (s.setCf c i e v).tan = s.tan := rfl
@[simp] theorem State.setCf_lat (s : State) (c : Cf) (i e : Nat) (v : Word) : (s.setCf c i e v).lat = s.lat := rfl
@[simp] theorem State.setCf_arc (s : State) (c : Cf) (i e : Nat) (v : Word) : (s.setCf c i e v).arc = s.arc := rfl
@[simp] theorem State.setCf_prm (s : State) (c : Cf) (i e : Nat) (v : Word) : (s.setCf c i e v).prm = s.prm := rfl
@[simp] theorem State.setCf_loc (s : State) (c : Cf) (i e : Nat) (v : Word) : (s.setCf c i e v).loc = s.loc := rfl
@[simp] theorem State.setCf_can (s : State) (c : Cf) (i e : Nat) (v : Word) : (s.setCf c i e v).can = s.can := rfl
@[simp] theorem State.setCf_eth (s : State) (c : Cf) (i e : Nat) (v : Word) : (s.setCf c i e v).eth = s.eth := rfl
@[simp] theorem State.setCf_per (s : State) (c : Cf) (i e : Nat) (v : Word) : (s.setCf c i e v).per = s.per := rfl
@[simp] theorem State.setCf_out (s : State) (c : Cf) (i e : Nat) (v : Word) : (s.setCf c i e v).out = s.out := rfl
@[simp] theorem State.setCf_free (s : State) (c : Cf) (i e : Nat) (v : Word) : (s.setCf c i e v).free = s.free := rfl

/-! `State.report` -/

@[simp] theorem State.report_pending (s : State) (ws : List Work) : (s.report ws).pending = s.pending := rfl
@[simp] theorem State.report_regs (s : State) (ws : List Work) : (s.report ws).regs = s.regs := rfl
@[simp] theorem State.report_mer (s : State) (ws : List Work) : (s.report ws).mer = s.mer := rfl
@[simp] theorem State.report_hif (s : State) (ws : List Work) : (s.report ws).hif = s.hif := rfl
@[simp] theorem State.report_cfg (s : State) (ws : List Work) : (s.report ws).cfg = s.cfg := rfl
@[simp] theorem State.report_dram (s : State) (ws : List Work) : (s.report ws).dram = s.dram := rfl
@[simp] theorem State.report_mram (s : State) (ws : List Work) : (s.report ws).mram = s.mram := rfl
@[simp] theorem State.report_flash (s : State) (ws : List Work) : (s.report ws).flash = s.flash := rfl
@[simp] theorem State.report_host (s : State) (ws : List Work) : (s.report ws).host = s.host := rfl
@[simp] theorem State.report_sys (s : State) (ws : List Work) : (s.report ws).sys = s.sys := rfl
@[simp] theorem State.report_vxl (s : State) (ws : List Work) : (s.report ws).vxl = s.vxl := rfl
@[simp] theorem State.report_mir (s : State) (ws : List Work) : (s.report ws).mir = s.mir := rfl
@[simp] theorem State.report_fct (s : State) (ws : List Work) : (s.report ws).fct = s.fct := rfl
@[simp] theorem State.report_tan (s : State) (ws : List Work) : (s.report ws).tan = s.tan := rfl
@[simp] theorem State.report_lat (s : State) (ws : List Work) : (s.report ws).lat = s.lat := rfl
@[simp] theorem State.report_arc (s : State) (ws : List Work) : (s.report ws).arc = s.arc := rfl
@[simp] theorem State.report_prm (s : State) (ws : List Work) : (s.report ws).prm = s.prm := rfl
@[simp] theorem State.report_loc (s : State) (ws : List Work) : (s.report ws).loc = s.loc := rfl
@[simp] theorem State.report_can (s : State) (ws : List Work) : (s.report ws).can = s.can := rfl
@[simp] theorem State.report_eth (s : State) (ws : List Work) : (s.report ws).eth = s.eth := rfl
@[simp] theorem State.report_per (s : State) (ws : List Work) : (s.report ws).per = s.per := rfl
@[simp] theorem State.report_out (s : State) (ws : List Work) : (s.report ws).out = s.out := rfl
@[simp] theorem State.report_free (s : State) (ws : List Work) : (s.report ws).free = s.free := rfl

/-! `State.log` -/

@[simp] theorem State.log_pending (s : State) (code inst : Nat) (p q r t : Word) :
    (s.log code inst p q r t).pending = s.pending := rfl
@[simp] theorem State.log_regs (s : State) (code inst : Nat) (p q r t : Word) :
    (s.log code inst p q r t).regs = s.regs := rfl
@[simp] theorem State.log_mer (s : State) (code inst : Nat) (p q r t : Word) :
    (s.log code inst p q r t).mer = s.mer := rfl
@[simp] theorem State.log_hif (s : State) (code inst : Nat) (p q r t : Word) :
    (s.log code inst p q r t).hif = s.hif := rfl
@[simp] theorem State.log_cfg (s : State) (code inst : Nat) (p q r t : Word) :
    (s.log code inst p q r t).cfg = s.cfg := rfl
@[simp] theorem State.log_dram (s : State) (code inst : Nat) (p q r t : Word) :
    (s.log code inst p q r t).dram = s.dram := rfl
@[simp] theorem State.log_mram (s : State) (code inst : Nat) (p q r t : Word) :
    (s.log code inst p q r t).mram = s.mram := rfl
@[simp] theorem State.log_flash (s : State) (code inst : Nat) (p q r t : Word) :
    (s.log code inst p q r t).flash = s.flash := rfl
@[simp] theorem State.log_host (s : State) (code inst : Nat) (p q r t : Word) :
    (s.log code inst p q r t).host = s.host := rfl
@[simp] theorem State.log_sys (s : State) (code inst : Nat) (p q r t : Word) :
    (s.log code inst p q r t).sys = s.sys := rfl
@[simp] theorem State.log_vxl (s : State) (code inst : Nat) (p q r t : Word) :
    (s.log code inst p q r t).vxl = s.vxl := rfl
@[simp] theorem State.log_mir (s : State) (code inst : Nat) (p q r t : Word) :
    (s.log code inst p q r t).mir = s.mir := rfl
@[simp] theorem State.log_fct (s : State) (code inst : Nat) (p q r t : Word) :
    (s.log code inst p q r t).fct = s.fct := rfl
@[simp] theorem State.log_tan (s : State) (code inst : Nat) (p q r t : Word) :
    (s.log code inst p q r t).tan = s.tan := rfl
@[simp] theorem State.log_lat (s : State) (code inst : Nat) (p q r t : Word) :
    (s.log code inst p q r t).lat = s.lat := rfl
@[simp] theorem State.log_arc (s : State) (code inst : Nat) (p q r t : Word) :
    (s.log code inst p q r t).arc = s.arc := rfl
@[simp] theorem State.log_prm (s : State) (code inst : Nat) (p q r t : Word) :
    (s.log code inst p q r t).prm = s.prm := rfl
@[simp] theorem State.log_loc (s : State) (code inst : Nat) (p q r t : Word) :
    (s.log code inst p q r t).loc = s.loc := rfl
@[simp] theorem State.log_can (s : State) (code inst : Nat) (p q r t : Word) :
    (s.log code inst p q r t).can = s.can := rfl
@[simp] theorem State.log_eth (s : State) (code inst : Nat) (p q r t : Word) :
    (s.log code inst p q r t).eth = s.eth := rfl
@[simp] theorem State.log_per (s : State) (code inst : Nat) (p q r t : Word) :
    (s.log code inst p q r t).per = s.per := rfl
@[simp] theorem State.log_out (s : State) (code inst : Nat) (p q r t : Word) :
    (s.log code inst p q r t).out = s.out := rfl
@[simp] theorem State.log_free (s : State) (code inst : Nat) (p q r t : Word) :
    (s.log code inst p q r t).free = s.free := rfl

/-! `State.raise` -/

@[simp] theorem State.raise_pending (s : State) (n inst code : Nat) (p : Word) :
    (s.raise n inst code p).pending = s.pending := rfl
@[simp] theorem State.raise_regs (s : State) (n inst code : Nat) (p : Word) :
    (s.raise n inst code p).regs = s.regs := rfl
@[simp] theorem State.raise_mer (s : State) (n inst code : Nat) (p : Word) :
    (s.raise n inst code p).mer = s.mer := rfl
@[simp] theorem State.raise_hif (s : State) (n inst code : Nat) (p : Word) :
    (s.raise n inst code p).hif = s.hif := rfl
@[simp] theorem State.raise_cfg (s : State) (n inst code : Nat) (p : Word) :
    (s.raise n inst code p).cfg = s.cfg := rfl
@[simp] theorem State.raise_dram (s : State) (n inst code : Nat) (p : Word) :
    (s.raise n inst code p).dram = s.dram := rfl
@[simp] theorem State.raise_mram (s : State) (n inst code : Nat) (p : Word) :
    (s.raise n inst code p).mram = s.mram := rfl
@[simp] theorem State.raise_flash (s : State) (n inst code : Nat) (p : Word) :
    (s.raise n inst code p).flash = s.flash := rfl
@[simp] theorem State.raise_host (s : State) (n inst code : Nat) (p : Word) :
    (s.raise n inst code p).host = s.host := rfl
@[simp] theorem State.raise_sys (s : State) (n inst code : Nat) (p : Word) :
    (s.raise n inst code p).sys = s.sys := rfl
@[simp] theorem State.raise_vxl (s : State) (n inst code : Nat) (p : Word) :
    (s.raise n inst code p).vxl = s.vxl := rfl
@[simp] theorem State.raise_mir (s : State) (n inst code : Nat) (p : Word) :
    (s.raise n inst code p).mir = s.mir := rfl
@[simp] theorem State.raise_fct (s : State) (n inst code : Nat) (p : Word) :
    (s.raise n inst code p).fct = s.fct := rfl
@[simp] theorem State.raise_tan (s : State) (n inst code : Nat) (p : Word) :
    (s.raise n inst code p).tan = s.tan := rfl
@[simp] theorem State.raise_lat (s : State) (n inst code : Nat) (p : Word) :
    (s.raise n inst code p).lat = s.lat := rfl
@[simp] theorem State.raise_arc (s : State) (n inst code : Nat) (p : Word) :
    (s.raise n inst code p).arc = s.arc := rfl
@[simp] theorem State.raise_prm (s : State) (n inst code : Nat) (p : Word) :
    (s.raise n inst code p).prm = s.prm := rfl
@[simp] theorem State.raise_loc (s : State) (n inst code : Nat) (p : Word) :
    (s.raise n inst code p).loc = s.loc := rfl
@[simp] theorem State.raise_can (s : State) (n inst code : Nat) (p : Word) :
    (s.raise n inst code p).can = s.can := rfl
@[simp] theorem State.raise_eth (s : State) (n inst code : Nat) (p : Word) :
    (s.raise n inst code p).eth = s.eth := rfl
@[simp] theorem State.raise_per (s : State) (n inst code : Nat) (p : Word) :
    (s.raise n inst code p).per = s.per := rfl
@[simp] theorem State.raise_out (s : State) (n inst code : Nat) (p : Word) :
    (s.raise n inst code p).out = s.out := rfl
@[simp] theorem State.raise_free (s : State) (n inst code : Nat) (p : Word) :
    (s.raise n inst code p).free = s.free := rfl

/-! `State.setHlx` -/

@[simp] theorem State.setHlx_pending (s : State) (h : HlxSt) : (s.setHlx h).pending = s.pending := rfl
@[simp] theorem State.setHlx_regs (s : State) (h : HlxSt) : (s.setHlx h).regs = s.regs := rfl
@[simp] theorem State.setHlx_mer (s : State) (h : HlxSt) : (s.setHlx h).mer = s.mer := rfl
@[simp] theorem State.setHlx_hif (s : State) (h : HlxSt) : (s.setHlx h).hif = s.hif := rfl
@[simp] theorem State.setHlx_cfg (s : State) (h : HlxSt) : (s.setHlx h).cfg = s.cfg := rfl
@[simp] theorem State.setHlx_dram (s : State) (h : HlxSt) : (s.setHlx h).dram = s.dram := rfl
@[simp] theorem State.setHlx_mram (s : State) (h : HlxSt) : (s.setHlx h).mram = s.mram := rfl
@[simp] theorem State.setHlx_flash (s : State) (h : HlxSt) : (s.setHlx h).flash = s.flash := rfl
@[simp] theorem State.setHlx_host (s : State) (h : HlxSt) : (s.setHlx h).host = s.host := rfl
@[simp] theorem State.setHlx_sys (s : State) (h : HlxSt) : (s.setHlx h).sys = s.sys := rfl
@[simp] theorem State.setHlx_vxl (s : State) (h : HlxSt) : (s.setHlx h).vxl = s.vxl := rfl
@[simp] theorem State.setHlx_mir (s : State) (h : HlxSt) : (s.setHlx h).mir = s.mir := rfl
@[simp] theorem State.setHlx_fct (s : State) (h : HlxSt) : (s.setHlx h).fct = s.fct := rfl
@[simp] theorem State.setHlx_tan (s : State) (h : HlxSt) : (s.setHlx h).tan = s.tan := rfl
@[simp] theorem State.setHlx_lat (s : State) (h : HlxSt) : (s.setHlx h).lat = s.lat := rfl
@[simp] theorem State.setHlx_arc (s : State) (h : HlxSt) : (s.setHlx h).arc = s.arc := rfl
@[simp] theorem State.setHlx_prm (s : State) (h : HlxSt) : (s.setHlx h).prm = s.prm := rfl
@[simp] theorem State.setHlx_loc (s : State) (h : HlxSt) : (s.setHlx h).loc = s.loc := rfl
@[simp] theorem State.setHlx_can (s : State) (h : HlxSt) : (s.setHlx h).can = s.can := rfl
@[simp] theorem State.setHlx_eth (s : State) (h : HlxSt) : (s.setHlx h).eth = s.eth := rfl
@[simp] theorem State.setHlx_per (s : State) (h : HlxSt) : (s.setHlx h).per = s.per := rfl
@[simp] theorem State.setHlx_out (s : State) (h : HlxSt) : (s.setHlx h).out = s.out := rfl
@[simp] theorem State.setHlx_free (s : State) (h : HlxSt) : (s.setHlx h).free = s.free := rfl

/-! `State.setVtx` -/

@[simp] theorem State.setVtx_pending (s : State) (v : VtxSt) : (s.setVtx v).pending = s.pending := rfl
@[simp] theorem State.setVtx_regs (s : State) (v : VtxSt) : (s.setVtx v).regs = s.regs := rfl
@[simp] theorem State.setVtx_mer (s : State) (v : VtxSt) : (s.setVtx v).mer = s.mer := rfl
@[simp] theorem State.setVtx_hif (s : State) (v : VtxSt) : (s.setVtx v).hif = s.hif := rfl
@[simp] theorem State.setVtx_cfg (s : State) (v : VtxSt) : (s.setVtx v).cfg = s.cfg := rfl
@[simp] theorem State.setVtx_dram (s : State) (v : VtxSt) : (s.setVtx v).dram = s.dram := rfl
@[simp] theorem State.setVtx_mram (s : State) (v : VtxSt) : (s.setVtx v).mram = s.mram := rfl
@[simp] theorem State.setVtx_flash (s : State) (v : VtxSt) : (s.setVtx v).flash = s.flash := rfl
@[simp] theorem State.setVtx_host (s : State) (v : VtxSt) : (s.setVtx v).host = s.host := rfl
@[simp] theorem State.setVtx_sys (s : State) (v : VtxSt) : (s.setVtx v).sys = s.sys := rfl
@[simp] theorem State.setVtx_vxl (s : State) (v : VtxSt) : (s.setVtx v).vxl = s.vxl := rfl
@[simp] theorem State.setVtx_mir (s : State) (v : VtxSt) : (s.setVtx v).mir = s.mir := rfl
@[simp] theorem State.setVtx_fct (s : State) (v : VtxSt) : (s.setVtx v).fct = s.fct := rfl
@[simp] theorem State.setVtx_tan (s : State) (v : VtxSt) : (s.setVtx v).tan = s.tan := rfl
@[simp] theorem State.setVtx_lat (s : State) (v : VtxSt) : (s.setVtx v).lat = s.lat := rfl
@[simp] theorem State.setVtx_arc (s : State) (v : VtxSt) : (s.setVtx v).arc = s.arc := rfl
@[simp] theorem State.setVtx_prm (s : State) (v : VtxSt) : (s.setVtx v).prm = s.prm := rfl
@[simp] theorem State.setVtx_loc (s : State) (v : VtxSt) : (s.setVtx v).loc = s.loc := rfl
@[simp] theorem State.setVtx_can (s : State) (v : VtxSt) : (s.setVtx v).can = s.can := rfl
@[simp] theorem State.setVtx_eth (s : State) (v : VtxSt) : (s.setVtx v).eth = s.eth := rfl
@[simp] theorem State.setVtx_per (s : State) (v : VtxSt) : (s.setVtx v).per = s.per := rfl
@[simp] theorem State.setVtx_out (s : State) (v : VtxSt) : (s.setVtx v).out = s.out := rfl
@[simp] theorem State.setVtx_free (s : State) (v : VtxSt) : (s.setVtx v).free = s.free := rfl

/-! `State.setPrm` -/

@[simp] theorem State.setPrm_pending (s : State) (p : PrmSt) : (s.setPrm p).pending = s.pending := rfl
@[simp] theorem State.setPrm_regs (s : State) (p : PrmSt) : (s.setPrm p).regs = s.regs := rfl
@[simp] theorem State.setPrm_mer (s : State) (p : PrmSt) : (s.setPrm p).mer = s.mer := rfl
@[simp] theorem State.setPrm_tr (s : State) (p : PrmSt) : (s.setPrm p).tr = s.tr := rfl
@[simp] theorem State.setPrm_hif (s : State) (p : PrmSt) : (s.setPrm p).hif = s.hif := rfl
@[simp] theorem State.setPrm_cfg (s : State) (p : PrmSt) : (s.setPrm p).cfg = s.cfg := rfl
@[simp] theorem State.setPrm_dram (s : State) (p : PrmSt) : (s.setPrm p).dram = s.dram := rfl
@[simp] theorem State.setPrm_mram (s : State) (p : PrmSt) : (s.setPrm p).mram = s.mram := rfl
@[simp] theorem State.setPrm_flash (s : State) (p : PrmSt) : (s.setPrm p).flash = s.flash := rfl
@[simp] theorem State.setPrm_host (s : State) (p : PrmSt) : (s.setPrm p).host = s.host := rfl
@[simp] theorem State.setPrm_sys (s : State) (p : PrmSt) : (s.setPrm p).sys = s.sys := rfl
@[simp] theorem State.setPrm_vxl (s : State) (p : PrmSt) : (s.setPrm p).vxl = s.vxl := rfl
@[simp] theorem State.setPrm_mir (s : State) (p : PrmSt) : (s.setPrm p).mir = s.mir := rfl
@[simp] theorem State.setPrm_fct (s : State) (p : PrmSt) : (s.setPrm p).fct = s.fct := rfl
@[simp] theorem State.setPrm_tan (s : State) (p : PrmSt) : (s.setPrm p).tan = s.tan := rfl
@[simp] theorem State.setPrm_lat (s : State) (p : PrmSt) : (s.setPrm p).lat = s.lat := rfl
@[simp] theorem State.setPrm_arc (s : State) (p : PrmSt) : (s.setPrm p).arc = s.arc := rfl
@[simp] theorem State.setPrm_prm (s : State) (p : PrmSt) : (s.setPrm p).prm = p := rfl
@[simp] theorem State.setPrm_loc (s : State) (p : PrmSt) : (s.setPrm p).loc = s.loc := rfl
@[simp] theorem State.setPrm_can (s : State) (p : PrmSt) : (s.setPrm p).can = s.can := rfl
@[simp] theorem State.setPrm_eth (s : State) (p : PrmSt) : (s.setPrm p).eth = s.eth := rfl
@[simp] theorem State.setPrm_per (s : State) (p : PrmSt) : (s.setPrm p).per = s.per := rfl
@[simp] theorem State.setPrm_out (s : State) (p : PrmSt) : (s.setPrm p).out = s.out := rfl
@[simp] theorem State.setPrm_free (s : State) (p : PrmSt) : (s.setPrm p).free = s.free := rfl

/-! `State.setPer` -/

@[simp] theorem State.setPer_pending (s : State) (p : PerSt) : (s.setPer p).pending = s.pending := rfl
@[simp] theorem State.setPer_regs (s : State) (p : PerSt) : (s.setPer p).regs = s.regs := rfl
@[simp] theorem State.setPer_mer (s : State) (p : PerSt) : (s.setPer p).mer = s.mer := rfl
@[simp] theorem State.setPer_tr (s : State) (p : PerSt) : (s.setPer p).tr = s.tr := rfl
@[simp] theorem State.setPer_hif (s : State) (p : PerSt) : (s.setPer p).hif = s.hif := rfl
@[simp] theorem State.setPer_cfg (s : State) (p : PerSt) : (s.setPer p).cfg = s.cfg := rfl
@[simp] theorem State.setPer_dram (s : State) (p : PerSt) : (s.setPer p).dram = s.dram := rfl
@[simp] theorem State.setPer_mram (s : State) (p : PerSt) : (s.setPer p).mram = s.mram := rfl
@[simp] theorem State.setPer_flash (s : State) (p : PerSt) : (s.setPer p).flash = s.flash := rfl
@[simp] theorem State.setPer_host (s : State) (p : PerSt) : (s.setPer p).host = s.host := rfl
@[simp] theorem State.setPer_sys (s : State) (p : PerSt) : (s.setPer p).sys = s.sys := rfl
@[simp] theorem State.setPer_vxl (s : State) (p : PerSt) : (s.setPer p).vxl = s.vxl := rfl
@[simp] theorem State.setPer_mir (s : State) (p : PerSt) : (s.setPer p).mir = s.mir := rfl
@[simp] theorem State.setPer_fct (s : State) (p : PerSt) : (s.setPer p).fct = s.fct := rfl
@[simp] theorem State.setPer_tan (s : State) (p : PerSt) : (s.setPer p).tan = s.tan := rfl
@[simp] theorem State.setPer_lat (s : State) (p : PerSt) : (s.setPer p).lat = s.lat := rfl
@[simp] theorem State.setPer_arc (s : State) (p : PerSt) : (s.setPer p).arc = s.arc := rfl
@[simp] theorem State.setPer_prm (s : State) (p : PerSt) : (s.setPer p).prm = s.prm := rfl
@[simp] theorem State.setPer_loc (s : State) (p : PerSt) : (s.setPer p).loc = s.loc := rfl
@[simp] theorem State.setPer_can (s : State) (p : PerSt) : (s.setPer p).can = s.can := rfl
@[simp] theorem State.setPer_eth (s : State) (p : PerSt) : (s.setPer p).eth = s.eth := rfl
@[simp] theorem State.setPer_per (s : State) (p : PerSt) : (s.setPer p).per = p := rfl
@[simp] theorem State.setPer_out (s : State) (p : PerSt) : (s.setPer p).out = s.out := rfl
@[simp] theorem State.setPer_free (s : State) (p : PerSt) : (s.setPer p).free = s.free := rfl

/-! `State.setCan` -/

@[simp] theorem State.setCan_pending (s : State) (c : Nat) (x : CanCtl) : (s.setCan c x).pending = s.pending := rfl
@[simp] theorem State.setCan_regs (s : State) (c : Nat) (x : CanCtl) : (s.setCan c x).regs = s.regs := rfl
@[simp] theorem State.setCan_mer (s : State) (c : Nat) (x : CanCtl) : (s.setCan c x).mer = s.mer := rfl
@[simp] theorem State.setCan_tr (s : State) (c : Nat) (x : CanCtl) : (s.setCan c x).tr = s.tr := rfl
@[simp] theorem State.setCan_hif (s : State) (c : Nat) (x : CanCtl) : (s.setCan c x).hif = s.hif := rfl
@[simp] theorem State.setCan_cfg (s : State) (c : Nat) (x : CanCtl) : (s.setCan c x).cfg = s.cfg := rfl
@[simp] theorem State.setCan_dram (s : State) (c : Nat) (x : CanCtl) : (s.setCan c x).dram = s.dram := rfl
@[simp] theorem State.setCan_mram (s : State) (c : Nat) (x : CanCtl) : (s.setCan c x).mram = s.mram := rfl
@[simp] theorem State.setCan_flash (s : State) (c : Nat) (x : CanCtl) : (s.setCan c x).flash = s.flash := rfl
@[simp] theorem State.setCan_host (s : State) (c : Nat) (x : CanCtl) : (s.setCan c x).host = s.host := rfl
@[simp] theorem State.setCan_sys (s : State) (c : Nat) (x : CanCtl) : (s.setCan c x).sys = s.sys := rfl
@[simp] theorem State.setCan_vxl (s : State) (c : Nat) (x : CanCtl) : (s.setCan c x).vxl = s.vxl := rfl
@[simp] theorem State.setCan_mir (s : State) (c : Nat) (x : CanCtl) : (s.setCan c x).mir = s.mir := rfl
@[simp] theorem State.setCan_fct (s : State) (c : Nat) (x : CanCtl) : (s.setCan c x).fct = s.fct := rfl
@[simp] theorem State.setCan_tan (s : State) (c : Nat) (x : CanCtl) : (s.setCan c x).tan = s.tan := rfl
@[simp] theorem State.setCan_lat (s : State) (c : Nat) (x : CanCtl) : (s.setCan c x).lat = s.lat := rfl
@[simp] theorem State.setCan_arc (s : State) (c : Nat) (x : CanCtl) : (s.setCan c x).arc = s.arc := rfl
@[simp] theorem State.setCan_prm (s : State) (c : Nat) (x : CanCtl) : (s.setCan c x).prm = s.prm := rfl
@[simp] theorem State.setCan_loc (s : State) (c : Nat) (x : CanCtl) : (s.setCan c x).loc = s.loc := rfl
@[simp] theorem State.setCan_eth (s : State) (c : Nat) (x : CanCtl) : (s.setCan c x).eth = s.eth := rfl
@[simp] theorem State.setCan_per (s : State) (c : Nat) (x : CanCtl) : (s.setCan c x).per = s.per := rfl
@[simp] theorem State.setCan_out (s : State) (c : Nat) (x : CanCtl) : (s.setCan c x).out = s.out := rfl
@[simp] theorem State.setCan_free (s : State) (c : Nat) (x : CanCtl) : (s.setCan c x).free = s.free := rfl

/-! `State.setLatMem` -/

@[simp] theorem State.setLatMem_pending (s : State) (m : LatMem) : (s.setLatMem m).pending = s.pending := rfl
@[simp] theorem State.setLatMem_regs (s : State) (m : LatMem) : (s.setLatMem m).regs = s.regs := rfl
@[simp] theorem State.setLatMem_mer (s : State) (m : LatMem) : (s.setLatMem m).mer = s.mer := rfl
@[simp] theorem State.setLatMem_tr (s : State) (m : LatMem) : (s.setLatMem m).tr = s.tr := rfl
@[simp] theorem State.setLatMem_hif (s : State) (m : LatMem) : (s.setLatMem m).hif = s.hif := rfl
@[simp] theorem State.setLatMem_cfg (s : State) (m : LatMem) : (s.setLatMem m).cfg = s.cfg := rfl
@[simp] theorem State.setLatMem_dram (s : State) (m : LatMem) : (s.setLatMem m).dram = s.dram := rfl
@[simp] theorem State.setLatMem_mram (s : State) (m : LatMem) : (s.setLatMem m).mram = s.mram := rfl
@[simp] theorem State.setLatMem_flash (s : State) (m : LatMem) : (s.setLatMem m).flash = s.flash := rfl
@[simp] theorem State.setLatMem_host (s : State) (m : LatMem) : (s.setLatMem m).host = s.host := rfl
@[simp] theorem State.setLatMem_sys (s : State) (m : LatMem) : (s.setLatMem m).sys = s.sys := rfl
@[simp] theorem State.setLatMem_vxl (s : State) (m : LatMem) : (s.setLatMem m).vxl = s.vxl := rfl
@[simp] theorem State.setLatMem_mir (s : State) (m : LatMem) : (s.setLatMem m).mir = s.mir := rfl
@[simp] theorem State.setLatMem_fct (s : State) (m : LatMem) : (s.setLatMem m).fct = s.fct := rfl
@[simp] theorem State.setLatMem_tan (s : State) (m : LatMem) : (s.setLatMem m).tan = s.tan := rfl
@[simp] theorem State.setLatMem_arc (s : State) (m : LatMem) : (s.setLatMem m).arc = s.arc := rfl
@[simp] theorem State.setLatMem_prm (s : State) (m : LatMem) : (s.setLatMem m).prm = s.prm := rfl
@[simp] theorem State.setLatMem_loc (s : State) (m : LatMem) : (s.setLatMem m).loc = s.loc := rfl
@[simp] theorem State.setLatMem_can (s : State) (m : LatMem) : (s.setLatMem m).can = s.can := rfl
@[simp] theorem State.setLatMem_eth (s : State) (m : LatMem) : (s.setLatMem m).eth = s.eth := rfl
@[simp] theorem State.setLatMem_per (s : State) (m : LatMem) : (s.setLatMem m).per = s.per := rfl
@[simp] theorem State.setLatMem_out (s : State) (m : LatMem) : (s.setLatMem m).out = s.out := rfl
@[simp] theorem State.setLatMem_free (s : State) (m : LatMem) : (s.setLatMem m).free = s.free := rfl

/-! `State.emit` -/

@[simp] theorem State.emit_pending (s : State) (o : Out) : (s.emit o).pending = s.pending := rfl
@[simp] theorem State.emit_regs (s : State) (o : Out) : (s.emit o).regs = s.regs := rfl
@[simp] theorem State.emit_mer (s : State) (o : Out) : (s.emit o).mer = s.mer := rfl
@[simp] theorem State.emit_tr (s : State) (o : Out) : (s.emit o).tr = s.tr := rfl
@[simp] theorem State.emit_hif (s : State) (o : Out) : (s.emit o).hif = s.hif := rfl
@[simp] theorem State.emit_cfg (s : State) (o : Out) : (s.emit o).cfg = s.cfg := rfl
@[simp] theorem State.emit_dram (s : State) (o : Out) : (s.emit o).dram = s.dram := rfl
@[simp] theorem State.emit_mram (s : State) (o : Out) : (s.emit o).mram = s.mram := rfl
@[simp] theorem State.emit_flash (s : State) (o : Out) : (s.emit o).flash = s.flash := rfl
@[simp] theorem State.emit_host (s : State) (o : Out) : (s.emit o).host = s.host := rfl
@[simp] theorem State.emit_sys (s : State) (o : Out) : (s.emit o).sys = s.sys := rfl
@[simp] theorem State.emit_vxl (s : State) (o : Out) : (s.emit o).vxl = s.vxl := rfl
@[simp] theorem State.emit_mir (s : State) (o : Out) : (s.emit o).mir = s.mir := rfl
@[simp] theorem State.emit_fct (s : State) (o : Out) : (s.emit o).fct = s.fct := rfl
@[simp] theorem State.emit_tan (s : State) (o : Out) : (s.emit o).tan = s.tan := rfl
@[simp] theorem State.emit_lat (s : State) (o : Out) : (s.emit o).lat = s.lat := rfl
@[simp] theorem State.emit_arc (s : State) (o : Out) : (s.emit o).arc = s.arc := rfl
@[simp] theorem State.emit_prm (s : State) (o : Out) : (s.emit o).prm = s.prm := rfl
@[simp] theorem State.emit_loc (s : State) (o : Out) : (s.emit o).loc = s.loc := rfl
@[simp] theorem State.emit_can (s : State) (o : Out) : (s.emit o).can = s.can := rfl
@[simp] theorem State.emit_eth (s : State) (o : Out) : (s.emit o).eth = s.eth := rfl
@[simp] theorem State.emit_per (s : State) (o : Out) : (s.emit o).per = s.per := rfl
@[simp] theorem State.emit_out (s : State) (o : Out) : (s.emit o).out = o :: s.out := rfl
@[simp] theorem State.emit_free (s : State) (o : Out) : (s.emit o).free = s.free := rfl

end Sys2Proof.Machine
end

