-- ==== Sys2Proof/Laws/MerKeeps.lean ====
section
/-! SUPPORT. Meridian's own operations keep its invariant (R485, R491, R496), the queue and the nonvolatile memories, and
the few operations that write those memories keep their canonical form. -/

namespace Sys2Proof.Machine

/-! ### The invariant of Meridian -/

theorem MerSt.ok_setSv {m : MerSt} (h : m.Ok) (x : Nat) (v : Servo) (hv : v.Ok) : (m.setSv x v).Ok := by
  obtain ⟨h1, h2, h3, h4, h5, h6, h7, h8⟩ := h
  unfold MerSt.setSv
  split
  · exact ⟨h1, h2, h3, hv, h5, h6, h7, h8⟩
  · split
    · exact ⟨h1, h2, h3, h4, hv, h6, h7, h8⟩
    · exact ⟨h1, h2, h3, h4, h5, hv, h7, h8⟩

theorem MerSt.ok_sv {m : MerSt} (h : m.Ok) (x : Nat) : (m.sv x).Ok := by
  obtain ⟨_, _, _, h4, h5, h6, _, _⟩ := h
  unfold MerSt.sv
  split
  · exact h4
  · split <;> assumption

theorem MerSt.ok_setTxts {m : MerSt} (h : m.Ok) (p : Nat) (q : List TxTs) (hq : q.length ≤ 16) : (m.setTxts p q).Ok := by
  obtain ⟨h1, h2, h3, h4, h5, h6, h7, h8⟩ := h
  unfold MerSt.setTxts
  split
  · exact ⟨h1, h2, h3, h4, h5, h6, hq, h8⟩
  · exact ⟨h1, h2, h3, h4, h5, h6, h7, hq⟩

theorem MerSt.ok_txts {m : MerSt} (h : m.Ok) (p : Nat) : (m.txts p).length ≤ 16 := by
  obtain ⟨_, _, _, _, _, _, h7, h8⟩ := h
  unfold MerSt.txts
  split <;> assumption

theorem MerSt.ok_tick {m : MerSt} (h : m.Ok) (k : Int) : (m.tick k).Ok := by
  obtain ⟨h1, h2, h3, h4, h5, h6, h7, h8⟩ := h
  refine ⟨?_, h2, h3, ?_, h5, h6, h7, h8⟩
  · show (m.base + 8) % 8 = 0
    omega
  · show Servo.Ok (if isPtp m.active then m.sv0 else { m.sv0 with rem := m.sv0.rem - clampAbs k m.sv0.rem })
    split
    · exact h4
    · exact h4

theorem merReset_ok : merReset.Ok := by
  refine ⟨by decide, by decide, fun _ => rfl, ?_, ?_, ?_, by decide, by decide⟩ <;> exact Nat.zero_le 3

theorem rawTstate_le (s : State) : s.rawTstate ≤ 4 := by
  unfold State.rawTstate
  dsimp only
  split <;> (repeat' split) <;> omega

theorem nextServoState_le (st c n : Nat) (u : Bool) : nextServoState st c n u ≤ 3 := by
  unfold nextServoState
  (repeat' split) <;> omega

/-! ### A part replaced -/

theorem keeps_mer {p : Quiet} {s : State} (h : Keeps p s.quiet) (m : MerSt) (k : s.mer.Ok → m.Ok) :
    Keeps p { s with mer := m }.quiet := ⟨h.pending, fun x => k (h.mer x), h.flash, h.mram, h.die⟩

theorem keeps_flash {p : Quiet} {s : State} (h : Keeps p s.quiet) (m : Mem)
    (k : Memory.wf s.flash = true → Memory.wf m = true) : Keeps p { s with flash := m }.quiet :=
  ⟨h.pending, h.mer, fun x => k (h.flash x), h.mram, h.die⟩

theorem keeps_mram {p : Quiet} {s : State} (h : Keeps p s.quiet) (m : Mem)
    (k : Memory.wf s.mram = true → Memory.wf m = true) : Keeps p { s with mram := m }.quiet :=
  ⟨h.pending, h.mer, h.flash, fun x => k (h.mram x), h.die⟩

theorem keeps_sys {p : Quiet} {s : State} (h : Keeps p s.quiet) (x : SysSt) : Keeps p { s with sys := x }.quiet :=
  ⟨h.pending, h.mer, h.flash, h.mram, h.die⟩

theorem keeps_fresh {p : Quiet} {s : State} (h : Keeps p s.quiet) (x : Trace) :
    Keeps p { s with mer := merReset, tr := x }.quiet := by
  have k := keeps_mer h merReset (fun _ => merReset_ok)
  exact ⟨k.pending, k.mer, k.flash, k.mram, k.die⟩

/-- An item that is served keeps them when its completion does. -/
theorem keepsOut_serve {p : Quiet} {s : State} (h : Keeps p s.quiet) (it : Item) (k : State → State)
    (hk : ∀ t, Keeps p t.quiet → Keeps p (k t).quiet) : KeepsOut p (serve it s k) := by
  simp only [serve]
  refine keepsOut_ite (keepsOut_go (by rw [State.tryRemote_quiet]; exact h)) (keepsOut_ite
    (keepsOut_go (by rw [State.complete_quiet]; exact h)) (keepsOut_ite (keepsOut_go h) (keepsOut_ite
    (keepsOut_go (by rw [State.intend_quiet]; exact h)) (keepsOut_ite (keepsOut_go (by rw [State.absent_quiet]; exact h))
    (keepsOut_go (hk s h))))))

/-! ### Meridian's operations -/

theorem State.restate_keeps {p : Quiet} {s : State} (h : Keeps p s.quiet) : Keeps p s.restate.quiet := by
  have key : ∀ (n : Nat) (st : Bool), n ≤ 4 → (st = false → n = 0) →
      Keeps p { s with mer := { s.mer with set := st, tstate := n } }.quiet := fun n st hn hs =>
    keeps_mer h _ (by
      rintro ⟨h1, h2, h3, h4, h5, h6, h7, h8⟩
      exact ⟨h1, hn, hs, h4, h5, h6, h7, h8⟩)
  unfold State.restate
  extract_lets raw set new old _ s1
  have hn : new ≤ 4 := by
    show (if set then raw else 0) ≤ 4
    split
    · exact rawTstate_le s
    · omega
  have hs : set = false → new = 0 := by
    intro e
    show (if set then raw else 0) = 0
    rw [e]; rfl
  have k : Keeps p s1.quiet := key new set hn hs
  clear_value s1
  split
  · exact k
  · rw [@State.raise_quiet, @State.log_quiet]; exact k

theorem MerSt.ok_stepped (was : MerSt) {m : MerSt} (h : m.Ok) : (was.stepped m).Ok := h

theorem MerSt.ok_step {m : MerSt} (h : m.Ok) (x : Int) : MerSt.Ok { m with offT := x, set := true } := by
  obtain ⟨h1, h2, h3, h4, h5, h6, h7, h8⟩ := h
  exact ⟨h1, h2, nofun, h4, h5, h6, h7, h8⟩

theorem State.stepT_keeps {p : Quiet} {s : State} (h : Keeps p s.quiet) (c : Nat) (d : Int) :
    Keeps p (s.stepT c d).quiet := by
  unfold State.stepT
  extract_lets _ m s1 s2
  have k : Keeps p s1.quiet := keeps_mer h _ (fun k => MerSt.ok_stepped _ (MerSt.ok_step k _))
  clear_value s1
  dsimp only [s2]
  simp only [↓State.log_quiet, ↓State.incF_quiet]
  exact k

theorem MerSt.ok_switching {m : MerSt} (h : m.Ok) (b : Bool) : MerSt.Ok { m with switching := b } := h

theorem State.followStep_keeps {p : Quiet} {s : State} (h : Keeps p s.quiet) : Keeps p s.followStep.quiet := by
  unfold State.followStep
  split
  · extract_lets d
    split
    · exact State.restate_keeps (keeps_mer (State.stepT_keeps h _ _) _ (fun k => MerSt.ok_switching k false))
    · exact h
  · exact h

theorem MerSt.ok_switch {m : MerSt} (h : m.Ok) (n : Nat) (b : Bool) (x : Int) :
    MerSt.Ok { m with active := n, switching := b, xPrev := x } := h

theorem State.switchTo_keeps {p : Quiet} {s : State} (h : Keeps p s.quiet) (n c : Nat) :
    Keeps p (s.switchTo n c).quiet := by
  unfold State.switchTo
  split
  · exact h
  · extract_lets d _ m s1
    refine State.followStep_keeps ?_
    have k : Keeps p { s with mer := m }.quiet := keeps_mer h _ (fun k => MerSt.ok_switch k _ _ _)
    dsimp only [s1]
    simp only [↓State.log_quiet]
    exact k

theorem State.autoSwitch_keeps {p : Quiet} {s : State} (h : Keeps p s.quiet) (was : MerSt) :
    Keeps p (s.autoSwitch was).quiet := by
  unfold State.autoSwitch
  split
  · extract_lets a
    split
    · exact State.switchTo_keeps h _ _
    · exact h
  · exact h

theorem State.svState_keeps {p : Quiet} {s : State} (h : Keeps p s.quiet) (x n : Nat) (hn : n ≤ 3) :
    Keeps p (s.svState x n).quiet := by
  unfold State.svState
  extract_lets v
  split
  · exact h
  · simp only [↓State.log_quiet]
    exact keeps_mer h _ (fun k => MerSt.ok_setSv k x _ hn)

theorem MerSt.ok_offs {m : MerSt} (h : m.Ok) (c : Prop) [Decidable c] (a b : Int) :
    MerSt.Ok (if c then { m with offA := a } else { m with offB := b }) := by split <;> exact h

theorem State.stepClock_keeps {p : Quiet} {s : State} (h : Keeps p s.quiet) (x : Nat) (e : Int) :
    Keeps p (s.stepClock x e).quiet := by
  unfold State.stepClock
  split
  · exact State.stepT_keeps h _ _
  · extract_lets m
    simp only [↓State.log_quiet]
    exact keeps_mer h _ (fun k => MerSt.ok_stepped _ (MerSt.ok_offs k _ _ _))

theorem Servo.ok_set {v : Servo} (h : v.Ok) (a b c : Int) (d e : Bool) :
    Servo.Ok (({ v with integ := a, rate := b, rem := c, capped := d } : Servo), e).1 := h

theorem State.svSteer_ok {s : State} (h : s.mer.Ok) (x : Nat) (e : Int) : (s.svSteer x e).1.Ok := by
  unfold State.svSteer
  extract_lets i
  exact Servo.ok_set (MerSt.ok_sv h x) _ _ _ _ _

theorem MerSt.ok_rateT {m : MerSt} (h : m.Ok) (c : Prop) [Decidable c] (r : Int) :
    MerSt.Ok (if c then { m with rateT := r } else m) := by split <;> exact h

theorem MerSt.ok_setRem {m : MerSt} (h : m.Ok) (x : Nat) (r : Int) :
    (m.setSv x { m.sv x with rem := r }).Ok := MerSt.ok_setSv h x _ (MerSt.ok_sv h x)

theorem State.servoIn_keeps {p : Quiet} {s : State} (h : Keeps p s.quiet) (x : Nat) (e : Int) :
    Keeps p (s.servoIn x e).quiet := by
  unfold State.servoIn
  have ok : s.mer.Ok → (s.svSteer x e).1.Ok := fun k => State.svSteer_ok k x e
  generalize s.svSteer x e = r at ok ⊢
  obtain ⟨vr, hit⟩ := r
  have k0 : Keeps p (s.stepClock x e).quiet := State.stepClock_keeps h x e
  generalize s.stepClock x e = s' at k0 ⊢
  have ka : Keeps p { s' with mer := s'.mer.setSv x { s'.mer.sv x with rem := 0 } }.quiet :=
    keeps_mer k0 _ (fun k => MerSt.ok_setRem k x 0)
  have kb : Keeps p { s with mer := s.mer.setSv x { s.mer.sv x with rem := -e } }.quiet :=
    keeps_mer h _ (fun k => MerSt.ok_setRem k x _)
  have kc : Keeps p { s with mer := if x = 0 then { s.mer.setSv x vr with rateT := vr.rate } else s.mer.setSv x vr }.quiet :=
    keeps_mer h _ (fun k => MerSt.ok_rateT (MerSt.ok_setSv k x _ (ok k)) _ _)
  refine State.restate_keeps (State.autoSwitch_keeps (State.svState_keeps ?_ _ _ (nextServoState_le _ _ _ _)) _)
  refine keeps_mer ?_ _ (fun k => MerSt.ok_setSv k x _ (MerSt.ok_sv k x))
  split
  · split
    · exact ka
    · exact kb
  · dsimp only
    split
    · simp only [↓State.log_quiet]; exact kc
    · exact kc

theorem MerSt.ok_episode {m : MerSt} (h : m.Ok) (l : List (Nat × Bool)) : MerSt.Ok { m with txtsEpisode := l } := h
theorem MerSt.ok_ovf {m : MerSt} (h : m.Ok) (o : List (Nat × Nat)) (l : List (Nat × Bool)) :
    MerSt.Ok { m with txtsOvf := o, txtsEpisode := l } := h

theorem State.txtsAdd_keeps {p : Quiet} {s : State} (h : Keeps p s.quiet) (n : Nat) (x : TxTs) :
    Keeps p (s.txtsAdd n x).quiet := by
  unfold State.txtsAdd
  have k : ∀ o l, Keeps p { s with mer := { s.mer with txtsOvf := o, txtsEpisode := l } }.quiet :=
    fun o l => keeps_mer h _ (fun k => MerSt.ok_ovf k _ _)
  dsimp only
  split
  · rename_i hq
    rw [@State.raise_quiet]
    refine keeps_mer h _ (fun k => MerSt.ok_episode (MerSt.ok_setTxts k n _ ?_) _)
    rw [List.length_append, List.length_singleton]
    omega
  · split
    · simp only [↓State.log_quiet]; exact k _ _
    · exact k _ _

theorem State.timeTick_keeps {p : Quiet} {s : State} (h : Keeps p s.quiet) : Keeps p s.timeTick.quiet := by
  unfold State.timeTick
  exact State.followStep_keeps (keeps_mer h _ (fun k => MerSt.ok_tick k _))

/-! ### The base counter -/

theorem MerSt.stepped_base (was m : MerSt) : (was.stepped m).base = m.base := by cases m; rfl
theorem MerSt.off_base (m : MerSt) (x : Int) (b : Bool) : ({ m with offT := x, set := b } : MerSt).base = m.base := by cases m; rfl
theorem State.stepT_base (s : State) (c : Nat) (d : Int) : (s.stepT c d).mer.base = s.mer.base := by
  unfold State.stepT
  extract_lets _ m s1 s2
  dsimp only [s2]
  rw [@State.log_mer]
  simp only [State.incF_mer]
  dsimp only [s1]
  rw [MerSt.stepped_base]
theorem State.mer_set (s : State) (m : MerSt) : ({ s with mer := m } : State).mer = m := id rfl
theorem MerSt.switching_base (m : MerSt) (b : Bool) : ({ m with switching := b } : MerSt).base = m.base := by cases m; rfl
theorem State.restate_base (s : State) : s.restate.mer.base = s.mer.base := by
  unfold State.restate
  extract_lets raw set new old _ s1
  have k : s1.mer.base = s.mer.base := rfl
  clear_value s1
  split
  · exact k
  · rw [State.raise_mer, State.log_mer]; exact k
theorem State.followStep_base (s : State) : s.followStep.mer.base = s.mer.base := by
  unfold State.followStep
  extract_lets d s1
  have k : s1.mer.base = s.mer.base := State.stepT_base s (if s.mer.set then 3 else 1) d
  clear_value s1 d
  repeat' split
  · rw [State.restate_base, State.mer_set, MerSt.switching_base]; exact k
  · with_reducible rfl
  · with_reducible rfl

theorem MerSt.tick_base (m : MerSt) (k : Int) : (m.tick k).base = m.base + 8 := by
  unfold MerSt.tick
  cases m
  rfl

/-- One tick advances the base counter by 8 ns (R485). -/
theorem State.timeTick_base (s : State) : s.timeTick.mer.base = s.mer.base + 8 := by
  unfold State.timeTick
  rw [State.followStep_base, State.mer_set, MerSt.tick_base]

end Sys2Proof.Machine
end

