-- ==== Sys2Proof/Laws/AllKeeps.lean ====
section
/-! SUPPORT. One lemma per operation and command that writes Meridian or a nonvolatile memory: it keeps the queue, the
Perimeter die, Meridian's invariant and the canonical form of the memories, and a command answers a next state. -/

set_option linter.unusedSimpArgs false
set_option maxRecDepth 4000

namespace Sys2Proof.Machine

theorem State.blockTakes_keeps {pq : Quiet} {s : State} (h : Keeps pq s.quiet) (j : CfgJob) (b : Nat) :
    Keeps pq (State.blockTakes s j b).1.quiet := by
  unfold State.blockTakes
  repeat' first
    | with_reducible exact h
    | with_reducible refine keepsOut_go ?_
    | with_reducible refine keepsOut_next ?_
    | with_reducible apply State.restate_keeps
    | with_reducible apply State.switchTo_keeps
    | with_reducible apply keeps_iteS
    | with_reducible apply keepsOut_serve
    | with_reducible apply keeps_stateOf
    | (with_reducible refine foldl_keeps _ ?_ _ _ ?_)
    | with_reducible assumption
    | (intro)
    | split
    | (simp only [↓State.quiet_mk, ↓Quiet.fold, ↓ite_fst, ↓ite_snd, ↓foldl_quiet, implies_true, ↓State.takeChanges_quiet, ↓State.takenTan_quiet, ↓State.takenArc_quiet, ↓State.takenLoc_quiet, ↓State.takenFct_quiet, ↓State.histFct_quiet, ↓State.takenVxl_quiet, ↓State.takenEth_quiet, ↓State.takenCan_quiet, ↓State.takenLat_quiet, ↓State.takenVtx_quiet, ↓State.takenPrm_quiet, ↓State.takenHlx_quiet])

theorem State.mirCfg_keeps {pq : Quiet} {s : State} (h : Keeps pq s.quiet) (img : Image) :
    Keeps pq (State.mirCfg s img).quiet := by
  unfold State.mirCfg
  repeat' first
    | with_reducible exact h
    | with_reducible refine keepsOut_go ?_
    | with_reducible refine keepsOut_next ?_
    | with_reducible apply State.blockTakes_keeps
    | with_reducible apply keeps_iteS
    | with_reducible apply keepsOut_serve
    | with_reducible apply keeps_stateOf
    | (with_reducible refine foldl_keeps _ ?_ _ _ ?_)
    | with_reducible assumption
    | (intro)
    | split
    | (simp only [↓State.quiet_mk, ↓Quiet.fold, ↓ite_fst, ↓ite_snd, ↓foldl_quiet, implies_true, ↓State.journalGrow_quiet])

theorem State.applyImage_keeps {pq : Quiet} {s : State} (h : Keeps pq s.quiet) (img : Image) :
    Keeps pq (State.applyImage s img).quiet := by
  unfold State.applyImage
  have k : Keeps pq (((s.mirCfg img).setProc img.proc).mirLat img).quiet := by
    simp only [↓State.quiet_mk, ↓Quiet.fold, ↓ite_fst, ↓ite_snd, ↓foldl_quiet, implies_true, ↓State.mirLat_quiet, ↓State.setProc_quiet, ↓State.setCo_quiet]; exact State.mirCfg_keeps h img
  generalize ((s.mirCfg img).setProc img.proc).mirLat img = s1 at k ⊢
  have k2 : Keeps pq (img.soft.foldl (fun s e => if s.ctKind e.1 = 2 then s.setCo e.1 e.2 else s) s1).quiet :=
    foldl_keeps _ (fun s e k => keeps_iteS (by simp only [↓State.quiet_mk, ↓Quiet.fold, ↓ite_fst, ↓ite_snd, ↓foldl_quiet, implies_true, ↓State.mirLat_quiet, ↓State.setProc_quiet, ↓State.setCo_quiet]; exact k) k) _ _ k
  simp only [↓State.quiet_mk, ↓Quiet.fold, ↓ite_fst, ↓ite_snd, ↓foldl_quiet, implies_true, ↓State.mirLat_quiet, ↓State.setProc_quiet, ↓State.setCo_quiet]
  exact k2

theorem State.baseZero_keeps {pq : Quiet} {s : State} (h : Keeps pq s.quiet)  :
    Keeps pq (State.baseZero s).quiet := by
  unfold State.baseZero
  have k := keeps_mer h merReset (fun _ => merReset_ok)
  exact ⟨k.pending, k.mer, k.flash, k.mram, k.die⟩

theorem State.calBad_keeps {pq : Quiet} {s : State} (h : Keeps pq s.quiet) (k : Nat) :
    Keeps pq (State.calBad s k).quiet := by
  unfold State.calBad
  have k1 := keeps_mram h (memPut s.mram (0x03000000 + 32 * k) (List.replicate 32 0)) (fun x => memPut_wf _ _ _ x)
  dsimp only
  rw [@State.log_quiet, @State.showCal_quiet]
  simp only [↓State.quiet_mk] at k1 ⊢
  exact k1

theorem State.coldBegin_keeps {pq : Quiet} {s : State} (h : Keeps pq s.quiet) (cause : Nat) :
    Keeps pq (State.coldBegin s cause).quiet := by
  unfold State.coldBegin
  have k1 : Keeps pq s.allDown.quiet := by rw [State.allDown_quiet]; exact h
  generalize s.allDown = s1 at k1 ⊢
  extract_lets a
  refine keeps_sys ?_ _
  exact keeps_iteS (State.baseZero_keeps k1) k1

theorem State.coldParts_keeps {pq : Quiet} {s : State} (h : Keeps pq s.quiet)  :
    Keeps pq (State.coldParts s).quiet := by
  unfold State.coldParts
  dsimp only
  refine ⟨h.pending, fun x => ?_, h.flash, h.mram, h.die⟩
  obtain ⟨h1, h2, h3, h4, h5, h6, h7, h8⟩ := h.mer x
  exact ⟨h1, h2, h3, Nat.zero_le 3, Nat.zero_le 3, Nat.zero_le 3, Nat.zero_le 16, Nat.zero_le 16⟩

theorem State.coldFirst_keeps {pq : Quiet} {s : State} (h : Keeps pq s.quiet) (cause : Nat) (env : StartEnv) :
    Keeps pq (State.coldFirst s cause env).quiet := by
  unfold State.coldFirst
  have k1 : Keeps pq (((((s.coldRegs cause).coldParts).sfpRead env.sfp).hlxStart 0).restate).quiet := by
    refine State.restate_keeps ?_
    rw [@State.hlxStart_quiet, @State.sfpRead_quiet]
    refine State.coldParts_keeps ?_
    rw [@State.coldRegs_quiet]; exact h
  exact keeps_iteS (by rw [@State.tripsOn_quiet]; exact k1) k1

theorem State.loadConfig_keeps {pq : Quiet} {s : State} (h : Keeps pq s.quiet) (warm : Bool) :
    Keeps pq (State.loadConfig s warm).quiet := by
  unfold State.loadConfig
  repeat' first
    | with_reducible exact h
    | with_reducible refine keepsOut_go ?_
    | with_reducible refine keepsOut_next ?_
    | with_reducible apply State.switchTo_keeps
    | with_reducible apply keeps_iteS
    | with_reducible apply keepsOut_serve
    | with_reducible apply keeps_stateOf
    | (with_reducible refine foldl_keeps _ ?_ _ _ ?_)
    | with_reducible assumption
    | (intro)
    | split
    | (simp only [↓State.quiet_mk, ↓Quiet.fold, ↓ite_fst, ↓ite_snd, ↓foldl_quiet, implies_true, ↓State.loadClamp_quiet, ↓State.takeChanges_quiet, ↓State.takenTan_quiet, ↓State.setFacet_quiet, ↓State.linkDeliver_quiet, ↓State.takenCan_quiet, ↓State.takenEth_quiet, ↓State.loadVxl_quiet, ↓State.qinitShow_quiet, ↓State.latShow_quiet, ↓State.takenHlx_quiet, ↓State.takenVtx_quiet])

theorem State.coldRunning_keeps {pq : Quiet} {s : State} (h : Keeps pq s.quiet) (badImage : Bool) (partner : Option Nat) :
    Keeps pq (State.coldRunning s badImage partner).quiet := by
  unfold State.coldRunning
  repeat' first
    | with_reducible exact h
    | with_reducible refine keepsOut_go ?_
    | with_reducible refine keepsOut_next ?_
    | with_reducible apply State.loadConfig_keeps
    | with_reducible apply keeps_iteS
    | with_reducible apply keepsOut_serve
    | with_reducible apply keeps_stateOf
    | (with_reducible refine foldl_keeps _ ?_ _ _ ?_)
    | with_reducible assumption
    | (intro)
    | split
    | (simp only [↓State.quiet_mk, ↓Quiet.fold, ↓ite_fst, ↓ite_snd, ↓foldl_quiet, implies_true, ↓State.locCold_quiet, ↓State.showDriven_quiet, ↓State.imageFind_quiet, ↓State.prmCold_quiet, ↓State.engStart_quiet, ↓State.mirRole_quiet, ↓State.partnerHeard_quiet])

theorem State.coldImage_keeps {pq : Quiet} {s : State} (h : Keeps pq s.quiet) (i : Nat) (cause : Nat) (links : List (Nat × Nat)) (badImage : Bool) (partner : Option Nat) :
    Keeps pq (State.coldImage s i cause links badImage partner).quiet := by
  unfold State.coldImage
  rw [@State.log_quiet, @State.setF_quiet]
  refine State.coldRunning_keeps ?_ _ _
  rw [@State.coldFacets_quiet, @State.kickAll_quiet, @State.imageCopy_quiet, @State.setF_quiet]; exact h

theorem State.coldRun_keeps {pq : Quiet} {s : State} (h : Keeps pq s.quiet) (straps : Nat) (links : List (Nat × Nat)) (env : StartEnv) :
    Keeps pq (State.coldRun s straps links env).quiet := by
  unfold State.coldRun
  have k1 : Keeps pq (((((s.coldFirst s.sys.restartCause env).strapRead straps).baseTell).hotTell).trialTell).quiet := by
    rw [@State.trialTell_quiet, @State.hotTell_quiet, @State.baseTell_quiet, @State.strapRead_quiet]
    exact State.coldFirst_keeps h _ _
  extract_lets cause s1
  replace k1 : Keeps pq s1.quiet := k1
  clear_value s1
  split
  · rw [@State.inMode_quiet, @State.log_quiet]; exact k1
  · split
    · rw [@State.inMode_quiet]; exact k1
    · have kb : Keeps pq (s1.bootImage (straps % 4)).2.quiet := by rw [@State.bootImage_quiet]; exact k1
      generalize s1.bootImage (straps % 4) = r at kb ⊢
      obtain ⟨_ | i, t⟩ := r
      · rw [@State.inMode_quiet, @State.coldFacets_quiet, @State.setF_quiet, @State.log_quiet]; exact kb
      · exact State.coldImage_keeps kb _ _ _ _ _

theorem State.frameCalset_keeps {pq : Quiet} {s : State} (h : Keeps pq s.quiet) (it : Item) :
    Keeps pq (State.frameCalset s it).quiet := by
  unfold State.frameCalset
  extract_lets ch r old s1 s2
  have k : Keeps pq s1.quiet := ⟨h.pending, h.mer, h.flash, fun x => memPutWords_wf _ _ _ (h.mram x), h.die⟩
  clear_value s1
  dsimp only [s2]
  simp only [↓State.quiet_mk, ↓Quiet.fold, ↓ite_fst, ↓ite_snd, ↓foldl_quiet, implies_true, ↓State.showCal_quiet, ↓State.pushUpd_quiet, ↓State.complete_quiet, ↓State.log_quiet]
  exact k

theorem State.frameItem_keeps {pq : Quiet} {s : State} (h : Keeps pq s.quiet) (x : Inflight) :
    Keeps pq (State.frameItem s x).quiet := by
  unfold State.frameItem
  repeat' first
    | with_reducible exact h
    | with_reducible refine keepsOut_go ?_
    | with_reducible refine keepsOut_next ?_
    | with_reducible apply State.frameCalset_keeps
    | with_reducible apply keeps_iteS
    | with_reducible apply keepsOut_serve
    | with_reducible apply keeps_stateOf
    | (with_reducible refine foldl_keeps _ ?_ _ _ ?_)
    | with_reducible assumption
    | (intro)
    | split
    | (simp only [↓State.quiet_mk, ↓Quiet.fold, ↓ite_fst, ↓ite_snd, ↓foldl_quiet, implies_true, ↓State.frameOutput_quiet, ↓State.frameRestore_quiet, ↓State.frameTrim_quiet])

theorem State.frameItems_keeps {pq : Quiet} {s : State} (h : Keeps pq s.quiet) (n : Nat) :
    Keeps pq (State.frameItems s n).quiet := by
  unfold State.frameItems
  exact foldl_keeps _ (fun s x k => State.frameItem_keeps k x) _ _ h

theorem State.mramBad_keeps {pq : Quiet} {s : State} (h : Keeps pq s.quiet) (a : Nat) :
    Keeps pq (State.mramBad s a).quiet := by
  unfold State.mramBad
  have k : Keeps pq (s.log 0x4106 0 (w32 a)).quiet := by simp only [↓State.quiet_mk, ↓Quiet.fold, ↓ite_fst, ↓ite_snd, ↓foldl_quiet, implies_true, ↓State.log_quiet, ↓State.ckptBad_quiet, ↓State.journalCut_quiet]; exact h
  generalize s.log 0x4106 0 (w32 a) = s1 at k ⊢
  dsimp only
  refine keeps_iteS (by simp only [↓State.quiet_mk, ↓Quiet.fold, ↓ite_fst, ↓ite_snd, ↓foldl_quiet, implies_true, ↓State.log_quiet, ↓State.ckptBad_quiet, ↓State.journalCut_quiet]; exact k) (keeps_iteS (by simp only [↓State.quiet_mk, ↓Quiet.fold, ↓ite_fst, ↓ite_snd, ↓foldl_quiet, implies_true, ↓State.log_quiet, ↓State.ckptBad_quiet, ↓State.journalCut_quiet]; exact k) (keeps_iteS ?_
    (keeps_iteS (by simp only [↓State.quiet_mk, ↓Quiet.fold, ↓ite_fst, ↓ite_snd, ↓foldl_quiet, implies_true, ↓State.log_quiet, ↓State.ckptBad_quiet, ↓State.journalCut_quiet]; exact k) (keeps_iteS (State.calBad_keeps k _) k))))
  exact keeps_iteS (by simp only [↓State.quiet_mk, ↓Quiet.fold, ↓ite_fst, ↓ite_snd, ↓foldl_quiet, implies_true, ↓State.log_quiet, ↓State.ckptBad_quiet, ↓State.journalCut_quiet]; exact k) (by simp only [↓State.quiet_mk, ↓Quiet.fold, ↓ite_fst, ↓ite_snd, ↓foldl_quiet, implies_true, ↓State.log_quiet, ↓State.ckptBad_quiet, ↓State.journalCut_quiet]; exact k)

theorem execSysFwWrite_keeps {pq : Quiet} {s : State} (h : Keeps pq s.quiet) (it : Item) :
    KeepsOut pq (execSysFwWrite it s) := by
  unfold execSysFwWrite
  refine keepsOut_serve h _ _ (fun t k => ?_)
  have key : ∀ m, (Memory.wf t.flash = true → Memory.wf m = true) → Keeps pq { t with flash := m }.quiet :=
    fun m c => keeps_flash k m c
  dsimp only
  split
  · simp only [↓State.quiet_mk, ↓Quiet.fold, ↓ite_fst, ↓ite_snd, ↓foldl_quiet, implies_true, ↓serve_quiet, ↓State.complete_quiet, ↓State.fwRefuse_quiet]; exact k
  · split
    · simp only [↓State.quiet_mk, ↓Quiet.fold, ↓ite_fst, ↓ite_snd, ↓foldl_quiet, implies_true, ↓serve_quiet, ↓State.complete_quiet, ↓State.fwRefuse_quiet]; exact k
    · split
      · simp only [↓State.quiet_mk, ↓Quiet.fold, ↓ite_fst, ↓ite_snd, ↓foldl_quiet, implies_true, ↓serve_quiet, ↓State.complete_quiet, ↓State.fwRefuse_quiet]; exact k
      · split
        · simp only [↓State.quiet_mk, ↓Quiet.fold, ↓ite_fst, ↓ite_snd, ↓foldl_quiet, implies_true, ↓serve_quiet, ↓State.complete_quiet, ↓State.fwRefuse_quiet]; exact k
        · rw [@State.complete_quiet]
          exact key _ (fun x => memPut_wf _ _ _ x)

theorem execMerSet_keeps {pq : Quiet} {s : State} (h : Keeps pq s.quiet) (it : Item) :
    KeepsOut pq (execMerSet it s) := by
  unfold execMerSet
  refine keepsOut_serve h _ _ (fun t k => ?_)
  dsimp only
  split
  · simp only [↓State.quiet_mk, ↓Quiet.fold, ↓ite_fst, ↓ite_snd, ↓foldl_quiet, implies_true, ↓serve_quiet, ↓State.complete_quiet]; exact k
  · split
    · simp only [↓State.quiet_mk, ↓Quiet.fold, ↓ite_fst, ↓ite_snd, ↓foldl_quiet, implies_true, ↓serve_quiet, ↓State.complete_quiet]; exact k
    · rw [@State.complete_quiet]
      exact State.restate_keeps (State.stepT_keeps k _ _)

theorem execHead_keeps {pq : Quiet} {s : State} (h : Keeps pq s.quiet) (op : Nat) (it : Item) :
    KeepsOut pq (execHead op it s) := by
  unfold execHead
  repeat' first
    | with_reducible exact h
    | with_reducible refine keepsOut_go ?_
    | with_reducible refine keepsOut_next ?_
    | with_reducible apply execSysFwWrite_keeps
    | with_reducible apply execMerSet_keeps
    | with_reducible apply keeps_iteS
    | with_reducible apply keepsOut_serve
    | with_reducible apply keeps_stateOf
    | (with_reducible refine foldl_keeps _ ?_ _ _ ?_)
    | with_reducible assumption
    | (intro)
    | split
    | with_reducible exact keepsOut_quiet (execSysFwVerify_quiet ..) ‹_›
    | with_reducible exact keepsOut_quiet (execSysFwTrial_quiet ..) ‹_›
    | with_reducible exact keepsOut_quiet (execSysFwConfirm_quiet ..) ‹_›
    | with_reducible exact keepsOut_quiet (execCfgStage_quiet ..) ‹_›
    | with_reducible exact keepsOut_quiet (execCfgStageTable_quiet ..) ‹_›
    | with_reducible exact keepsOut_quiet (execCfgDiscard_quiet ..) ‹_›
    | with_reducible exact keepsOut_quiet (execCfgRead_quiet ..) ‹_›
    | with_reducible exact keepsOut_quiet (execCfgPersist_quiet ..) ‹_›
    | with_reducible exact keepsOut_quiet (execCfgImageExport_quiet ..) ‹_›
    | with_reducible exact keepsOut_quiet (execCfgImageImport_quiet ..) ‹_›
    | with_reducible exact keepsOut_quiet (execVtxPost_quiet ..) ‹_›
    | with_reducible exact keepsOut_quiet (execVtxSignal_quiet ..) ‹_›
    | (simp only [↓State.quiet_mk, ↓Quiet.fold, ↓ite_fst, ↓ite_snd, ↓foldl_quiet, implies_true, ↓execSysFwVerify_quiet, ↓execSysFwTrial_quiet, ↓execSysFwConfirm_quiet, ↓execCfgStage_quiet, ↓execCfgStageTable_quiet, ↓execCfgDiscard_quiet, ↓execCfgRead_quiet, ↓execCfgPersist_quiet, ↓execCfgImageExport_quiet, ↓execCfgImageImport_quiet, ↓execVtxPost_quiet, ↓execVtxSignal_quiet, ↓go_quiet])

theorem State.runItem_keeps {pq : Quiet} {s : State} (h : Keeps pq s.quiet) (op : Nat) (it : Item) :
    Keeps pq (State.runItem s op it).quiet := by
  unfold State.runItem
  repeat' first
    | with_reducible exact h
    | with_reducible refine keepsOut_go ?_
    | with_reducible refine keepsOut_next ?_
    | with_reducible apply execHead_keeps
    | with_reducible apply keeps_iteS
    | with_reducible apply keepsOut_serve
    | with_reducible apply keeps_stateOf
    | (with_reducible refine foldl_keeps _ ?_ _ _ ?_)
    | with_reducible assumption
    | (intro)
    | split
    | with_reducible exact keepsOut_quiet (execEngine_quiet ..) ‹_›
    | with_reducible exact keepsOut_quiet (execRest_quiet ..) ‹_›
    | (simp only [↓State.quiet_mk, ↓Quiet.fold, ↓ite_fst, ↓ite_snd, ↓foldl_quiet, implies_true, ↓stateOf_quiet, ↓execEngine_quiet, ↓execRest_quiet])

theorem State.partnerJob_keeps {pq : Quiet} {s : State} (h : Keeps pq s.quiet) (jobs : List CfgJob) (x : Inflight) :
    Keeps pq (State.partnerJob s jobs x).quiet := by
  unfold State.partnerJob
  repeat' first
    | with_reducible exact h
    | with_reducible refine keepsOut_go ?_
    | with_reducible refine keepsOut_next ?_
    | with_reducible apply State.blockTakes_keeps
    | with_reducible apply keeps_iteS
    | with_reducible apply keepsOut_serve
    | with_reducible apply keeps_stateOf
    | (with_reducible refine foldl_keeps _ ?_ _ _ ?_)
    | with_reducible assumption
    | (intro)
    | split
    | (simp only [↓State.quiet_mk, ↓Quiet.fold, ↓ite_fst, ↓ite_snd, ↓foldl_quiet, implies_true, ↓State.commitChanges_quiet])

theorem State.partnerItem_keeps {pq : Quiet} {s : State} (h : Keeps pq s.quiet) (jobs : List CfgJob) (x : Inflight) :
    Keeps pq (State.partnerItem s jobs x).quiet := by
  unfold State.partnerItem
  repeat' first
    | with_reducible exact h
    | with_reducible refine keepsOut_go ?_
    | with_reducible refine keepsOut_next ?_
    | with_reducible apply State.runItem_keeps
    | with_reducible apply State.partnerJob_keeps
    | with_reducible apply keeps_iteS
    | with_reducible apply keepsOut_serve
    | with_reducible apply keeps_stateOf
    | (with_reducible refine foldl_keeps _ ?_ _ _ ?_)
    | with_reducible assumption
    | (intro)
    | split
    | (simp only [↓State.quiet_mk, ↓Quiet.fold, ↓ite_fst, ↓ite_snd, ↓foldl_quiet, implies_true, ↓State.completeAt_quiet, ↓State.complete_quiet])

theorem State.partnerItems_keeps {pq : Quiet} {s : State} (h : Keeps pq s.quiet) (img : Image) (planned : Bool) :
    Keeps pq (State.partnerItems s img planned).quiet := by
  unfold State.partnerItems
  repeat' first
    | with_reducible exact h
    | with_reducible refine keepsOut_go ?_
    | with_reducible refine keepsOut_next ?_
    | with_reducible apply State.partnerItem_keeps
    | with_reducible apply keeps_iteS
    | with_reducible apply keepsOut_serve
    | with_reducible apply keeps_stateOf
    | (with_reducible refine foldl_keeps _ ?_ _ _ ?_)
    | with_reducible assumption
    | (intro)
    | split
    | (simp only [↓State.quiet_mk, ↓Quiet.fold, ↓ite_fst, ↓ite_snd, ↓foldl_quiet, implies_true, ↓State.takeRing_quiet, ↓State.complete_quiet, ↓State.log_quiet])

theorem State.released_keeps {pq : Quiet} {s : State} (h : Keeps pq s.quiet)  :
    Keeps pq (State.released s).quiet := by
  unfold State.released
  repeat' first
    | with_reducible exact h
    | with_reducible refine keepsOut_go ?_
    | with_reducible refine keepsOut_next ?_
    | with_reducible apply State.coldBegin_keeps
    | with_reducible apply keeps_iteS
    | with_reducible apply keepsOut_serve
    | with_reducible apply keeps_stateOf
    | (with_reducible refine foldl_keeps _ ?_ _ _ ?_)
    | with_reducible assumption
    | (intro)
    | split
    | (simp only [↓State.quiet_mk, ↓Quiet.fold, ↓ite_fst, ↓ite_snd, ↓foldl_quiet, implies_true, ↓State.inMode_quiet])

theorem State.powerStart_keeps {pq : Quiet} {s : State} (h : Keeps pq s.quiet)  :
    Keeps pq (State.powerStart s).quiet := by
  unfold State.powerStart
  repeat' first
    | with_reducible exact h
    | with_reducible refine keepsOut_go ?_
    | with_reducible refine keepsOut_next ?_
    | with_reducible apply State.released_keeps
    | with_reducible apply State.coldBegin_keeps
    | with_reducible apply keeps_iteS
    | with_reducible apply keepsOut_serve
    | with_reducible apply keeps_stateOf
    | (with_reducible refine foldl_keeps _ ?_ _ _ ?_)
    | with_reducible assumption
    | (intro)
    | split
    | (simp only [↓State.quiet_mk, ↓Quiet.fold, ↓ite_fst, ↓ite_snd, ↓foldl_quiet, implies_true, ↓State.warmTrigger_quiet, ↓State.inMode_quiet])

theorem State.readClear_keeps {pq : Quiet} {s : State} (h : Keeps pq s.quiet) (r : Reg) (a : Nat) :
    Keeps pq (State.readClear s r a).quiet := by
  unfold State.readClear
  have k : Keeps pq (s.wrA a (s.rdA a &&& ~~~r.rc)).quiet := by rw [@State.wrA_quiet]; exact h
  generalize s.wrA a (s.rdA a &&& ~~~r.rc) = s1 at k ⊢
  have key : ∀ o, Keeps pq { s1 with mer := { s1.mer with txtsOvf := o } }.quiet := fun o => keeps_mer k _ (fun x => x)
  dsimp only
  refine keeps_iteS (by simp only [↓State.quiet_mk, ↓Quiet.fold]; exact k) (keeps_iteS (by simp only [↓State.quiet_mk, ↓Quiet.fold]; exact k) (keeps_iteS (key _) ?_))
  repeat' first
    | with_reducible exact k
    | with_reducible apply keeps_iteS
    | (simp only [↓State.quiet_mk, ↓Quiet.fold, ↓State.setVtx_quiet, ↓State.setHlx_quiet, ↓State.setFacet_quiet])

theorem State.takeOver_keeps {pq : Quiet} {s : State} (h : Keeps pq s.quiet) (cause : Nat) (b : Nat) :
    Keeps pq (State.takeOver s cause b).quiet := by
  unfold State.takeOver
  repeat' first
    | with_reducible exact h
    | with_reducible refine keepsOut_go ?_
    | with_reducible refine keepsOut_next ?_
    | with_reducible apply State.partnerItems_keeps
    | with_reducible apply keeps_iteS
    | with_reducible apply keepsOut_serve
    | with_reducible apply keeps_stateOf
    | (with_reducible refine foldl_keeps _ ?_ _ _ ?_)
    | with_reducible assumption
    | (intro)
    | split
    | (simp only [↓State.quiet_mk, ↓Quiet.fold, ↓ite_fst, ↓ite_snd, ↓foldl_quiet, implies_true, ↓State.setF_quiet, ↓State.incF_quiet, ↓State.log_quiet, ↓State.mirTo_quiet, ↓State.blocksGo_quiet])

theorem State.warmProcess_keeps {pq : Quiet} {s : State} (h : Keeps pq s.quiet) (badImage : Bool) (partner : Option Nat) :
    Keeps pq (State.warmProcess s badImage partner).1.quiet := by
  unfold State.warmProcess
  repeat' first
    | with_reducible exact h
    | with_reducible refine keepsOut_go ?_
    | with_reducible refine keepsOut_next ?_
    | with_reducible apply State.loadConfig_keeps
    | with_reducible apply keeps_iteS
    | with_reducible apply keepsOut_serve
    | with_reducible apply keeps_stateOf
    | (with_reducible refine foldl_keeps _ ?_ _ _ ?_)
    | with_reducible assumption
    | (intro)
    | split
    | (simp only [↓State.quiet_mk, ↓Quiet.fold, ↓ite_fst, ↓ite_snd, ↓foldl_quiet, implies_true, ↓State.showDriven_quiet, ↓State.imageFind_quiet, ↓State.mirRole_quiet, ↓State.partnerHeard_quiet, ↓State.inMode_quiet, ↓State.locCold_quiet, ↓State.redoItem_quiet, ↓State.outsDiffer_quiet, ↓State.resume_quiet, ↓State.log_quiet])

theorem State.warmRun_keeps {pq : Quiet} {s : State} (h : Keeps pq s.quiet) (links : List (Nat × Nat)) (badImage : Bool) (partner : Option Nat) :
    Keeps pq (State.warmRun s links badImage partner).quiet := by
  unfold State.warmRun
  repeat' first
    | with_reducible exact h
    | with_reducible refine keepsOut_go ?_
    | with_reducible refine keepsOut_next ?_
    | with_reducible apply State.warmProcess_keeps
    | with_reducible apply keeps_iteS
    | with_reducible apply keepsOut_serve
    | with_reducible apply keeps_stateOf
    | (with_reducible refine foldl_keeps _ ?_ _ _ ?_)
    | with_reducible assumption
    | (intro)
    | split
    | (simp only [↓State.quiet_mk, ↓Quiet.fold, ↓ite_fst, ↓ite_snd, ↓foldl_quiet, implies_true, ↓State.wr_quiet, ↓State.setF_quiet, ↓State.hlxStart_quiet, ↓State.kickAll_quiet, ↓State.trainLinks_quiet, ↓State.inMode_quiet, ↓State.engStart_quiet, ↓State.raiseFaults_quiet, ↓State.heldItem_quiet, ↓State.log_quiet, ↓State.prmStart_quiet])

theorem execSysResetCold_keeps {pq : Quiet} {s : State} (h : Keeps pq s.quiet) (value : Word) :
    KeepsOut pq (execSysResetCold value s) := by
  unfold execSysResetCold
  repeat' first
    | with_reducible exact h
    | with_reducible refine keepsOut_go ?_
    | with_reducible refine keepsOut_next ?_
    | with_reducible apply State.coldBegin_keeps
    | with_reducible apply keeps_iteS
    | with_reducible apply keepsOut_serve
    | with_reducible apply keeps_stateOf
    | (with_reducible refine foldl_keeps _ ?_ _ _ ?_)
    | with_reducible assumption
    | (intro)
    | split
    | (simp only [↓State.quiet_mk, ↓Quiet.fold, ↓ite_fst, ↓ite_snd, ↓foldl_quiet, implies_true, ↓go_quiet])

theorem execMerOfsGo_keeps {pq : Quiet} {s : State} (h : Keeps pq s.quiet) (n : Nat) (frac : Nat) :
    KeepsOut pq (execMerOfsGo n frac s) := by
  unfold execMerOfsGo
  repeat' first
    | with_reducible exact h
    | with_reducible refine keepsOut_go ?_
    | with_reducible refine keepsOut_next ?_
    | with_reducible apply State.servoIn_keeps
    | with_reducible apply keeps_iteS
    | with_reducible apply keepsOut_serve
    | with_reducible apply keeps_stateOf
    | (with_reducible refine foldl_keeps _ ?_ _ _ ?_)
    | with_reducible assumption
    | (intro)
    | split
    | (simp only [↓State.quiet_mk, ↓Quiet.fold, ↓ite_fst, ↓ite_snd, ↓foldl_quiet, implies_true, ↓go_quiet, ↓State.logLim_quiet, ↓State.setF_quiet, ↓State.incF_quiet])

theorem execMerTxtsPop_keeps {pq : Quiet} {s : State} (h : Keeps pq s.quiet) (p : Nat) :
    KeepsOut pq (execMerTxtsPop p s) := by
  unfold execMerTxtsPop
  split
  · refine keepsOut_go (keeps_mer h _ (fun k => MerSt.ok_setTxts k _ _ ?_))
    exact Nat.le_trans (by rw [List.length_drop]; omega) (MerSt.ok_txts k p)
  · exact keepsOut_go h

theorem State.writeAon_keeps {pq : Quiet} {s : State} (h : Keeps pq s.quiet) (r : Reg) (a : Nat) (v : Word) (host : Bool) :
    KeepsOut pq (State.writeAon s r a v host) := by
  unfold State.writeAon
  dsimp only
  repeat' first
    | with_reducible apply keepsOut_ite
    | with_reducible exact keepsOut_quiet (execPwrUnlockWrite_quiet ..) h
    | with_reducible exact keepsOut_quiet (execPwrCtrlWrite_quiet ..) h
    | with_reducible exact keepsOut_quiet (State.ringCtrl_quiet ..) h
    | with_reducible exact keepsOut_quiet (State.ringBase_quiet ..) h
    | with_reducible exact keepsOut_quiet (execCfgDataWrite_quiet ..) h
    | with_reducible exact keepsOut_quiet (execFltHack_quiet ..) h
    | with_reducible exact keepsOut_quiet (execFltWdWrite_quiet ..) h
    | with_reducible exact keepsOut_quiet (execFltWdkick_quiet ..) h
    | with_reducible exact keepsOut_quiet (execMerSnap_quiet ..) h
    | with_reducible exact execMerOfsGo_keeps h ..
    | with_reducible exact execMerTxtsPop_keeps h ..
    | with_reducible exact keepsOut_go h
    | (with_reducible refine keepsOut_go ?_; simp only [↓State.quiet_mk, ↓Quiet.fold, ↓ite_fst, ↓ite_snd, ↓foldl_quiet, implies_true, ↓go_quiet, ↓State.lossWrite_quiet, ↓execSysResetWarm_quiet, ↓execPwrUnlockWrite_quiet, ↓execPwrCtrlWrite_quiet, ↓State.ringCtrl_quiet, ↓State.ringBase_quiet, ↓execCfgDataWrite_quiet, ↓execFltHack_quiet, ↓execFltWdWrite_quiet, ↓execFltWdkick_quiet, ↓execMerSnap_quiet, ↓State.plainWrite_quiet]; exact h)
  refine keepsOut_after (keepsOut_quiet (execSysResetWarm_quiet ..) h) (fun t k => ?_)
  split
  · exact execSysResetCold_keeps k _
  · exact keepsOut_go k

theorem execRegisterWrite_keeps {pq : Quiet} {s : State} (h : Keeps pq s.quiet) (offset : Nat) (value : Word) (host : Bool) :
    KeepsOut pq (execRegisterWrite offset value host s) := by
  unfold execRegisterWrite
  repeat' first
    | with_reducible exact keepsOut_quiet (execMalformedAccess_quiet ..) h
    | with_reducible exact keepsOut_quiet (execOffDomainAccess_quiet ..) h
    | with_reducible exact keepsOut_quiet (State.writeEng_quiet ..) h
    | with_reducible exact State.writeAon_keeps h ..
    | with_reducible exact keepsOut_go h
    | split
    | (with_reducible refine keepsOut_go ?_; simp only [↓State.quiet_mk, ↓Quiet.fold, ↓ite_fst, ↓ite_snd, ↓foldl_quiet, implies_true, ↓go_quiet, ↓execMalformedAccess_quiet, ↓execOffDomainAccess_quiet, ↓State.msixWrite_quiet, ↓State.writeEng_quiet]; exact h)

theorem execRegisterReadClear_keeps {pq : Quiet} {s : State} (h : Keeps pq s.quiet) (offset : Nat) :
    KeepsOut pq (execRegisterReadClear offset s) := by
  unfold execRegisterReadClear
  have ans : ∀ (t : State) (w : Word), Keeps pq t.quiet → KeepsOut pq (go (t.emit (.read offset w))) := fun t w k =>
    keepsOut_go (by simp only [↓State.quiet_mk, ↓Quiet.fold, ↓ite_fst, ↓ite_snd, ↓foldl_quiet, implies_true, ↓go_quiet, ↓State.emit_quiet, ↓execMalformedAccess_quiet, ↓execOffDomainAccess_quiet, ↓execMirTokenRead_quiet]; exact k)
  dsimp only
  (repeat' split)
  · exact keepsOut_go h
  · exact keepsOut_quiet (execMalformedAccess_quiet ..) h
  · exact keepsOut_after (keepsOut_quiet (execOffDomainAccess_quiet ..) h) (fun t k => ans t _ k)
  · exact ans s _ h
  · exact ans s _ h
  · exact ans s _ h
  · exact ans s _ h
  · exact keepsOut_after (keepsOut_quiet (execMirTokenRead_quiet ..) h) (fun t k => ans t _ k)
  · exact ans _ _ (State.readClear_keeps h _ _)

theorem execClockLoss_keeps {pq : Quiet} {s : State} (h : Keeps pq s.quiet) (mask : Nat) :
    KeepsOut pq (execClockLoss mask s) := by
  unfold execClockLoss
  have key : ∀ b, Keeps pq { s with mer := { s.mer with stampBad := b } }.quiet := fun b => keeps_mer h _ (fun x => x)
  dsimp only
  generalize (s.mer.stampBad || ((clocksOf mask).filter (fun n => s.clkOn n)).contains 4) = b
  have k0 := key b
  generalize ({ s with mer := { s.mer with stampBad := b } } : State) = s0 at k0 ⊢
  (repeat' split) <;> (refine keepsOut_go ?_; simp only [↓foldl_quiet, ↓State.quiet_mk, ↓Quiet.fold, ↓ite_fst, ↓ite_snd, ↓foldl_quiet, implies_true, ↓State.clkLost_quiet, ↓State.allDown_quiet, ↓go_quiet, ↓State.interfaceDown_quiet, ↓State.arcLost_quiet, ↓State.warmTrigger_quiet]; exact k0)

theorem execTcxoReturn_keeps {pq : Quiet} {s : State} (h : Keeps pq s.quiet)  :
    KeepsOut pq (execTcxoReturn s) := by
  unfold execTcxoReturn
  repeat' first
    | with_reducible exact h
    | with_reducible refine keepsOut_go ?_
    | with_reducible refine keepsOut_next ?_
    | with_reducible apply State.released_keeps
    | with_reducible apply keeps_iteS
    | with_reducible apply keepsOut_serve
    | with_reducible apply keeps_stateOf
    | (with_reducible refine foldl_keeps _ ?_ _ _ ?_)
    | with_reducible assumption
    | (intro)
    | split
    | (simp only [↓State.quiet_mk, ↓Quiet.fold, ↓ite_fst, ↓ite_snd, ↓foldl_quiet, implies_true, ↓go_quiet, ↓State.wr_quiet])

theorem execPowerGoodLost_keeps {pq : Quiet} {s : State} (h : Keeps pq s.quiet) (n : Nat) :
    KeepsOut pq (execPowerGoodLost n s) := by
  unfold execPowerGoodLost
  repeat' first
    | with_reducible exact h
    | with_reducible refine keepsOut_go ?_
    | with_reducible refine keepsOut_next ?_
    | with_reducible apply State.coldBegin_keeps
    | with_reducible apply keeps_iteS
    | with_reducible apply keepsOut_serve
    | with_reducible apply keeps_stateOf
    | (with_reducible refine foldl_keeps _ ?_ _ _ ?_)
    | with_reducible assumption
    | (intro)
    | split
    | (simp only [↓State.quiet_mk, ↓Quiet.fold, ↓ite_fst, ↓ite_snd, ↓foldl_quiet, implies_true, ↓State.domEvent_quiet, ↓go_quiet, ↓State.wr_quiet, ↓State.domAbsent_quiet, ↓State.domDown_quiet, ↓State.warmTrigger_quiet])

theorem execPowerRelease_keeps {pq : Quiet} {s : State} (h : Keeps pq s.quiet) (volt : Nat) :
    KeepsOut pq (execPowerRelease volt s) := by
  unfold execPowerRelease
  repeat' first
    | with_reducible exact h
    | with_reducible refine keepsOut_go ?_
    | with_reducible refine keepsOut_next ?_
    | with_reducible apply State.powerStart_keeps
    | with_reducible apply State.coldBegin_keeps
    | with_reducible apply keeps_iteS
    | with_reducible apply keepsOut_serve
    | with_reducible apply keeps_stateOf
    | (with_reducible refine foldl_keeps _ ?_ _ _ ?_)
    | with_reducible assumption
    | (intro)
    | split
    | (simp only [↓State.quiet_mk, ↓Quiet.fold, ↓ite_fst, ↓ite_snd, ↓foldl_quiet, implies_true, ↓go_quiet, ↓State.lsShow_quiet])

theorem execHotInsertion_keeps {pq : Quiet} {s : State} (h : Keeps pq s.quiet) (base : Nat) :
    KeepsOut pq (execHotInsertion base s) := by
  unfold execHotInsertion
  split
  · refine keepsOut_go ?_
    dsimp only
    simp only [↓State.quiet_mk, ↓Quiet.fold, ↓ite_fst, ↓ite_snd, ↓foldl_quiet, implies_true, ↓go_quiet, ↓State.wr_quiet]
    exact ⟨h.pending, fun _ => merReset_ok, h.flash, h.mram, h.die⟩
  · exact keepsOut_go h

theorem execPresenceSettled_keeps {pq : Quiet} {s : State} (h : Keeps pq s.quiet)  :
    KeepsOut pq (execPresenceSettled s) := by
  unfold execPresenceSettled
  repeat' first
    | with_reducible exact h
    | with_reducible refine keepsOut_go ?_
    | with_reducible refine keepsOut_next ?_
    | with_reducible apply State.coldBegin_keeps
    | with_reducible apply keeps_iteS
    | with_reducible apply keepsOut_serve
    | with_reducible apply keeps_stateOf
    | (with_reducible refine foldl_keeps _ ?_ _ _ ?_)
    | with_reducible assumption
    | (intro)
    | split
    | (simp only [↓State.quiet_mk, ↓Quiet.fold, ↓ite_fst, ↓ite_snd, ↓foldl_quiet, implies_true, ↓go_quiet, ↓State.setF_quiet])

theorem execSrstRelease_keeps {pq : Quiet} {s : State} (h : Keeps pq s.quiet)  :
    KeepsOut pq (execSrstRelease s) := by
  unfold execSrstRelease
  repeat' first
    | with_reducible exact h
    | with_reducible refine keepsOut_go ?_
    | with_reducible refine keepsOut_next ?_
    | with_reducible apply State.coldBegin_keeps
    | with_reducible apply keeps_iteS
    | with_reducible apply keepsOut_serve
    | with_reducible apply keeps_stateOf
    | (with_reducible refine foldl_keeps _ ?_ _ _ ?_)
    | with_reducible assumption
    | (intro)
    | split
    | (simp only [↓State.quiet_mk, ↓Quiet.fold, ↓ite_fst, ↓ite_snd, ↓foldl_quiet, implies_true, ↓go_quiet])

theorem execThermalRecovery_keeps {pq : Quiet} {s : State} (h : Keeps pq s.quiet) (temps : Temps) :
    KeepsOut pq (execThermalRecovery temps s) := by
  unfold execThermalRecovery
  repeat' first
    | with_reducible exact h
    | with_reducible refine keepsOut_go ?_
    | with_reducible refine keepsOut_next ?_
    | with_reducible apply State.released_keeps
    | with_reducible apply keeps_iteS
    | with_reducible apply keepsOut_serve
    | with_reducible apply keeps_stateOf
    | (with_reducible refine foldl_keeps _ ?_ _ _ ?_)
    | with_reducible assumption
    | (intro)
    | split
    | (simp only [↓State.quiet_mk, ↓Quiet.fold, ↓ite_fst, ↓ite_snd, ↓foldl_quiet, implies_true, ↓State.tempShow_quiet, ↓go_quiet])

theorem execColdStart_keeps {pq : Quiet} {s : State} (h : Keeps pq s.quiet) (cause : Nat) (straps : Nat) (links : List (Nat × Nat)) (env : StartEnv) :
    KeepsOut pq (execColdStart cause straps links env s) := by
  unfold execColdStart
  repeat' first
    | with_reducible exact h
    | with_reducible refine keepsOut_go ?_
    | with_reducible refine keepsOut_next ?_
    | with_reducible apply State.coldBegin_keeps
    | with_reducible apply State.coldRun_keeps
    | with_reducible apply keeps_iteS
    | with_reducible apply keepsOut_serve
    | with_reducible apply keeps_stateOf
    | (with_reducible refine foldl_keeps _ ?_ _ _ ?_)
    | with_reducible assumption
    | (intro)
    | split
    | (simp only [↓State.quiet_mk, ↓Quiet.fold, ↓ite_fst, ↓ite_snd, ↓foldl_quiet, implies_true, ↓go_quiet])

theorem execWarmRestart_keeps {pq : Quiet} {s : State} (h : Keeps pq s.quiet) (cause : Nat) (links : List (Nat × Nat)) (env : WarmEnv) :
    KeepsOut pq (execWarmRestart cause links env s) := by
  unfold execWarmRestart
  repeat' first
    | with_reducible exact h
    | with_reducible refine keepsOut_go ?_
    | with_reducible refine keepsOut_next ?_
    | with_reducible apply State.warmRun_keeps
    | with_reducible apply keeps_iteS
    | with_reducible apply keepsOut_serve
    | with_reducible apply keeps_stateOf
    | (with_reducible refine foldl_keeps _ ?_ _ _ ?_)
    | with_reducible assumption
    | (intro)
    | split
    | (simp only [↓State.quiet_mk, ↓Quiet.fold, ↓ite_fst, ↓ite_snd, ↓foldl_quiet, implies_true, ↓State.warmTrigger_quiet, ↓go_quiet])

theorem execTrialTimeout_keeps {pq : Quiet} {s : State} (h : Keeps pq s.quiet)  :
    KeepsOut pq (execTrialTimeout s) := by
  unfold execTrialTimeout
  repeat' first
    | with_reducible exact h
    | with_reducible refine keepsOut_go ?_
    | with_reducible refine keepsOut_next ?_
    | with_reducible apply State.coldBegin_keeps
    | with_reducible apply keeps_iteS
    | with_reducible apply keepsOut_serve
    | with_reducible apply keeps_stateOf
    | (with_reducible refine foldl_keeps _ ?_ _ _ ?_)
    | with_reducible assumption
    | (intro)
    | split
    | (simp only [↓State.quiet_mk, ↓Quiet.fold, ↓ite_fst, ↓ite_snd, ↓foldl_quiet, implies_true, ↓State.fresh_quiet, ↓go_quiet])

theorem execBlockValuesTaken_keeps {pq : Quiet} {s : State} (h : Keeps pq s.quiet) (ring : Nat) (seq : Word) (block : Nat) :
    KeepsOut pq (execBlockValuesTaken ring seq block s) := by
  unfold execBlockValuesTaken
  repeat' first
    | with_reducible exact h
    | with_reducible refine keepsOut_go ?_
    | with_reducible refine keepsOut_next ?_
    | with_reducible apply State.blockTakes_keeps
    | with_reducible apply keeps_iteS
    | with_reducible apply keepsOut_serve
    | with_reducible apply keeps_stateOf
    | (with_reducible refine foldl_keeps _ ?_ _ _ ?_)
    | with_reducible assumption
    | (intro)
    | split
    | (simp only [↓State.quiet_mk, ↓Quiet.fold, ↓ite_fst, ↓ite_snd, ↓foldl_quiet, implies_true, ↓go_quiet, ↓State.blockTaken_quiet, ↓State.blockWait_quiet])

theorem execFacetFrameTick_keeps {pq : Quiet} {s : State} (h : Keeps pq s.quiet) (n : Nat) :
    KeepsOut pq (execFacetFrameTick n s) := by
  unfold execFacetFrameTick
  repeat' first
    | with_reducible exact h
    | with_reducible refine keepsOut_go ?_
    | with_reducible refine keepsOut_next ?_
    | with_reducible apply State.frameItems_keeps
    | with_reducible apply keeps_iteS
    | with_reducible apply keepsOut_serve
    | with_reducible apply keeps_stateOf
    | (with_reducible refine foldl_keeps _ ?_ _ _ ?_)
    | with_reducible assumption
    | (intro)
    | split
    | (simp only [↓State.quiet_mk, ↓Quiet.fold, ↓ite_fst, ↓ite_snd, ↓foldl_quiet, implies_true, ↓State.composeFrame_quiet, ↓State.expireRemote_quiet, ↓go_quiet])

theorem execEthTxSent_keeps {pq : Quiet} {s : State} (h : Keeps pq s.quiet) (port : Nat) (st : Stamp) :
    KeepsOut pq (execEthTxSent port st s) := by
  unfold execEthTxSent
  repeat' first
    | with_reducible exact h
    | with_reducible refine keepsOut_go ?_
    | with_reducible refine keepsOut_next ?_
    | with_reducible apply State.txtsAdd_keeps
    | with_reducible apply keeps_iteS
    | with_reducible apply keepsOut_serve
    | with_reducible apply keeps_stateOf
    | (with_reducible refine foldl_keeps _ ?_ _ _ ?_)
    | with_reducible assumption
    | (intro)
    | split
    | (simp only [↓State.quiet_mk, ↓Quiet.fold, ↓ite_fst, ↓ite_snd, ↓foldl_quiet, implies_true, ↓State.ethClean_quiet, ↓go_quiet, ↓State.ethStart_quiet, ↓State.ethCopyGone_quiet, ↓State.wrapF_quiet])

theorem execServoHoldover_keeps {pq : Quiet} {s : State} (h : Keeps pq s.quiet) (x : Nat) :
    KeepsOut pq (execServoHoldover x s) := by
  unfold execServoHoldover
  dsimp only
  split
  · exact keepsOut_go (State.restate_keeps (State.autoSwitch_keeps (State.svState_keeps h _ _ (by omega)) _))
  · exact keepsOut_go h

theorem execServoFreeRun_keeps {pq : Quiet} {s : State} (h : Keeps pq s.quiet) (x : Nat) :
    KeepsOut pq (execServoFreeRun x s) := by
  unfold execServoFreeRun
  dsimp only
  split
  · exact keepsOut_go (State.restate_keeps (State.autoSwitch_keeps (State.svState_keeps h _ _ (by omega)) _))
  · exact keepsOut_go h

theorem execSlewComplete_keeps {pq : Quiet} {s : State} (h : Keeps pq s.quiet)  :
    KeepsOut pq (execSlewComplete s) := by
  unfold execSlewComplete
  split
  · exact keepsOut_go (State.restate_keeps (keeps_mer h _ (fun k => MerSt.ok_switching k false)))
  · exact keepsOut_go h

theorem execTimeMarkRx_keeps {pq : Quiet} {s : State} (h : Keeps pq s.quiet) (port : Nat) (f : Frame) (em : Int) (corr : Int) (ing : Int) (residence : Nat) :
    KeepsOut pq (execTimeMarkRx port f em corr ing residence s) := by
  unfold execTimeMarkRx
  repeat' first
    | with_reducible exact h
    | with_reducible refine keepsOut_go ?_
    | with_reducible refine keepsOut_next ?_
    | with_reducible apply State.servoIn_keeps
    | with_reducible apply keeps_iteS
    | with_reducible apply keepsOut_serve
    | with_reducible apply keeps_stateOf
    | (with_reducible refine foldl_keeps _ ?_ _ _ ?_)
    | with_reducible assumption
    | (intro)
    | split
    | (simp only [↓State.quiet_mk, ↓Quiet.fold, ↓ite_fst, ↓ite_snd, ↓foldl_quiet, implies_true, ↓go_quiet, ↓State.winTaken_quiet, ↓State.onward_quiet, ↓State.crcGood_quiet, ↓State.cross_quiet, ↓State.wr_quiet])

theorem execTakeover_keeps {pq : Quiet} {s : State} (h : Keeps pq s.quiet) (tick : Option Nat) :
    KeepsOut pq (execTakeover tick s) := by
  unfold execTakeover
  repeat' first
    | with_reducible exact h
    | with_reducible refine keepsOut_go ?_
    | with_reducible refine keepsOut_next ?_
    | with_reducible apply State.takeOver_keeps
    | with_reducible apply keeps_iteS
    | with_reducible apply keepsOut_serve
    | with_reducible apply keeps_stateOf
    | (with_reducible refine foldl_keeps _ ?_ _ _ ?_)
    | with_reducible assumption
    | (intro)
    | split
    | (simp only [↓State.quiet_mk, ↓Quiet.fold, ↓ite_fst, ↓ite_snd, ↓foldl_quiet, implies_true, ↓State.pathDown_quiet, ↓go_quiet])

theorem execEpochApply_keeps {pq : Quiet} {s : State} (h : Keeps pq s.quiet) (n : Word) (t : Int) (ok : Bool) (full : Bool) (last : Bool) (final : Bool) (bytes : Nat) (img : Image) :
    KeepsOut pq (execEpochApply n t ok full last final bytes img s) := by
  unfold execEpochApply
  repeat' first
    | with_reducible exact h
    | with_reducible refine keepsOut_go ?_
    | with_reducible refine keepsOut_next ?_
    | with_reducible apply State.applyImage_keeps
    | with_reducible apply keeps_iteS
    | with_reducible apply keepsOut_serve
    | with_reducible apply keeps_stateOf
    | (with_reducible refine foldl_keeps _ ?_ _ _ ?_)
    | with_reducible assumption
    | (intro)
    | split
    | (simp only [↓State.quiet_mk, ↓Quiet.fold, ↓ite_fst, ↓ite_snd, ↓foldl_quiet, implies_true, ↓State.syncLeft_quiet, ↓State.commitItem_quiet, ↓State.wr_quiet, ↓go_quiet, ↓State.trySync_quiet, ↓State.lagShow_quiet])

theorem execSwitchGo_keeps {pq : Quiet} {s : State} (h : Keeps pq s.quiet)  :
    KeepsOut pq (execSwitchGo s) := by
  unfold execSwitchGo
  repeat' first
    | with_reducible exact h
    | with_reducible refine keepsOut_go ?_
    | with_reducible refine keepsOut_next ?_
    | with_reducible apply State.takeOver_keeps
    | with_reducible apply keeps_iteS
    | with_reducible apply keepsOut_serve
    | with_reducible apply keeps_stateOf
    | (with_reducible refine foldl_keeps _ ?_ _ _ ?_)
    | with_reducible assumption
    | (intro)
    | split
    | (simp only [↓State.quiet_mk, ↓Quiet.fold, ↓ite_fst, ↓ite_snd, ↓foldl_quiet, implies_true, ↓go_quiet, ↓State.rampOff_quiet, ↓State.toStandby_quiet])

theorem execMramStatusPoll_keeps {pq : Quiet} {s : State} (h : Keeps pq s.quiet) (ce : Nat) (ue : List Nat) :
    KeepsOut pq (execMramStatusPoll ce ue s) := by
  unfold execMramStatusPoll
  repeat' first
    | with_reducible exact h
    | with_reducible refine keepsOut_go ?_
    | with_reducible refine keepsOut_next ?_
    | with_reducible apply State.mramBad_keeps
    | with_reducible apply keeps_iteS
    | with_reducible apply keepsOut_serve
    | with_reducible apply keeps_stateOf
    | (with_reducible refine foldl_keeps _ ?_ _ _ ?_)
    | with_reducible assumption
    | (intro)
    | split
    | (simp only [↓State.quiet_mk, ↓Quiet.fold, ↓ite_fst, ↓ite_snd, ↓foldl_quiet, implies_true, ↓go_quiet, ↓State.incF_quiet])

end Sys2Proof.Machine
end

