-- ==== Sys2Proof/Laws/PerRest.lean ====
section
/-! SUPPORT. The operations and commands of the Perimeter die keep the queue, Meridian and the nonvolatile memories: only
the die's own state changes among the parts of `State.quiet`. -/

set_option linter.unusedSimpArgs false
set_option maxRecDepth 4000

namespace Sys2Proof.Machine

/-- Those parts without the Perimeter die. -/
def State.rest (s : State) : List Instr × MerSt × Mem × Mem := (s.pending, s.mer, s.flash, s.mram)

/-- Those parts of the next state, where there is one. -/
def restOf (o : Host.Outcome State Fault Refusal) : Option (List Instr × MerSt × Mem × Mem) :=
  match o with
  | .next t => some t.rest
  | .fault _ => none
  | .refused _ => none

theorem State.rest_of_quiet {s t : State} (h : s.quiet = t.quiet) : s.rest = t.rest := by
  have h1 : s.pending = t.pending := congrArg Quiet.pending h
  have h2 : s.mer = t.mer := congrArg Quiet.mer h
  have h3 : s.flash = t.flash := congrArg Quiet.flash h
  have h4 : s.mram = t.mram := congrArg Quiet.mram h
  unfold State.rest
  rw [h1, h2, h3, h4]

theorem rest_mk (pending : List Instr) (regs : Tab Word) (mer : MerSt) (tr : Trace) (hif : HifSt) (cfg : CfgSt)
    (dram mram flash host : Mem) (sys : SysSt) (vxl : VxlSt) (mir : MirSt) (fct : FctSt) (tan : TanSt) (lat : LatSt)
    (arc : ArcSt) (prm : PrmSt) (loc : LocSt) (can : Tab CanCtl) (eth : EthSt) (per : PerSt) (out : List Out)
    (free : Nat) :
    (State.mk pending regs mer tr hif cfg dram mram flash host sys vxl mir fct tan lat arc prm loc can eth per out
      free).rest = (pending, mer, flash, mram) := id rfl

theorem rest_fold (s : State) : (s.pending, s.mer, s.flash, s.mram) = s.rest := id rfl

theorem ite_rest (c : Prop) [Decidable c] (a b : State) :
    (if c then a else b).rest = if c then a.rest else b.rest := by split <;> rfl

theorem restOf_go (s : State) : restOf (go s) = some s.rest := id rfl
theorem restOf_next (s : State) : restOf (.next s) = some s.rest := id rfl

theorem ite_restOf (c : Prop) [Decidable c] (a b : Host.Outcome State Fault Refusal) :
    restOf (if c then a else b) = if c then restOf a else restOf b := by split <;> rfl

theorem foldl_rest {β : Type} (f : State → β → State) (h : ∀ s b, (f s b).rest = s.rest) (l : List β) (s : State) :
    (l.foldl f s).rest = s.rest := by
  induction l generalizing s with
  | nil => rfl
  | cons x xs ih => simp only [List.foldl_cons, ih, h]

theorem State.perLines_rest (s : State) :
    (State.perLines s).rest = s.rest := State.rest_of_quiet (@State.perLines_quiet s)

theorem State.log_rest (s : State) (code : Nat) (inst : Nat) (p0 : optParam Word 0) (p1 : optParam Word 0) (p2 : optParam Word 0) (p3 : optParam Word 0) :
    (State.log s code inst p0 p1 p2 p3).rest = s.rest := State.rest_of_quiet (@State.log_quiet s code inst p0 p1 p2 p3)

theorem State.incF_rest (s : State) (f : Fld) (i : Nat) (j : Nat) (k : Nat) :
    (State.incF s f i j k).rest = s.rest := State.rest_of_quiet (@State.incF_quiet s f i j k)

theorem State.resetRejected_rest (s : State) (reason : Nat) (ms : Nat) :
    (State.resetRejected s reason ms).rest = s.rest := State.rest_of_quiet (@State.resetRejected_quiet s reason ms)

theorem State.setPer_rest (s : State) (p : PerSt) :
    (State.setPer s p).rest = s.rest := by
  unfold State.setPer
  first
  | (simp only [↓rest_mk, ↓rest_fold, ↓ite_rest, ↓restOf_go, ↓restOf_next, ↓ite_restOf, ite_self, implies_true, ↓ite_fst, ↓ite_snd, ↓foldl_rest]; done)
  | (simp only [↓rest_mk, ↓rest_fold, ↓ite_rest, ↓restOf_go, ↓restOf_next, ↓ite_restOf, ite_self, implies_true, ↓ite_fst, ↓ite_snd, ↓foldl_rest]; (repeat' split) <;> (simp only [↓rest_mk, ↓rest_fold, ↓ite_rest, ↓restOf_go, ↓restOf_next, ↓ite_restOf, ite_self, implies_true, ↓ite_fst, ↓ite_snd, ↓foldl_rest]; done); done)
  | ((repeat' split) <;> (simp only [↓rest_mk, ↓rest_fold, ↓ite_rest, ↓restOf_go, ↓restOf_next, ↓ite_restOf, ite_self, implies_true, ↓ite_fst, ↓ite_snd, ↓foldl_rest]; done); done)

theorem State.dieFault_rest (s : State) (cause : Nat) (chans : Nat) :
    (State.dieFault s cause chans).rest = s.rest := by
  unfold State.dieFault
  first
  | (simp only [↓rest_mk, ↓rest_fold, ↓ite_rest, ↓restOf_go, ↓restOf_next, ↓ite_restOf, ite_self, implies_true, ↓ite_fst, ↓ite_snd, ↓foldl_rest, ↓State.perLines_rest, ↓State.log_rest, ↓State.setPer_rest]; done)
  | (simp only [↓rest_mk, ↓rest_fold, ↓ite_rest, ↓restOf_go, ↓restOf_next, ↓ite_restOf, ite_self, implies_true, ↓ite_fst, ↓ite_snd, ↓foldl_rest, ↓State.perLines_rest, ↓State.log_rest, ↓State.setPer_rest]; (repeat' split) <;> (simp only [↓rest_mk, ↓rest_fold, ↓ite_rest, ↓restOf_go, ↓restOf_next, ↓ite_restOf, ite_self, implies_true, ↓ite_fst, ↓ite_snd, ↓foldl_rest, ↓State.perLines_rest, ↓State.log_rest, ↓State.setPer_rest]; done); done)
  | ((repeat' split) <;> (simp only [↓rest_mk, ↓rest_fold, ↓ite_rest, ↓restOf_go, ↓restOf_next, ↓ite_restOf, ite_self, implies_true, ↓ite_fst, ↓ite_snd, ↓foldl_rest, ↓State.perLines_rest, ↓State.log_rest, ↓State.setPer_rest]; done); done)

theorem State.inputFault_rest (s : State) (pair : Nat) (cause : Nat) (chans : Nat) :
    (State.inputFault s pair cause chans).rest = s.rest := by
  unfold State.inputFault
  first
  | (simp only [↓rest_mk, ↓rest_fold, ↓ite_rest, ↓restOf_go, ↓restOf_next, ↓ite_restOf, ite_self, implies_true, ↓ite_fst, ↓ite_snd, ↓foldl_rest, ↓State.perLines_rest, ↓State.log_rest, ↓State.setPer_rest]; done)
  | (simp only [↓rest_mk, ↓rest_fold, ↓ite_rest, ↓restOf_go, ↓restOf_next, ↓ite_restOf, ite_self, implies_true, ↓ite_fst, ↓ite_snd, ↓foldl_rest, ↓State.perLines_rest, ↓State.log_rest, ↓State.setPer_rest]; (repeat' split) <;> (simp only [↓rest_mk, ↓rest_fold, ↓ite_rest, ↓restOf_go, ↓restOf_next, ↓ite_restOf, ite_self, implies_true, ↓ite_fst, ↓ite_snd, ↓foldl_rest, ↓State.perLines_rest, ↓State.log_rest, ↓State.setPer_rest]; done); done)
  | ((repeat' split) <;> (simp only [↓rest_mk, ↓rest_fold, ↓ite_rest, ↓restOf_go, ↓restOf_next, ↓ite_restOf, ite_self, implies_true, ↓ite_fst, ↓ite_snd, ↓foldl_rest, ↓State.perLines_rest, ↓State.log_rest, ↓State.setPer_rest]; done); done)

theorem State.muteEnd_rest (s : State) (k : Nat) (cause : Nat) :
    (State.muteEnd s k cause).rest = s.rest := by
  unfold State.muteEnd
  first
  | (simp only [↓rest_mk, ↓rest_fold, ↓ite_rest, ↓restOf_go, ↓restOf_next, ↓ite_restOf, ite_self, implies_true, ↓ite_fst, ↓ite_snd, ↓foldl_rest, ↓State.log_rest, ↓State.setPer_rest]; done)
  | (simp only [↓rest_mk, ↓rest_fold, ↓ite_rest, ↓restOf_go, ↓restOf_next, ↓ite_restOf, ite_self, implies_true, ↓ite_fst, ↓ite_snd, ↓foldl_rest, ↓State.log_rest, ↓State.setPer_rest]; (repeat' split) <;> (simp only [↓rest_mk, ↓rest_fold, ↓ite_rest, ↓restOf_go, ↓restOf_next, ↓ite_restOf, ite_self, implies_true, ↓ite_fst, ↓ite_snd, ↓foldl_rest, ↓State.log_rest, ↓State.setPer_rest]; done); done)
  | ((repeat' split) <;> (simp only [↓rest_mk, ↓rest_fold, ↓ite_rest, ↓restOf_go, ↓restOf_next, ↓ite_restOf, ite_self, implies_true, ↓ite_fst, ↓ite_snd, ↓foldl_rest, ↓State.log_rest, ↓State.setPer_rest]; done); done)

theorem State.muteCheck_rest (s : State) (k : Nat) :
    (State.muteCheck s k).rest = s.rest := by
  unfold State.muteCheck
  first
  | (simp only [↓rest_mk, ↓rest_fold, ↓ite_rest, ↓restOf_go, ↓restOf_next, ↓ite_restOf, ite_self, implies_true, ↓ite_fst, ↓ite_snd, ↓foldl_rest, ↓State.muteEnd_rest]; done)
  | (simp only [↓rest_mk, ↓rest_fold, ↓ite_rest, ↓restOf_go, ↓restOf_next, ↓ite_restOf, ite_self, implies_true, ↓ite_fst, ↓ite_snd, ↓foldl_rest, ↓State.muteEnd_rest]; (repeat' split) <;> (simp only [↓rest_mk, ↓rest_fold, ↓ite_rest, ↓restOf_go, ↓restOf_next, ↓ite_restOf, ite_self, implies_true, ↓ite_fst, ↓ite_snd, ↓foldl_rest, ↓State.muteEnd_rest]; done); done)
  | ((repeat' split) <;> (simp only [↓rest_mk, ↓rest_fold, ↓ite_rest, ↓restOf_go, ↓restOf_next, ↓ite_restOf, ite_self, implies_true, ↓ite_fst, ↓ite_snd, ↓foldl_rest, ↓State.muteEnd_rest]; done); done)

theorem State.slotDemand_rest (s : State) (k : Nat) (cause : Nat) :
    (State.slotDemand s k cause).rest = s.rest := by
  unfold State.slotDemand
  first
  | (simp only [↓rest_mk, ↓rest_fold, ↓ite_rest, ↓restOf_go, ↓restOf_next, ↓ite_restOf, ite_self, implies_true, ↓ite_fst, ↓ite_snd, ↓foldl_rest, ↓State.log_rest, ↓State.setPer_rest]; done)
  | (simp only [↓rest_mk, ↓rest_fold, ↓ite_rest, ↓restOf_go, ↓restOf_next, ↓ite_restOf, ite_self, implies_true, ↓ite_fst, ↓ite_snd, ↓foldl_rest, ↓State.log_rest, ↓State.setPer_rest]; (repeat' split) <;> (simp only [↓rest_mk, ↓rest_fold, ↓ite_rest, ↓restOf_go, ↓restOf_next, ↓ite_restOf, ite_self, implies_true, ↓ite_fst, ↓ite_snd, ↓foldl_rest, ↓State.log_rest, ↓State.setPer_rest]; done); done)
  | ((repeat' split) <;> (simp only [↓rest_mk, ↓rest_fold, ↓ite_rest, ↓restOf_go, ↓restOf_next, ↓ite_restOf, ite_self, implies_true, ↓ite_fst, ↓ite_snd, ↓foldl_rest, ↓State.log_rest, ↓State.setPer_rest]; done); done)

theorem State.slotJudge_rest (s : State) (cause : Nat) (k : Nat) :
    (State.slotJudge s cause k).rest = s.rest := by
  unfold State.slotJudge
  first
  | (simp only [↓rest_mk, ↓rest_fold, ↓ite_rest, ↓restOf_go, ↓restOf_next, ↓ite_restOf, ite_self, implies_true, ↓ite_fst, ↓ite_snd, ↓foldl_rest, ↓State.setPer_rest, ↓State.slotDemand_rest]; done)
  | (simp only [↓rest_mk, ↓rest_fold, ↓ite_rest, ↓restOf_go, ↓restOf_next, ↓ite_restOf, ite_self, implies_true, ↓ite_fst, ↓ite_snd, ↓foldl_rest, ↓State.setPer_rest, ↓State.slotDemand_rest]; (repeat' split) <;> (simp only [↓rest_mk, ↓rest_fold, ↓ite_rest, ↓restOf_go, ↓restOf_next, ↓ite_restOf, ite_self, implies_true, ↓ite_fst, ↓ite_snd, ↓foldl_rest, ↓State.setPer_rest, ↓State.slotDemand_rest]; done); done)
  | ((repeat' split) <;> (simp only [↓rest_mk, ↓rest_fold, ↓ite_rest, ↓restOf_go, ↓restOf_next, ↓ite_restOf, ite_self, implies_true, ↓ite_fst, ↓ite_snd, ↓foldl_rest, ↓State.setPer_rest, ↓State.slotDemand_rest]; done); done)

theorem State.perJudge_rest (s : State) (cause : Nat) :
    (State.perJudge s cause).rest = s.rest := by
  unfold State.perJudge
  first
  | (simp only [↓rest_mk, ↓rest_fold, ↓ite_rest, ↓restOf_go, ↓restOf_next, ↓ite_restOf, ite_self, implies_true, ↓ite_fst, ↓ite_snd, ↓foldl_rest, ↓State.perLines_rest, ↓State.slotJudge_rest]; done)
  | (simp only [↓rest_mk, ↓rest_fold, ↓ite_rest, ↓restOf_go, ↓restOf_next, ↓ite_restOf, ite_self, implies_true, ↓ite_fst, ↓ite_snd, ↓foldl_rest, ↓State.perLines_rest, ↓State.slotJudge_rest]; (repeat' split) <;> (simp only [↓rest_mk, ↓rest_fold, ↓ite_rest, ↓restOf_go, ↓restOf_next, ↓ite_restOf, ite_self, implies_true, ↓ite_fst, ↓ite_snd, ↓foldl_rest, ↓State.perLines_rest, ↓State.slotJudge_rest]; done); done)
  | ((repeat' split) <;> (simp only [↓rest_mk, ↓rest_fold, ↓ite_rest, ↓restOf_go, ↓restOf_next, ↓ite_restOf, ite_self, implies_true, ↓ite_fst, ↓ite_snd, ↓foldl_rest, ↓State.perLines_rest, ↓State.slotJudge_rest]; done); done)

theorem State.perContacts_rest (s : State) (pair : Nat) (a : Bool) (b : Bool) :
    (State.perContacts s pair a b).rest = s.rest := by
  unfold State.perContacts
  first
  | (simp only [↓rest_mk, ↓rest_fold, ↓ite_rest, ↓restOf_go, ↓restOf_next, ↓ite_restOf, ite_self, implies_true, ↓ite_fst, ↓ite_snd, ↓foldl_rest, ↓State.setPer_rest, ↓State.perJudge_rest, ↓State.muteCheck_rest]; done)
  | (simp only [↓rest_mk, ↓rest_fold, ↓ite_rest, ↓restOf_go, ↓restOf_next, ↓ite_restOf, ite_self, implies_true, ↓ite_fst, ↓ite_snd, ↓foldl_rest, ↓State.setPer_rest, ↓State.perJudge_rest, ↓State.muteCheck_rest]; (repeat' split) <;> (simp only [↓rest_mk, ↓rest_fold, ↓ite_rest, ↓restOf_go, ↓restOf_next, ↓ite_restOf, ite_self, implies_true, ↓ite_fst, ↓ite_snd, ↓foldl_rest, ↓State.setPer_rest, ↓State.perJudge_rest, ↓State.muteCheck_rest]; done); done)
  | ((repeat' split) <;> (simp only [↓rest_mk, ↓rest_fold, ↓ite_rest, ↓restOf_go, ↓restOf_next, ↓ite_restOf, ite_self, implies_true, ↓ite_fst, ↓ite_snd, ↓foldl_rest, ↓State.setPer_rest, ↓State.perJudge_rest, ↓State.muteCheck_rest]; done); done)

theorem State.stopHold_rest (s : State) (k : Nat) :
    (State.stopHold s k).rest = s.rest := by
  unfold State.stopHold
  first
  | (simp only [↓rest_mk, ↓rest_fold, ↓ite_rest, ↓restOf_go, ↓restOf_next, ↓ite_restOf, ite_self, implies_true, ↓ite_fst, ↓ite_snd, ↓foldl_rest, ↓State.slotDemand_rest, ↓State.setPer_rest]; done)
  | (simp only [↓rest_mk, ↓rest_fold, ↓ite_rest, ↓restOf_go, ↓restOf_next, ↓ite_restOf, ite_self, implies_true, ↓ite_fst, ↓ite_snd, ↓foldl_rest, ↓State.slotDemand_rest, ↓State.setPer_rest]; (repeat' split) <;> (simp only [↓rest_mk, ↓rest_fold, ↓ite_rest, ↓restOf_go, ↓restOf_next, ↓ite_restOf, ite_self, implies_true, ↓ite_fst, ↓ite_snd, ↓foldl_rest, ↓State.slotDemand_rest, ↓State.setPer_rest]; done); done)
  | ((repeat' split) <;> (simp only [↓rest_mk, ↓rest_fold, ↓ite_rest, ↓restOf_go, ↓restOf_next, ↓ite_restOf, ite_self, implies_true, ↓ite_fst, ↓ite_snd, ↓foldl_rest, ↓State.slotDemand_rest, ↓State.setPer_rest]; done); done)

theorem State.perRun_rest (s : State) (pat : Nat) :
    (State.perRun s pat).rest = s.rest := by
  unfold State.perRun
  first
  | (simp only [↓rest_mk, ↓rest_fold, ↓ite_rest, ↓restOf_go, ↓restOf_next, ↓ite_restOf, ite_self, implies_true, ↓ite_fst, ↓ite_snd, ↓foldl_rest, ↓State.setPer_rest, ↓State.perLines_rest, ↓State.stopHold_rest]; done)
  | (simp only [↓rest_mk, ↓rest_fold, ↓ite_rest, ↓restOf_go, ↓restOf_next, ↓ite_restOf, ite_self, implies_true, ↓ite_fst, ↓ite_snd, ↓foldl_rest, ↓State.setPer_rest, ↓State.perLines_rest, ↓State.stopHold_rest]; (repeat' split) <;> (simp only [↓rest_mk, ↓rest_fold, ↓ite_rest, ↓restOf_go, ↓restOf_next, ↓ite_restOf, ite_self, implies_true, ↓ite_fst, ↓ite_snd, ↓foldl_rest, ↓State.setPer_rest, ↓State.perLines_rest, ↓State.stopHold_rest]; done); done)
  | ((repeat' split) <;> (simp only [↓rest_mk, ↓rest_fold, ↓ite_rest, ↓restOf_go, ↓restOf_next, ↓ite_restOf, ite_self, implies_true, ↓ite_fst, ↓ite_snd, ↓foldl_rest, ↓State.setPer_rest, ↓State.perLines_rest, ↓State.stopHold_rest]; done); done)

theorem State.resetRun_rest (s : State) :
    (State.resetRun s).rest = s.rest := by
  unfold State.resetRun
  first
  | (simp only [↓rest_mk, ↓rest_fold, ↓ite_rest, ↓restOf_go, ↓restOf_next, ↓ite_restOf, ite_self, implies_true, ↓ite_fst, ↓ite_snd, ↓foldl_rest, ↓State.slotDemand_rest, ↓State.stopHold_rest, ↓State.log_rest, ↓State.setPer_rest, ↓State.perLines_rest]; done)
  | (simp only [↓rest_mk, ↓rest_fold, ↓ite_rest, ↓restOf_go, ↓restOf_next, ↓ite_restOf, ite_self, implies_true, ↓ite_fst, ↓ite_snd, ↓foldl_rest, ↓State.slotDemand_rest, ↓State.stopHold_rest, ↓State.log_rest, ↓State.setPer_rest, ↓State.perLines_rest]; (repeat' split) <;> (simp only [↓rest_mk, ↓rest_fold, ↓ite_rest, ↓restOf_go, ↓restOf_next, ↓ite_restOf, ite_self, implies_true, ↓ite_fst, ↓ite_snd, ↓foldl_rest, ↓State.slotDemand_rest, ↓State.stopHold_rest, ↓State.log_rest, ↓State.setPer_rest, ↓State.perLines_rest]; done); done)
  | ((repeat' split) <;> (simp only [↓rest_mk, ↓rest_fold, ↓ite_rest, ↓restOf_go, ↓restOf_next, ↓ite_restOf, ite_self, implies_true, ↓ite_fst, ↓ite_snd, ↓foldl_rest, ↓State.slotDemand_rest, ↓State.stopHold_rest, ↓State.log_rest, ↓State.setPer_rest, ↓State.perLines_rest]; done); done)

theorem State.stopLine_rest (s : State) (source : Nat) (j : Nat) :
    (State.stopLine s source j).rest = s.rest := by
  unfold State.stopLine
  first
  | (simp only [↓rest_mk, ↓rest_fold, ↓ite_rest, ↓restOf_go, ↓restOf_next, ↓ite_restOf, ite_self, implies_true, ↓ite_fst, ↓ite_snd, ↓foldl_rest, ↓State.setPer_rest, ↓State.slotDemand_rest, ↓State.log_rest]; done)
  | (simp only [↓rest_mk, ↓rest_fold, ↓ite_rest, ↓restOf_go, ↓restOf_next, ↓ite_restOf, ite_self, implies_true, ↓ite_fst, ↓ite_snd, ↓foldl_rest, ↓State.setPer_rest, ↓State.slotDemand_rest, ↓State.log_rest]; (repeat' split) <;> (simp only [↓rest_mk, ↓rest_fold, ↓ite_rest, ↓restOf_go, ↓restOf_next, ↓ite_restOf, ite_self, implies_true, ↓ite_fst, ↓ite_snd, ↓foldl_rest, ↓State.setPer_rest, ↓State.slotDemand_rest, ↓State.log_rest]; done); done)
  | ((repeat' split) <;> (simp only [↓rest_mk, ↓rest_fold, ↓ite_rest, ↓restOf_go, ↓restOf_next, ↓ite_restOf, ite_self, implies_true, ↓ite_fst, ↓ite_snd, ↓foldl_rest, ↓State.setPer_rest, ↓State.slotDemand_rest, ↓State.log_rest]; done); done)

theorem State.stopGone_rest (s : State) (k : Nat) :
    (State.stopGone s k).rest = s.rest := by
  unfold State.stopGone
  first
  | (simp only [↓rest_mk, ↓rest_fold, ↓ite_rest, ↓restOf_go, ↓restOf_next, ↓ite_restOf, ite_self, implies_true, ↓ite_fst, ↓ite_snd, ↓foldl_rest, ↓State.setPer_rest]; done)
  | (simp only [↓rest_mk, ↓rest_fold, ↓ite_rest, ↓restOf_go, ↓restOf_next, ↓ite_restOf, ite_self, implies_true, ↓ite_fst, ↓ite_snd, ↓foldl_rest, ↓State.setPer_rest]; (repeat' split) <;> (simp only [↓rest_mk, ↓rest_fold, ↓ite_rest, ↓restOf_go, ↓restOf_next, ↓ite_restOf, ite_self, implies_true, ↓ite_fst, ↓ite_snd, ↓foldl_rest, ↓State.setPer_rest]; done); done)
  | ((repeat' split) <;> (simp only [↓rest_mk, ↓rest_fold, ↓ite_rest, ↓restOf_go, ↓restOf_next, ↓ite_restOf, ite_self, implies_true, ↓ite_fst, ↓ite_snd, ↓foldl_rest, ↓State.setPer_rest]; done); done)

theorem State.stopAct_rest (s : State) (act : Nat) (src : Nat → Nat) :
    (State.stopAct s act src).rest = s.rest := by
  unfold State.stopAct
  first
  | (simp only [↓rest_mk, ↓rest_fold, ↓ite_rest, ↓restOf_go, ↓restOf_next, ↓ite_restOf, ite_self, implies_true, ↓ite_fst, ↓ite_snd, ↓foldl_rest, ↓State.setPer_rest, ↓State.stopLine_rest, ↓State.perLines_rest, ↓State.stopGone_rest]; done)
  | (simp only [↓rest_mk, ↓rest_fold, ↓ite_rest, ↓restOf_go, ↓restOf_next, ↓ite_restOf, ite_self, implies_true, ↓ite_fst, ↓ite_snd, ↓foldl_rest, ↓State.setPer_rest, ↓State.stopLine_rest, ↓State.perLines_rest, ↓State.stopGone_rest]; (repeat' split) <;> (simp only [↓rest_mk, ↓rest_fold, ↓ite_rest, ↓restOf_go, ↓restOf_next, ↓ite_restOf, ite_self, implies_true, ↓ite_fst, ↓ite_snd, ↓foldl_rest, ↓State.setPer_rest, ↓State.stopLine_rest, ↓State.perLines_rest, ↓State.stopGone_rest]; done); done)
  | ((repeat' split) <;> (simp only [↓rest_mk, ↓rest_fold, ↓ite_rest, ↓restOf_go, ↓restOf_next, ↓ite_restOf, ite_self, implies_true, ↓ite_fst, ↓ite_snd, ↓foldl_rest, ↓State.setPer_rest, ↓State.stopLine_rest, ↓State.perLines_rest, ↓State.stopGone_rest]; done); done)

theorem execSafetySupplyOn_rest (s : State) :
    restOf (execSafetySupplyOn s) = some s.rest := by
  unfold execSafetySupplyOn
  first
  | (simp only [↓rest_mk, ↓rest_fold, ↓ite_rest, ↓restOf_go, ↓restOf_next, ↓ite_restOf, ite_self, implies_true, ↓ite_fst, ↓ite_snd, ↓foldl_rest, ↓State.perLines_rest, ↓State.setPer_rest]; done)
  | (simp only [↓rest_mk, ↓rest_fold, ↓ite_rest, ↓restOf_go, ↓restOf_next, ↓ite_restOf, ite_self, implies_true, ↓ite_fst, ↓ite_snd, ↓foldl_rest, ↓State.perLines_rest, ↓State.setPer_rest]; (repeat' split) <;> (simp only [↓rest_mk, ↓rest_fold, ↓ite_rest, ↓restOf_go, ↓restOf_next, ↓ite_restOf, ite_self, implies_true, ↓ite_fst, ↓ite_snd, ↓foldl_rest, ↓State.perLines_rest, ↓State.setPer_rest]; done); done)
  | ((repeat' split) <;> (simp only [↓rest_mk, ↓rest_fold, ↓ite_rest, ↓restOf_go, ↓restOf_next, ↓ite_restOf, ite_self, implies_true, ↓ite_fst, ↓ite_snd, ↓foldl_rest, ↓State.perLines_rest, ↓State.setPer_rest]; done); done)

theorem execSelftestDone_rest (patH : Nat) (patP : Nat) (cause : Nat) (chans : Nat) (pfw : Nat) (s : State) :
    restOf (execSelftestDone patH patP cause chans pfw s) = some s.rest := by
  unfold execSelftestDone
  first
  | (simp only [↓rest_mk, ↓rest_fold, ↓ite_rest, ↓restOf_go, ↓restOf_next, ↓ite_restOf, ite_self, implies_true, ↓ite_fst, ↓ite_snd, ↓foldl_rest, ↓State.setPer_rest, ↓State.dieFault_rest, ↓State.log_rest, ↓State.perRun_rest]; done)
  | (simp only [↓rest_mk, ↓rest_fold, ↓ite_rest, ↓restOf_go, ↓restOf_next, ↓ite_restOf, ite_self, implies_true, ↓ite_fst, ↓ite_snd, ↓foldl_rest, ↓State.setPer_rest, ↓State.dieFault_rest, ↓State.log_rest, ↓State.perRun_rest]; (repeat' split) <;> (simp only [↓rest_mk, ↓rest_fold, ↓ite_rest, ↓restOf_go, ↓restOf_next, ↓ite_restOf, ite_self, implies_true, ↓ite_fst, ↓ite_snd, ↓foldl_rest, ↓State.setPer_rest, ↓State.dieFault_rest, ↓State.log_rest, ↓State.perRun_rest]; done); done)
  | ((repeat' split) <;> (simp only [↓rest_mk, ↓rest_fold, ↓ite_rest, ↓restOf_go, ↓restOf_next, ↓ite_restOf, ite_self, implies_true, ↓ite_fst, ↓ite_snd, ↓foldl_rest, ↓State.setPer_rest, ↓State.dieFault_rest, ↓State.log_rest, ↓State.perRun_rest]; done); done)

theorem execSafetySupplyLoss_rest (s : State) :
    restOf (execSafetySupplyLoss s) = some s.rest := by
  unfold execSafetySupplyLoss
  first
  | (simp only [↓rest_mk, ↓rest_fold, ↓ite_rest, ↓restOf_go, ↓restOf_next, ↓ite_restOf, ite_self, implies_true, ↓ite_fst, ↓ite_snd, ↓foldl_rest, ↓State.perLines_rest, ↓State.setPer_rest]; done)
  | (simp only [↓rest_mk, ↓rest_fold, ↓ite_rest, ↓restOf_go, ↓restOf_next, ↓ite_restOf, ite_self, implies_true, ↓ite_fst, ↓ite_snd, ↓foldl_rest, ↓State.perLines_rest, ↓State.setPer_rest]; (repeat' split) <;> (simp only [↓rest_mk, ↓rest_fold, ↓ite_rest, ↓restOf_go, ↓restOf_next, ↓ite_restOf, ite_self, implies_true, ↓ite_fst, ↓ite_snd, ↓foldl_rest, ↓State.perLines_rest, ↓State.setPer_rest]; done); done)
  | ((repeat' split) <;> (simp only [↓rest_mk, ↓rest_fold, ↓ite_rest, ↓restOf_go, ↓restOf_next, ↓ite_restOf, ite_self, implies_true, ↓ite_fst, ↓ite_snd, ↓foldl_rest, ↓State.perLines_rest, ↓State.setPer_rest]; done); done)

theorem execSafetyInputDemand_rest (pair : Nat) (a : Bool) (b : Bool) (s : State) :
    restOf (execSafetyInputDemand pair a b s) = some s.rest := by
  unfold execSafetyInputDemand
  first
  | (simp only [↓rest_mk, ↓rest_fold, ↓ite_rest, ↓restOf_go, ↓restOf_next, ↓ite_restOf, ite_self, implies_true, ↓ite_fst, ↓ite_snd, ↓foldl_rest, ↓State.perContacts_rest]; done)
  | (simp only [↓rest_mk, ↓rest_fold, ↓ite_rest, ↓restOf_go, ↓restOf_next, ↓ite_restOf, ite_self, implies_true, ↓ite_fst, ↓ite_snd, ↓foldl_rest, ↓State.perContacts_rest]; (repeat' split) <;> (simp only [↓rest_mk, ↓rest_fold, ↓ite_rest, ↓restOf_go, ↓restOf_next, ↓ite_restOf, ite_self, implies_true, ↓ite_fst, ↓ite_snd, ↓foldl_rest, ↓State.perContacts_rest]; done); done)
  | ((repeat' split) <;> (simp only [↓rest_mk, ↓rest_fold, ↓ite_rest, ↓restOf_go, ↓restOf_next, ↓ite_restOf, ite_self, implies_true, ↓ite_fst, ↓ite_snd, ↓foldl_rest, ↓State.perContacts_rest]; done); done)

theorem execSafetyInputPermit_rest (pair : Nat) (a : Bool) (b : Bool) (s : State) :
    restOf (execSafetyInputPermit pair a b s) = some s.rest := by
  unfold execSafetyInputPermit
  first
  | (simp only [↓rest_mk, ↓rest_fold, ↓ite_rest, ↓restOf_go, ↓restOf_next, ↓ite_restOf, ite_self, implies_true, ↓ite_fst, ↓ite_snd, ↓foldl_rest, ↓State.perContacts_rest]; done)
  | (simp only [↓rest_mk, ↓rest_fold, ↓ite_rest, ↓restOf_go, ↓restOf_next, ↓ite_restOf, ite_self, implies_true, ↓ite_fst, ↓ite_snd, ↓foldl_rest, ↓State.perContacts_rest]; (repeat' split) <;> (simp only [↓rest_mk, ↓rest_fold, ↓ite_rest, ↓restOf_go, ↓restOf_next, ↓ite_restOf, ite_self, implies_true, ↓ite_fst, ↓ite_snd, ↓foldl_rest, ↓State.perContacts_rest]; done); done)
  | ((repeat' split) <;> (simp only [↓rest_mk, ↓rest_fold, ↓ite_rest, ↓restOf_go, ↓restOf_next, ↓ite_restOf, ite_self, implies_true, ↓ite_fst, ↓ite_snd, ↓foldl_rest, ↓State.perContacts_rest]; done); done)

theorem execTpFault_rest (pair : Nat) (cause : Nat) (chans : Nat) (s : State) :
    restOf (execTpFault pair cause chans s) = some s.rest := by
  unfold execTpFault
  first
  | (simp only [↓rest_mk, ↓rest_fold, ↓ite_rest, ↓restOf_go, ↓restOf_next, ↓ite_restOf, ite_self, implies_true, ↓ite_fst, ↓ite_snd, ↓foldl_rest, ↓State.inputFault_rest, ↓State.incF_rest]; done)
  | (simp only [↓rest_mk, ↓rest_fold, ↓ite_rest, ↓restOf_go, ↓restOf_next, ↓ite_restOf, ite_self, implies_true, ↓ite_fst, ↓ite_snd, ↓foldl_rest, ↓State.inputFault_rest, ↓State.incF_rest]; (repeat' split) <;> (simp only [↓rest_mk, ↓rest_fold, ↓ite_rest, ↓restOf_go, ↓restOf_next, ↓ite_restOf, ite_self, implies_true, ↓ite_fst, ↓ite_snd, ↓foldl_rest, ↓State.inputFault_rest, ↓State.incF_rest]; done); done)
  | ((repeat' split) <;> (simp only [↓rest_mk, ↓rest_fold, ↓ite_rest, ↓restOf_go, ↓restOf_next, ↓ite_restOf, ite_self, implies_true, ↓ite_fst, ↓ite_snd, ↓foldl_rest, ↓State.inputFault_rest, ↓State.incF_rest]; done); done)

theorem execDiscrepancy_rest (pair : Nat) (chans : Nat) (s : State) :
    restOf (execDiscrepancy pair chans s) = some s.rest := by
  unfold execDiscrepancy
  first
  | (simp only [↓rest_mk, ↓rest_fold, ↓ite_rest, ↓restOf_go, ↓restOf_next, ↓ite_restOf, ite_self, implies_true, ↓ite_fst, ↓ite_snd, ↓foldl_rest, ↓State.inputFault_rest]; done)
  | (simp only [↓rest_mk, ↓rest_fold, ↓ite_rest, ↓restOf_go, ↓restOf_next, ↓ite_restOf, ite_self, implies_true, ↓ite_fst, ↓ite_snd, ↓foldl_rest, ↓State.inputFault_rest]; (repeat' split) <;> (simp only [↓rest_mk, ↓rest_fold, ↓ite_rest, ↓restOf_go, ↓restOf_next, ↓ite_restOf, ite_self, implies_true, ↓ite_fst, ↓ite_snd, ↓foldl_rest, ↓State.inputFault_rest]; done); done)
  | ((repeat' split) <;> (simp only [↓rest_mk, ↓rest_fold, ↓ite_rest, ↓restOf_go, ↓restOf_next, ↓ite_restOf, ite_self, implies_true, ↓ite_fst, ↓ite_snd, ↓foldl_rest, ↓State.inputFault_rest]; done); done)

theorem execMutingStart_rest (slot : Nat) (s : State) :
    restOf (execMutingStart slot s) = some s.rest := by
  unfold execMutingStart
  first
  | (simp only [↓rest_mk, ↓rest_fold, ↓ite_rest, ↓restOf_go, ↓restOf_next, ↓ite_restOf, ite_self, implies_true, ↓ite_fst, ↓ite_snd, ↓foldl_rest, ↓State.log_rest, ↓State.setPer_rest]; done)
  | (simp only [↓rest_mk, ↓rest_fold, ↓ite_rest, ↓restOf_go, ↓restOf_next, ↓ite_restOf, ite_self, implies_true, ↓ite_fst, ↓ite_snd, ↓foldl_rest, ↓State.log_rest, ↓State.setPer_rest]; (repeat' split) <;> (simp only [↓rest_mk, ↓rest_fold, ↓ite_rest, ↓restOf_go, ↓restOf_next, ↓ite_restOf, ite_self, implies_true, ↓ite_fst, ↓ite_snd, ↓foldl_rest, ↓State.log_rest, ↓State.setPer_rest]; done); done)
  | ((repeat' split) <;> (simp only [↓rest_mk, ↓rest_fold, ↓ite_rest, ↓restOf_go, ↓restOf_next, ↓ite_restOf, ite_self, implies_true, ↓ite_fst, ↓ite_snd, ↓foldl_rest, ↓State.log_rest, ↓State.setPer_rest]; done); done)

theorem execMutingLimit_rest (slot : Nat) (s : State) :
    restOf (execMutingLimit slot s) = some s.rest := by
  unfold execMutingLimit
  first
  | (simp only [↓rest_mk, ↓rest_fold, ↓ite_rest, ↓restOf_go, ↓restOf_next, ↓ite_restOf, ite_self, implies_true, ↓ite_fst, ↓ite_snd, ↓foldl_rest, ↓State.perJudge_rest, ↓State.muteEnd_rest]; done)
  | (simp only [↓rest_mk, ↓rest_fold, ↓ite_rest, ↓restOf_go, ↓restOf_next, ↓ite_restOf, ite_self, implies_true, ↓ite_fst, ↓ite_snd, ↓foldl_rest, ↓State.perJudge_rest, ↓State.muteEnd_rest]; (repeat' split) <;> (simp only [↓rest_mk, ↓rest_fold, ↓ite_rest, ↓restOf_go, ↓restOf_next, ↓ite_restOf, ite_self, implies_true, ↓ite_fst, ↓ite_snd, ↓foldl_rest, ↓State.perJudge_rest, ↓State.muteEnd_rest]; done); done)
  | ((repeat' split) <;> (simp only [↓rest_mk, ↓rest_fold, ↓ite_rest, ↓restOf_go, ↓restOf_next, ↓ite_restOf, ite_self, implies_true, ↓ite_fst, ↓ite_snd, ↓foldl_rest, ↓State.perJudge_rest, ↓State.muteEnd_rest]; done); done)

theorem execResetPulse_rest (ms : Nat) (s : State) :
    restOf (execResetPulse ms s) = some s.rest := by
  unfold execResetPulse
  first
  | (simp only [↓rest_mk, ↓rest_fold, ↓ite_rest, ↓restOf_go, ↓restOf_next, ↓ite_restOf, ite_self, implies_true, ↓ite_fst, ↓ite_snd, ↓foldl_rest, ↓State.resetRejected_rest, ↓State.log_rest, ↓State.perRun_rest, ↓State.resetRun_rest]; done)
  | (simp only [↓rest_mk, ↓rest_fold, ↓ite_rest, ↓restOf_go, ↓restOf_next, ↓ite_restOf, ite_self, implies_true, ↓ite_fst, ↓ite_snd, ↓foldl_rest, ↓State.resetRejected_rest, ↓State.log_rest, ↓State.perRun_rest, ↓State.resetRun_rest]; (repeat' split) <;> (simp only [↓rest_mk, ↓rest_fold, ↓ite_rest, ↓restOf_go, ↓restOf_next, ↓ite_restOf, ite_self, implies_true, ↓ite_fst, ↓ite_snd, ↓foldl_rest, ↓State.resetRejected_rest, ↓State.log_rest, ↓State.perRun_rest, ↓State.resetRun_rest]; done); done)
  | ((repeat' split) <;> (simp only [↓rest_mk, ↓rest_fold, ↓ite_rest, ↓restOf_go, ↓restOf_next, ↓ite_restOf, ite_self, implies_true, ↓ite_fst, ↓ite_snd, ↓foldl_rest, ↓State.resetRejected_rest, ↓State.log_rest, ↓State.perRun_rest, ↓State.resetRun_rest]; done); done)

theorem execResetStuck_rest (ms : Nat) (s : State) :
    restOf (execResetStuck ms s) = some s.rest := by
  unfold execResetStuck
  first
  | (simp only [↓rest_mk, ↓rest_fold, ↓ite_rest, ↓restOf_go, ↓restOf_next, ↓ite_restOf, ite_self, implies_true, ↓ite_fst, ↓ite_snd, ↓foldl_rest, ↓State.log_rest, ↓State.setPer_rest]; done)
  | (simp only [↓rest_mk, ↓rest_fold, ↓ite_rest, ↓restOf_go, ↓restOf_next, ↓ite_restOf, ite_self, implies_true, ↓ite_fst, ↓ite_snd, ↓foldl_rest, ↓State.log_rest, ↓State.setPer_rest]; (repeat' split) <;> (simp only [↓rest_mk, ↓rest_fold, ↓ite_rest, ↓restOf_go, ↓restOf_next, ↓ite_restOf, ite_self, implies_true, ↓ite_fst, ↓ite_snd, ↓foldl_rest, ↓State.log_rest, ↓State.setPer_rest]; done); done)
  | ((repeat' split) <;> (simp only [↓rest_mk, ↓rest_fold, ↓ite_rest, ↓restOf_go, ↓restOf_next, ↓ite_restOf, ite_self, implies_true, ↓ite_fst, ↓ite_snd, ↓foldl_rest, ↓State.log_rest, ↓State.setPer_rest]; done); done)

theorem execStopRequestFrame_rest (ok : Bool) (s : State) :
    restOf (execStopRequestFrame ok s) = some s.rest := by
  unfold execStopRequestFrame
  first
  | (simp only [↓rest_mk, ↓rest_fold, ↓ite_rest, ↓restOf_go, ↓restOf_next, ↓ite_restOf, ite_self, implies_true, ↓ite_fst, ↓ite_snd, ↓foldl_rest, ↓State.log_rest, ↓State.stopAct_rest, ↓State.setPer_rest]; done)
  | (simp only [↓rest_mk, ↓rest_fold, ↓ite_rest, ↓restOf_go, ↓restOf_next, ↓ite_restOf, ite_self, implies_true, ↓ite_fst, ↓ite_snd, ↓foldl_rest, ↓State.log_rest, ↓State.stopAct_rest, ↓State.setPer_rest]; (repeat' split) <;> (simp only [↓rest_mk, ↓rest_fold, ↓ite_rest, ↓restOf_go, ↓restOf_next, ↓ite_restOf, ite_self, implies_true, ↓ite_fst, ↓ite_snd, ↓foldl_rest, ↓State.log_rest, ↓State.stopAct_rest, ↓State.setPer_rest]; done); done)
  | ((repeat' split) <;> (simp only [↓rest_mk, ↓rest_fold, ↓ite_rest, ↓restOf_go, ↓restOf_next, ↓ite_restOf, ite_self, implies_true, ↓ite_fst, ↓ite_snd, ↓foldl_rest, ↓State.log_rest, ↓State.stopAct_rest, ↓State.setPer_rest]; done); done)

theorem execStopChannelLoss_rest (s : State) :
    restOf (execStopChannelLoss s) = some s.rest := by
  unfold execStopChannelLoss
  first
  | (simp only [↓rest_mk, ↓rest_fold, ↓ite_rest, ↓restOf_go, ↓restOf_next, ↓ite_restOf, ite_self, implies_true, ↓ite_fst, ↓ite_snd, ↓foldl_rest, ↓State.stopAct_rest, ↓State.setPer_rest]; done)
  | (simp only [↓rest_mk, ↓rest_fold, ↓ite_rest, ↓restOf_go, ↓restOf_next, ↓ite_restOf, ite_self, implies_true, ↓ite_fst, ↓ite_snd, ↓foldl_rest, ↓State.stopAct_rest, ↓State.setPer_rest]; (repeat' split) <;> (simp only [↓rest_mk, ↓rest_fold, ↓ite_rest, ↓restOf_go, ↓restOf_next, ↓ite_restOf, ite_self, implies_true, ↓ite_fst, ↓ite_snd, ↓foldl_rest, ↓State.stopAct_rest, ↓State.setPer_rest]; done); done)
  | ((repeat' split) <;> (simp only [↓rest_mk, ↓rest_fold, ↓ite_rest, ↓restOf_go, ↓restOf_next, ↓ite_restOf, ite_self, implies_true, ↓ite_fst, ↓ite_snd, ↓foldl_rest, ↓State.stopAct_rest, ↓State.setPer_rest]; done); done)

theorem execChannelDisagree_rest (s : State) :
    restOf (execChannelDisagree s) = some s.rest := by
  unfold execChannelDisagree
  first
  | (simp only [↓rest_mk, ↓rest_fold, ↓ite_rest, ↓restOf_go, ↓restOf_next, ↓ite_restOf, ite_self, implies_true, ↓ite_fst, ↓ite_snd, ↓foldl_rest, ↓State.dieFault_rest]; done)
  | (simp only [↓rest_mk, ↓rest_fold, ↓ite_rest, ↓restOf_go, ↓restOf_next, ↓ite_restOf, ite_self, implies_true, ↓ite_fst, ↓ite_snd, ↓foldl_rest, ↓State.dieFault_rest]; (repeat' split) <;> (simp only [↓rest_mk, ↓rest_fold, ↓ite_rest, ↓restOf_go, ↓restOf_next, ↓ite_restOf, ite_self, implies_true, ↓ite_fst, ↓ite_snd, ↓foldl_rest, ↓State.dieFault_rest]; done); done)
  | ((repeat' split) <;> (simp only [↓rest_mk, ↓rest_fold, ↓ite_rest, ↓restOf_go, ↓restOf_next, ↓ite_restOf, ite_self, implies_true, ↓ite_fst, ↓ite_snd, ↓foldl_rest, ↓State.dieFault_rest]; done); done)

theorem execSwitchTest_rest (out : Nat) (s : State) :
    restOf (execSwitchTest out s) = some s.rest := by
  unfold execSwitchTest
  first
  | (simp only [↓rest_mk, ↓rest_fold, ↓ite_rest, ↓restOf_go, ↓restOf_next, ↓ite_restOf, ite_self, implies_true, ↓ite_fst, ↓ite_snd, ↓foldl_rest, ↓State.setPer_rest]; done)
  | (simp only [↓rest_mk, ↓rest_fold, ↓ite_rest, ↓restOf_go, ↓restOf_next, ↓ite_restOf, ite_self, implies_true, ↓ite_fst, ↓ite_snd, ↓foldl_rest, ↓State.setPer_rest]; (repeat' split) <;> (simp only [↓rest_mk, ↓rest_fold, ↓ite_rest, ↓restOf_go, ↓restOf_next, ↓ite_restOf, ite_self, implies_true, ↓ite_fst, ↓ite_snd, ↓foldl_rest, ↓State.setPer_rest]; done); done)
  | ((repeat' split) <;> (simp only [↓rest_mk, ↓rest_fold, ↓ite_rest, ↓restOf_go, ↓restOf_next, ↓ite_restOf, ite_self, implies_true, ↓ite_fst, ↓ite_snd, ↓foldl_rest, ↓State.setPer_rest]; done); done)

theorem execReadbackFault_rest (chans : Nat) (s : State) :
    restOf (execReadbackFault chans s) = some s.rest := by
  unfold execReadbackFault
  first
  | (simp only [↓rest_mk, ↓rest_fold, ↓ite_rest, ↓restOf_go, ↓restOf_next, ↓ite_restOf, ite_self, implies_true, ↓ite_fst, ↓ite_snd, ↓foldl_rest, ↓State.dieFault_rest]; done)
  | (simp only [↓rest_mk, ↓rest_fold, ↓ite_rest, ↓restOf_go, ↓restOf_next, ↓ite_restOf, ite_self, implies_true, ↓ite_fst, ↓ite_snd, ↓foldl_rest, ↓State.dieFault_rest]; (repeat' split) <;> (simp only [↓rest_mk, ↓rest_fold, ↓ite_rest, ↓restOf_go, ↓restOf_next, ↓ite_restOf, ite_self, implies_true, ↓ite_fst, ↓ite_snd, ↓foldl_rest, ↓State.dieFault_rest]; done); done)
  | ((repeat' split) <;> (simp only [↓rest_mk, ↓rest_fold, ↓ite_rest, ↓restOf_go, ↓restOf_next, ↓ite_restOf, ite_self, implies_true, ↓ite_fst, ↓ite_snd, ↓foldl_rest, ↓State.dieFault_rest]; done); done)

theorem execDieFault_rest (cause : Nat) (chans : Nat) (s : State) :
    restOf (execDieFault cause chans s) = some s.rest := by
  unfold execDieFault
  first
  | (simp only [↓rest_mk, ↓rest_fold, ↓ite_rest, ↓restOf_go, ↓restOf_next, ↓ite_restOf, ite_self, implies_true, ↓ite_fst, ↓ite_snd, ↓foldl_rest, ↓State.dieFault_rest]; done)
  | (simp only [↓rest_mk, ↓rest_fold, ↓ite_rest, ↓restOf_go, ↓restOf_next, ↓ite_restOf, ite_self, implies_true, ↓ite_fst, ↓ite_snd, ↓foldl_rest, ↓State.dieFault_rest]; (repeat' split) <;> (simp only [↓rest_mk, ↓rest_fold, ↓ite_rest, ↓restOf_go, ↓restOf_next, ↓ite_restOf, ite_self, implies_true, ↓ite_fst, ↓ite_snd, ↓foldl_rest, ↓State.dieFault_rest]; done); done)
  | ((repeat' split) <;> (simp only [↓rest_mk, ↓rest_fold, ↓ite_rest, ↓restOf_go, ↓restOf_next, ↓ite_restOf, ite_self, implies_true, ↓ite_fst, ↓ite_snd, ↓foldl_rest, ↓State.dieFault_rest]; done); done)

theorem execPatternChange_rest (pattern : Nat) (s : State) :
    restOf (execPatternChange pattern s) = some s.rest := by
  unfold execPatternChange
  first
  | (simp only [↓rest_mk, ↓rest_fold, ↓ite_rest, ↓restOf_go, ↓restOf_next, ↓ite_restOf, ite_self, implies_true, ↓ite_fst, ↓ite_snd, ↓foldl_rest, ↓State.log_rest, ↓State.setPer_rest]; done)
  | (simp only [↓rest_mk, ↓rest_fold, ↓ite_rest, ↓restOf_go, ↓restOf_next, ↓ite_restOf, ite_self, implies_true, ↓ite_fst, ↓ite_snd, ↓foldl_rest, ↓State.log_rest, ↓State.setPer_rest]; (repeat' split) <;> (simp only [↓rest_mk, ↓rest_fold, ↓ite_rest, ↓restOf_go, ↓restOf_next, ↓ite_restOf, ite_self, implies_true, ↓ite_fst, ↓ite_snd, ↓foldl_rest, ↓State.log_rest, ↓State.setPer_rest]; done); done)
  | ((repeat' split) <;> (simp only [↓rest_mk, ↓rest_fold, ↓ite_rest, ↓restOf_go, ↓restOf_next, ↓ite_restOf, ite_self, implies_true, ↓ite_fst, ↓ite_snd, ↓foldl_rest, ↓State.log_rest, ↓State.setPer_rest]; done); done)

theorem execResetStuckClear_rest (s : State) :
    restOf (execResetStuckClear s) = some s.rest := by
  unfold execResetStuckClear
  first
  | (simp only [↓rest_mk, ↓rest_fold, ↓ite_rest, ↓restOf_go, ↓restOf_next, ↓ite_restOf, ite_self, implies_true, ↓ite_fst, ↓ite_snd, ↓foldl_rest, ↓State.setPer_rest]; done)
  | (simp only [↓rest_mk, ↓rest_fold, ↓ite_rest, ↓restOf_go, ↓restOf_next, ↓ite_restOf, ite_self, implies_true, ↓ite_fst, ↓ite_snd, ↓foldl_rest, ↓State.setPer_rest]; (repeat' split) <;> (simp only [↓rest_mk, ↓rest_fold, ↓ite_rest, ↓restOf_go, ↓restOf_next, ↓ite_restOf, ite_self, implies_true, ↓ite_fst, ↓ite_snd, ↓foldl_rest, ↓State.setPer_rest]; done); done)
  | ((repeat' split) <;> (simp only [↓rest_mk, ↓rest_fold, ↓ite_rest, ↓restOf_go, ↓restOf_next, ↓ite_restOf, ite_self, implies_true, ↓ite_fst, ↓ite_snd, ↓foldl_rest, ↓State.setPer_rest]; done); done)

end Sys2Proof.Machine
end

