-- ==== Sys2Proof/Laws/Regs.lean ====
section
/-! SUPPORT. Registers and fields: a register written reads back and leaves every other one alone; a field put into a word
reads back and leaves the other bits alone; a counting field counts. -/

namespace Sys2Proof.Machine

/-! ### Words and their fields -/

theorem bitsOf_lt (w : Word) (lo wd : Nat) : bitsOf w lo wd < 2 ^ wd := Nat.mod_lt _ (Nat.two_pow_pos wd)

theorem w32_toNat (n : Nat) : (w32 n).toNat = n % 2 ^ 32 := BitVec.toNat_ofNat n 32

theorem w32_toNat_self (w : Word) : w32 w.toNat = w := by unfold w32; simp

/-- A number by its part above a field, the field, and its part below. -/
theorem field_split (n lo wd : Nat) :
    n = n / 2 ^ (lo + wd) * 2 ^ (lo + wd) + n / 2 ^ lo % 2 ^ wd * 2 ^ lo + n % 2 ^ lo := by
  have h1 := Nat.div_add_mod n (2 ^ lo)
  have h2 := Nat.div_add_mod (n / 2 ^ lo) (2 ^ wd)
  rw [Nat.div_div_eq_div_mul, ← Nat.pow_add] at h2
  have h3 : 2 ^ lo * (2 ^ wd * (n / 2 ^ (lo + wd)) + n / 2 ^ lo % 2 ^ wd) =
      n / 2 ^ (lo + wd) * 2 ^ (lo + wd) + n / 2 ^ lo % 2 ^ wd * 2 ^ lo := by
    rw [Nat.pow_add]; ring
  rw [h2] at h3
  omega

theorem putBitsNat_eq (n lo wd v : Nat) :
    putBitsNat n lo wd v = n / 2 ^ (lo + wd) * 2 ^ (lo + wd) + v % 2 ^ wd * 2 ^ lo + n % 2 ^ lo := by
  unfold putBitsNat
  have := field_split n lo wd
  omega

theorem putBitsNat_low (n lo wd v : Nat) : putBitsNat n lo wd v % 2 ^ lo = n % 2 ^ lo := by
  have h : putBitsNat n lo wd v = n % 2 ^ lo + 2 ^ lo * (n / 2 ^ (lo + wd) * 2 ^ wd + v % 2 ^ wd) := by
    rw [putBitsNat_eq, Nat.pow_add]; ring
  rw [h, Nat.add_mul_mod_self_left, Nat.mod_mod]

theorem putBitsNat_from (n lo wd v : Nat) :
    putBitsNat n lo wd v / 2 ^ lo = n / 2 ^ (lo + wd) * 2 ^ wd + v % 2 ^ wd := by
  have h : putBitsNat n lo wd v = n % 2 ^ lo + 2 ^ lo * (n / 2 ^ (lo + wd) * 2 ^ wd + v % 2 ^ wd) := by
    rw [putBitsNat_eq, Nat.pow_add]; ring
  rw [h, Nat.add_mul_div_left _ _ (Nat.two_pow_pos lo), Nat.div_eq_of_lt (Nat.mod_lt _ (Nat.two_pow_pos lo)), Nat.zero_add]

theorem putBitsNat_high (n lo wd v : Nat) : putBitsNat n lo wd v / 2 ^ (lo + wd) = n / 2 ^ (lo + wd) := by
  rw [Nat.pow_add, ← Nat.div_div_eq_div_mul, putBitsNat_from, Nat.mul_comm, Nat.mul_add_div (Nat.two_pow_pos wd),
    Nat.div_eq_of_lt (Nat.mod_lt _ (Nat.two_pow_pos wd)), Nat.add_zero, Nat.pow_add]

theorem putBitsNat_lt (n lo wd v : Nat) (hn : n < 2 ^ 32) (h : lo + wd ≤ 32) : putBitsNat n lo wd v < 2 ^ 32 := by
  have e : 2 ^ 32 = 2 ^ (lo + wd) * 2 ^ (32 - (lo + wd)) := by rw [← Nat.pow_add]; congr 1; omega
  have h1 : putBitsNat n lo wd v / 2 ^ (lo + wd) < 2 ^ (32 - (lo + wd)) := by
    rw [putBitsNat_high]
    exact Nat.div_lt_of_lt_mul (e ▸ hn)
  rw [e, Nat.mul_comm]
  exact (Nat.div_lt_iff_lt_mul (Nat.two_pow_pos _)).mp h1

theorem putBits_toNat (w : Word) (lo wd v : Nat) (h : lo + wd ≤ 32) :
    (putBits w lo wd v).toNat = putBitsNat w.toNat lo wd v := by
  unfold putBits
  rw [w32_toNat, Nat.mod_eq_of_lt (putBitsNat_lt _ _ _ _ w.isLt h)]

/-- A field put into a word reads back. -/
theorem bitsOf_putBits (w : Word) (lo wd v : Nat) (h : lo + wd ≤ 32) : bitsOf (putBits w lo wd v) lo wd = v % 2 ^ wd := by
  unfold bitsOf
  rw [putBits_toNat _ _ _ _ h, putBitsNat_from, Nat.mul_comm, Nat.mul_add_mod, Nat.mod_mod]

theorem div_mod_of_mod (x y a b c : Nat) (h : a + b ≤ c) (e : x % 2 ^ c = y % 2 ^ c) :
    x / 2 ^ a % 2 ^ b = y / 2 ^ a % 2 ^ b := by
  have key : ∀ z, z / 2 ^ a % 2 ^ b = z % 2 ^ c / 2 ^ a % 2 ^ b := fun z => by
    apply Nat.eq_of_testBit_eq
    intro i
    simp only [Nat.testBit_mod_two_pow, Nat.testBit_div_two_pow]
    by_cases hi : i < b
    · have : i + a < c := by omega
      simp [hi, this]
    · simp [hi]
  rw [key x, key y, e]

/-- A field put into a word leaves every field beside it alone. -/
theorem bitsOf_putBits_ne (w : Word) (lo wd v lo' wd' : Nat) (h : lo + wd ≤ 32) (d : lo' + wd' ≤ lo ∨ lo + wd ≤ lo') :
    bitsOf (putBits w lo wd v) lo' wd' = bitsOf w lo' wd' := by
  unfold bitsOf
  rw [putBits_toNat _ _ _ _ h]
  rcases d with d | d
  · exact div_mod_of_mod _ _ _ _ lo d (putBitsNat_low _ _ _ _)
  · have key : ∀ z : Nat, z / 2 ^ lo' = z / 2 ^ (lo + wd) / 2 ^ (lo' - (lo + wd)) := fun z => by
      rw [Nat.div_div_eq_div_mul, ← Nat.pow_add]; congr 2; omega
    rw [key, key w.toNat, putBitsNat_high]

/-! ### Registers -/

theorem State.rdA_wrA (s : State) (a b : Nat) (w : Word) : (s.wrA a w).rdA b = if b = a then w else s.rdA b := by
  unfold State.rdA State.wrA
  exact tabGet_set _ _ _ _ _

@[simp] theorem State.rdA_wrA_same (s : State) (a : Nat) (w : Word) : (s.wrA a w).rdA a = w := by
  rw [State.rdA_wrA, if_pos rfl]

theorem State.rdA_wrA_ne (s : State) (a b : Nat) (w : Word) (h : b ≠ a) : (s.wrA a w).rdA b = s.rdA b := by
  rw [State.rdA_wrA, if_neg h]

/-- A register written reads back. -/
@[simp] theorem State.rd_wr_same (s : State) (r : Reg) (i j : Nat) (w : Word) : (s.wr r i j w).rd r i j = w :=
  State.rdA_wrA_same ..

/-- A register written leaves every other one alone. -/
theorem State.rd_wr_ne (s : State) (r q : Reg) (i j k l : Nat) (w : Word) (h : q.addr k l ≠ r.addr i j) :
    (s.wr r i j w).rd q k l = s.rd q k l := State.rdA_wrA_ne _ _ _ _ h

theorem State.rdA_setF_ne (s : State) (f : Fld) (i j v b : Nat) (h : b ≠ f.reg.addr i j) :
    (s.setF f i j v).rdA b = s.rdA b := State.rdA_wrA_ne _ _ _ _ h

theorem State.rd_setF_ne (s : State) (f : Fld) (i j v : Nat) (q : Reg) (k l : Nat) (h : q.addr k l ≠ f.reg.addr i j) :
    (s.setF f i j v).rd q k l = s.rd q k l := State.rdA_wrA_ne _ _ _ _ h

/-- A field written reads back, as far as its width goes. -/
theorem State.fld_setF_same (s : State) (f : Fld) (i j v : Nat) (h : f.lo + f.wd ≤ 32) :
    (s.setF f i j v).fld f i j = v % 2 ^ f.wd := by
  unfold State.fld State.setF
  rw [State.rd_wr_same, bitsOf_putBits _ _ _ _ h]

/-- A field written leaves a field of another register alone. -/
theorem State.fld_setF_reg (s : State) (f g : Fld) (i j k l v : Nat) (h : g.reg.addr k l ≠ f.reg.addr i j) :
    (s.setF f i j v).fld g k l = s.fld g k l := by
  unfold State.fld
  rw [State.rd_setF_ne _ _ _ _ _ _ _ _ h]

/-- A field written leaves the other fields of its register alone. -/
theorem State.fld_setF_beside (s : State) (f g : Fld) (i j v : Nat) (r : g.reg = f.reg) (h : f.lo + f.wd ≤ 32)
    (d : g.lo + g.wd ≤ f.lo ∨ f.lo + f.wd ≤ g.lo) : (s.setF f i j v).fld g i j = s.fld g i j := by
  unfold State.fld State.setF
  rw [r, State.rd_wr_same, bitsOf_putBits_ne _ _ _ _ _ _ h d]

/-- A counting field counts, up to the largest value it holds. -/
theorem State.fld_incF_same (s : State) (f : Fld) (i j k : Nat) (h : f.lo + f.wd ≤ 32) :
    (s.incF f i j k).fld f i j = satAdd (2 ^ f.wd - 1) (s.fld f i j) k := by
  unfold State.incF
  rw [State.fld_setF_same _ _ _ _ _ h]
  refine Nat.mod_eq_of_lt ?_
  have := Nat.two_pow_pos f.wd
  unfold satAdd
  split <;> omega

theorem State.rdA_incF_ne (s : State) (f : Fld) (i j k b : Nat) (h : b ≠ f.reg.addr i j) :
    (s.incF f i j k).rdA b = s.rdA b := State.rdA_wrA_ne _ _ _ _ h

/-- Reporting an event changes no register. -/
@[simp] theorem State.rdA_log (s : State) (code inst : Nat) (p q r t : Word) (a : Nat) :
    (s.log code inst p q r t).rdA a = s.rdA a := rfl
@[simp] theorem State.rd_log (s : State) (code inst : Nat) (p q r t : Word) (g : Reg) (i j : Nat) :
    (s.log code inst p q r t).rd g i j = s.rd g i j := rfl
@[simp] theorem State.fld_log (s : State) (code inst : Nat) (p q r t : Word) (f : Fld) (i j : Nat) :
    (s.log code inst p q r t).fld f i j = s.fld f i j := rfl
@[simp] theorem State.rdA_raise (s : State) (n inst code : Nat) (p : Word) (a : Nat) :
    (s.raise n inst code p).rdA a = s.rdA a := rfl
@[simp] theorem State.rd_raise (s : State) (n inst code : Nat) (p : Word) (g : Reg) (i j : Nat) :
    (s.raise n inst code p).rd g i j = s.rd g i j := rfl

end Sys2Proof.Machine
end

