-- ==== Sys2Proof/Laws/Serve.lean ====
section
/-! SUPPORT. How an item is served: at once when it is ready; it waits, states its intent or completes
FAILED_TARGET_ABSENT otherwise. What an item's outcome leaves in the intake log. -/

namespace Sys2Proof.Machine

/-- An item that is here to be applied is not the one its module sends out. -/
theorem not_sent {it : Item} (h : (it.remote && it.origin.isNone) = false) : ¬(it.remote = true ∧ it.origin = none) := by
  rintro ⟨h1, h2⟩
  rw [h1, h2] at h
  cases h

/-- A ready item has its effect. -/
theorem serve_ready {s : State} {it : Item} (h : s.Ready it) (k : State → State) : serve it s k = .next (k s) := by
  obtain ⟨h1, h2, h3, h4, h5, h6, h7, h8⟩ := h
  simp only [serve]
  rw [if_neg (not_sent h1), if_neg (by simp only [h2]; decide)]
  simp [h3, h4, h5, h6, h7, h8, go]

/-- An item for another module is sent to it (R136). -/
theorem serve_sent {s : State} {it : Item} (h : it.remote = true ∧ it.origin = none) (k : State → State) :
    serve it s k = .next (s.tryRemote it) := by
  simp only [serve]
  rw [if_pos h, go]

/-- An item whose deadline has passed fails (R136). -/
theorem serve_late {s : State} {it : Item} (h1 : (it.remote && it.origin.isNone) = false)
    (h2 : (s.flight it.ring it.seq).any (fun f => f.late s.mer.base) = true) (k : State → State) :
    serve it s k = .next (s.complete it stTimeout) := by
  simp only [serve]
  rw [if_neg (not_sent h1), if_pos h2, go]

/-- An item whose turn has not come waits (R120). -/
theorem serve_wait {s : State} {it : Item} (h1 : (it.remote && it.origin.isNone) = false)
    (h2 : (s.flight it.ring it.seq).any (fun f => f.late s.mer.base) = false) (h3 : s.itemTurn it = false)
    (k : State → State) : serve it s k = .next s := by
  simp only [serve]
  rw [if_neg (not_sent h1), if_neg (by simp only [h2]; decide)]
  simp [h3, go]

/-- An item that a mirror waits for states its intent (R549). -/
theorem serve_intend {s : State} {it : Item} (h1 : (it.remote && it.origin.isNone) = false)
    (h2 : (s.flight it.ring it.seq).any (fun f => f.late s.mer.base) = false) (h3 : s.itemTurn it = true)
    (h4 : s.undecided it = true) (h5 : s.frozen it = false) (h6 : s.serving it.block = true)
    (h7 : (s.mirWait it && !(s.lateIntent it)) = true) (k : State → State) : serve it s k = .next (s.intend it) := by
  simp only [serve]
  rw [if_neg (not_sent h1), if_neg (by simp only [h2]; decide)]
  simp [h3, h4, h5, h6, h7, go]

/-- An item of a block that is switched off fails (R36). -/
theorem serve_absent {s : State} {it : Item} (h1 : (it.remote && it.origin.isNone) = false)
    (h2 : (s.flight it.ring it.seq).any (fun f => f.late s.mer.base) = false) (h3 : s.itemTurn it = true)
    (h4 : s.undecided it = true) (h5 : s.frozen it = false) (h6 : s.serving it.block = true)
    (h7 : (s.mirWait it && !(s.lateIntent it)) = false) (h8 : s.blockOff it.block = true) (k : State → State) :
    serve it s k = .next (s.absent it) := by
  simp only [serve]
  rw [if_neg (not_sent h1), if_neg (by simp only [h2]; decide)]
  simp [h3, h4, h5, h6, h7, h8, go]

theorem find_intakeUpd (ring : Nat) (seq : Word) (f : IntakeEntry → IntakeEntry)
    (hf : ∀ e, (f e).is ring seq = e.is ring seq) (l : List IntakeEntry) (e : IntakeEntry)
    (h : l.find? (fun e => e.is ring seq) = some e) :
    (intakeUpd ring seq f l).find? (fun e => e.is ring seq) = some (f e) := by
  induction l with
  | nil => cases h
  | cons x xs ih =>
    unfold intakeUpd
    rw [List.find?_cons] at h
    cases hx : x.is ring seq with
    | true =>
      rw [hx] at h
      cases h
      rw [if_pos rfl, List.find?_cons, hf, hx]
    | false =>
      rw [hx] at h
      rw [if_neg (by decide), List.find?_cons, hx]
      exact ih h

/-- What the intake log records for an item is what it answers (R132). -/
theorem State.intakeOf_intakeSet (s : State) (ring : Nat) (seq : Word) (v : Verdict) (w : Bool) :
    ∃ e, (s.intakeSet ring seq v w).intakeOf ring seq = some e ∧ e.verdict = v := by
  unfold State.intakeSet
  split
  · rename_i e h
    refine ⟨{ e with verdict := v, written := w }, ?_, rfl⟩
    exact find_intakeUpd ring seq (fun e => { e with verdict := v, written := w }) (fun _ => rfl) _ e h
  · refine ⟨⟨ring, seq, v, w⟩, ?_, rfl⟩
    have hx : (⟨ring, seq, v, w⟩ : IntakeEntry).is ring seq = true := by simp [IntakeEntry.is]
    show (s.intakePush ⟨ring, seq, v, w⟩).find? (fun e => e.is ring seq) = _
    unfold State.intakePush
    dsimp only
    rw [List.take_succ_cons, List.cons_append, List.find?_cons, hx]

end Sys2Proof.Machine
end

