-- ==== Sys2Proof/Laws/Trace.lean ====
section
/-! SUPPORT. Reporting: what one piece of work keeps, the whole of a report keeps; the sequence number of the Helix intake
and the length of its log; the sequence numbers of the Vertex sources; the fault queue's invariant. -/

namespace Sys2Proof.Machine

/-- What every piece of work of a kind keeps, and hands on only work of that kind, the whole run keeps. -/
theorem Trace.run_keeps (s0 : State) (P : Trace → Prop) (W : Work → Prop)
    (h : ∀ w t, W w → P t → P (Trace.one s0 w t).1 ∧ ∀ x ∈ (Trace.one s0 w t).2, W x) (n : Nat) (ws : List Work) (t : Trace)
    (hw : ∀ x ∈ ws, W x) (ht : P t) : P (Trace.run s0 n ws t) := by
  induction n generalizing ws t with
  | zero => exact ht
  | succ n ih =>
    cases ws with
    | nil => exact ht
    | cons w ws =>
      obtain ⟨h1, h2⟩ := h w t (hw w (List.mem_cons_self ..)) ht
      refine ih _ _ (fun x hx => ?_) h1
      rcases List.mem_append.mp hx with hx | hx
      · exact hw x (List.mem_cons_of_mem _ hx)
      · exact h2 x hx

/-! ### Helix -/

/-- The records of a log after `k` events from number `q` on: each was there before or carries one of those numbers. -/
structure HelixSince (q : Word) (old : List HlxRec) (h : HlxSt) (k : Nat) : Prop where
  seq : h.seq = q + w32 k
  log : ∀ r ∈ h.log, r ∈ old ∨ (r.seq - q).toNat < k
  len : old.length ≤ 16384 → h.log.length ≤ 16384

theorem HlxSt.logRec_mem (h : HlxSt) (r x : HlxRec) (hx : x ∈ (h.logRec r).log) : x ∈ h.log ∨ x = r := by
  unfold HlxSt.logRec at hx
  split at hx
  · exact .inl hx
  · split at hx
    · rcases List.mem_append.mp hx with hx | hx
      · exact .inl hx
      · exact .inr (List.mem_singleton.mp hx)
    · rcases List.mem_append.mp hx with hx | hx
      · exact .inl (List.mem_of_mem_drop hx)
      · exact .inr (List.mem_singleton.mp hx)

theorem HlxSt.logRec_len (h : HlxSt) (r : HlxRec) (hl : h.log.length ≤ 16384) : (h.logRec r).log.length ≤ 16384 := by
  unfold HlxSt.logRec
  split
  · exact hl
  · split
    · simp only [List.length_append, List.length_singleton]; omega
    · simp only [List.length_append, List.length_drop, List.length_singleton]; omega

@[simp] theorem HlxSt.logRec_seq (h : HlxSt) (r : HlxRec) : (h.logRec r).seq = h.seq := by
  unfold HlxSt.logRec
  (repeat' split) <;> rfl

@[simp] theorem HlxSt.ffRec_seq (h : HlxSt) (c p : Nat) (r : HlxRec) : (h.ffRec c p r).1.seq = h.seq := by
  unfold HlxSt.ffRec
  (repeat' (first | split | dsimp only))

@[simp] theorem HlxSt.ffRec_log (h : HlxSt) (c p : Nat) (r : HlxRec) : (h.ffRec c p r).1.log = h.log := by
  unfold HlxSt.ffRec
  (repeat' (first | split | dsimp only))

@[simp] theorem HlxSt.streamRec_seq (h : HlxSt) (c p : Nat) (r : HlxRec) : (h.streamRec c p r).seq = h.seq := by
  unfold HlxSt.streamRec
  (repeat' split) <;> rfl

@[simp] theorem HlxSt.streamRec_log (h : HlxSt) (c p : Nat) (r : HlxRec) : (h.streamRec c p r).log = h.log := by
  unfold HlxSt.streamRec
  (repeat' split) <;> rfl

@[simp] theorem Trace.accept_seq (s0 : State) (e : Event) (st : Stamp) (b : Bool) (q : Word) (t : Trace) :
    (Trace.accept s0 e st b q t).1.hlx.seq = t.hlx.seq := by
  unfold Trace.accept
  simp only [HlxSt.streamRec_seq, HlxSt.ffRec_seq, HlxSt.logRec_seq]

theorem Trace.accept_log (s0 : State) (e : Event) (st : Stamp) (b : Bool) (q : Word) (t : Trace) :
    ∃ r : HlxRec, r.seq = q ∧ (Trace.accept s0 e st b q t).1.hlx.log = (t.hlx.logRec r).log := by
  unfold Trace.accept
  refine ⟨recOf s0 e st q b (t.hlx.isTrig (s0.cfN Cf.HLX_FF_CLASS 0) e.code), rfl, ?_⟩
  simp only [HlxSt.streamRec_log, HlxSt.ffRec_log]

/-- An event offered to the intake takes the next number. -/
theorem Trace.intake_since (s0 : State) (e : Event) (st : Stamp) (b : Bool) (t : Trace) (q : Word) (old : List HlxRec)
    (k : Nat) (hk : k < 1000) (h : HelixSince q old t.hlx k) : HelixSince q old (Trace.intake s0 e st b t).1.hlx (k + 1) := by
  obtain ⟨h1, h2, h3⟩ := h
  have step : t.hlx.seq + 1 = q + w32 (k + 1) := by
    rw [h1, BitVec.add_assoc]
    congr 1
    unfold w32
    apply BitVec.eq_of_toNat_eq
    simp [BitVec.toNat_add]
  have num : (q + w32 k - q).toNat = k := by
    have : q + w32 k - q = w32 k := by rw [BitVec.add_comm, BitVec.add_sub_cancel]
    rw [this, w32_toNat]
    omega
  have weak : ∀ r ∈ t.hlx.log, r ∈ old ∨ (r.seq - q).toNat < k + 1 := fun r hr =>
    (h2 r hr).imp id (fun x => Nat.lt_succ_of_lt x)
  unfold Trace.intake
  dsimp only
  split
  · split
    · exact ⟨step, weak, h3⟩
    · obtain ⟨r, hr, hl⟩ := Trace.accept_log s0 e st b t.hlx.seq { t with hlx := { t.hlx with seq := t.hlx.seq + 1 } }
      refine ⟨?_, ?_, ?_⟩
      · rw [Trace.accept_seq]; exact step
      · intro x hx
        rw [hl] at hx
        rcases HlxSt.logRec_mem _ _ _ hx with hx | hx
        · exact weak x hx
        · right
          rw [hx, hr, h1, num]
          exact Nat.lt_succ_self k
      · intro ho
        rw [hl]
        exact HlxSt.logRec_len _ _ (h3 ho)
  · exact ⟨step, weak, h3⟩

/-- The fault queue and Vertex leave Helix alone. -/
theorem Trace.raiseVec_hlx (s0 : State) (n : Nat) (t : Trace) : (Trace.raiseVec s0 n t).hlx = t.hlx := by
  unfold Trace.raiseVec Trace.send
  (repeat' split) <;> rfl

theorem Trace.present_hlx (s0 : State) (t : Trace) : (Trace.present s0 t).hlx = t.hlx := by
  unfold Trace.present
  dsimp only
  split
  · split
    · rw [Trace.raiseVec_hlx]
    · rfl
  · rfl

theorem Trace.fault_hlx (s0 : State) (e : Event) (st : Stamp) (q : Word) (t : Trace) :
    (Trace.fault s0 e st q t).1.hlx = t.hlx := by
  unfold Trace.fault
  dsimp only
  split
  · rfl
  · split
    · rw [Trace.present_hlx]
    · split
      · rw [Trace.present_hlx]
      · split <;> rfl

theorem Trace.source_hlx (s0 : State) (n inst code : Nat) (p : Word) (st : Stamp) (t : Trace) :
    (Trace.source s0 n inst code p st t).1.hlx = t.hlx := by
  unfold Trace.source
  (repeat' (first | rfl | split | dsimp only))

/-- A run numbers its events from the counter on, at most one a piece of work. -/
theorem Trace.run_since (s0 : State) (q : Word) (old : List HlxRec) (n : Nat) (ws : List Work) (t : Trace) (k : Nat)
    (hk : k + n < 1000) (h : HelixSince q old t.hlx k) :
    ∃ j, k ≤ j ∧ j ≤ k + n ∧ HelixSince q old (Trace.run s0 n ws t).hlx j := by
  induction n generalizing ws t k with
  | zero => exact ⟨k, Nat.le_refl _, Nat.le_refl _, h⟩
  | succ n ih =>
    cases ws with
    | nil => exact ⟨k, Nat.le_refl _, Nat.le_add_right _ _, h⟩
    | cons w ws =>
      have one : ∃ j, k ≤ j ∧ j ≤ k + 1 ∧ HelixSince q old (Trace.one s0 w t).1.hlx j := by
        cases w with
        | ev e st b => exact ⟨k + 1, Nat.le_succ k, Nat.le_refl _, Trace.intake_since s0 e st b t q old k (by omega) h⟩
        | flt e st x => exact ⟨k, Nat.le_refl _, Nat.le_succ k, by unfold Trace.one; rw [Trace.fault_hlx]; exact h⟩
        | src m i c p st => exact ⟨k, Nat.le_refl _, Nat.le_succ k, by unfold Trace.one; rw [Trace.source_hlx]; exact h⟩
      obtain ⟨j, h1, h2, h3⟩ := one
      obtain ⟨j2, h4, h5, h6⟩ := ih (ws ++ (Trace.one s0 w t).2) (Trace.one s0 w t).1 j (by omega) h3
      exact ⟨j2, by omega, by omega, h6⟩

/-! ### Vertex -/

/-- The work that an event may give rise to by its record or its fault: no source below 133 or above 136. -/
def Work.follows (w : Work) : Prop :=
  match w with
  | .ev _ _ _ => True
  | .flt e _ _ => severity e.code ≤ 3
  | .src n _ _ _ _ => 133 ≤ n ∧ n ≤ 136

theorem severity_le (code : Nat) : severity code ≤ 3 := by
  unfold severity
  (repeat' split) <;> omega

theorem Trace.accept_follows (s0 : State) (e : Event) (st : Stamp) (b : Bool) (q : Word) (t : Trace) :
    ∀ x ∈ (Trace.accept s0 e st b q t).2, x.follows := by
  unfold Trace.accept
  dsimp only
  intro x hx
  rcases List.mem_append.mp hx with hx | hx
  · split at hx
    · rw [List.mem_singleton.mp hx]; trivial
    · cases hx
  · split at hx
    · rw [List.mem_singleton.mp hx]; exact ⟨Nat.le_refl _, by omega⟩
    · cases hx

theorem Trace.intake_follows (s0 : State) (e : Event) (st : Stamp) (b : Bool) (t : Trace) :
    ∀ x ∈ (Trace.intake s0 e st b t).2, x.follows := by
  unfold Trace.intake
  dsimp only
  split
  · split
    · intro x hx; cases hx
    · exact Trace.accept_follows _ _ _ _ _ _
  · intro x hx; cases hx

theorem Trace.fault_follows (s0 : State) (e : Event) (st : Stamp) (q : Word) (t : Trace) :
    ∀ x ∈ (Trace.fault s0 e st q t).2, x.follows := by
  have h := severity_le e.code
  unfold Trace.fault
  dsimp only
  intro x hx
  split at hx
  · cases hx
  · split at hx
    · rw [List.mem_singleton.mp hx]; exact ⟨by omega, by omega⟩
    · split at hx
      · rw [List.mem_singleton.mp hx]; exact ⟨by omega, by omega⟩
      · split at hx
        · rw [List.mem_singleton.mp hx]; trivial
        · cases hx

theorem Trace.source_follows (s0 : State) (n inst code : Nat) (p : Word) (st : Stamp) (t : Trace) :
    ∀ x ∈ (Trace.source s0 n inst code p st t).2, x.follows := by
  unfold Trace.source
  dsimp only
  intro x hx
  split at hx
  · cases hx
  · split at hx
    · split at hx
      · rw [List.mem_singleton.mp hx]; trivial
      · cases hx
    · split at hx
      · cases hx
      · dsimp only at hx
        split at hx
        · rw [List.mem_singleton.mp hx]; trivial
        · cases hx

theorem Trace.one_follows (s0 : State) (w : Work) (t : Trace) : ∀ x ∈ (Trace.one s0 w t).2, x.follows := by
  unfold Trace.one
  cases w with
  | ev e st b =>
    dsimp only
    split
    · exact Trace.intake_follows _ _ _ _ _
    · intro x hx
      rcases List.mem_cons.mp hx with hx | hx
      · rw [hx]; exact severity_le e.code
      · exact Trace.intake_follows _ _ _ _ _ x hx
  | flt e st q => exact Trace.fault_follows _ _ _ _ _
  | src n i c p st => exact Trace.source_follows _ _ _ _ _ _ _

theorem Trace.raiseVec_vtx (s0 : State) (n : Nat) (t : Trace) : (Trace.raiseVec s0 n t).vtx = t.vtx := by
  unfold Trace.raiseVec Trace.send
  (repeat' split) <;> rfl

theorem Trace.present_vtx (s0 : State) (t : Trace) : (Trace.present s0 t).vtx = t.vtx := by
  unfold Trace.present
  dsimp only
  split
  · split
    · rw [Trace.raiseVec_vtx]
    · rfl
  · rfl

theorem Trace.fault_vtx (s0 : State) (e : Event) (st : Stamp) (q : Word) (t : Trace) :
    (Trace.fault s0 e st q t).1.vtx = t.vtx := by
  unfold Trace.fault
  dsimp only
  split
  · rfl
  · split
    · rw [Trace.present_vtx]
    · split
      · rw [Trace.present_vtx]
      · split <;> rfl

theorem Trace.accept_vtx (s0 : State) (e : Event) (st : Stamp) (b : Bool) (q : Word) (t : Trace) :
    (Trace.accept s0 e st b q t).1.vtx = t.vtx := by
  unfold Trace.accept
  rfl

theorem Trace.intake_vtx (s0 : State) (e : Event) (st : Stamp) (b : Bool) (t : Trace) :
    (Trace.intake s0 e st b t).1.vtx = t.vtx := by
  unfold Trace.intake
  dsimp only
  split
  · split
    · rfl
    · rw [Trace.accept_vtx]
  · rfl

/-- What an event of another source leaves of a source: its number, and its items. -/
theorem Trace.source_other (s0 : State) (n inst code : Nat) (p : Word) (st : Stamp) (t : Trace) (m : Nat) (h : m ≠ n) :
    tget 0 (Trace.source s0 n inst code p st t).1.vtx.srcSeq m = tget 0 t.vtx.srcSeq m ∧
    ∀ i ∈ (Trace.source s0 n inst code p st t).1.vtx.items, i.source = m → i ∈ t.vtx.items := by
  have k : ∀ v, tget 0 (tset (0 : Word) t.vtx.srcSeq n v) m = tget 0 t.vtx.srcSeq m := fun v => tget_tset_ne _ _ _ _ _ h
  unfold Trace.source
  dsimp only
  split
  · exact ⟨rfl, fun i hi _ => hi⟩
  · split
    · split
      · exact ⟨k _, fun i hi _ => hi⟩
      · exact ⟨k _, fun i hi _ => hi⟩
    · split
      · exact ⟨k _, fun i hi _ => hi⟩
      · refine ⟨k _, fun i hi e => ?_⟩
        rcases List.mem_append.mp hi with hi | hi
        · exact hi
        · rw [List.mem_singleton.mp hi] at e
          exact absurd e.symm h

/-- What an event of a source leaves of it while Vertex runs: its number has advanced by 1, and a new item carries the
number it had (R353). -/
theorem Trace.source_same (s0 : State) (n inst code : Nat) (p : Word) (st : Stamp) (t : Trace)
    (h : t.vtx.running = true) :
    tget 0 (Trace.source s0 n inst code p st t).1.vtx.srcSeq n = tget 0 t.vtx.srcSeq n + 1 ∧
    ∀ i ∈ (Trace.source s0 n inst code p st t).1.vtx.items, i.source = n →
      i ∈ t.vtx.items ∨ i.seq = tget 0 t.vtx.srcSeq n := by
  have k : ∀ v, tget 0 (tset (0 : Word) t.vtx.srcSeq n v) n = v := fun v => tget_tset _ _ _ _
  unfold Trace.source
  rw [if_neg (by rw [h]; decide)]
  dsimp only
  split
  · split
    · exact ⟨k _, fun i hi _ => .inl hi⟩
    · exact ⟨k _, fun i hi _ => .inl hi⟩
  · split
    · exact ⟨k _, fun i hi _ => .inl hi⟩
    · refine ⟨k _, fun i hi e => ?_⟩
      rcases List.mem_append.mp hi with hi | hi
      · exact .inl hi
      · rw [List.mem_singleton.mp hi]
        exact .inr rfl

/-- Work that follows from events leaves a source other than 133 to 136 alone. -/
theorem Trace.run_other (s0 : State) (m : Nat) (hm : m < 133 ∨ 136 < m) (n : Nat) (ws : List Work) (t : Trace)
    (hw : ∀ x ∈ ws, x.follows) :
    tget 0 (Trace.run s0 n ws t).vtx.srcSeq m = tget 0 t.vtx.srcSeq m ∧
    ∀ i ∈ (Trace.run s0 n ws t).vtx.items, i.source = m → i ∈ t.vtx.items := by
  refine Trace.run_keeps s0 (fun u => tget 0 u.vtx.srcSeq m = tget 0 t.vtx.srcSeq m ∧
    ∀ i ∈ u.vtx.items, i.source = m → i ∈ t.vtx.items) Work.follows ?_ n ws t hw ⟨rfl, fun i hi _ => hi⟩
  intro w u hu ⟨h1, h2⟩
  refine ⟨?_, Trace.one_follows s0 w u⟩
  cases w with
  | ev e st b => unfold Trace.one; dsimp only; rw [Trace.intake_vtx]; exact ⟨h1, h2⟩
  | flt e st q => unfold Trace.one; dsimp only; rw [Trace.fault_vtx]; exact ⟨h1, h2⟩
  | src k i c p st =>
    have hu' : 133 ≤ k ∧ k ≤ 136 := hu
    have h := Trace.source_other s0 k i c p st u m (by omega)
    exact ⟨h.1.trans h1, fun x hx e => h2 x (h.2 x hx e) e⟩

/-! ### The fault queue -/

theorem foldl_max_le (l : List FltEntry) (a b : Nat) :
    l.foldl (fun m e => Nat.max m e.sev) a ≤ b ↔ a ≤ b ∧ ∀ e ∈ l, e.sev ≤ b := by
  induction l generalizing a with
  | nil => simp
  | cons x xs ih =>
    rw [List.foldl_cons, ih]
    simp only [List.mem_cons, forall_eq_or_imp]
    constructor
    · rintro ⟨h1, h2⟩
      exact ⟨Nat.le_trans (Nat.le_max_left _ _) h1, Nat.le_trans (Nat.le_max_right _ _) h1, h2⟩
    · rintro ⟨h1, h2, h3⟩
      exact ⟨Nat.max_le.mpr ⟨h1, h2⟩, h3⟩

theorem FltSt.waitMax_le (f : FltSt) (b : Nat) : f.waitMax ≤ b ↔ ∀ e ∈ f.waiting, e.sev ≤ b := by
  unfold FltSt.waitMax
  rw [foldl_max_le]
  exact ⟨fun h => h.2, fun h => ⟨Nat.zero_le b, h⟩⟩

theorem FltSt.le_waitMax (f : FltSt) (e : FltEntry) (h : e ∈ f.waiting) : e.sev ≤ f.waitMax :=
  (FltSt.waitMax_le f f.waitMax).mp (Nat.le_refl _) e h

theorem takeSev_mem (n : Nat) (l : List FltEntry) (e : FltEntry) (r : List FltEntry) (h : takeSev n l = some (e, r)) :
    e.sev = n ∧ e ∈ l ∧ ∀ x ∈ r, x ∈ l := by
  induction l generalizing r with
  | nil => cases h
  | cons x xs ih =>
    unfold takeSev at h
    split at h
    · rename_i hx
      cases h
      exact ⟨hx, List.mem_cons_self .., fun y hy => List.mem_cons_of_mem _ hy⟩
    · cases hs : takeSev n xs with
      | none => rw [hs] at h; cases h
      | some p =>
        obtain ⟨a, b⟩ := p
        rw [hs] at h
        cases h
        obtain ⟨h1, h2, h3⟩ := ih b hs
        refine ⟨h1, List.mem_cons_of_mem _ h2, fun y hy => ?_⟩
        rcases List.mem_cons.mp hy with hy | hy
        · rw [hy]; exact List.mem_cons_self ..
        · exact List.mem_cons_of_mem _ (h3 y hy)

theorem takeSev_some (n : Nat) (l : List FltEntry) (h : ∃ e ∈ l, e.sev = n) : ∃ p, takeSev n l = some p := by
  induction l with
  | nil => obtain ⟨e, he, _⟩ := h; cases he
  | cons x xs ih =>
    unfold takeSev
    split
    · exact ⟨_, rfl⟩
    · rename_i hx
      obtain ⟨e, he, hn⟩ := h
      rcases List.mem_cons.mp he with he | he
      · exact absurd (he ▸ hn) hx
      · obtain ⟨⟨a, b⟩, hp⟩ := ih ⟨e, he, hn⟩
        rw [hp]
        exact ⟨_, rfl⟩

theorem foldl_max_mem (l : List FltEntry) (a : Nat) :
    l.foldl (fun m e => Nat.max m e.sev) a = a ∨ ∃ e ∈ l, e.sev = l.foldl (fun m e => Nat.max m e.sev) a := by
  induction l generalizing a with
  | nil => exact .inl rfl
  | cons x xs ih =>
    rw [List.foldl_cons]
    rcases ih (Nat.max a x.sev) with h | ⟨e, he, h⟩
    · rw [h]
      rcases Nat.le_total a x.sev with k | k
      · exact .inr ⟨x, List.mem_cons_self .., (Nat.max_eq_right k).symm⟩
      · exact .inl (Nat.max_eq_left k)
    · exact .inr ⟨e, List.mem_cons_of_mem _ he, h⟩

theorem FltSt.level_setPres (f : FltSt) (n : Nat) (e : FltEntry) (h : f.level < n) (hn : n ≤ 3) :
    (f.setPres n (some e)).level = n := by
  have key : n = 1 ∨ n = 2 ∨ n = 3 := by omega
  unfold FltSt.level at h
  unfold FltSt.setPres FltSt.level
  rcases key with rfl | rfl | rfl
  · by_cases h3 : f.pres3.isSome
    · rw [if_pos h3] at h; omega
    · rw [if_neg h3] at h
      by_cases h2 : f.pres2.isSome
      · rw [if_pos h2] at h; omega
      · simp [h3, h2]
  · by_cases h3 : f.pres3.isSome
    · rw [if_pos h3] at h; omega
    · simp [h3]
  · simp

theorem FltSt.waiting_setPres (f : FltSt) (n : Nat) (e : Option FltEntry) : (f.setPres n e).waiting = f.waiting := by
  unfold FltSt.setPres
  (repeat' split) <;> rfl

theorem Trace.raiseVec_flt (s0 : State) (n : Nat) (t : Trace) : (Trace.raiseVec s0 n t).flt = t.flt := by
  unfold Trace.raiseVec Trace.send
  (repeat' split) <;> rfl

/-- Presenting leaves nothing waiting above the handling level (R596). -/
theorem Trace.present_ok (s0 : State) (t : Trace) (h : ∀ e ∈ t.flt.waiting, 1 ≤ e.sev ∧ e.sev ≤ 3) :
    (Trace.present s0 t).flt.Ok := by
  unfold Trace.present
  dsimp only
  split
  · rename_i hl
    have hm : ∃ e ∈ t.flt.waiting, e.sev = t.flt.waitMax := by
      rcases foldl_max_mem t.flt.waiting 0 with k | k
      · have : t.flt.waitMax = 0 := k
        omega
      · exact k
    have h3 : t.flt.waitMax ≤ 3 := by obtain ⟨e, he, hs⟩ := hm; have := (h e he).2; omega
    obtain ⟨⟨e, r⟩, hp⟩ := takeSev_some _ _ hm
    rw [hp]
    dsimp only
    rw [Trace.raiseVec_flt]
    obtain ⟨k1, k2, k3⟩ := takeSev_mem _ _ _ _ hp
    dsimp only
    refine ⟨?_, ?_⟩
    · rw [FltSt.waiting_setPres]
      exact fun x hx => h x (k3 x hx)
    · rw [FltSt.level_setPres _ _ _ (by exact hl) h3, FltSt.waitMax_le, FltSt.waiting_setPres]
      exact fun x hx => FltSt.le_waitMax _ _ (k3 x hx)
  · rename_i hl
    exact ⟨h, Nat.le_of_not_lt hl⟩

theorem Trace.accept_flt (s0 : State) (e : Event) (st : Stamp) (b : Bool) (q : Word) (t : Trace) :
    (Trace.accept s0 e st b q t).1.flt = t.flt := by
  unfold Trace.accept
  rfl

theorem Trace.intake_flt (s0 : State) (e : Event) (st : Stamp) (b : Bool) (t : Trace) :
    (Trace.intake s0 e st b t).1.flt = t.flt := by
  unfold Trace.intake
  dsimp only
  split
  · split
    · rfl
    · rw [Trace.accept_flt]
  · rfl

theorem Trace.source_flt (s0 : State) (n inst code : Nat) (p : Word) (st : Stamp) (t : Trace) :
    (Trace.source s0 n inst code p st t).1.flt = t.flt := by
  unfold Trace.source
  (repeat' (first | rfl | split | dsimp only))

/-- An event that reaches the fault queue leaves nothing waiting above the handling level. -/
theorem Trace.fault_ok (s0 : State) (e : Event) (st : Stamp) (q : Word) (t : Trace) (h : t.flt.Ok) :
    (Trace.fault s0 e st q t).1.flt.Ok := by
  have hs := severity_le e.code
  have add : severity e.code ≠ 0 → ∀ x ∈ t.flt.waiting ++ [fltEntryOf e st q], 1 ≤ x.sev ∧ x.sev ≤ 3 := by
    intro hz x hx
    rcases List.mem_append.mp hx with hx | hx
    · exact h.1 x hx
    · rw [List.mem_singleton.mp hx]
      exact ⟨Nat.pos_of_ne_zero hz, hs⟩
  unfold Trace.fault
  dsimp only
  split
  · exact h
  · rename_i hz
    split
    · exact Trace.present_ok _ _ (add hz)
    · split
      · exact Trace.present_ok _ _ (add hz)
      · split
        · exact h
        · exact h

/-- A report leaves nothing waiting above the handling level. -/
theorem Trace.run_ok (s0 : State) (n : Nat) (ws : List Work) (t : Trace) (h : t.flt.Ok) :
    (Trace.run s0 n ws t).flt.Ok := by
  refine Trace.run_keeps s0 (fun t => t.flt.Ok) (fun _ => True) ?_ n ws t (fun _ _ => trivial) h
  intro w u _ hu
  refine ⟨?_, fun _ _ => trivial⟩
  cases w with
  | ev e st b => unfold Trace.one; dsimp only; rw [Trace.intake_flt]; exact hu
  | flt e st q => exact Trace.fault_ok s0 e st q u hu
  | src k i c p st => unfold Trace.one; dsimp only; rw [Trace.source_flt]; exact hu

end Sys2Proof.Machine
end

