-- ==== Sys2Proof/Laws/Words.lean ====
section
/-! SUPPORT. Words in a memory: words written read back, and a write leaves every other address alone. -/

namespace Sys2Proof.Machine

theorem bytesOf_length (w : Word) : (bytesOf w).length = 4 := id rfl

theorem flatMap_bytesOf_length (ws : List Word) : (ws.flatMap bytesOf).length = 4 * ws.length := by
  induction ws with
  | nil => rfl
  | cons w ws ih => rw [List.flatMap_cons, List.length_append, ih, bytesOf_length, List.length_cons]; omega

theorem extract_toNat (w : Word) (k : Nat) : (w.extractLsb' k 8).toNat = w.toNat / 2 ^ k % 256 := by
  rw [BitVec.extractLsb'_toNat, Nat.shiftRight_eq_div_pow]

theorem bytes_word (w : Word) :
    w32 ((w.extractLsb' 0 8).toNat + 256 * (w.extractLsb' 8 8).toNat + 65536 * (w.extractLsb' 16 8).toNat +
      16777216 * (w.extractLsb' 24 8).toNat) = w := by
  simp only [extract_toNat]
  have h := w.isLt
  have e : w.toNat / 2 ^ 0 % 256 + 256 * (w.toNat / 2 ^ 8 % 256) + 65536 * (w.toNat / 2 ^ 16 % 256) +
      16777216 * (w.toNat / 2 ^ 24 % 256) = w.toNat := by omega
  rw [e, w32_toNat_self]

theorem memPut_append (m : Mem) (a : Nat) (xs ys : List Byte) :
    memPut m a (xs ++ ys) = memPut (memPut m a xs) (a + xs.length) ys := by
  induction xs generalizing m a with
  | nil => rfl
  | cons x xs ih =>
    show memPut (memSet m a x) (a + 1) (xs ++ ys) = memPut (memPut (memSet m a x) (a + 1) xs) (a + (xs.length + 1)) ys
    rw [ih]
    congr 1
    omega

theorem memPutWords_cons (m : Mem) (a : Nat) (w : Word) (ws : List Word) :
    memPutWords m a (w :: ws) = memPutWords (memPut m a (bytesOf w)) (a + 4) ws := by
  unfold memPutWords
  rw [List.flatMap_cons, memPut_append, bytesOf_length]

/-- Words written leave every address outside them alone. -/
theorem memGet_memPutWords_out (m : Mem) (a b : Nat) (ws : List Word) (h : b < a ∨ a + 4 * ws.length ≤ b) :
    memGet (memPutWords m a ws) b = memGet m b := by
  unfold memPutWords
  exact memGet_memPut_out m a b _ (by rw [flatMap_bytesOf_length]; exact h)

/-- A word depends on its four bytes alone. -/
theorem memWord_congr (m m' : Mem) (a : Nat) (h : ∀ i, i < 4 → memGet m (a + i) = memGet m' (a + i)) :
    memWord m a = memWord m' a := by
  unfold memWord
  rw [show memGet m a = memGet m' a from h 0 (by omega), h 1 (by omega), h 2 (by omega), h 3 (by omega)]

theorem memWords_congr (m m' : Mem) (a n : Nat) (h : ∀ i, i < 4 * n → memGet m (a + i) = memGet m' (a + i)) :
    memWords m a n = memWords m' a n := by
  induction n generalizing a with
  | zero => rfl
  | succ n ih =>
    unfold memWords
    rw [memWord_congr m m' a (fun i hi => h i (by omega)), ih (a + 4) (fun i hi => by
      have := h (4 + i) (by omega)
      rwa [← Nat.add_assoc] at this)]

theorem memWord_memPut (m : Mem) (a : Nat) (w : Word) : memWord (memPut m a (bytesOf w)) a = w := by
  have k : ∀ i (h : i < 4), memGet (memPut m a (bytesOf w)) (a + i) = (bytesOf w)[i]'h := fun i h =>
    memGet_memPut_in m a (bytesOf w) i h
  unfold memWord
  rw [show memGet (memPut m a (bytesOf w)) a = (bytesOf w)[0]'(by rw [bytesOf_length]; omega) from k 0 (by omega), k 1 (by omega), k 2 (by omega),
    k 3 (by omega)]
  exact bytes_word w

/-- Words written read back. -/
theorem memWords_memPutWords (m : Mem) (a : Nat) (ws : List Word) : memWords (memPutWords m a ws) a ws.length = ws := by
  induction ws generalizing m a with
  | nil => rfl
  | cons w ws ih =>
    rw [memPutWords_cons, List.length_cons]
    unfold memWords
    rw [ih]
    congr 1
    rw [memWord_congr _ (memPut m a (bytesOf w)) a (fun i hi => memGet_memPutWords_out _ _ _ _ (by omega))]
    exact memWord_memPut m a w

/-- Bytes written read back. -/
theorem memTake_memPut (m : Mem) (a : Nat) (bs : List Byte) : memTake (memPut m a bs) a bs.length = bs := by
  have k : ∀ (m : Mem) (a n : Nat), memTake m a n = (List.range n).map (fun i => memGet m (a + i)) := by
    intro m a n
    induction n generalizing a with
    | zero => rfl
    | succ n ih =>
      unfold memTake
      rw [ih, List.range_succ_eq_map, List.map_cons, List.map_map]
      congr 1
      exact List.map_congr_left (fun i _ => by rw [Function.comp, Nat.add_assoc, Nat.add_comm 1 i])
  rw [k]
  refine List.ext_getElem (by simp) (fun i h1 h2 => ?_)
  rw [List.getElem_map, List.getElem_range]
  exact memGet_memPut_in m a bs i h2

theorem memWord_memPutWords (m : Mem) (a : Nat) (w : Word) : memWord (memPutWords m a [w]) a = w := by
  have h := memWords_memPutWords m a [w]
  exact List.head_eq_of_cons_eq h

end Sys2Proof.Machine
end

