-- ==== Sys2Proof/Machine/Indicators.lean ====
section
/-! DEFINITION. The front indicators (R67): what each shows of the state. They hold no state of their own. -/

namespace Sys2Proof.Machine

/-- What an indicator shows. -/
inductive Light where
  | off | green | greenFlashing | amber | amberFlashing | red | redFlashing
  deriving DecidableEq, Repr

/-- PWR: whether LS is in its operating range; without LS it is dark. -/
def State.lightPwr (s : State) : Light :=
  if s.bit Fld.SYS_HWSTAT_LS_OK 0 0 then .green else if s.sys.mode = .unpowered then .off else .greenFlashing

/-- RUN: a module that is held in reset, stopped or without an image shows off (DEDUCED, notes/assumptions/120.md). -/
def State.lightRun (s : State) : Light :=
  if s.sys.mode = .running ∨ s.sys.mode = .recovery then .green
  else if s.sys.mode = .starting ∨ s.sys.mode = .warming then .greenFlashing else .off

/-- FLT (R594): a severity 3 fault, or any entry in the queue. -/
def State.lightFlt (s : State) : Light :=
  if s.tr.flt.all.any (fun e => e.sev == 3) then .red else if s.tr.flt.depth = 0 then .off else .redFlashing

/-- MIR, by the state of the member (R539). -/
def State.lightMir (s : State) : Light :=
  if s.bit Fld.MIR_STATUS_DEGRADED 0 0 then .amber
  else if s.mirState = 3 then .amberFlashing
  else if s.mirState = 4 then .greenFlashing
  else if s.mirState = 2 then .green else .off

/-- TIME: whether time is locked (R491). -/
def State.lightTime (s : State) : Light := if s.locked then .green else .amberFlashing

/-- SAFE, which the Perimeter die drives (R571, R575). -/
def State.lightSafe (s : State) : Light :=
  if s.per.state = 4 ∨ s.per.slots.any (fun x => x.st == 4) then .red
  else if s.per.state ≠ 3 then .off
  else if s.per.slots.any (fun x => x.st == 2) then .amber
  else if s.per.slots.any (fun x => x.st == 3) then .green else .off

/-- A Facet fault: the link of a Facet with field supply and a channel in use is not UP, or such a channel shows a fault
(DEDUCED, notes/assumptions/120.md). -/
def State.facetFault (s : State) (n : Nat) : Bool :=
  let used := (facetChans n).filter (fun ch => s.chMode ch != 0)
  !used.isEmpty &&
    ((!(s.facet n).supLow && !(s.linkUp n)) ||
      used.any (fun ch =>
        let c := s.chan ch
        c.ovl || c.mism || c.comp || c.therm || c.hot || c.openw))

/-- F0 to F15: dark in a module that is out of its base, and without field supply. -/
def State.lightFacet (s : State) (n : Nat) : Light :=
  if (s.facet n).unfed ∨ s.sys.mode = .unpowered then .off
  else if s.facetFault n then .red
  else if s.bit Fld.FCT_STATUS_SAFE n 0 ∨ s.bit Fld.FCT_STATUS_FALLBACK n 0 then .amber
  else if s.linkUp n then .green else .off

end Sys2Proof.Machine
end

