-- ==== Sys2Proof/WellFormed.lean ====
section
/-! DEFINITION. Which commands are well formed: every operand names a thing that the spec gives the module
(the ranges of rings, Facets, channels, loops, generators, controllers, ports and registers). No meaning rests on it: a command that is not well formed has no effect, or the effect its meaning states. -/

namespace Sys2Proof

/-- A stamp holds less than a second of nanoseconds and 48 bits of seconds (R481). -/
def Stamp.wf (t : Stamp) : Bool := decide (t.ns < 1000000000) && decide (t.sec < 281474976710656)

/-- An event has a code of 16 bits and an instance of 10 (R428). -/
def Event.wf (e : Event) : Bool := decide (e.code < 65536) && decide (e.inst < 1024)

/-- An entry of a SCAN frame: a coordinate of 22 bits and a quality of 4 (R517). -/
def ScanEntry.wf (x : ScanEntry) : Bool := decide (x.coord < 4194304) && decide (x.quality < 16)

/-- A Vexlink frame: device IDs of 10 bits and at most 63 hops (R507). -/
def Frame.wf (f : Frame) : Bool := decide (f.src < 1024) && decide (f.dst < 1024) && decide (f.hops < 64)

/-- An item of a block: its ring among the submission rings, twelve payload words, and a target of R117. -/
def Item.wf (it : Item) (block : Nat) : Bool :=
  (it.origin.isSome || decide (it.ring < 64)) && decide (it.payload.length = 12) && decide (it.block = block) && decide (it.inst < 32768) &&
    decide (it.device < 1024) && decide (it.flags < 65536)

/-- What a Facet measures around a frame boundary: twenty conversions, eight voltages, edges of its eight channels within
125 units of 8 ns, symbols of one byte. -/
def FieldFrame.wf (x : FieldFrame) : Bool :=
  decide (x.conv.length = 20) && decide (x.volts.length = 8) &&
    x.edges.all (fun e => decide (e.ch < 8) && decide (e.at8 < 125)) && decide (x.supply < 65536) &&
    decide (-128 ≤ x.temp) && decide (x.temp < 128) && decide (x.rxc < 256) && decide (x.rxd < 256)

/-- What a start finds around it: the ten inputs of J6 but for the Perimeter line, two cages, a state of three bits. -/
def StartEnv.wf (e : StartEnv) : Bool :=
  decide (e.trips < 512) && e.sfp.all (fun p => decide (p.1 < 2)) && e.partner.all (fun n => decide (n < 8))

/-- Whether a command is well formed. -/
def Instr.wf : Instr → Bool
  | .registerWrite offset _ _ => decide (offset < 4194304)
  | .registerReadClear offset => decide (offset < 4194304)
  | .malformedAccess _ offset => decide (offset < 4194304)
  | .offDomainAccess offset => decide (offset < 4194304)
  | .clockLoss mask => decide (mask < 4096)
  | .clockRestored n => decide (n < 12)
  | .tcxoReturn => true
  | .pwrUnlockWrite _ => true
  | .pwrUnlockExpiry => true
  | .pwrCtrlWrite _ _ => true
  | .domainPowerGood n => decide (n < 8)
  | .domainOffComplete n => decide (n < 8)
  | .powerGoodLost n => decide (n < 8)
  | .baseIdChange code => decide (code < 4)
  | .lsSag volt => decide (volt < 65536)
  | .powerFail volt => decide (volt < 65536)
  | .selfRefreshLost => true
  | .powerRelease volt => decide (volt < 65536)
  | .hotInsertion base => decide (base < 4)
  | .presenceSettled => true
  | .srstRelease => true
  | .tempWarn _ => true
  | .tempCritical _ => true
  | .thermalShutdown _ => true
  | .thermalRecovery _ => true
  | .leverOpen => true
  | .leverClose => true
  | .presenceContactLost contact => decide (contact < 2)
  | .presenceLost => true
  | .removalOutputsOff => true
  | .coldStart cause straps links env =>
    decide (cause < 16) && decide (straps < 16) && links.all (fun p => decide (p.1 < 16)) && env.wf
  | .warmRestart cause links env =>
    decide (cause < 16) && links.all (fun p => decide (p.1 < 16)) && env.partner.all (fun n => decide (n < 8))
  | .sysResetWarm _ => true
  | .sysResetCold _ => true
  | .checkpointPeriod => true
  | .checkpointCapture => true
  | .checkpointWriteDone => true
  | .trialTimeout => true
  | .sysFwWrite it => it.wf 0x1
  | .sysFwVerify it => it.wf 0x1
  | .sysFwTrial it => it.wf 0x1
  | .sysFwConfirm it => it.wf 0x1
  | .pcieLinkUp _ _ => true
  | .pcieLinkDown => true
  | .ringEnable ring _ => decide (ring < 128)
  | .ringDisable ring => decide (ring < 128)
  | .sqDoorbell ring _ => decide (ring < 256)
  | .cqDoorbell m _ => decide (m < 64)
  | .descriptorFetch => true
  | .cqCoalesceTimeout m => decide (m < 64)
  | .reportRoomResume m => decide (m < 64)
  | .hostDmaError ring => decide (ring < 128)
  | .hifNop it => it.wf 0x2
  | .hifAbort it => it.wf 0x2
  | .hifQuery it => it.wf 0x2
  | .cfgStage it => it.wf 0x3
  | .cfgStageTable it => it.wf 0x3
  | .cfgDataWrite _ => true
  | .cfgValidateCommit it => it.wf 0x3
  | .cfgDryRun it => it.wf 0x3
  | .cfgJournalWritten _ _ => true
  | .blockValuesTaken _ _ block => decide (block < 64)
  | .cfgDiscard it => it.wf 0x3
  | .cfgRead it => it.wf 0x3
  | .cfgPersist it => it.wf 0x3
  | .cfgImageExport it => it.wf 0x3
  | .cfgImageImport it => it.wf 0x3
  | .fullImageWritten => true
  | .tanGainWrite t i _ => decide (t < 6) && decide (i < 64)
  | .tanKffWrite l _ => decide (l < 256)
  | .tanDfiltWrite l _ => decide (l < 256)
  | .arcBootWrite g _ => decide (g < 32)
  | .arcIrqdivWrite g _ => decide (g < 32)
  | .fctDithrWrite ch _ => decide (ch < 128)
  | .fctDebounceWrite ch _ => decide (ch < 128)
  | .fctSpotSelWrite n _ => decide (n < 16)
  | .facetFrameTick n => decide (n < 16)
  | .downstreamFrameRx n _ _ bytes x => decide (n < 16) && decide (bytes.length ≤ 2048) && x.wf
  | .upstreamFrameRx n _ _ bytes => decide (n < 16) && decide (bytes.length ≤ 2048)
  | .facetLinkDown n => decide (n < 16)
  | .facetLinkUp n _ => decide (n < 16)
  | .perimOffLine n => decide (n < 16)
  | .perimOffRelease n => decide (n < 16)
  | .facetWdtExpiry n ins => decide (n < 16) && decide (ins.length = 4)
  | .fallbackEval n slot _ => decide (n < 16) && decide (slot < 4)
  | .fallbackExpiry n slot => decide (n < 16) && decide (slot < 4)
  | .pairReleaseRamp n => decide (n < 16)
  | .diChange ch _ st => decide (ch < 128) && st.wf
  | .doOverload ch => decide (ch < 128)
  | .doRetry ch => decide (ch < 128)
  | .doTotalOverload n => decide (n < 16)
  | .doTotalShedNext n _ => decide (n < 16)
  | .doMismatch ch _ _ => decide (ch < 128)
  | .doMismatchClear sig => decide (sig.ch < 128)
  | .supWarn n volt => decide (n < 16) && decide (volt < 65536)
  | .supLow n volt => decide (n < 16) && decide (volt < 65536)
  | .shedGroupInstant n volt => decide (n < 16) && decide (volt < 65536)
  | .shedRestart n volt => decide (n < 16) && decide (volt < 65536)
  | .supRecovered n volt => decide (n < 16) && decide (volt < 65536)
  | .autoRestoreGroup n => decide (n < 16)
  | .facetSupplyReset n => decide (n < 16)
  | .facetPowerUp n => decide (n < 16)
  | .piGateEnd ch => decide (ch < 128)
  | .fctOutput it => it.wf 0x12
  | .fctRestore it => it.wf 0x12
  | .fctPiclear it => it.wf 0x12
  | .sliceCorrection n slice _ _ _ => decide (n < 16) && decide (slice < 4)
  | .fctCal it => it.wf 0x12
  | .fctCalDone n found => decide (n < 16) && decide (found.factors.length = 4)
  | .fctDiagPath it => it.wf 0x12
  | .fctDiagWire it => it.wf 0x12
  | .diagDone n _ _ => decide (n < 16)
  | .fctCalsetRead it => it.wf 0x12
  | .fctCalsetWrite it => it.wf 0x12
  | .fctTrimdrive it => it.wf 0x12
  | .fctTrimdriveRelease it => it.wf 0x12
  | .fctHart it => it.wf 0x12
  | .hartReply n bytes _ => decide (n < 16) && decide (bytes.length ≤ 2048)
  | .hartReplyTimeout n => decide (n < 16)
  | .hartTxTimeout n => decide (n < 16)
  | .hartUnsolicited n => decide (n < 16)
  | .aiOpenDetect m => decide (m.ch < 128)
  | .aiOpenClear m => decide (m.ch < 128)
  | .aoCompliance ch _ _ => decide (ch < 128)
  | .aoOpen m => decide (m.ch < 128)
  | .aoThermalStep ch _ => decide (ch < 128)
  | .aoVOverload ch => decide (ch < 128)
  | .loopTick => true
  | .loopReady l => decide (l < 256)
  | .loopEvaluation => true
  | .loopResultHandoff l => decide (l < 256)
  | .loopDeadlineMiss l => decide (l < 256)
  | .tanMode it => it.wf 0x7
  | .tanSetpoint it => it.wf 0x7
  | .tanManout it => it.wf 0x7
  | .tanInject it => it.wf 0x7
  | .tanInjectStop it => it.wf 0x7
  | .locusTick => true
  | .stepTimeout t => decide (t < 16)
  | .schedSlotFire k => decide (k < 8)
  | .readinessTokenRx grp t idx sent => decide (grp < 65536) && t.wf && decide (idx < 16) && sent.wf
  | .pendingTokenExpiry => true
  | .withdrawNoticeRx grp t idx => decide (grp < 65536) && t.wf && decide (idx < 16)
  | .remoteTokenOutcome _ status => decide (status < 65536)
  | .locStart it => it.wf 0x8
  | .locHold it => it.wf 0x8
  | .locResume it => it.wf 0x8
  | .locAbort it => it.wf 0x8
  | .locJump it => it.wf 0x8
  | .locReset it => it.wf 0x8
  | .locToken it => it.wf 0x8
  | .locCounterSet it => it.wf 0x8
  | .locCounterAdd it => it.wf 0x8
  | .locSchedArm it => it.wf 0x8
  | .locSchedCancel it => it.wf 0x8
  | .latticeScan => true
  | .latTimerExpiry n _ => decide (n < 1024)
  | .latPatch it => it.wf 0x9
  | .latStop it => it.wf 0x9
  | .latStopBoundary => true
  | .latStart it => it.wf 0x9
  | .latShadowStart it => it.wf 0x9
  | .latShadowStop it => it.wf 0x9
  | .latCmpRead it => it.wf 0x9
  | .vertexEvent source inst code _ st => decide (source < 256) && decide (inst < 1024) && decide (code < 65536) && st.wf
  | .depRelease queue => decide (queue < 64)
  | .vertexDispatch => true
  | .vtxCoreDone core _ => decide (core < 4)
  | .vtxCoreRaise core source => decide (core < 4) && decide (source < 256)
  | .vtxCoreEnable core _ => decide (core < 4)
  | .vtxCoreDisable core => decide (core < 4)
  | .vtxCoreFlush core => decide (core < 4)
  | .vtxCoreCiWrite core _ => decide (core < 4)
  | .vtxCoalesceTimeout core => decide (core < 4)
  | .vtxPost it => it.wf 0x6
  | .vtxSignal it => it.wf 0x6
  | .arcPeriodBoundary g => decide (g < 32)
  | .arcEdgeEvent g _ => decide (g < 32)
  | .arcSet it => it.wf 0xa
  | .arcStartNow it => it.wf 0xa
  | .arcStartAt it => it.wf 0xa
  | .arcArmedStart g => decide (g < 32)
  | .arcStopAtEnd it => it.wf 0xa
  | .arcStopNow it => it.wf 0xa
  | .arcClear it => it.wf 0xa
  | .arcTrip src _ => decide (src < 10)
  | .prismSample => true
  | .coValue e => decide (e < 4096)
  | .changeEntryTimeout => true
  | .coMaxintExpiry e => decide (e < 4096)
  | .reductionComplete e k => decide (e < 4096) && decide (k < 4)
  | .triggerFire u => decide (u < 16)
  | .triggerTimeReached u => decide (u < 16)
  | .recordComplete u => decide (u < 16)
  | .holdoffEnd u => decide (u < 16)
  | .captureEntry => true
  | .prismStreamDeliver => true
  | .prmArm it => it.wf 0xb
  | .prmDisarm it => it.wf 0xb
  | .prmTrigger it => it.wf 0xb
  | .prmMark it => it.wf 0xb
  | .prmRead it => it.wf 0xb
  | .prmHistRead it => it.wf 0xb
  | .helixEvent e st _ => e.wf && st.wf
  | .hlxIntakeResume => true
  | .hlxStreamDeliver => true
  | .freezeTimeout => true
  | .hlxRead it => it.wf 0xc
  | .hlxFreeze it => it.wf 0xc
  | .hlxUnfreeze it => it.wf 0xc
  | .hlxFfRearm it => it.wf 0xc
  | .canTx it => it.wf 0xe
  | .canFlush it => it.wf 0xe
  | .canTxAttempt c => decide (c < 4)
  | .canAttemptEnd c _ st _ _ => decide (c < 4) && st.wf
  | .canFrameRx c _ _ _ bytes st _ _ => decide (c < 4) && decide (bytes.length ≤ 2048) && st.wf
  | .canRxDeliver c => decide (c < 4)
  | .canBusOff c _ => decide (c < 4)
  | .canRecover c => decide (c < 4)
  | .canBusoffRecovered c => decide (c < 4)
  | .ethTx it => it.wf 0xd
  | .ethTxFlush it => it.wf 0xd
  | .ethTxSent port st => decide (port < 2) && st.wf
  | .ethFrameRx port bytes _ st => decide (port < 2) && decide (bytes.length ≤ 2048) && st.wf
  | .ethRxDeliver port => decide (port < 2)
  | .prpEntryForget => true
  | .prpSupervision => true
  | .cyclicFrameSend => true
  | .cyclicFrameLate => true
  | .ethLinkUp port _ => decide (port < 2)
  | .ethLinkDown port => decide (port < 2)
  | .merOfsGo n frac => decide (1 ≤ n ∧ n < 3) && decide (frac < 65536)
  | .servoHoldover x => decide (x < 3)
  | .servoFreeRun x => decide (x < 3)
  | .slewComplete => true
  | .merSet it => it.wf 0x5
  | .merSnap => true
  | .merTxtsPop p => decide (p < 2)
  | .vxlPortUp port neighbour => decide (port < 4) && decide (neighbour < 1024)
  | .vxlPortDown port => decide (port < 4)
  | .helloSend => true
  | .helloRx port device _ _ => decide (port < 4) && decide (device < 1024)
  | .ringNumberTimeout => true
  | .vxlFrameRx port f _ => decide (port < 4) && f.wf
  | .timeMarkSend => true
  | .timeMarkRx port f _ _ _ _ => decide (port < 4) && f.wf
  | .linkDelayMeasure port _ => decide (port < 4)
  | .cycleMark _ => true
  | .scanRx src _ es => decide (src < 1024) && es.all (fun x => x.wf)
  | .cycleJudgement _ => true
  | .managerLost => true
  | .grantRequestRx device pubs _ => decide (device < 1024) && pubs.all (fun x => decide (x < 4096))
  | .grantTimeout => true
  | .remoteItemRx opcode it deadline => decide (opcode < 65536) && it.wf it.block && deadline.wf
  | .remoteResultRx _ _ status res _ _ _ _ => decide (status < 65536) && res.st.wf
  | .remoteQueryTimer _ _ => true
  | .remoteQueryRx device _ _ => decide (device < 1024)
  | .joinRequest => true
  | .joinRequestRx device _ ring _ => decide (device < 1024) && decide (ring < 32)
  | .presenceTimeout device => decide (device < 1024)
  | .vxlWrite it => it.wf 0xf
  | .vxlLeave it => it.wf 0xf
  | .vxlMembers it => it.wf 0xf
  | .heartbeatSend => true
  | .heartbeatRx path _ _ _ _ _ _ => decide (path < 2)
  | .pathLost path => decide (path < 2)
  | .takeover _ => true
  | .epochCapture => true
  | .epochApply _ _ _ _ _ _ _ _ => true
  | .syncLagTimeout => true
  | .arbWaitExpiry => true
  | .mirrorWaitTimeout => true
  | .pairYield => true
  | .mirTokenRead => true
  | .mirSwitch it => it.wf 0x10
  | .switchInstant => true
  | .switchGo => true
  | .leaveNoticeRx => true
  | .mirResync it => it.wf 0x10
  | .mirLocalWrite _ _ => true
  | .safetySupplyOn => true
  | .selftestDone patH patP _ chans _ => decide (patH < 65536) && decide (patP < 65536) && decide (chans < 4)
  | .safetySupplyLoss => true
  | .safetyInputDemand pair _ _ => decide (pair < 8)
  | .safetyInputPermit pair _ _ => decide (pair < 8)
  | .tpFault pair _ chans => decide (pair < 8) && decide (chans < 4)
  | .discrepancy pair chans => decide (pair < 8) && decide (chans < 4)
  | .mutingStart slot => decide (slot < 4)
  | .mutingLimit slot => decide (slot < 4)
  | .resetPulse _ => true
  | .resetStuck _ => true
  | .resetOneChannel _ => true
  | .stopRequestFrame _ => true
  | .stopChannelLoss => true
  | .crossLinkExchange => true
  | .channelDisagree => true
  | .switchTest _ => true
  | .readbackFault chans => decide (chans < 4)
  | .dieFault _ chans => decide (chans < 4)
  | .patternChange pattern => decide (pattern < 65536)
  | .statusFrame _ => true
  | .statusChannelLoss => true
  | .perStopWrite _ => true
  | .perStopReq it => it.wf 0x11
  | .faultEntry e st _ => e.wf && st.wf
  | .fltHack sev => decide (1 ≤ sev ∧ sev < 4)
  | .eccCorrected region addr => decide (region < 14) && decide (addr < 4294967296)
  | .eccUncorrectable region addr _ _ => decide (region < 14) && decide (addr < 4294967296)
  | .patrolScrub percent _ => decide (percent ≤ 100)
  | .mramStatusPoll _ ue => ue.all (fun a => decide (a < 0x4000000))
  | .flashCheck _ => true
  | .fltWdkick _ => true
  | .fltWdWrite _ => true
  | .coreWdtExpiry => true
  | .engineWdtExpiry source _ => decide (2 ≤ source ∧ source < 8)
  | .aoComplianceClear m => decide (m.ch < 128)
  | .aoOpenClear m => decide (m.ch < 128)
  | .aoVOverloadClear ch => decide (ch < 128)
  | .resetStuckClear => true
  | .msixEnable => true
  | .grantReplyRx pubs _ _ _ => pubs.all (fun x => decide (x < 4096))
  | .cycleFrameRx _ _ _ joins leaves _ => joins.all (fun d => decide (d < 1024)) && leaves.all (fun p => decide (p.1 < 1024))
  | .joinReplyRx reason => decide (reason < 8)
  | .queryAnswerRx _ _ verdict status => decide (verdict < 4) && decide (status < 65536)
  | .leaveRequestRx device _ => decide (device < 1024)

end Sys2Proof
end

