-- ==== Sys2Proof/Tests/Slice0.lean ====
section
/-! SUPPORT. Tests: an ill-formed term for each check of WellFormed, small tests of single commands, and for each statement with
hypotheses a concrete state and operands that meet them. -/

namespace Sys2Proof.Tests

open Sys2Proof Sys2Proof.Machine

set_option Elab.async false

/-- The module at reset. -/
def s0 : State := State.reset

/-- An item of a block. -/
def item (block : Nat) (payload : List Word) (inst : Nat := 0) : Item :=
  { ring := 0, seq := 0, flags := 0, remote := false, device := 0, block, inst, payload := payload ++ List.replicate (12 - payload.length) 0, origin := none }

/-- A state in the module's mode m. -/
def inMode (m : RunMode) : State := { s0 with sys := { s0.sys with mode := m } }

/-- The next state, where there is one. -/
def nextOf : Host.Outcome State Fault Refusal → State
  | .next t => t
  | _ => s0

/-- The module with domain n off. -/
def domDown (n : Nat) : State := s0.wr Reg.PWR_STATUS 0 0 (putBits (s0.rd Reg.PWR_STATUS 0 0) n 1 0)

/-- The module with the link up, ring 64 a COMPLETION ring, ring 65 a REPORT ring, and submission ring 0 of 16 entries on them. -/
def rings : State :=
  ((((((((s0.setF Fld.HIF_LINK_UP 0 0 1).setF Fld.HIF_CQ_CTRL_ENABLE 0 0 1).setF Fld.HIF_CQ_STAT_STATE 0 0 1).setF
    Fld.HIF_CQ_CTRL_TYPE 1 0 1).setF Fld.HIF_CQ_CTRL_ENABLE 1 0 1).setF Fld.HIF_CQ_STAT_STATE 1 0 1).setF
    Fld.HIF_SQ_CTRL_RPT 0 0 1).setF Fld.HIF_SQ_CTRL_ENABLE 0 0 1).setF Fld.HIF_SQ_STAT_STATE 0 0 1

/-- The module with an item in flight in a phase, under an opcode. -/
def flying (it : Item) (op : Nat) (p : Phase) (note : List Word := []) : State :=
  { rings with hif := { rings.hif with inflight := [⟨op, it, p, false, 0, note, none, none⟩] } }

/-- The module with a verdict in the intake log of ring 0, SEQ 7. -/
def logged (v : Verdict) : State := { rings with hif := { rings.hif with intake := [⟨0, 7, v, true⟩] } }

/-- The module with a Facet changed. -/
def fac (n : Nat) (f : FacetSt → FacetSt) : State := s0.setFacet n (f (s0.facet n))

/-- The module with a channel in a mode, on both sides of its link, and its state changed. -/
def chn (ch mode : Nat) (f : ChanSt → ChanSt := id) : State :=
  let s := s0.setCf Cf.FCT_CH_MODE ch 0 (w32 mode)
  let t := { s with fct := { s.fct with own := tabSet cfgDefault s.fct.own (cfgKey 0x12 ch Cf.FCT_CH_MODE.fld 0) (w32 mode) } }
  t.setChan ch (f (t.chan ch))

/-- A frame of 124 symbols with a right CRC: its FSEQ, zeros, and the CRC. -/
def okFrame (seq : Nat) : List Byte :=
  let bs := BitVec.ofNat 8 seq :: List.replicate 121 0
  bs ++ [BitVec.ofNat 8 (crc16 bs / 256), BitVec.ofNat 8 (crc16 bs % 256)]


/-- A member of a pair in a state of Mirror, with the partner's state. -/
def pair (st other : Nat) : State :=
  let s := ((s0.setF Fld.SYS_HWSTAT_BASE_ID 0 0 1).setF Fld.MIR_STATUS_STATE 0 0 st).setF Fld.MIR_STATUS_PARTNER 0 0 1
  { s with mir := { s.mir with partnerState := other }, mer := { s.mer with base := 100000000000 } }
/-- SYS_CHKAGE: a register that no row of its own answers; with PD_NET off, HIF's registers answer nothing. -/
theorem witness_RegisterAccessCompletes :
    (bar0Word 0x28 = true ∧ s0.domOn (domainOf 0x28) = true ∧ regAt 0x28 = some Reg.SYS_CHKAGE ∧
      Reg.SYS_CHKAGE ∉ writeRows ∧ Reg.SYS_CHKAGE ∉ readRows) ∧
    (bar0Word 0x2F000C = true ∧ s0.domOn (domainOf 0x2F000C) = true ∧ regAt 0x2F000C = some Reg.FCT_STATUS ∧
      Reg.FCT_STATUS ∉ writeRows ∧ Reg.FCT_STATUS ∉ readRows) ∧
    s0.alive = true ∧ s0.domOn 5 = true ∧ (domDown 5).alive = true ∧ (domDown 5).domOn (domainOf 0x20008) = false := by
  decide +kernel

/-- Clock 4 lost, clock 2 lost, and clocks restored; the module stopped for want of the TCXO; every legal PWR_CTRL value;
each domain as it comes up, goes down and fails. -/
theorem witness_ClockAndPowerComplete :
    ((clocksOf 0x10).filter (fun n => s0.clkOn n)).contains 4 = true ∧
    ((clocksOf 0xFEF).filter (fun n => s0.clkOn n)).contains 4 = false ∧
    (let t := (inMode .noTcxo).wr Reg.CLK_STATUS 0 0 0xFEF; t.sys.mode = .noTcxo ∧ t.clkOn 4 = false) ∧
    s0.alive = true ∧ s0.pwrRefuse (bitsOf 0xFC 2 6 * 4) true = none ∧
    (∀ n ∈ [2, 7], bitOf ((domDown n).rd Reg.PWR_CTRL 0 0) n = true ∧ bitOf ((domDown n).rd Reg.PWR_STATUS 0 0) n = false ∧
      (domDown n).alive = true) ∧
    ({ s0 with sys := { s0.sys with falling := [5] } } : State).sys.falling.contains 5 = true ∧
    (∀ n ∈ [2, 5, 6, 7], s0.domOn n = true) := by
  decide +kernel

/-- The module running; in power-fail with self-refresh, without it, stopped before it and without its clock; unpowered; in
a pair as active and as standby; leaving its base; and switched off by temperature. -/
theorem witness_SupplyAndBaseComplete :
    s0.alive = true ∧ s0.sys.mode ≠ .powerFail ∧ s0.sys.mode ≠ .unpowered ∧
    (let t := inMode .powerFail
     t.sys.mode = .powerFail ∧ t.clkOn 4 = true ∧ t.sys.hot = false ∧ t.sys.oscLost = false ∧ t.sys.selfRefresh = false ∧
      (t.wr Reg.CLK_STATUS 0 0 0xFEF).clkOn 4 = false) ∧
    (let t := { inMode .powerFail with sys := { (inMode .powerFail).sys with selfRefresh := true } }
     t.sys.selfRefresh = true ∧ t.sys.wasStopped = false ∧
      ({ t with sys := { t.sys with wasStopped := true } } : State).sys.wasStopped = true) ∧
    (inMode .unpowered).sys.mode = .unpowered ∧ 1 % 4 ≠ s0.sys.baseCode ∧
    (s0.inPair && s0.bit Fld.MIR_STATUS_PARTNER 0 0 && s0.sys.mode == .running) = false ∧
    (∀ m ∈ [2, 3],
      let t := pair m 3
      let s1 := (t.setF Fld.SYS_HWSTAT_PRES_A 0 0 0).setF Fld.SYS_HWSTAT_PRES_B 0 0 0
      (s1.inPair && s1.bit Fld.MIR_STATUS_PARTNER 0 0 && s1.sys.mode == .running) = true ∧
        (({ s1 with sys := { s1.sys with gone := some (s1.mer.base, true && s1.mirState == 2) } }).leaveTold.mirState = 2 ↔
          m = 2)) ∧
    (let t := { s0 with sys := { s0.sys with gone := some (0, false) } }
     t.sys.gone = some (0, false) ∧ t.goneWait 0 false = false) ∧
    (s0.fld Fld.SYS_TEMP_TEMP_WARN 0 0 : Int) < 101 ∧ s0.sys.hot = false ∧
    ({ inMode .thermalOff with sys := { (inMode .thermalOff).sys with hot := true } } : State).sys.hot = true := by
  decide +kernel

/-- The module starting, restarting and running; reset keys; a trial running; a checkpoint due and one being written. -/
theorem witness_StartsAndCheckpointsComplete :
    (inMode .starting).sys.mode = .starting ∧
    ((inMode .warming).sys.mode = .warming ∧ ∀ n, n ∈ [0, 1, 2, 9, 11] → (inMode .warming).clkOn n = true) ∧
    resetKey 0x5EB70001 1 = true ∧ resetKey 0x5EB70002 2 = true ∧ s0.alive = true ∧
    ((s0.setF Fld.SYS_BOOT_TRIAL 0 0 1).bit Fld.SYS_BOOT_TRIAL 0 0 = true ∧
      (s0.setF Fld.SYS_BOOT_TRIAL 0 0 1).alive = true ∧ (s0.setF Fld.SYS_BOOT_TRIAL 0 0 1).sys.mode ≠ .starting) ∧
    s0.sys.mode = .running ∧
    (({ s0 with sys := { s0.sys with chkPeriodDue := true } } : State).sys.chkPeriodDue = true ∧ s0.domOn 3 = true) ∧
    ({ s0 with sys := { s0.sys with chkWriting := true } } : State).sys.chkWriting = true := by
  decide +kernel

/-- An empty image with its magic and its digest stands in image A. -/
def withImage : State :=
  { s0 with flash := memPut (memPutWords [] (imageBase 0) [0x4C584657]) (imageBase 0 + 32) (sha256 []) }

/-- A write of 1 MiB at an image's second sector; an image that verifies; a trial and its confirmation. -/
theorem witness_FirmwareCompletes :
    (s0.Ready (item 1 [0, 0, 0, 0, 0, 1048576, 4096] 1) ∧ (item 1 [] 1).inst ≤ 1 ∧
      (0x100000 : Word).toNat % 4 = 0 ∧ s0.imageRuns 1 = false) ∧
    withImage.Ready (item 1 []) ∧ withImage.imageOk 0 = true ∧
    s0.bit Fld.SYS_BOOT_TRIAL 0 0 = false ∧ (s0.setF Fld.SYS_BOOT_TRIAL 0 0 1).Ready (item 1 []) ∧
      (s0.setF Fld.SYS_BOOT_TRIAL 0 0 1).bit Fld.SYS_BOOT_TRIAL 0 0 = true := by
  unfold State.Ready; and_intros <;> decide +kernel

/-- Ring 64 in COALESCE mode. -/
def coal : State := (rings.setF Fld.HIF_CQ_CTRL_IRQ_EN 0 0 1).setF Fld.HIF_CQ_COAL_TIME 0 0 1

/-- Ring 0 down and up; ring 64 in COALESCE mode with an entry unsignalled; an entry held for ring 64. -/
theorem witness_HostRingsComplete :
    (s0.domOn 5 = true ∧ s0.clkOn 5 = true ∧ rings.domOn 5 = true ∧ s0.bit Fld.HIF_SQ_CTRL_ENABLE 63 0 = false ∧
      rings.bit Fld.HIF_SQ_CTRL_ENABLE 1 0 = false ∧
      (rings.wr Reg.HIF_SQ_CTRL 1 0 (0x40401 &&& Reg.HIF_SQ_CTRL.rw &&& 0xFFFFFFFE)).sqCheck 1 = 0 ∧
      (s0.wr Reg.HIF_SQ_CTRL 63 0 (0x401 &&& Reg.HIF_SQ_CTRL.rw &&& 0xFFFFFFFE)).sqCheck 63 ≠ 0) ∧
    s0.bit Fld.HIF_CQ_CTRL_ENABLE 63 0 = false ∧ rings.bit Fld.HIF_SQ_CTRL_ENABLE 0 0 = true ∧
    (rings.bit Fld.HIF_CQ_CTRL_ENABLE 0 0 = true ∧ rings.cqBound 0 = true) ∧
    (((16 : Word) - rings.rd Reg.HIF_SQ_PI 0 0).toNat < 2147483648 ∧
      ((16 : Word) - rings.rd Reg.HIF_SQ_CI 0 0).toNat ≤ rings.sqSize 0 ∧
      (let t := pair 3 2; (t.standby && !(t.ringLocal 0)) = true)) ∧
    (((0 : Word) - rings.rd Reg.HIF_CQ_CI 0 0).toNat < 2147483648 ∧
      (rings.rd Reg.HIF_CQ_PI 0 0 - 0).toNat ≤ rings.cqSize 0) ∧
    (coal.cqUp 0 = true ∧ coal.bit Fld.HIF_CQ_CTRL_IRQ_EN 0 0 = true ∧ coal.fld Fld.HIF_CQ_COAL_TIME 0 0 ≠ 0 ∧
        tget 0 ({ coal.hif with unsig := [(0, 1)] } : HifSt).unsig 0 ≠ 0) ∧
    ([⟨0, [0], none, false, false⟩] : List HeldEntry).any (fun h => h.cq == 0) = true := by
  decide +kernel

/-- A descriptor waits in ring 0; verdicts of each kind; an item of ring 0, SEQ 7 not yet at its commit point. -/
theorem witness_FetchAndHifItemsComplete :
    ((rings.wr Reg.HIF_SQ_PI 0 0 1).nextRing = some 0 ∧ rings.idxWait 0 1 = false ∧
      (rings.sqCores 0 && rings.sys.poison.contains 0) = false) ∧
    rings.Ready (item 2 []) ∧ (∀ v ∈ [Verdict.applied 1, .notApplied 3, .inFlight], (logged v).Ready (item 2 [0, 7])) ∧
    ((item 2 [0, 7]).w 4 = 7 ∧ rings.intakeOf 0 7 = none ∧
      (logged (.applied 1)).intakeOf 0 7 = some ⟨0, 7, .applied 1, true⟩ ∧
      (logged (.notApplied 3)).intakeOf 0 7 = some ⟨0, 7, .notApplied 3, true⟩ ∧
      (logged .inFlight).intakeOf 0 7 = some ⟨0, 7, .inFlight, true⟩) ∧
    ((flying { item 3 [] with seq := 7 } 0x0300 .fetched).flight 0 7 =
        some ⟨0x0300, { item 3 [] with seq := 7 }, .fetched, false, 0, [], none, none⟩ ∧
      (⟨0x0300, { item 3 [] with seq := 7 }, .fetched, false, 0, [], none, none⟩ : Inflight).abortable = true ∧
      (⟨0x0300, { item 3 [] with seq := 7 }, .fetched, false, 0, [], none, none⟩ : Inflight).inAttempt = false ∧
      (flying { item 3 [] with seq := 7 } 0x0300 .fetched).undecided (item 2 [0, 7]) = true ∧
      (flying { item 3 [] with seq := 7 } 0x0300 .fetched).serving 2 = true ∧
      (flying { item 3 [] with seq := 7 } 0x0300 .fetched).mirWait (item 2 [0, 7]) = false) := by
  unfold State.Ready; and_intros <;> decide +kernel
/-- The module with the manager's answer outstanding for the item `it`. -/
def granting (it : Item) : State :=
  { flying it 0x0302 .fetched with cfg := { rings.cfg with grant := some ⟨it, [], true, [], ⟨[], [], none, false⟩⟩ } }

/-- One value of MIR's field 0; 4,096 elements of a table of Prism; an image of no change; a full image under way. -/
theorem witness_StagingAndImagesComplete :
    (rings.Ready (item 3 []) ∧ (let it := item 3 [0x200010, 0, 5];
      bitsOf (it.w 3) 24 8 = 0 ∧ bitsOf (it.w 3) 21 3 = 1 ∧ tailOff it 6 = none ∧ bitsOf (it.w 4) 16 16 = 0 ∧
      stageErr 0x10 0 0 0 = 0)) ∧
    (let it := item 3 [0, 0, 16384, 0xB + 145 * 64, 0x201, 0];
      (it.w 5).toNat / 4 = 4096 ∧ (it.w 5).toNat % 4 = 0 ∧ bitsOf (it.w 6) 0 6 = 0xB ∧ bitsOf (it.w 6) 6 15 = 145 ∧
      bitsOf (it.w 6) 21 11 = 0 ∧ stageErr 0xB 145 0x201 0 = 0 ∧ stageErr 0xB 145 0x201 4095 = 0 ∧
      fieldRow 0xB 145 0x201 = some ⟨0xB, 145, 145, 0x201, 4096, .f32 0x00000000 0x4E6E6B28, 0⟩) ∧
    (let s := s0.wr Reg.CFG_SEL 0 0 0x10;
      s.domOn 3 = true ∧ s.cfgNamed.2 = 0 ∧ (s.stagePut [⟨s.cfgNamed.1, 5⟩]).stageFits = true) ∧
    maskOk 0x10000 = true ∧ (let it := item 3 [0x200010, 0, 0];
      stageErr (bitsOf (it.w 3) 0 6) (bitsOf (it.w 3) 6 15) (it.w 4).toNat (it.w 5).toNat = 0) ∧
    ({ s0.cfg with writingImage := true } : CfgSt).writingImage = true := by
  unfold State.Ready; and_intros <;> decide +kernel

/-- The module has exported the image of no change, and its bytes stand in host memory from address 0. -/
def exported : State :=
  { rings with cfg := { rings.cfg with exports := [[]] }, host := memPut rings.host 0 (imageBytes []) }

/-- An image fits a buffer of 7 MiB; the image exported earlier is given back. -/
theorem witness_StagingAndImagesComplete_image :
    (imageBytes rings.cfg.image).length ≤ ((item 3 [0, 0, 7340032]).w 5).toNat ∧
    (let it := item 3 [0, 0, w32 (imageBytes []).length];
      exported.Ready it ∧ it.inst = 0 ∧
        exported.imageGiven (exported.bufTake it (bufAddr it 3) (it.w 5).toNat) = some []) := by
  have len : ∀ t, (imageBytes t).length ≤ 7340032 := fun t => by
    unfold imageBytes
    rw [List.length_map, List.length_range]
    omega
  refine ⟨len _, by unfold State.Ready; and_intros <;> rfl, rfl, ?_⟩
  have n : (w32 (imageBytes []).length).toNat = (imageBytes []).length := by
    unfold w32
    rw [BitVec.toNat_ofNat]
    exact Nat.mod_eq_of_lt (Nat.lt_of_le_of_lt (len []) (by decide))
  have h : exported.bufTake (item 3 [0, 0, w32 (imageBytes []).length]) 0 (imageBytes []).length = imageBytes [] :=
    memTake_memPut rings.host 0 (imageBytes [])
  show exported.imageGiven (exported.bufTake (item 3 [0, 0, w32 (imageBytes []).length]) 0
    (w32 (imageBytes []).length).toNat) = some []
  rw [n, h]
  have f : exported.cfg.exports.find? (fun t => imageBytes t == imageBytes []) = some [] :=
    List.find?_cons_of_pos (beq_self_eq_true _)
  unfold State.imageGiven
  rw [f]
  rfl

/-- A job of one block, before and after its journal entry. -/
def committing (journaled : Bool) : State :=
  { flying (item 3 []) 0x0302 .fetched with
    cfg := { rings.cfg with jobs := [⟨item 3 [], [], [0x10], 0, 0, 0, journaled, [], true, []⟩] } }

/-- A commit of MIR; a job before and after its journal entry; a grant outstanding. -/
theorem witness_CommitsComplete :
    (rings.Ready (item 3 [0x10000, 0]) ∧ commitFormat (item 3 [0x10000, 0]) = none ∧
      rings.cfgBusy (item 3 [0x10000, 0]) = false) ∧
    ((committing false).cfg.jobs.find? (fun j => j.is 0 0 && !j.journaled) =
        some ⟨item 3 [], [], [0x10], 0, 0, 0, false, [], true, []⟩ ∧ ((committing false).flight 0 0).isSome = true ∧
      (committing false).shadowsHeld [] = true ∧ (committing false).frozen (item 3 []) = false ∧ (committing false).mirWait (item 3 []) = false) ∧
    ((committing true).cfg.jobs.find? (fun j => j.is 0 0 && j.journaled && j.blocks.contains 0x10) =
        some ⟨item 3 [], [], [0x10], 0, 0, 0, true, [], true, []⟩ ∧
      (committing true).cfg.waits.any (fun w => w.1 == 0 && w.2.1 == 0 && w.2.2.1 == 0x10) = false ∧
      (committing true).blockOff 0x10 = false ∧
      (committing true).atBoundary ⟨item 3 [], [], [0x10], 0, 0, 0, true, [], true, []⟩ 0x10 = true) ∧
    ((granting (item 3 [])).cfg.grant = some ⟨item 3 [], [], true, [], ⟨[], [], none, false⟩⟩ ∧
      (s0.grantClamp [] [] none ⟨[], [], none, false⟩).fail = none) := by
  unfold State.Ready; and_intros <;> decide +kernel

/-- PD_ENG and PD_FLK are on, and each register's last copy is there. -/
theorem witness_DirectWritesComplete :
    s0.domOn 3 = true ∧ s0.domOn 7 = true ∧ Reg.TAN_GAIN.covers (Reg.TAN_GAIN.addr 5 63) = true ∧
    Reg.TAN_KFF.covers (Reg.TAN_KFF.addr 255 0) = true ∧ Reg.TAN_DFILT.covers (Reg.TAN_DFILT.addr 255 0) = true ∧
    Reg.ARC_BOOT.covers (Reg.ARC_BOOT.addr 31 0) = true ∧ Reg.ARC_IRQDIV.covers (Reg.ARC_IRQDIV.addr 31 0) = true ∧
    Reg.FCT_DITHR.covers (Reg.FCT_DITHR.addr 15 7) = true ∧ Reg.FCT_DEBOUNCE.covers (Reg.FCT_DEBOUNCE.addr 15 7) = true ∧
    Reg.FCT_SPOT_SEL.covers (Reg.FCT_SPOT_SEL.addr 15 0) = true := by
  decide +kernel
/-- Frames at the ends of FSEQ, links down and up, and Facet 15's fallback slot 3 running, with and without a sample yet. -/
theorem witness_FacetLinkAndSafeStateComplete :
    (s0.domOn 7 = true ∧ s0.sys.mode = .running ∧ s0.linkUp 15 = false ∧ (s0.facet 15).unfed = false) ∧
    ((okFrame 255).length = 124 ∧ frameCrcOk (okFrame 255) = true) ∧
    (let s := s0.setF Fld.FCT_LINK_STATE 15 0 2;
      s.linkUp 15 = true ∧ s.domOn 7 = true ∧ s.sys.mode = .running ∧ (s.facet 15).upSeq = none) ∧
    (((fac 15 (fun f => { f with upSeq := some 255 })).facet 15).upSeq = some 255 ∧ sym (okFrame 0) 1 = (255 + 1) % 256) ∧
    (let s := fac 15 (fun f => { f with cfgOk := true });
      (s.facet 15).cfgOk = true ∧ (facetChans 15).any (fun ch => (s.chan ch).safe) = false) ∧
    (let s := (chn 127 8).setChan 120 { (s0.chan 120) with safe := true };
      (facetChans 15).any (fun ch => (s.chan ch).safe) = true ∧
        (facetChans 15).filter (fun ch => isOut (s.ownMode ch) && !(s.chan ch).safe) ≠ []) ∧
    (let s := s0.setSlot 15 3 { s0.facet 15 |>.slot 3 with run := true, has := true, bad := false };
      ((s.facet 15).slot 3).run = true ∧ ((s.facet 15).slot 3).bad = false ∧ ((s.facet 15).slot 3).has = true) ∧
    (let s := s0.setSlot 15 3 { s0.facet 15 |>.slot 3 with run := true, has := false };
      ((s.facet 15).slot 3).run = true ∧ ((s.facet 15).slot 3).has = false) ∧
    (let s := { s0 with mer := { s0.mer with base := 78000 } };
      let t := s.setFacet 15 { s.facet 15 with variant := true, cfgOk := true };
      (t.facet 15).variant = true ∧ (t.facet 15).cfgOk = true ∧ (t.facet 15).lastFrame + t.releaseDelay ≤ t.mer.base) := by
  decide +kernel

/-- Channel 127, a DO whose owner writes 1, switched off for overload 100 ms ago. -/
def retrying : State :=
  let s := chn 127 8 (fun c => { c with out := 1, taken := true, ovl := true, ovlAt := 0 })
  let t := s.setFacet 15 { s.facet 15 with cfgOk := true, perimOff := false }
  { t with mer := { t.mer with base := 100000000 },
           fct := { t.fct with own := tabSet cfgDefault t.fct.own (cfgKey 0x12 127 Cf.FCT_DO_RETRY.fld 0) 1 } }

/-- Channel 127 as DI, DO, PI and AO_V. -/
theorem witness_DigitalChannelsComplete :
    (let s := chn 127 7;
      s.ownMode 127 = 7 ∧ (s.chan 127).deb = false ∧ (s.chan 127).chgAt = none ∧ s.linkUp 15 = false ∧
        (s.setF Fld.FCT_LINK_STATE 15 0 2).linkUp 15 = true ∧ ((s.own Cf.FCT_DI_THR 127).toNat : Int) * 100 ≤ 25000 ∧
        (s.own Cf.FCT_DI_DEBOUNCE 127).toNat * 1000 ≤ 65535000) ∧
    (let s := chn 127 8 (fun c => { c with drv := 1, ovl := false, mism := false });
      s.ownMode 127 = 8 ∧ (s.chan 127).ovl = false ∧ (s.chan 127).drv = 1 ∧ (s.chan 127).mism = false ∧ (12000 : Int) ≤ 12000 ∧
        ((12000 : Int) < 12001 ↔ (s.chan 127).drv = 1)) ∧
    (let s := chn 127 8 (fun c => { c with drv := 0 }); (s.chan 127).drv ≠ 1 ∧ (s.chan 127).mism = false ∧ s.baseId = 2) ∧
    (∃ s : State, s.ownMode 127 = 8 ∧ (s.chan 127).ovl = true ∧ s.own Cf.FCT_DO_RETRY 127 = 1 ∧
      (s.chan 127).ovlAt + 100000000 ≤ s.mer.base ∧ s.wanted 127 = 1) ∧
    (s0.facet 15).total = none ∧ ((fac 15 (fun f => { f with total := some 7 })).facet 15).total = some 7 ∧
    (chn 127 9).chMode 127 = 9 ∧ (chn 127 9).linkUp 15 = false ∧
      ((chn 127 9).setF Fld.FCT_LINK_STATE 15 0 2).linkUp 15 = true ∧ (chn 127 9).Ready (item 0x12 [] 127) ∧
    ((chn 127 8).Ready (item 0x12 [1] 127) ∧ (chn 127 8).cfN Cf.FCT_OWNER 127 = 0 ∧
      isOut ((chn 127 8).chMode 127) = true ∧ ((item 0x12 [1] 127).w 3).toNat ≤ 1) ∧
    ((chn 127 6).Ready (item 0x12 [0x40000000] 127) ∧ (chn 127 6).cfN Cf.FCT_OWNER 127 = 0 ∧
      isOut ((chn 127 6).chMode 127) = true ∧ (chn 127 6).chMode 127 ≠ 8 ∧ isNan32 (0x40000000 : Word) = false) ∧
    (s0.Ready (item 0x12 [] 15) ∧ (s0.facet 15).supLow = false) := by
  unfold State.Ready; exact ⟨by decide +kernel, by decide +kernel, by decide +kernel, ⟨retrying, by decide +kernel⟩, by decide +kernel⟩

/-- Facet 15's supply flags and sequences at each step. -/
theorem witness_FieldSupplyCompletes :
    ((s0.facet 15).supWarn = false ∧ (s0.facet 15).supLow = false) ∧
    ((fac 15 (fun f => { f with shedSeq := some 3 })).facet 15).shedSeq = some 3 ∧
    (let s := fac 15 (fun f => { f with supLow := true, shedSeq := none, shedNext := 3 });
      (s.facet 15).supLow = true ∧ (s.facet 15).shedSeq = none ∧ (s.facet 15).shedNext < 4) ∧
    ((fac 15 (fun f => { f with autoRest := some 0 })).facet 15).autoRest = some 0 := by
  decide +kernel
/-- Facet 15 runs a diagnosis of channel 127 for the item of ring 0, SEQ 0. -/
def diagnosing (aborted : Bool) (since : Option Int) : State :=
  let s := flying (item 0x12 [] 127) 0x1211 .waiting
  s.setFacet 15 { s.facet 15 with diag := some ⟨0, 0, false, 7, 0, 0x3F800000, aborted, since, []⟩ }

/-- Slices, calibrations, diagnoses and calibration sets at the ends of their ranges. -/
theorem witness_CalibrationCompletes :
    (s0.linkUp 15 = false ∧ (s0.setF Fld.FCT_LINK_STATE 15 0 2).linkUp 15 = true) ∧
    (s0.Ready (item 0x12 [] 15) ∧ (s0.facet 15).diag = none ∧ (s0.facet 15).calBusy = false ∧ (s0.facet 15).cmds = []) ∧
    (let s := flying (item 0x12 [] 15) 0x1210 .waiting;
      let t := s.setFacet 15 { s.facet 15 with calBusy := true };
      (t.facet 15).calBusy = true ∧ t.begun 0x1210 (fun i => i == 15) = some ⟨0x1210, item 0x12 [] 15, .waiting, false, 0, [], none, none⟩) ∧
    (factorsFit (-1024, 1023, -512) = true ∧ factorsFit (1023, -1024, 511) = true ∧ factorsFit (0, 0, 0) = true) ∧
    ((chn 127 1).Ready (item 0x12 [0, 0x3F800000, 0x40000000] 127) ∧
      (chn 127 1).Ready (item 0x12 [1, 0x3F800000, 0x40000000] 127) ∧ (chn 127 1).chMode 127 = 1 ∧
      (chn 127 1).levelOk 127 0x3F800000 = true ∧ (chn 127 1).levelOk 127 0x40000000 = true) ∧
    (∀ s ∈ [diagnosing true none, diagnosing false (some (-1000000000000000000))],
      (s.facet 15).diag.isSome = true ∧ s.flight 0 0 = some ⟨0x1211, item 0x12 [] 127, .waiting, false, 0, [], none, none⟩) ∧
    (let s := diagnosing false (some (-1000000000000000000));
      laterBy (-1000000000000000000) (s.diagLen 127) ≤ s.timeT) ∧
    s0.Ready (item 0x12 [3] 127) ∧
    (s0.Ready (item 0x12 [0, 0x3ECCCCCD, 0x3F7AE148, 0xCA1B] 127) ∧
      within32 (calLimits 0).1 0x3ECCCCCD = true ∧ within32 (calLimits 0).2 0x3F7AE148 = true) ∧
    ((chn 127 6).Ready (item 0x12 [2] 127) ∧ (chn 127 6).cfN Cf.FCT_OWNER 127 = 0 ∧ isAO ((chn 127 6).chMode 127) = true) := by
  unfold State.Ready; and_intros <;> decide +kernel

/-- Facet 15's modem, with the transaction of an item of channel 127. -/
def hart (closed : Bool) : State :=
  let s := flying (item 0x12 [] 127) 0x1215 .waiting
  let t := s.setFacet 15 { s.facet 15 with hart := some ⟨0, 0, 7, 0, true, closed, 0, []⟩ }
  { t with mer := { t.mer with base := 100000000000 } }

theorem witness_HartCompletes :
    (let it := item 0x12 [0, 0, 0, 3, 0, 0, 263] 127;
      (chn 127 3).Ready it ∧ (it.w 6).toNat = 3 ∧ (it.w 9).toNat = 263 ∧ (chn 127 3).chMode 127 = 3 ∧
      (chn 127 3).hartTaken it = false) ∧
    (let it := item 0x12 [0, 0, 0, 262, 0, 0, 263] 127; (chn 127 5).Ready it ∧ (it.w 6).toNat = 262 ∧ (chn 127 5).chMode 127 = 5) ∧
    (hart true).hartWait 15 = some ⟨0x1215, item 0x12 [] 127, .waiting, false, 0, [], none, none⟩ ∧
    ((hart true).facet 15).hart = some ⟨0, 0, 7, 0, true, true, 0, []⟩ ∧
    0 + ((hart true).own Cf.FCT_HART_RTMO 143).toNat * 1000000 ≤ (hart true).mer.base ∧
    ((hart false).facet 15).hart = some ⟨0, 0, 7, 0, true, false, 0, []⟩ ∧ s0.hartWait 15 = none := by
  unfold State.Ready; and_intros <;> decide +kernel

/-- Channel 127 as AI_V and AI_I, AO_I and AO_V, with a measurement on each side of each limit. -/
theorem witness_AnalogConditionsComplete :
    (∀ m ∈ [1, 2],
      let s := chn 127 m;
      let t := { s with fct := { s.fct with own := tabSet cfgDefault s.fct.own (cfgKey 0x12 127 Cf.FCT_AI_OPENDET.fld 0) 1 } };
      isAI (t.ownMode 127) = true ∧ t.own Cf.FCT_AI_OPENDET 127 = 1 ∧ (t.chan 127).openw = false) ∧
    (Fl.lt (f32 0x41266666) (f32 0x41300000) = true ∧ Fl.lt (f32 0x41200000) (f32 0x41266666) = true) ∧
    (let edge := (chn 127 2).own Cf.FCT_AI_OPENI 127;
      Fl.lt (f32 0) (f32 edge) = true ∧ Fl.le (Fl.add fmt32 (f32 edge) (f32 0x3DCCCCCD)) (f32 0x41A00000) = true) ∧
    (let s := chn 127 4 (fun c => { c with drv := 0x41A00000 });
      isAOI (s.ownMode 127) = true ∧ (s.chan 127).openw = false ∧ (s.chan 127).comp = false ∧
      Nat.max 500 (Nat.min 2700 (2450 + 250)) = 2700 ∧ Nat.max 500 (Nat.min 2700 (2449 + 250)) ≠ 2700 ∧
      Fl.lt (Fl.ofRat fmt64 1 20) (Fl.sub fmt64 (f32 (s.chan 127).drv) (f32 0)) = true ∧
      Fl.le (f32 0x3F800000) (f32 (s.chan 127).drv) = true ∧ Fl.lt (f32 0) (f32 0x3E4CCCCD) = true ∧
      Fl.le (f32 0x3E4CCCCD) (f32 0x3E4CCCCD) = true ∧
      Fl.lt (Fl.ofRat fmt64 1 20) (Fl.sub fmt64 (f32 (s.chan 127).drv) (f32 0x41A00000)) = false ∧
      Fl.lt (Fl.ofRat fmt64 1 20) (Fl.sub fmt64 (f32 0x41A00000) (f32 (s.chan 127).drv)) = false) ∧
    ((chn 127 6).ownMode 127 = 6 ∧ ((chn 127 6).chan 127).ovl = false) := by
  decide +kernel
/-- The module with loop 255 enabled, in a state. -/
def loopS (f : LoopSt → LoopSt) : State :=
  let s := s0.setCf Cf.TAN_ENABLE 255 0 1
  s.setLoop 255 (f (s.loop 255))

/-- A sample, between its tick and its hand-off. -/
def samp (ready done : Bool) (drive : Option Word) : Sample := ⟨0, ready, 0, 0, 0, done, drive, none, none⟩

/-- Loop 255 without a sample, with one in each of its phases, in MANUAL and injecting. -/
theorem witness_TangentCompletes :
    (s0.engOn = true ∧ (s0.loop 0).tickN ≤ tickOf s0.timeT) ∧
    (((loopS (fun p => { p with samp := some (samp false false none) })).loop 255).samp = some (samp false false none) ∧
      (samp false false none).ready = false ∧ s0.timeT ≤ s0.deadline 255 (samp false false none)) ∧
    (let x : Sample := { samp true false none with t := -4294967296000000000 }; let s := loopS (fun p => { p with samp := some x });
      let d := s.tn Cf.TAN_DEADLINE 255
      (s.loop 255).samp = some x ∧
        x.t + ((if d = 0 then s.tn Cf.TAN_PERIOD 255 else d) * 1000 : Nat) * 4294967296 ≤ s.timeT) ∧
    (let s := loopS (fun p => { p with samp := some (samp true false none) });
      s.engOn = true ∧ s.unitsBusy < 4 ∧ s.nextEval = some (255, samp true false none) ∧
      s.timeT ≤ s.deadline 255 (samp true false none)) ∧
    (((loopS (fun p => { p with samp := some (samp true true (some 7)) })).loop 255).samp = some (samp true true (some 7)) ∧
      (samp true true (some 7)).done = true ∧ (samp true true (some 7)).drive = some 7 ∧ (samp true true none).drive = none) ∧
    (let s := loopS id;
      s.Ready (item 7 [2] 255) ∧ s.loopEn 255 = true ∧ isNan32 (0x3F800000 : Word) = false ∧ (s.loop 255).st ≠ 5 ∧
      (s.loop 255).ramp = false) ∧
    (((loopS id).setCf Cf.TAN_OUT_DST 0 0 0x300000FF).setCf Cf.TAN_ENABLE 0 0 1).named 255 = true ∧
    (let s := loopS (fun p => { p with st := 7 });
      s.Ready (item 7 [0x3F800000] 255) ∧ s.loopEn 255 = true ∧ (s.loop 255).st = 7) ∧
    (let s := loopS (fun p => { p with st := 7 });
      let it := item 7 [0x00010121, 0, 0, 0, 4000000000, 1] 255;
      s.Ready it ∧ bitsOf (it.w 3) 4 2 = 2 ∧ bitsOf (it.w 3) 0 2 = 1 ∧ bitsOf (it.w 3) 16 8 ≠ 0 ∧ bitsOf (it.w 8) 0 15 ≠ 0 ∧
      (it.w 7).toNat = 4000000000 ∧ isNan32 (it.w 4) = false ∧ pointOk (s.loop 255).st 2 = true ∧ (s.loop 255).inj = none ∧
      (s.loop 255).reqs.any (fun r => r.kind == 3 && s.reqLives r) = false ∧ bitOf (it.w 3) 8 = true ∧ s.capsOpen < 16) ∧
    ((loopS (fun p => { p with inj := some ⟨0, 0, false, 0, 0, 0, 0, 1, 1, 0, 0, 0, 0, false⟩ })).loop 255).inj.isSome = true := by
  unfold State.Ready; and_intros <;> decide +kernel

/-- Track 15 in RUN at its time-out, slot 7 armed for tick 0, and a token outstanding. -/
def locus : State :=
  let s := ((s0.setF Fld.LOC_TSTAT_STATE 15 0 1).setF Fld.LOC_SCHED_CTRL_STATE 7 0 1).setF Fld.LOC_SCHED_CTRL_GROUP 7 0 65535
  let t := s.setTrack 15 { s.track 15 with entry := [0, 1, 0, 0] }
  { t with loc := { t.loc with tokens := [⟨3, 15, 1, false⟩] } }

theorem witness_LocusEventsComplete :
    (locus.engOn = true ∧ locus.loc.lastN ≤ locTickOf locus.timeT) ∧
    (locus.trkState 15 = 1 ∧ ((locus.track 15).entry.getD 1 0).toNat = 1 ∧
      ((locus.track 15).entry.getD 1 0).toNat ≤ locus.fld Fld.LOC_ELAPSED_TICKS 15 0 + 1) ∧
    locus.slotDue 7 (locTickOf locus.timeT) = true ∧
    (locus.slotOfGroup 65535 (stTime ⟨0, 0⟩) = some 7 ∧ stTime ⟨0, 0⟩ ≤ locus.slotTR 7) ∧
    locus.slotOfGroup 1 (stTime ⟨0, 0⟩) = none ∧
    locus.loc.tokens.find? (fun x => x.no == 3) = some ⟨3, 15, 1, false⟩ := by
  decide +kernel

/-- Commands of track 15 and counter 1023; a schedule of this module and another. -/
theorem witness_LocusItemsComplete :
    s0.Ready (item 8 [] 15) ∧
    (let it := item 8 [0x10000, 999900000, 0, 0x20002, w32 (s0.device + 1024 * ((s0.device + 1) % 1024))] 15;
      s0.Ready it ∧ s0.armFormat it = 0) ∧
    (s0.Ready (item 8 [255] 1023) ∧ ((item 8 [255] 1023).w 3).toNat = 255) ∧ ((item 8 [1] 1023).w 3).toNat = 1 := by
  unfold State.Ready; and_intros <;> decide +kernel

/-- The module with Lattice in a state, on a program that runs timer 511 as TON. -/
def lattice (st : Nat) : State :=
  let s := (s0.setCf Cf.LAT_PROGRAM 0 0 0x610001FF).setCf Cf.LAT_PROGRAM 0 1 0xFC000000
  let t := s.setF Fld.LAT_STATUS_STATE 0 0 st
  { t with lat := { t.lat with mem := { t.lat.mem with tim := [(511, ⟨0, false, true, true⟩)] } } }

/-- The module with item `it` waiting, and Lattice in a state with `it` behind each request. -/
def latAsked (it : Item) (st : Nat) : State :=
  let s := lattice st
  { s with hif := (flying it 0x0901 .waiting).hif, lat := { s.lat with stopReq := some (it.ring, it.seq) } }

theorem witness_LatticeCompletes :
    ((lattice 1).domOn 3 = true ∧ (lattice 1).sys.mode = .running ∧ (lattice 1).mirState ≠ 1 ∧ (lattice 1).mir.hold = false ∧
      gridOf (lattice 1).timeT % Nat.max 1 ((lattice 1).cfN Cf.LAT_SCAN_PERIOD 0 / 50) = (lattice 1).cfN Cf.LAT_PHASE 0 ∧
      (lattice 1).lat.lastN ≤ gridOf (lattice 1).timeT) ∧
    (let s := lattice 1; let x := tget timIdle s.lat.mem.tim 511; let d := if s.lat.first then 0 else s.cfN Cf.LAT_SCAN_PERIOD 0;
      let pt := (s.cf Cf.LAT_TPRE 0 511).toNat;
      s.latWords.find? (fun w => latSp w == 4 && latAd w == 511 && (0x18 ≤ latOp w && latOp w ≤ 0x1A)) = some 0x610001FF ∧
      s.fld Fld.LAT_STATUS_STATE 0 0 = 1 ∧ x.run = true ∧ pt ≤ x.et + d ∧ (timStep (latOp 0x610001FF) x true d pt).q ≠ x.q) ∧
    ((lattice 3).Ready (item 9 [1, 2047, 0]) ∧ 2047 < patchMax 1 ∧ (lattice 3).fld Fld.LAT_STATUS_STATE 0 0 = 3) ∧
    (let s := (lattice 1).setCf Cf.LAT_CMPDEF 0 (4 * 1023) 0x80000000;
      s.Ready (item 9 [4, 1023, 0]) ∧ bitOf (s.cf Cf.LAT_CMPDEF 0 (4 * 1023)) 31 = true ∧ isNan32 (0 : Word) = false ∧
      s.fld Fld.LAT_STATUS_STATE 0 0 = 1 ∧ s.lat.patches.length < 64 ∧ 1023 < patchMax 4) ∧
    ((lattice 1).Ready (item 9 [1]) ∧ (lattice 1).reqItem (lattice 1).lat.stopReq = none) ∧
    ((latAsked (item 9 []) 1).reqItem (latAsked (item 9 []) 1).lat.stopReq = some (item 9 []) ∧
      (latAsked (item 9 []) 1).fld Fld.LAT_STATUS_STATE 0 0 = 1) ∧
    ((lattice 2).Ready (item 9 []) ∧ (lattice 2).fld Fld.LAT_STATUS_STATE 0 0 = 2 ∧ (lattice 2).latWords ≠ [] ∧
      (lattice 2).reqItem (lattice 2).lat.startReq = none) ∧
    (let s := ((lattice 3).setF Fld.MIR_STATUS_STATE 0 0 4).setF Fld.LAT_STATUS_PROG_DIFF 0 0 1;
      s.Ready (item 9 [1]) ∧ s.fld Fld.LAT_STATUS_STATE 0 0 = 3 ∧ s.reqItem s.lat.shadowReq = none ∧ s.mirState = 4 ∧
      s.bit Fld.LAT_STATUS_PROG_DIFF 0 0 = true) ∧
    ((lattice 4).Ready (item 9 [0]) ∧ (lattice 4).fld Fld.LAT_STATUS_STATE 0 0 = 4) := by
  unfold State.Ready; and_intros <;> decide +kernel

/-- Generator 31 in a state, as changed. -/
def arc (st : Nat) (f : GenSt → GenSt := id) : State :=
  let s := (s0.setCf Cf.ARC_EN 31 0 1).setF Fld.ARC_GSTAT_STATE 31 0 st
  s.setGen 31 (f (s.gen 31))

theorem witness_ArcCompletes :
    ((arc 2).arcOn = true ∧ (arc 2).genState 31 = 2 ∧ ((arc 2).gen 31).stopAt = 0 ∧ ((arc 2).gen 31).phased = false) ∧
    ((arc 2 (fun x => { x with phased := true })).arcOn = true ∧ (arc 2 (fun x => { x with phased := true })).genState 31 = 2 ∧
      ((arc 2 (fun x => { x with phased := true })).gen 31).phased = true) ∧
    (let s := arc 2 (fun x => { x with stopAt := 2 });
      s.genState 31 = 2 ∧ (s.gen 31).phased = false ∧ (s.gen 31).stopAt = 2) ∧
    (let s := arc 2 (fun x => { x with stopAt := 1, stopItem := some (0, 0) });
      let t := { s with hif := (flying (item 0xA [] 31) 0x0A02 .waiting).hif };
      (t.gen 31).stopAt = 1 ∧ (t.reqItem (t.gen 31).stopItem).isSome = true) ∧
    (let s := (arc 2 (fun x => { x with eOn := 16, eOff := 32 })).wr Reg.ARC_PER 31 0 4;
      (s.gen 31).hasEdge (s.genPeriod 31 * 16) true = true ∧ (s.gen 31).hasEdge (s.genPeriod 31 * 16) false = true) ∧
    (let s := arc 2; let it := item 0xA [3, 100, 0, 800] 31;
      s.Ready it ∧ s.clkOn 3 = true ∧ (it.w 3).toNat ≤ 3 ∧ bitOf (it.w 3) 0 = true ∧ bitOf (it.w 3) 1 = true ∧
      s.gf 31 Cf.ARC_DUTY_SRC ≠ 1 ∧ s.gf 31 Cf.ARC_EN ≠ 0 ∧ s.isSlave 31 = false ∧ (s.gen 31).shPer = none ∧
      (s.gen 31).shCmp = none) ∧
    ((arc 0).Ready (item 0xA [0] 31) ∧ (arc 0).clkOn 3 = true ∧ (arc 0).isSlave 31 = false ∧ (arc 0).gf 31 Cf.ARC_EN ≠ 0 ∧ (arc 0).genState 31 = 0) ∧
    (let it := item 0xA [1, 10000] 31; ((it.w 4).toNat < 1000000000 ∧
      (arc 0).timeT + 10000 * 4294967296 ≤ (arc 0).fullTime (it.w 5) (it.w 4))) ∧
    ((arc 2).Ready (item 0xA [1] 31) ∧ (arc 2).isSlave 31 = false ∧ (arc 2).gf 31 Cf.ARC_EN ≠ 0 ∧
      (arc 2).genState 31 = 2 ∧ (arc 2).reqItem ((arc 2).gen 31).stopItem = none) ∧
    (let s := arc 1 (fun x => { x with resume := true });
      s.arcOn = true ∧ s.genState 31 = 1 ∧ (s.gen 31).armT ≤ s.timeT ∧ (s.gen 31).resume = true) ∧
    (let s := arc 1 (fun x => { x with startItem := some (0, 0) });
      let t := { s with hif := (flying (item 0xA [] 31) 0x0A01 .waiting).hif };
      t.genState 31 = 1 ∧ (t.gen 31).armT ≤ t.timeT ∧ (t.gen 31).resume = false ∧
      t.reqItem (t.gen 31).startItem = some (item 0xA [] 31)) ∧
    s0.Ready (item 0xA []) := by
  unfold State.Ready; and_intros <;> decide +kernel
/-- An item of queue 0 in a phase, and the module with it in Vertex and core 3 enabled. -/
def work (p : VtxPhase) : VtxItem := ⟨0, 144, none, 0, 0, 0, 0, 0, 0, 0, 0, true, 0, p⟩

def vertex (p : VtxPhase) (dep : Word) : State :=
  let s := ((s0.setCf Cf.VTX_Q_CORES 0 0 8).setCf Cf.VTX_Q_MODE 0 0 dep).setF Fld.VTX_CORE_CTRL_ENABLE 3 0 1
  s.setVtx { s.tr.vtx with items := [work p] }

theorem witness_VertexCompletes :
    ((vertex .waiting 1).isDep 0 = true ∧ (vertex .waiting 1).depCnt 0 ≤ 0 ∧
      (vertex .waiting 1).tr.vtx.items.any (fun i => i.queue == 0 && i.phase == .waiting) = true) ∧
    ((vertex .waiting 0).tr.vtx.running = true ∧ ((vertex .waiting 0).vtxBest [] (vertex .waiting 0).tr.vtx.items).isSome = true) ∧
    ((vertex (.inService 3) 0).domOn 3 = true ∧ (vertex (.inService 3) 0).tr.vtx.items.find?
      (fun i => i.phase == .inService 3 && i.handle == bitsOf 0x10000 0 16) = some (work (.inService 3))) ∧
    (s0.bit Fld.VTX_CORE_CTRL_ENABLE 3 0 = false ∧ (s0.coreCtrl 3 0x10000400).coreCheck 3 = 0 ∧
      (s0.coreCtrl 3 0x10000D00).coreCheck 3 ≠ 0) ∧
    (((0 : Word) - s0.rd Reg.VTX_CORE_CI 3 0).toNat < 2147483648 ∧
      (s0.rd Reg.VTX_CORE_PI 3 0 - 0).toNat ≤ 2 ^ s0.fld Fld.VTX_CORE_CTRL_SIZE_LOG2 3 0) ∧
    ((s0.setF Fld.VTX_CORE_COAL_TIME 3 0 1).fld Fld.VTX_CORE_COAL_TIME 3 0 ≠ 0 ∧
      tget 0 ({ vtxReset with unsig := [(3, 1)] } : VtxSt).unsig 3 ≠ 0) ∧
    (s0.Ready (item 6 [] 144) ∧ s0.Ready (item 6 [] 255)) ∧
    ((s0.setCf Cf.VTX_Q_MODE 63 0 1).Ready (item 6 [] 63) ∧ (s0.setCf Cf.VTX_Q_MODE 63 0 1).isDep 63 = true ∧
      signalOk 0xFFFF8000 = true) := by
  unfold State.Ready; and_intros <;> decide +kernel

/-- Ring 2 a STREAM ring; Prism with a part replaced. -/
def prism (f : PrmSt → PrmSt) : State := s0.setPrm (f s0.prm)

def streamRing : State :=
  ((rings.setF Fld.HIF_CQ_CTRL_TYPE 2 0 2).setF Fld.HIF_CQ_CTRL_ENABLE 2 0 1).setF Fld.HIF_CQ_STAT_STATE 2 0 1

/-- A record of unit 15 that has all its samples. -/
def fullRec : RecSt := ⟨1, 15, 0, 0, 0, true, 1, 0, false, [0], 0, 1⟩

theorem witness_PrismEventsComplete :
    (let s := streamRing.setCf Cf.PRM_STREAM_RING 144 0 2;
      s.cfN Cf.PRM_STREAM_RING 144 = 2 ∧ s.prmOn = true ∧ s.streamUp 2 = true) ∧
    (prism (fun p => { p with fires := [(15, 7)] })).prm.fires.find? (fun x => x.1 == 15) = some (15, 7) ∧
    (({ s0 with fct := { s0.fct with toPrm := [⟨0, 127, 0, 0, 0, 0⟩] } } : State).fct.toPrm = [⟨0, 127, 0, 0, 0, 0⟩] ∧
      s0.prmOn = true) ∧
    (let s := (prism (fun p => { p with recs := [fullRec] })).setF Fld.PRM_USTAT_STATE 15 0 2;
      s.prm.recs.find? (fun r => r.unit == 15 && r.trigT == (s.unit 15).trigT) = some fullRec ∧
      s.fld Fld.PRM_USTAT_STATE 15 0 = 2 ∧ fullRec.full = true) ∧
    (let s := (s0.setF Fld.PRM_USTAT_STATE 15 0 3).setCf Cf.PRM_HO_VALUE 143 0 0;
      s.fld Fld.PRM_USTAT_STATE 15 0 = 3 ∧ s.hoDone 15 = true) ∧
    (let a := (s0.setF Fld.PRM_USTAT_STATE 15 0 1).setCf Cf.PRM_TRG_SRC 143 0 0x40000000;
      let s := a.setUnit 15 { a.unit 15 with armT := -1 };
      s.prmOn = true ∧ s.trgKind 15 = 4 ∧ s.fld Fld.PRM_USTAT_STATE 15 0 = 1 ∧ (s.unit 15).armT ≠ 0 ∧ (s.unit 15).armT ≤ s.timeT) ∧
    (let s := { prism (fun p => { p with opn := some ⟨4095, 0, 0, 0, 0⟩ }) with mer := { s0.mer with base := 10000 } };
      s.prm.opn = some ⟨4095, 0, 0, 0, 0⟩ ∧ 0 + 10000 ≤ s.mer.base) ∧
    (let s := { (prism (fun p => { p with chg := [(4095, ⟨true, 0, 0, 0⟩)] })).setCf Cf.PRM_CO_CTRL 145 4095 0x80000001 with
        mer := { s0.mer with base := 1000000 } };
      s.prmOn = true ∧ bitOf (s.coCtrl 4095) 31 = true ∧ (tget chgNone s.prm.chg 4095).has = true ∧ s.maxintDue 4095 = true) ∧
    (let r : RedSt := ⟨1, 0, false, 0, f32 0, f32 0, f32 0, f32 0, 0⟩;
      let s := { prism (fun p => { p with red := [(4 * 4095 + 3, some r)] }) with mer := { s0.mer with base := 2000000 } };
      tget none s.prm.red (4 * 4095 + 3) = some r ∧ s.prmOn = true ∧ r.ends + 1000000 * 4294967296 ≤ s.timeT) ∧
    (let c : CapRec := ⟨255, 1, [], false, 0, 0, 0⟩; let x : CapIn := ⟨255, 1, 0, 0, 0, 0, 0, false⟩;
      let s := { prism (fun p => { p with caps := [c] }) with tan := { s0.tan with capt := [x] } };
      s.tan.capt = [x] ∧ s.prmOn = true ∧ s.prm.caps.find? (fun c => c.loop == x.loop && c.no == x.recNo) = some c ∧
      x.last = false ∧ c.trunc = false ∧ c.entries.length + 1 < 1048576) ∧
    (let c : CapRec := ⟨255, 1, [], false, 0, 0, 0⟩; let x : CapIn := ⟨255, 1, 0, 0, 0, 0, 0, true⟩;
      let s := { prism (fun p => { p with caps := [c] }) with tan := { s0.tan with capt := [x] } };
      s.tan.capt = [x] ∧ s.prm.caps.find? (fun c => c.loop == x.loop && c.no == x.recNo) = some c ∧ x.last = true) := by
  decide +kernel

theorem witness_PrismItemsComplete :
    (let s := s0.setCf Cf.PRM_TRG_SRC 143 0 0x40000000; let it := item 0xB [10000] 15;
      s.Ready it ∧ s.fld Fld.PRM_USTAT_STATE 15 0 = 0 ∧ s.trgKind 15 = 4 ∧ (it.w 3).toNat < 1000000000 ∧
      s.timeT + 10000 * 4294967296 ≤ s.fullTime (it.w 4) (it.w 3)) ∧
    ((s0.setF Fld.PRM_USTAT_STATE 15 0 1).Ready (item 0xB [] 15) ∧
      (s0.setF Fld.PRM_USTAT_STATE 15 0 1).fld Fld.PRM_USTAT_STATE 15 0 = 1) ∧
    (let s := prism (fun p => { p with kept := [(7, 0, 32)] });
      s.Ready (item 0xB [7]) ∧ s.prm.kept.find? (fun k => k.1 == (item 0xB [7]).w 3) = some (7, 0, 32)) ∧
    (let s := prism (fun p => { p with hist := [(127, some ⟨0, 1024, 1, 0, 0, []⟩)] });
      s.Ready (item 0xB [0, 0, 1048576] 127) ∧ tget none s.prm.hist 127 = some ⟨0, 1024, 1, 0, 0, []⟩) := by
  unfold State.Ready; and_intros <;> decide +kernel

/-- Helix with a part replaced. -/
def helix (f : HlxSt → HlxSt) : State := s0.setHlx (f s0.tr.hlx)

theorem witness_HelixCompletes :
    (s0.tr.hlx.running = true ∧ s0.tr.hlx.drop = none) ∧
    (helix (fun h => { h with drop := some ⟨1, 0, 0⟩ })).tr.hlx.drop = some ⟨1, 0, 0⟩ ∧
    (streamOut (s0.cfN Cf.HLX_NOTIFY_RING 0) s0.tr.hlx.stream s0).tr.hlx.streamLoss = none ∧
    (let s := helix (fun h => { h with streamLoss := some ⟨1, 0, 0⟩ });
      let t := streamOut (s.cfN Cf.HLX_NOTIFY_RING 0) s.tr.hlx.stream s;
      t.tr.hlx.streamLoss = some ⟨1, 0, 0⟩ ∧ t.tr.hlx.stream.length < 256) ∧
    ({ s0 with mer := { s0.mer with base := 1000000000000 } } : State).freezeOver = true ∧
    (let r : HlxRec := ⟨0x0040, 0, 0, 0, 0, 5, 0, 0, 0, 0⟩; let s := helix (fun h => { h with log := [r] });
      let it := item 0xC [0, 5, 16384, 0, 0, 64];
      s.Ready it ∧ (it.w 5).toNat = 16384 ∧
        (recsFrom (it.w 4) s.tr.hlx.log).take (Nat.min (it.w 5).toNat ((it.w 8).toNat / 32)) = [r]) ∧
    (let it := item 0xC [1, 0, 1]; s0.Ready it ∧ (it.w 3).toNat = 1 ∧
      (recsFrom (it.w 4) s0.tr.hlx.ffRegion).take (Nat.min (it.w 5).toNat ((it.w 8).toNat / 32)) = []) ∧
    (s0.Ready (item 0xC []) ∧ s0.tr.hlx.frozen = none) ∧
    (let s := helix (fun h => { h with frozen := some ⟨0, 0, 0⟩ }); s.Ready (item 0xC []) ∧ s.tr.hlx.frozen.isSome = true) ∧
    (let s := helix (fun h => { h with ff := .latched }); s.Ready (item 0xC []) ∧ s.tr.hlx.ff = .latched) := by
  unfold State.Ready; and_intros <;> decide +kernel
/-- CAN controller 3 in NORMAL, with the frame of an item in entry 5, as changed. -/
def can (f : CanCtl → CanCtl) : State :=
  let s := (flying (item 0xE [0x123] 3) 0x0E00 .waiting).setF Fld.CAN_STAT_MODE 3 0 1
  s.setCan 3 (f { canIdle with frames := [⟨5, 0, 0, 0x123, 0, [], 0⟩] })

theorem witness_CanCompletes :
    (let it := item 0xE [0x123, 0x100] 3;
      let s := s0.setF Fld.CAN_STAT_MODE 3 0 1;
      s.Ready it ∧ canTxBad it = none ∧ s.canMode 3 = 1 ∧ s.standby = false ∧
        bitOf (it.w 4) 8 = true ∧ freeEntry (s.canFrames 3) 64 8 = some 64 ∧ freeEntry (s.canFrames 3) 0 64 = some 0) ∧
    (s0.Ready (item 0xE [3] 3) ∧ s0.Ready (item 0xE [] 0)) ∧
    ((can id).canSends 3 = true ∧ ((can id).canc 3).att = none ∧ canNext ((can id).canFrames 3) = some ⟨5, 0, 0, 0x123, 0, [], 0⟩) ∧
    (let s := can (fun c => { c with att := some 5 });
      s.canSends 3 = true ∧ s.canUp = true ∧ (s.canc 3).att = some 5 ∧
      (s.canc 3).frames.find? (fun f => f.entry == 5) = some ⟨5, 0, 0, 0x123, 0, [], 0⟩) ∧
    ((can id).canUp = true ∧ (can id).canMode 3 ≠ 0 ∧ (can id).canErr 3 < 2 ∧
      ((can id).setCf Cf.CAN_RX_OWN 3 0 1).cf Cf.CAN_RX_OWN 3 0 = 1) ∧
    (let s := (streamRing.setCf Cf.CAN_RX_RING 3 0 2).setCan 3 { canIdle with rx := [⟨0, 7, 0, ⟨0, 0⟩, 0x123, 0, []⟩] };
      (s.canc 3).rx = [⟨0, 7, 0, ⟨0, 0⟩, 0x123, 0, []⟩] ∧ s.canUp = true ∧ s.cfN Cf.CAN_RX_RING 3 = 2 ∧ s.streamUp 2 = true ∧
      (canEntries 3 ⟨0, 7, 0, ⟨0, 0⟩, 0x123, 0, []⟩).length ≤ s.cqFree 2) ∧
    (let s := (s0.setF Fld.CAN_STAT_ERRSTATE 3 0 2).setF Fld.CAN_BUSOFF_HOLD 3 0 1;
      s.canUp = true ∧ s.canErr 3 = 2 ∧ s.bit Fld.CAN_BUSOFF_HOLD 3 0 = true) ∧
    ((s0.setF Fld.CAN_STAT_ERRSTATE 3 0 3).canErr 3 = 3 ∧ (s0.setF Fld.CAN_STAT_ERRSTATE 3 0 3).canUp = true) := by
  unfold State.Ready; and_intros <;> decide +kernel

/-- A frame of 64 bytes, of EtherType `ty`. -/
def ethFrame (ty : Nat) : List Byte :=
  List.replicate 12 0 ++ [BitVec.ofNat 8 (ty / 256), BitVec.ofNat 8 (ty % 256)] ++ List.replicate 50 0

/-- The same with a PRP trailer: sequence number 5, LAN A. -/
def prpFrame : List Byte := List.replicate 60 0 ++ [0, 5, 0xA0, 0x34, 0x88, 0xFB]

/-- Port 1 up and PROMISC, PRP as given; a frame of an item started on port 1. -/
def eth (prp : Word) (data : List Byte) : State :=
  let s := (((flying (item 0xD []) 0x0D00 .waiting).setF Fld.ETH_PSTAT_LINK 1 0 1).setCf Cf.ETH_PROMISC 1 0 1).setCf Cf.ETH_PRP 2 0 prp
  { s with eth := { s.eth with tx := [⟨0, 0, 2, 0, 2, data, ⟨0, 0⟩, none⟩] } }

theorem witness_EthernetCompletes :
    (let it := item 0xD [2, 2038]; let s := s0.setCf Cf.ETH_PRP 2 0 1;
      s.Ready it ∧ it.inst = 0 ∧ s.prpOn = true ∧ (it.w 3).toNat = 2 ∧ (it.w 4).toNat = 2038 ∧
        (s.ethQueue 0).length < 256 ∧ (s.ethQueue 1).length < 256) ∧
    (let it := item 0xD [1, 14]; s0.Ready it ∧ inMask (portMask 1) 1 = true ∧ (s0.ethQueue 1).length < 256 ∧ (it.w 4).toNat = 14) ∧
    (s0.Ready (item 0xD [3]) ∧ (item 0xD [3]).inst = 0) ∧
    (((eth 0 (ethFrame 0x800)).ethClean.ethQueue 1).find? (fun f => inMask f.started 1) =
        some ⟨0, 0, 2, 0, 2, ethFrame 0x800, ⟨0, 0⟩, none⟩ ∧ ptpAt (ethFrame 0x800) = none) ∧
    (((eth 0 (ethFrame 0x88F7)).ethClean.ethQueue 1).find? (fun f => inMask f.started 1) =
        some ⟨0, 0, 2, 0, 2, ethFrame 0x88F7, ⟨0, 0⟩, none⟩ ∧ ptpAt (ethFrame 0x88F7) = some 14) ∧
    ((eth 0 []).domOn 5 = true ∧ (eth 0 []).ethUp 1 = true ∧ ¬(addr48 (ethFrame 0x800) 0 = pauseAddr ∧ half (ethFrame 0x800) 12 = 0x8808) ∧
      (eth 0 []).ethAccepts 1 (ethFrame 0x800) = true ∧ (eth 0 []).prpOn = false) ∧
    ((eth 1 []).ethAccepts 1 prpFrame = true ∧ (eth 1 []).prpOn = true ∧ trailerOf prpFrame = some (5, 10)) ∧
    (let s := (streamRing.setCf Cf.ETH_RX_RING 1 0 2).setEthp 1 { ethIdle with rx := [⟨0, 7, 0, ⟨0, 0⟩, 0, 0, [1]⟩] };
      (s.ethp 1).rx = [⟨0, 7, 0, ⟨0, 0⟩, 0, 0, [1]⟩] ∧ s.ethRing 1 = 2 ∧ s.streamUp 2 = true ∧
      (ethEntries 1 ⟨0, 7, 0, ⟨0, 0⟩, 0, 0, [1]⟩).length ≤ s.cqFree 2) ∧
    (let s := (eth 1 []).setCf Cf.ETH_PRP_SUP 2 0 1; s.domOn 5 = true ∧ s.prpOn = true ∧ s.cf Cf.ETH_PRP_SUP 2 0 = 1) ∧
    (s0.ethUp 1 = false ∧ s0.domOn 5 = true ∧ s0.clkOn 7 = true) := by
  unfold State.Ready; and_intros <;> decide +kernel

/-- Meridian with a part replaced. -/
def mer (f : MerSt → MerSt) : State := { s0 with mer := f s0.mer }

theorem witness_MeridianCompletes :
    (let s := mer (fun m => { m with hist1 := [⟨0, 0, 0, none⟩], hist2 := [⟨0, 0, 0, none⟩] });
      s.alive = true ∧ s.fullTime (s.rd Reg.MER_OFS_TSEC 1 0) (s.rd Reg.MER_OFS_TNS 1 0) ≤ s.timeT ∧
      s.timeT - 2000000000 * oneNs ≤ s.fullTime (s.rd Reg.MER_OFS_TSEC 1 0) (s.rd Reg.MER_OFS_TNS 1 0) ∧
      dAt (s.fullTime (s.rd Reg.MER_OFS_TSEC 1 0) (s.rd Reg.MER_OFS_TNS 1 0)) s.timeT (s.mer.offA - s.mer.offT) s.mer.hist1 = some 0 ∧
      dAt (s.fullTime (s.rd Reg.MER_OFS_TSEC 2 0) (s.rd Reg.MER_OFS_TNS 2 0)) s.timeT (s.mer.offB - s.mer.offT) s.mer.hist2 = some 0) ∧
    (∀ x ∈ [0, 1, 2], ∀ st ∈ [1, 2, 3],
      let s := mer (fun m => ({ m with base := 1000000000000000000 } : MerSt).setSv x { m.sv x with state := st });
      (s.mer.sv x).state = st ∧ s.cfN Cf.MER_HOLD_TMO x * 1000000 ≤ s.mer.base - (s.mer.sv x).lastBase.getD 0 ∧
      s.cfN Cf.MER_HOLD_MAX x * 1000000000 ≤ s.mer.base - (s.mer.sv x).lastBase.getD 0) ∧
    (let s := mer (fun m => { m with switching := true, active := 3 });
      s.mer.switching = true ∧ isPtp s.mer.active = true ∧ s.mer.offT = s.mer.offOf s.mer.active) ∧
    (s0.Ready (item 5 [999999999, 0, 0]) ∧ ((item 5 [999999999, 0, 0]).w 3).toNat < 1000000000 ∧ s0.mer.active = 0) := by
  unfold State.Ready; and_intros <;> decide +kernel
/-- The module strapped as MANAGER, GATEWAY or ALONE, ring 31, with port `p` UP. -/
def strapped (role p : Nat) : State :=
  ((s0.setF Fld.SYS_STRAP_ROLE 0 0 role).setF Fld.VXL_STATUS_RING 0 0 31).setF Fld.VXL_PORT_STATE p 0 2

/-- A frame from device 1023. -/
def frame (ty kind hops : Nat) : Frame := ⟨ty, false, hops, 1023, 0, kind, 7, 0, [1, 2, 3, 4, 5]⟩

theorem witness_VexlinkLinksComplete :
    ((strapped 2 3).portOn 3 = true ∧ (strapped 2 0).portOn 2 = true ∧
      ({ s0 with vxl := { s0.vxl with badRun := tset 0 s0.vxl.badRun 3 0 } } : State).returned 3 (frame 1 0 62) = false ∧ (frame 1 0 62).hops < 63 ∧ ¬((frame 1 0 62).ty = 3 ∧ (frame 1 0 62).kind = kMark)) ∧
    (s0.portUp 0 = false ∧ s0.portUp 3 = false ∧ (strapped 0 3).portUp 3 = true ∧ (strapped 0 2).portUp 2 = true ∧
      (strapped 0 0).portUp 0 = true) ∧
    ((strapped 2 0).isManager = true ∧ (strapped 2 0).standby = false ∧ (strapped 0 0).isManager = false ∧ 31 / 32 = 0 ∧
      s0.vxl.ringKnown = false ∧ s0.isManager = false) ∧
    (s0.returned 1 (frame 3 kMark 62) = false ∧ (strapped 2 0).portOn 1 = true ∧ (strapped 2 0).returned 1 (frame 3 kMark 62) = false ∧ (frame 3 kMark 62).hops < 63 ∧ ((tget winNone s0.vxl.win 1023).take 7).1 = true) ∧
    (let s := { s0 with vxl := { s0.vxl with win := [(1023, ⟨true, 7, 0⟩)], mark := some (0, 5) } };
      ((tget winNone s.vxl.win 1023).take 7).1 = false ∧ s.vxl.mark = some (0, 5)) := by
  decide +kernel

/-- An item from device 1023, ring 63; its ring key and a verdict under it. -/
def remoteItem : Item := { item 7 [] with ring := remoteRing 1023 63, origin := some 1023 }

def remoteLog (v : Verdict) : State :=
  { s0 with hif := { s0.hif with intake := [⟨remoteRing 1023 63, 7, v, false⟩] } }

/-- An item of ring 0 that waits for its result, as changed. -/
def sent (f : Inflight → Inflight) : State :=
  { s0 with hif := { s0.hif with inflight := [f ⟨0x0700, { item 7 [] with remote := true, device := 5 }, .waiting, false, 0, [], none, none⟩] },
            mer := { s0.mer with base := 2000000 } }

theorem witness_RemoteItemsComplete :
    (s0.standby = false ∧ s0.alive = true ∧ travels 0x0702 = true ∧ (item 7 []).block = 0x0702 / 256 ∧ s0.sys.gone = none ∧
      s0.vxl.refused.contains (1023, 63, 0) = false ∧ s0.sys.mode = .running ∧ s0.domOn 3 = true ∧
      s0.timeT ≤ stTime ⟨0, 0⟩) ∧
    (let s := { s0 with mer := { s0.mer with base := 8 } }; stTime ⟨0, 0⟩ < s.timeT ∧ s.domOn 3 = true ∧ s.sys.mode = .running) ∧
    ((domDown 3).domOn 3 = false ∧ (domDown 3).standby = false ∧ (domDown 3).alive = true) ∧
    ({ s0 with vxl := { s0.vxl with refused := [(1023, 63, 0)] } } : State).vxl.refused.contains (1023, 63, 0) = true ∧
    (∀ nt ∈ [[], [(9 : Word)]], ∃ f, (sent (fun x => { x with note := nt })).flight 0 0 = some f ∧ f.item.remote = true ∧
      f.phase = .waiting ∧ f.note = nt ∧ f.deadline + 2000000 ≤ (sent id).mer.base) ∧
    (s0.intakeOf (remoteRing 1023 63) 7 = none ∧
      (remoteLog (.applied 0)).intakeOf (remoteRing 1023 63) 7 = some ⟨remoteRing 1023 63, 7, .applied 0, false⟩ ∧
      (remoteLog (.notApplied 3)).intakeOf (remoteRing 1023 63) 7 = some ⟨remoteRing 1023 63, 7, .notApplied 3, false⟩ ∧
      (remoteLog .inFlight).intakeOf (remoteRing 1023 63) 7 = some ⟨remoteRing 1023 63, 7, .inFlight, false⟩) := by
  decide +kernel

theorem witness_CyclicExchangeCompletes :
    ((strapped 2 0).isAlone = false ∧ (strapped 2 0).domOn 3 = true) ∧
    (s0.takesScan 0 = false ∧ (let s := (strapped 3 0).setF Fld.VXL_STATUS_JSTATE 0 0 2; s.takesScan 5 = true)) ∧ 16 ≤ ({ s0.vxl with silent := 16 } : VxlSt).silent ∧
    ((strapped 2 0).isManager = true ∧ (strapped 2 0).standby = false) ∧
    (let s := { (strapped 3 0).setCf Cf.VXL_DEVICE_ID 4 0 1023 with mer := { s0.mer with sv0 := { s0.mer.sv0 with state := 2 } } };
      s.role = 3 ∧ s.admitted = false ∧ s.device ≠ 0 ∧ s.mer.sv0.state = 2) ∧
    ((strapped 3 0).role = 3 ∧ (strapped 3 0).admitted = false ∧ (strapped 3 0).device = 0) ∧
    (let s := { strapped 2 0 with vxl := { s0.vxl with members := [5], presence := [(5, 1000000)] } };
      s.isManager = true ∧ s.standby = false ∧ s.vxl.members.contains 5 = true ∧
      s.cfN Cf.VXL_MISS_LEAVE 4 ≤ tget 0 s.vxl.presence 5) := by
  decide +kernel

theorem witness_VexlinkItemsComplete :
    (let s := s0.setCf Cf.VXL_CT_DEF 5 4095 0x20000000;
      s.Ready (item 0xF [0, 15] 4095) ∧ s.ctKind 4095 = 2 ∧ qualityOk (bitsOf ((item 0xF [0, 15] 4095).w 4) 0 4) = true) ∧
    (let s := (strapped 3 0).setF Fld.VXL_STATUS_JSTATE 0 0 2; s.Ready (item 0xF []) ∧ s.admitted = true) ∧
    s0.Ready (item 0xF []) := by
  unfold State.Ready; and_intros <;> decide +kernel

theorem witness_MirrorCompletes :
    ((pair 1 3).mirState = 1 ∧ (pair 1 3).sys.mode = .running ∧ (pair 1 3).partnerActive = false ∧ (pair 1 3).domOn 3 = true ∧
      (pair 1 3).mir.arbAt + (pair 1 3).cfN Cf.MIR_ARB_WAIT 0 * 1000000 ≤ (pair 1 3).mer.base) ∧
    (pair 2 3).mirState = 2 ∧ (pair 2 3).inPair = true ∧ ((pair 2 3).pathDue 0 = true ∧ (pair 2 3).pathDue 1 = true) ∧
    ((pair 2 4).mir.hold = false ∧ (pair 2 4).bit Fld.MIR_STATUS_PARTNER 0 0 = true ∧ (pair 2 4).mir.partnerState = 4) ∧
    (pair 3 2).mirState = 3 ∧ ((pair 4 2).mirState = 4 ∧ (pair 4 2).cfN Cf.MIR_LAG_MAX 0 < (pair 4 2).lagUs ∧
      ((pair 4 2).cfN Cf.MIR_LAG_MAX 0 : Int) * 1000 + 10000000 ≤ nsOf ((pair 4 2).timeT - (pair 4 2).mir.lagFrom)) ∧
    (let s := { pair 2 4 with mir := { (pair 2 4).mir with waiting := true, lostAt := 0 } };
      s.mir.waiting = true ∧ s.mir.lostAt + s.fld Fld.VXL_CYCPER_US 0 0 * 1000 + 200000 ≤ s.mer.base) ∧
    ((pair 4 2).domOn 3 = true ∧ (pair 4 2).pathDue 0 = true ∧ (pair 4 2).pathDue 1 = true) := by
  decide +kernel

/-- The active member with its switch item accepted, S reached. -/
def switching (it : Item) : State := { pair 2 4 with hif := { s0.hif with inflight := [⟨0x1000, it, .waiting, true, 0, [], none, none⟩] } }

theorem witness_MirrorSwitchCompletes :
    (let s := (pair 2 4).setF Fld.MIR_STATUS_VXL_UP 0 0 1;
      let t := { s with mir := { s.mir with token := some (65535, 100000000000) } };
      t.Ready (item 0x10 [65535]) ∧ t.mirState = 2 ∧ t.partnerSynced = true ∧ t.bit Fld.MIR_STATUS_VXL_UP 0 0 = true ∧
      t.tokenOk ((item 0x10 [65535]).w 3).toNat = true) ∧
    (let s := switching (item 0x10 []);
      s.waitingOp 0x1000 = [⟨0x1000, item 0x10 [], .waiting, true, 0, [], none, none⟩] ∧ s.mirState = 2 ∧ s.sys.mode = .running ∧
      s.mir.hold = false ∧ s.mir.switchAt ≤ s.timeT) ∧
    (∀ st ∈ [2, 4], let s := { pair st 4 with mir := { (pair st 4).mir with goAt := some 0, hold := true } };
      s.mir.goAt = some 0 ∧ (0 : Int) ≤ s.timeT ∧ s.sys.mode = .running ∧ s.mirState = st ∧ s.mir.hold = true) ∧
    ((pair 3 2).Ready (item 0x10 []) ∧ (pair 3 2).mirState = 3) := by
  unfold State.Ready; and_intros <;> decide +kernel
/-- The Perimeter die in a state, as changed; slot 3 watches pair 6 and mutes on pair 7. -/
def per (st : Nat) (f : PerSt → PerSt := id) : State :=
  { s0 with per := f { s0.per with state := st, closed := 0x3000,
                                   slots := [⟨0, 0, 0, 0, 0, false, false, false, false, none, false, 0, 0, 0, 0⟩,
                                             ⟨0, 0, 0, 0, 0, false, false, false, false, none, false, 0, 0, 0, 0⟩,
                                             ⟨0, 0, 0, 0, 0, false, false, false, false, none, false, 0, 0, 0, 0⟩,
                                             ⟨5, 6, 2, 3, 0, true, false, false, false, none, false, 0, 0, 0, 0⟩] } }

theorem witness_PerimeterInputsComplete :
    (let s := per 3; let x := s.per.slot 3;
      s.per.state = 3 ∧ x.func = 5 ∧ x.st ≠ 4 ∧ x.muting = false ∧ s.per.pairPermits false x.pair = true) ∧
    (let s := { per 3 (fun p => p.setSlot 3 { p.slot 3 with muting := true }) with mer := { s0.mer with base := 60000000000 } };
      (s.per.slot 3).muting = true ∧ since s.mer.base (s.per.slot 3).muteAt 60000000000 = true) ∧
    (let s := per 3 (fun p => p.setSlot 3 ⟨2, 7, 1, 3, 0, true, false, false, false, none, false, 0, 0, 0, 0⟩);
      (s.per.claims 7).isSome = true ∧ s.per.ossd 7 = false ∧ s.per.state = 3) ∧
    (let s := { per 3 (fun p => { p with closed := 0x1000 }) with mer := { s0.mer with base := 10000000 } };
      s.per.ossd 6 = true ∧ s.per.pairOdd 6 = true ∧
        since s.mer.base (tget 0 s.per.oddAt 6) ((if s.per.ossd 6 then 10 else 500) * 1000000) = true) ∧
    (let s := { per 3 (fun p => { p.setSlot 3 ⟨2, 7, 1, 3, 0, true, false, false, false, none, false, 0, 0, 0, 0⟩ with closed := 0x4000 }) with
        mer := { s0.mer with base := 500000000 } };
      s.per.ossd 7 = false ∧ s.per.pairOdd 7 = true ∧
        since s.mer.base (tget 0 s.per.oddAt 7) ((if s.per.ossd 7 then 10 else 500) * 1000000) = true) ∧
    ((per 3).per.stuck = false ∧ (per 2).per.state = 2 ∧ (per 2).per.stuck = false) := by
  decide +kernel

theorem witness_PerimeterDieCompletes :
    (s0.per.state = 0 ∧ (per 1).per.state = 1) ∧
    ((List.range 4).any (fun k => 9 ≤ 0x8888 / 16 ^ k % 16) = false ∧ (List.range 4).any (fun k => 9 ≤ 0x9000 / 16 ^ k % 16) = true ∧
      (0x8888 : Nat) ≠ s0.per.stored ∧ (0 : Nat) = s0.per.stored ∧ (List.range 4).any (fun k => 9 ≤ 0 / 16 ^ k % 16) = false) ∧
    ((per 3).per.state = 3 ∧ 0xFFFF ≠ (per 3).per.read) ∧ ((per 1).per.state ≠ 0 ∧ (per 1).alive = true ∧ (per 1).per.lost = none ∧
      since 1000000 (per 1).per.frameAt 1000000 = true) ∧
    (s0.Ready (item 0x11 [31]) ∧ ((item 0x11 [31]).w 3).toNat ≤ 31) ∧
    ((s0.setF Fld.PER_LINK_UP 0 0 1).bit Fld.PER_LINK_UP 0 0 = true ∧ since 4000 s0.per.viewAt 4000 = true) := by
  unfold State.Ready; and_intros <;> decide +kernel

/-- A fault of severity 3 presented; cores watched and late; Lattice and Vertex watched. -/
theorem witness_FaultsComplete :
    s0.alive = true ∧ (({ s0.tr.flt with pres3 := some ⟨3, 0x3488, 0, 0, 0, 0, 0, 0⟩ } : FltSt).pres 3).isSome = true ∧
    (5 < ({ s0.cfg with staged := List.range 6 |>.map (fun k => (k, some 0)) } : CfgSt).staged.length ∧
      (pair 3 2).mirState = 3 ∧ (pair 4 2).mirState = 4) ∧
    (bitsOf 0x4B1C000F 16 16 = 0x4B1C ∧ bitsOf 0x000F 16 16 ≠ 0x4B1C) ∧
    (let s := { s0.wr Reg.FLT_WD 0 0 0xF0000001 with mer := { s0.mer with base := 1000000 } };
      s.sys.mode = .running ∧ s.lateCores ≠ 0) ∧
    (s0.engWatched 3 = true ∧ (s0.setF Fld.LAT_STATUS_STATE 0 0 1).engWatched 4 = true) := by
  decide +kernel
theorem witness_FrontCommandRuns : ({ s0 with pending := [.merSnap] } : State).pending = .merSnap :: [] := by decide +kernel

theorem witness_EmptyQueueTicks : s0.pending = [] := by decide +kernel

theorem witness_MeridianInvariant : s0.mer.Ok := by unfold MerSt.Ok Servo.Ok; decide +kernel

theorem witness_MemoriesInvariant :
    s0.MemoriesOk ∧ (withImage.MemoriesOk) ∧ withImage.flash ≠ [] := by
  unfold State.MemoriesOk; decide +kernel

/-- Commands that are no events of the Perimeter die. -/
theorem witness_PerimeterApart :
    perimeterRow (.registerWrite 0 0 true) = false ∧ perimeterRow (.hotInsertion 0) = false ∧
    perimeterRow (.perStopReq (item 0x11 [])) = false := by decide +kernel

/-- PD_NET off, before and after an access has been captured. -/
theorem witness_OffDomainAccess :
    bar0Word 0x20008 = true ∧ (domDown 5).alive = true ∧ (domDown 5).domOn (domainOf 0x20008) = false ∧
    (domDown 5).bit Fld.PWR_OFFACC_VALID 0 0 = false ∧
    ((domDown 5).setF Fld.PWR_OFFACC_VALID 0 0 1).bit Fld.PWR_OFFACC_VALID 0 0 = true ∧
    ((domDown 5).setF Fld.PWR_OFFACC_VALID 0 0 1).domOn (domainOf 0x20008) = false := by
  decide +kernel

/-- Ranges of one value, ties, and binary32 values below, within and above 0 to 1. -/
theorem witness_ClampNearest :
    ((5 : Nat) ≤ 5 ∧ 5 < 2 ^ 32) ∧ (-(2 ^ 31) ≤ (-5 : Int) ∧ (-5 : Int) ≤ -5 ∧ (-5 : Int) < 2 ^ 31) ∧
    (0 < 50 ∧ 50 ∣ 50 ∧ 50 ∣ 1000 ∧ 50 ≤ 1000) ∧ (rangeOf (.step 50 1000 50) 75 = some 50) ∧
    ([1, 3].Pairwise (· < ·) ∧ (∀ x ∈ [1, 3], x < 2 ^ 32) ∧ rangeOf (.set [1, 3]) 2 = some 1) ∧
    ((f32 0).isFin = true ∧ (f32 0x3F800000).isFin = true ∧ Fl.lt (f32 0x3F800000) (f32 0) = false) ∧
    (isNan32 (0xBF800000 : Word) = false ∧ Fl.lt (f32 0xBF800000) (f32 0) = true) ∧
    (isNan32 (0x40000000 : Word) = false ∧ Fl.lt (f32 0x40000000) (f32 0) = false ∧ Fl.lt (f32 0x3F800000) (f32 0x40000000) = true) ∧
    (isNan32 (0x3F800000 : Word) = false ∧ Fl.lt (f32 0x3F800000) (f32 0) = false ∧ Fl.lt (f32 0x3F800000) (f32 0x3F800000) = false) := by
  decide +kernel

/-- A ring that is enabled; the same index again is accepted, one entry past PI is not. -/
theorem witness_CompletionDoorbell :
    rings.bit Fld.HIF_CQ_CTRL_ENABLE 0 0 = true ∧ rings.domOn 5 = true ∧
    (((0 : Word) - rings.rd Reg.HIF_CQ_CI 0 0).toNat < 2 ^ 31 ∧ (rings.rd Reg.HIF_CQ_PI 0 0 - 0).toNat ≤ rings.cqSize 0) ∧
    ¬((rings.rd Reg.HIF_CQ_PI 0 0 - 1).toNat ≤ rings.cqSize 0) := by
  decide +kernel

/-- Rings 1 and 127 are disabled, and a right value enables ring 1. -/
theorem witness_RingEnableZeroes :
    rings.domOn 5 = true ∧ rings.bit Fld.HIF_SQ_CTRL_ENABLE 1 0 = false ∧ rings.bit Fld.HIF_CQ_CTRL_ENABLE 63 0 = false ∧
    (nextOf (exec (.ringEnable 1 0x40401) rings)).bit Fld.HIF_SQ_CTRL_ENABLE 1 0 = true ∧
    (nextOf (exec (.ringEnable 127 0x401) rings)).bit Fld.HIF_CQ_CTRL_ENABLE 63 0 = true := by
  decide +kernel

/-- FCT_STATUS. -/
theorem witness_PlainRegisterWrite :
    bar0Word 0x2F000C = true ∧ s0.alive = true ∧ s0.domOn (domainOf 0x2F000C) = true ∧ regAt 0x2F000C = some Reg.FCT_STATUS ∧
    Reg.FCT_STATUS ∉ writeRows := by
  decide +kernel

theorem witness_CompletionRecord :
    (item 2 []).origin = none ∧ rings.fld Fld.HIF_SQ_CTRL_CQ 0 0 = 0 ∧ rings.cqUp 0 = true ∧ rings.cqFree 0 ≠ 0 ∧
    rings.hif.held = [] := by
  decide +kernel

/-- Eight channels with 32 slots each. -/
theorem witness_SlotBudget :
    let v : Val := ⟨(facetChans 15).flatMap (fun c => [(cfgKey 0x12 c 0 0, 1), (cfgKey 0x12 c 0x10 0, 32)]), [], none, false⟩
    v.slots 127 = 32 ∧ ∀ c ∈ facetChans 15, v.slots c ∈ [0, 1, 2, 4, 8, 16, 32] := by decide +kernel

theorem witness_VertexNumbersEvents : s0.tr.vtx.running = true ∧ (132 < 133 ∨ 136 < 132) ∧ (137 < 133 ∨ 136 < 137) := by
  decide +kernel

theorem witness_FaultsPresentBySeverity : s0.tr.flt.Ok ∧ s0.tr.flt.pres 3 = none := by
  unfold FltSt.Ok; decide +kernel

/-- An item of a host for another module, one from another module past its deadline, one behind another, one whose intent
waits for the mirror, and one of a block that is off. -/
theorem witness_ItemsWaitOrFail :
    servedItem (.tanMode (item 7 [])) = some (item 7 []) ∧
    (let it := { item 7 [] with remote := true }; (it.remote && it.origin.isNone) = true) ∧
    (let it := { item 7 [] with ring := remoteRing 1023 63, remote := true, origin := some 1023 };
      let s := { s0 with hif := { s0.hif with inflight := [⟨0x0700, it, .fetched, true, 1, [], none, none⟩] },
                         mer := { s0.mer with base := 2 } };
      (it.remote && it.origin.isNone) = false ∧ (s.flight it.ring it.seq).any (fun f => f.late s.mer.base) = true) ∧
    (let s := { rings with hif := { rings.hif with
        inflight := [⟨0x0700, { item 7 [] with seq := 1 }, .fetched, false, 0, [], none, none⟩, ⟨0x0700, item 7 [], .fetched, false, 0, [], none, none⟩] } };
      s.itemTurn (item 7 []) = false ∧ (s.flight 0 0).any (fun f => f.late s.mer.base) = false) ∧
    (let s := { flying (item 7 []) 0x0700 .fetched with mir := { s0.mir with partnerState := 4 } };
      let t := (s.setF Fld.MIR_STATUS_STATE 0 0 2).setF Fld.MIR_STATUS_PARTNER 0 0 1;
      (t.flight 0 0).any (fun f => f.late t.mer.base) = false ∧ t.itemTurn (item 7 []) = true ∧
      t.undecided (item 7 []) = true ∧ t.frozen (item 7 []) = false ∧
      t.serving 7 = true ∧ (t.mirWait (item 7 []) && !(t.lateIntent (item 7 []))) = true) ∧
    ((domDown 3).itemTurn (item 7 []) = true ∧ (domDown 3).undecided (item 7 []) = true ∧
      (domDown 3).frozen (item 7 []) = false ∧ (domDown 3).serving 7 = true ∧ (domDown 3).blockOff 7 = true ∧
      ((domDown 3).mirWait (item 7 []) && !((domDown 3).lateIntent (item 7 []))) = false) := by
  decide +kernel

/-- 4 bytes at the last place of image B, and 1 MiB at its first. -/
theorem witness_FirmwareWriteFrame :
    (let it := item 1 [0, 0, 4, 0x7EFF000] 1;
      s0.Ready it ∧ it.isAgain = false ∧ s0.imageRuns 1 = false ∧ (it.w 5).toNat = 4 ∧ (it.w 6).toNat % 4096 = 0 ∧
      (it.w 6).toNat + 4 ≤ imageSize) ∧
    (let it := item 1 [0, 0, 1048576, 0] 1; s0.Ready it ∧ (it.w 5).toNat = 1048576 ∧ 0 + 1048576 ≤ imageSize) := by
  unfold State.Ready; and_intros <;> decide +kernel

theorem witness_ScanExecutesOnce : (16384 : Nat) ≤ 16384 ∧ (lattice 1).latWords.length = 2 := by decide +kernel

theorem witness_StampCarries : (999999999 : Nat) < 1000000000 := by decide

/-- Two memories that read alike. -/
theorem witness_MemoryLaws : Memory.wf (memSet [] 5 7) = true ∧ Memory.wf (memSet (memSet [] 6 1) 6 0) = true := by decide +kernel
/-- A stamp and an event that are well formed. -/
def ts : Stamp := ⟨0, 0⟩

def ev : Event := { code := 0x0040, inst := 0, p0 := 0, p1 := 0, p2 := 0, p3 := 0 }

/-- What a Facet measures, and what a start finds around it. -/
def ff : FieldFrame := ⟨List.replicate 20 (0, 0), List.replicate 8 0, [], 2400, 25, 0, 0⟩

def env : StartEnv := ⟨false, 0, [], none⟩

/-! ### WellFormed: for each check a command that breaks it alone, and commands that meet every check -/

theorem test_wf_refuses_1 : ([
    .registerWrite 4194304 0 true, .registerReadClear 4194304, .malformedAccess ⟨true, false⟩ 4194304, .offDomainAccess 4194304,
    .clockLoss 4096, .clockRestored 12, .domainPowerGood 8, .domainOffComplete 8, .powerGoodLost 8, .baseIdChange 4,
    .lsSag 65536, .powerFail 65536, .powerRelease 65536, .hotInsertion 4, .presenceContactLost 2,
    .coldStart 16 0 [] env, .coldStart 0 16 [] env, .coldStart 0 0 [(16, 0)] env,
    .coldStart 0 0 [] { env with trips := 512 }, .coldStart 0 0 [] { env with sfp := [(2, ⟨[], []⟩)] },
    .coldStart 0 0 [] { env with partner := some 8 }, .warmRestart 16 [] ⟨true, none⟩,
    .warmRestart 0 [(16, 0)] ⟨true, none⟩, .warmRestart 0 [] ⟨true, some 8⟩, .sysFwWrite (item 63 []), .sysFwVerify (item 63 []), .sysFwTrial (item 63 []),
    .sysFwConfirm (item 63 []), .ringEnable 128 0, .ringDisable 128, .sqDoorbell 256 0, .cqDoorbell 64 0,
    .cqCoalesceTimeout 64, .reportRoomResume 64, .hostDmaError 128, .hifNop (item 63 []), .hifAbort (item 63 []),
    .hifQuery (item 63 []), .cfgStage (item 63 []), .cfgStageTable (item 63 []), .cfgValidateCommit (item 63 []),
    .cfgDryRun (item 63 []), .blockValuesTaken 0 0 64, .cfgDiscard (item 63 []), .cfgRead (item 63 []),
    .cfgPersist (item 63 []), .cfgImageExport (item 63 []), .cfgImageImport (item 63 []), .tanGainWrite 6 0 0,
    .tanGainWrite 0 64 0, .tanKffWrite 256 0, .tanDfiltWrite 256 0, .arcBootWrite 32 0, .arcIrqdivWrite 32 0,
    .fctDithrWrite 128 0, .fctDebounceWrite 128 0, .fctSpotSelWrite 16 0, .facetFrameTick 16,
    .downstreamFrameRx 16 true true [] ff, .downstreamFrameRx 0 true true (List.replicate 2049 0) ff,
    .downstreamFrameRx 0 true true [] { ff with conv := [] }, .downstreamFrameRx 0 true true [] { ff with volts := [] },
    .downstreamFrameRx 0 true true [] { ff with edges := [⟨8, 0, true, 0⟩] },
    .downstreamFrameRx 0 true true [] { ff with edges := [⟨0, 125, true, 0⟩] },
    .downstreamFrameRx 0 true true [] { ff with supply := 65536 }, .downstreamFrameRx 0 true true [] { ff with temp := -129 },
    .downstreamFrameRx 0 true true [] { ff with temp := 128 }, .downstreamFrameRx 0 true true [] { ff with rxc := 256 },
    .downstreamFrameRx 0 true true [] { ff with rxd := 256 },
    .upstreamFrameRx 16 true true [], .upstreamFrameRx 0 true true (List.replicate 2049 0), .facetLinkDown 16,
    .facetLinkUp 16 0] : List Instr).all (fun c => !c.wf) = true := by decide +kernel

theorem test_wf_refuses_2 : ([
    .perimOffLine 16, .perimOffRelease 16, .facetWdtExpiry 16 (List.replicate 4 none), .facetWdtExpiry 0 [],
    .fallbackEval 16 0 none, .fallbackEval 0 4 none, .fallbackExpiry 16 0, .fallbackExpiry 0 4, .pairReleaseRamp 16,
    .diChange 128 ⟨0, 0⟩ ts, .diChange 0 ⟨0, 0⟩ ⟨0, 1000000000⟩, .doOverload 128, .doRetry 128, .doTotalOverload 16,
    .doTotalShedNext 16 true, .doMismatch 128 0 true, .doMismatchClear ⟨128, 0⟩, .supWarn 16 0, .supWarn 0 65536,
    .supLow 16 0, .supLow 0 65536, .shedGroupInstant 16 0, .shedGroupInstant 0 65536, .shedRestart 16 0,
    .shedRestart 0 65536, .supRecovered 16 0, .supRecovered 0 65536, .autoRestoreGroup 16, .facetSupplyReset 16,
    .facetPowerUp 16, .piGateEnd 128, .fctOutput (item 63 []), .fctRestore (item 63 []), .fctPiclear (item 63 []),
    .sliceCorrection 16 0 0 0 0, .sliceCorrection 0 4 0 0 0, .fctCal (item 63 []),
    .fctCalDone 16 ⟨List.replicate 4 (0, 0, 0), (0, 0)⟩, .fctCalDone 0 ⟨[], (0, 0)⟩, .fctDiagPath (item 63 []),
    .fctDiagWire (item 63 []), .diagDone 16 0 0, .fctCalsetRead (item 63 []), .fctCalsetWrite (item 63 []),
    .fctTrimdrive (item 63 []), .fctTrimdriveRelease (item 63 []), .fctHart (item 63 []), .hartReply 16 [] true,
    .hartReply 0 (List.replicate 2049 0) true, .hartReplyTimeout 16, .hartTxTimeout 16, .hartUnsolicited 16,
    .aiOpenDetect ⟨128, 0⟩, .aiOpenClear ⟨128, 0⟩, .aoCompliance 128 0 0, .aoOpen ⟨128, 0⟩, .aoThermalStep 128 ⟨0, 0⟩, .aoVOverload 128,
    .loopReady 256, .loopResultHandoff 256] : List Instr).all (fun c => !c.wf) = true := by decide +kernel

theorem test_wf_refuses_3 : ([
    .loopDeadlineMiss 256, .tanMode (item 63 []), .tanSetpoint (item 63 []), .tanManout (item 63 []),
    .tanInject (item 63 []), .tanInjectStop (item 63 []), .stepTimeout 16, .schedSlotFire 8,
    .readinessTokenRx 65536 ts 0 ts, .readinessTokenRx 0 ⟨0, 1000000000⟩ 0 ts, .readinessTokenRx 0 ts 16 ts,
    .readinessTokenRx 0 ts 0 ⟨0, 1000000000⟩, .withdrawNoticeRx 65536 ts 0, .withdrawNoticeRx 0 ⟨0, 1000000000⟩ 0,
    .withdrawNoticeRx 0 ts 16, .remoteTokenOutcome 0 65536, .locStart (item 63 []), .locHold (item 63 []),
    .locResume (item 63 []), .locAbort (item 63 []), .locJump (item 63 []), .locReset (item 63 []),
    .locToken (item 63 []), .locCounterSet (item 63 []), .locCounterAdd (item 63 []), .locSchedArm (item 63 []),
    .locSchedCancel (item 63 []), .latTimerExpiry 1024 true, .latPatch (item 63 []), .latStop (item 63 []),
    .latStart (item 63 []), .latShadowStart (item 63 []), .latShadowStop (item 63 []), .latCmpRead (item 63 []),
    .vertexEvent 256 0 0 0 ts, .vertexEvent 0 1024 0 0 ts, .vertexEvent 0 0 65536 0 ts,
    .vertexEvent 0 0 0 0 ⟨0, 1000000000⟩, .depRelease 64, .vtxCoreDone 4 0, .vtxCoreRaise 4 0, .vtxCoreRaise 0 256,
    .vtxCoreEnable 4 0, .vtxCoreDisable 4, .vtxCoreFlush 4, .vtxCoreCiWrite 4 0, .vtxCoalesceTimeout 4,
    .vtxPost (item 63 []), .vtxSignal (item 63 []), .arcPeriodBoundary 32, .arcEdgeEvent 32 true, .arcSet (item 63 []),
    .arcStartNow (item 63 []), .arcStartAt (item 63 []), .arcArmedStart 32, .arcStopAtEnd (item 63 []),
    .arcStopNow (item 63 []), .arcClear (item 63 []), .arcTrip 10 true, .coValue 4096] : List Instr).all (fun c => !c.wf) = true := by decide +kernel

theorem test_wf_refuses_4 : ([
    .coMaxintExpiry 4096, .reductionComplete 4096 0, .reductionComplete 0 4, .triggerFire 16, .triggerTimeReached 16,
    .recordComplete 16, .holdoffEnd 16, .prmArm (item 63 []), .prmDisarm (item 63 []), .prmTrigger (item 63 []),
    .prmMark (item 63 []), .prmRead (item 63 []), .prmHistRead (item 63 []),
    .helixEvent { ev with code := 65536 } ts true, .helixEvent ev ⟨0, 1000000000⟩ true, .hlxRead (item 63 []),
    .hlxFreeze (item 63 []), .hlxUnfreeze (item 63 []), .hlxFfRearm (item 63 []), .canTx (item 63 []),
    .canFlush (item 63 []), .canTxAttempt 4, .canAttemptEnd 4 true ts 0 0, .canAttemptEnd 0 true ⟨0, 1000000000⟩ 0 0,
    .canFrameRx 4 true 0 0 [] ts 0 0, .canFrameRx 0 true 0 0 (List.replicate 2049 0) ts 0 0,
    .canFrameRx 0 true 0 0 [] ⟨0, 1000000000⟩ 0 0, .canRxDeliver 4, .canBusOff 4 0, .canRecover 4,
    .canBusoffRecovered 4, .ethTx (item 63 []), .ethTxFlush (item 63 []), .ethTxSent 2 ts,
    .ethTxSent 0 ⟨0, 1000000000⟩, .ethFrameRx 2 [] true ts, .ethFrameRx 0 (List.replicate 2049 0) true ts,
    .ethFrameRx 0 [] true ⟨0, 1000000000⟩, .ethRxDeliver 2, .ethLinkUp 2 0, .ethLinkDown 2, .merOfsGo 0 0,
    .merOfsGo 3 0, .merOfsGo 1 65536, .servoHoldover 3, .servoFreeRun 3, .merSet (item 63 []), .merTxtsPop 2,
    .vxlPortUp 4 0, .vxlPortUp 0 1024, .vxlPortDown 4, .helloRx 4 0 none 0, .helloRx 0 1024 none 0,
    .vxlFrameRx 4 (frame 1 0 0) true, .vxlFrameRx 0 (frame 1 0 64) true, .timeMarkRx 4 (frame 1 0 0) 0 0 0 0,
    .timeMarkRx 0 (frame 1 0 64) 0 0 0 0, .linkDelayMeasure 4 0, .scanRx 1024 0 [], .scanRx 0 0 [⟨4194304, 0, 0, 0⟩]] : List Instr).all (fun c => !c.wf) = true := by decide +kernel

theorem test_wf_refuses_5 : ([
    .grantRequestRx 1024 [] [], .grantRequestRx 0 [4096] [], .remoteItemRx 65536 (item 0 []) ts,
    .remoteItemRx 0 { item 7 [] with ring := 64 } ts, .remoteItemRx 0 (item 0 []) ⟨0, 1000000000⟩,
    .remoteResultRx 0 0 65536 ⟨ts, []⟩ 0 0 0 0, .remoteResultRx 0 0 0 ⟨⟨0, 1000000000⟩, []⟩ 0 0 0 0, .remoteQueryRx 1024 0 0,
    .joinRequestRx 1024 0 0 true, .joinRequestRx 0 0 32 true, .presenceTimeout 1024, .vxlWrite (item 63 []),
    .vxlLeave (item 63 []), .vxlMembers (item 63 []), .heartbeatRx 2 0 0 0 0 0 true, .pathLost 2,
    .mirSwitch (item 63 []), .mirResync (item 63 []), .selftestDone 65536 0 0 0 0, .selftestDone 0 65536 0 0 0,
    .selftestDone 0 0 0 4 0, .safetyInputDemand 8 true true, .safetyInputPermit 8 true true, .tpFault 8 0 0,
    .tpFault 0 0 4, .discrepancy 8 0, .discrepancy 0 4, .mutingStart 4, .mutingLimit 4, .readbackFault 4,
    .dieFault 0 4, .patternChange 65536, .perStopReq (item 63 []), .faultEntry { ev with code := 65536 } ts 0,
    .faultEntry ev ⟨0, 1000000000⟩ 0, .fltHack 0, .fltHack 4, .eccCorrected 14 0, .eccCorrected 0 4294967296,
    .eccUncorrectable 14 0 0 true, .eccUncorrectable 0 4294967296 0 true, .patrolScrub 101 true,
    .mramStatusPoll 0 [0x4000000], .engineWdtExpiry 1 0, .engineWdtExpiry 8 0, .aoComplianceClear ⟨128, 0⟩,
    .aoOpenClear ⟨128, 0⟩, .aoVOverloadClear 128, .grantReplyRx [4096] [] [] none, .cycleFrameRx 0 0 0 [1024] [] 0,
    .cycleFrameRx 0 0 0 [] [(1024, 0)] 0, .joinReplyRx 8, .queryAnswerRx 0 0 4 0, .queryAnswerRx 0 0 0 65536,
    .leaveRequestRx 1024 0] : List Instr).all (fun c => !c.wf) = true := by decide +kernel

theorem test_wf_accepts_1 : ([
    .registerWrite 0 0 true, .registerReadClear 0, .malformedAccess ⟨true, true⟩ 0, .offDomainAccess 0, .clockLoss 0,
    .clockRestored 0, .domainPowerGood 0, .domainOffComplete 0, .powerGoodLost 0, .baseIdChange 0, .lsSag 0,
    .powerFail 0, .powerRelease 0, .hotInsertion 0, .presenceContactLost 0, .coldStart 15 15 [(15, 0)] ⟨true, 511, [(1, ⟨[], []⟩)], some 7⟩,
    .warmRestart 15 [] ⟨true, some 7⟩, .tempWarn ⟨86, 60⟩, .tempCritical ⟨116, 60⟩, .thermalShutdown ⟨125, 60⟩,
    .thermalRecovery ⟨99, 60⟩, .sysFwWrite (item 0x1 []), .sysFwVerify (item 0x1 []), .sysFwTrial (item 0x1 []),
    .sysFwConfirm (item 0x1 []), .ringEnable 0 0, .ringDisable 0, .sqDoorbell 0 0, .cqDoorbell 0 0,
    .cqCoalesceTimeout 0, .reportRoomResume 0, .hostDmaError 0, .hifNop (item 0x2 []), .hifAbort (item 0x2 []),
    .hifQuery (item 0x2 []), .cfgStage (item 0x3 []), .cfgStageTable (item 0x3 []), .cfgValidateCommit (item 0x3 []),
    .cfgDryRun (item 0x3 []), .blockValuesTaken 0 0 0, .cfgDiscard (item 0x3 []), .cfgRead (item 0x3 []),
    .cfgPersist (item 0x3 []), .cfgImageExport (item 0x3 []), .cfgImageImport (item 0x3 []), .tanGainWrite 0 0 0,
    .tanKffWrite 0 0, .tanDfiltWrite 0 0, .arcBootWrite 0 0, .arcIrqdivWrite 0 0, .fctDithrWrite 0 0,
    .fctDebounceWrite 0 0, .fctSpotSelWrite 0 0, .facetFrameTick 0, .downstreamFrameRx 15 true true [] { ff with edges := [⟨7, 124, true, 0⟩], temp := -128 },
    .upstreamFrameRx 0 true true [], .facetLinkDown 0, .facetLinkUp 0 0, .perimOffLine 0, .perimOffRelease 0,
    .facetWdtExpiry 0 (List.replicate 4 none), .fallbackEval 0 0 none, .fallbackExpiry 0 0, .pairReleaseRamp 0] : List Instr).all (fun c => c.wf) = true := by decide +kernel

theorem test_wf_accepts_2 : ([
    .diChange 127 ⟨-5, 0⟩ ts, .doOverload 0, .doRetry 0, .doTotalOverload 0, .doTotalShedNext 0 true,
    .doMismatch 0 24000 true, .doMismatchClear ⟨0, 0⟩, .supWarn 0 0, .supLow 0 0, .shedGroupInstant 0 0, .shedRestart 0 0,
    .supRecovered 0 0, .autoRestoreGroup 0, .facetSupplyReset 0, .facetPowerUp 0, .piGateEnd 0,
    .fctOutput (item 0x12 []), .fctRestore (item 0x12 []), .fctPiclear (item 0x12 []), .sliceCorrection 0 0 0 0 0,
    .fctCal (item 0x12 []), .fctCalDone 0 ⟨List.replicate 4 (0, 0, 0), (0, 0)⟩, .fctDiagPath (item 0x12 []),
    .fctDiagWire (item 0x12 []), .diagDone 15 0 0, .fctCalsetRead (item 0x12 []), .fctCalsetWrite (item 0x12 []),
    .fctTrimdrive (item 0x12 []), .fctTrimdriveRelease (item 0x12 []), .fctHart (item 0x12 []), .hartReply 0 [] true,
    .hartReplyTimeout 0, .hartTxTimeout 0, .hartUnsolicited 0, .aiOpenDetect ⟨0, 0⟩, .aiOpenClear ⟨0, 0⟩, .aoCompliance 0 0 0,
    .aoOpen ⟨0, 0⟩, .aoThermalStep 0 ⟨0, 0⟩, .aoVOverload 0, .loopReady 0, .loopResultHandoff 0, .loopDeadlineMiss 0,
    .tanMode (item 0x7 []), .tanSetpoint (item 0x7 []), .tanManout (item 0x7 []), .tanInject (item 0x7 []),
    .tanInjectStop (item 0x7 []), .stepTimeout 0, .schedSlotFire 0, .readinessTokenRx 0 ts 0 ts,
    .withdrawNoticeRx 0 ts 0, .remoteTokenOutcome 0 0, .locStart (item 0x8 []), .locHold (item 0x8 []),
    .locResume (item 0x8 []), .locAbort (item 0x8 []), .locJump (item 0x8 []), .locReset (item 0x8 []),
    .locToken (item 0x8 [])] : List Instr).all (fun c => c.wf) = true := by decide +kernel

theorem test_wf_accepts_3 : ([
    .locCounterSet (item 0x8 []), .locCounterAdd (item 0x8 []), .locSchedArm (item 0x8 []),
    .locSchedCancel (item 0x8 []), .latTimerExpiry 0 true, .latPatch (item 0x9 []), .latStop (item 0x9 []),
    .latStart (item 0x9 []), .latShadowStart (item 0x9 []), .latShadowStop (item 0x9 []), .latCmpRead (item 0x9 []),
    .vertexEvent 0 0 0 0 ts, .depRelease 0, .vtxCoreDone 0 0, .vtxCoreRaise 0 0, .vtxCoreEnable 0 0, .vtxCoreDisable 0,
    .vtxCoreFlush 0, .vtxCoreCiWrite 0 0, .vtxCoalesceTimeout 0, .vtxPost (item 0x6 []), .vtxSignal (item 0x6 []),
    .arcPeriodBoundary 0, .arcEdgeEvent 0 true, .arcSet (item 0xa []), .arcStartNow (item 0xa []),
    .arcStartAt (item 0xa []), .arcArmedStart 0, .arcStopAtEnd (item 0xa []), .arcStopNow (item 0xa []),
    .arcClear (item 0xa []), .arcTrip 0 true, .coValue 0, .coMaxintExpiry 0, .reductionComplete 0 0, .triggerFire 0,
    .triggerTimeReached 0, .recordComplete 0, .holdoffEnd 0, .prmArm (item 0xb []), .prmDisarm (item 0xb []),
    .prmTrigger (item 0xb []), .prmMark (item 0xb []), .prmRead (item 0xb []), .prmHistRead (item 0xb []),
    .helixEvent ev ts true, .hlxRead (item 0xc []), .hlxFreeze (item 0xc []), .hlxUnfreeze (item 0xc []),
    .hlxFfRearm (item 0xc []), .canTx (item 0xe []), .canFlush (item 0xe []), .canTxAttempt 0,
    .canAttemptEnd 0 true ts 0 0, .canFrameRx 0 true 0 0 [] ts 0 0, .canRxDeliver 0, .canBusOff 0 0, .canRecover 0,
    .canBusoffRecovered 0, .ethTx (item 0xd [])] : List Instr).all (fun c => c.wf) = true := by decide +kernel

theorem test_wf_accepts_4 : ([
    .ethTxFlush (item 0xd []), .ethTxSent 0 ts, .ethFrameRx 0 [] true ts, .ethRxDeliver 0, .ethLinkUp 0 0,
    .ethLinkDown 0, .merOfsGo 1 0, .servoHoldover 0, .servoFreeRun 0, .merSet (item 0x5 []), .merTxtsPop 0,
    .vxlPortUp 0 0, .vxlPortDown 0, .helloRx 0 0 none 0, .vxlFrameRx 0 (frame 1 0 0) true,
    .timeMarkRx 0 (frame 1 0 0) 0 0 0 0, .linkDelayMeasure 0 0, .scanRx 0 0 [], .grantRequestRx 0 [] [],
    .remoteItemRx 0 (item 0 []) ts, .remoteResultRx 0 0 0 ⟨ts, []⟩ 0 0 0 0, .remoteQueryRx 0 0 0, .joinRequestRx 0 0 0 true,
    .presenceTimeout 0, .vxlWrite (item 0xf []), .vxlLeave (item 0xf []), .vxlMembers (item 0xf []),
    .heartbeatRx 0 0 0 0 0 0 true, .pathLost 0, .mirSwitch (item 0x10 []), .mirResync (item 0x10 []),
    .selftestDone 0 0 0 0 0, .safetyInputDemand 0 true true, .safetyInputPermit 0 true true, .tpFault 0 0 0,
    .discrepancy 0 0, .mutingStart 0, .mutingLimit 0, .readbackFault 0, .dieFault 0 0, .patternChange 0,
    .perStopReq (item 0x11 []), .faultEntry ev ts 0, .fltHack 1, .eccCorrected 0 0, .eccUncorrectable 0 0 0 true,
    .patrolScrub 0 true, .mramStatusPoll 0 [], .engineWdtExpiry 2 0, .aoComplianceClear ⟨0, 0⟩, .aoOpenClear ⟨0, 0⟩,
    .aoVOverloadClear 0, .grantReplyRx [] [] [] none, .cycleFrameRx 0 0 0 [] [] 0, .joinReplyRx 0,
    .queryAnswerRx 0 0 0 0, .leaveRequestRx 0 0] : List Instr).all (fun c => c.wf) = true := by decide +kernel

theorem test_wf_item :
    (item 7 []).wf 7 = true ∧ { item 7 [] with ring := 64 }.wf 7 = false ∧ { item 7 [] with payload := [] }.wf 7 = false ∧
    (item 7 []).wf 8 = false ∧ (item 7 [] 32768).wf 7 = false ∧ { item 7 [] with device := 1024 }.wf 7 = false ∧
    { item 7 [] with flags := 65536 }.wf 7 = false := by decide +kernel

theorem test_wf_parts :
    (⟨281474976710656, 0⟩ : Stamp).wf = false ∧ { ev with inst := 1024 }.wf = false ∧
    { frame 1 0 0 with src := 1024 }.wf = false ∧ { frame 1 0 0 with dst := 1024 }.wf = false ∧
    (⟨0, 16, 0, 0⟩ : ScanEntry).wf = false ∧ (⟨4194303, 15, 0, 0⟩ : ScanEntry).wf = true := by decide +kernel
/-! ### Examples that the spec works out -/

/-- The addresses and the descriptor slot of the ring set-up (spec/04_host_rings.md). -/
theorem test_ring_addresses :
    Reg.HIF_SQ_BASE_HI.addr 3 0 = 0x21064 ∧ Reg.HIF_SQ_CTRL.addr 3 0 = 0x21068 ∧ Reg.HIF_CQ_BASE_LO.addr 3 0 = 0x22060 ∧
    Reg.HIF_CQ_COAL.addr 3 0 = 0x22074 ∧
    (let s := (s0.wr Reg.HIF_SQ_BASE_HI 3 0 1).wr Reg.HIF_SQ_BASE_LO 3 0 0x23400000;
      let t := s.wr Reg.HIF_SQ_CTRL 3 0 0x03140801;
      t.sqBase 3 + 510 % t.sqSize 3 * 64 = 0x123403F80 ∧ t.fld Fld.HIF_SQ_CTRL_CQ 3 0 = 3 ∧ t.fld Fld.HIF_SQ_CTRL_RPT 3 0 = 5) := by
  decide +kernel

/-- TAN_SETPOINT for loop 0 of the module itself. -/
theorem test_descriptor :
    let it := itemOf 3 ([0x00010701, 0x1450, 0x00038000, 0x43E10000] ++ List.replicate 12 0);
    it.seq = 5200 ∧ it.irq = true ∧ it.remote = false ∧ it.block = 7 ∧ it.inst = 0 ∧ it.w 3 = 0x43E10000 := by decide +kernel

/-- Power removed from Vexlink on a single module (spec/01_architecture.md). -/
theorem test_vexlink_off :
    let t := nextOf (exec (.pwrCtrlWrite 0xBC true) (nextOf (exec (.pwrUnlockWrite 0xA55) s0)));
    t.rd Reg.PWR_CTRL 0 0 = 0xBC ∧ t.domOn 6 = false ∧ t.domOn 5 = true ∧ t.sys.falling = [6] := by decide +kernel

/-- Without the unlock key the write is refused. -/
theorem test_vexlink_locked : (nextOf (exec (.pwrCtrlWrite 0xBC true) s0)).domOn 6 = true := by decide +kernel

/-- Loop PERIOD 7 us, OUT_HI 12.0 V on AO_V (spec/05_configuration.md). -/
theorem test_clamps :
    rangeOf (.step 5 100000 5) 7 = some 5 ∧ rangeOf (.f32 0xC1200000 0x41200000) 0x41400000 = some 0x41200000 := by decide +kernel

/-- AI channels of Facet 2: 16, 4, 4, 4, 4 and 4 slots; the first is halved (spec/07_facet_analog.md). -/
theorem test_slot_budget :
    let v : Val := ⟨[(cfgKey 0x12 17 0 0, 1), (cfgKey 0x12 17 0x10 0, 16), (cfgKey 0x12 18 0 0, 1), (cfgKey 0x12 19 0 0, 1),
      (cfgKey 0x12 21 0 0, 1), (cfgKey 0x12 22 0 0, 1), (cfgKey 0x12 23 0 0, 1)], [], none, false⟩;
    v.slots 17 = 16 ∧ v.slots 18 = 4 ∧ v.slots 16 = 0 ∧ (budget3 2 64 v).slots 17 = 8 ∧ (budget3 2 64 v).slots 23 = 4 := by
  decide +kernel

/-- Heater output F0.0 with points 4.012 and 19.964 mA: 12.0 mA drives 12.01204 mA (spec/07_facet_analog.md). -/
theorem test_trim :
    let s := { s0 with fct := { s0.fct with cals := [(2, some (0x4080624E, 0x419FB646))] } };
    within32 (0x41403140, 0x41403160) (s.nominal 0 4 0 0x41400000) = true := by decide +kernel

/-- FA falls to 14.1 V (spec/06_facet_digital.md). -/
theorem test_sag :
    let t := nextOf (exec (.supLow 0 1410) s0);
    (t.facet 0).supLow = true ∧ t.tr.flt.pres1.map (fun e => e.code) = some 0x3488 ∧
    (nextOf (exec (.supLow 0 1500) s0)).facet 0 = s0.facet 0 := by decide +kernel

/-- Kp of loop 0 (spec/08_tangent_loops.md): the gain lookup at an error of 12.5 between elements 5.0 and 20.0: kp = 0.45625 (spec/08_tangent_loops.md). -/
def gains : State :=
  let put := fun (s : State) (t i : Nat) (v : Word) => s.setCf ⟨7, 0x20 + t⟩ 0 i v
  let s := s0.setCf Cf.TAN_NBP_KP 0 0 3
  put (put (put (put (put s 0 1 0x40A00000) 0 2 0x41A00000) 1 0 0x3EA00000) 1 1 0x3EA00000) 1 2 0x3F19999A

theorem test_gain : within32 (0x3EE9930C, 0x3EE9A027) (w32f (gains.tanLookup 0 0 (f32 0x41480000))) = true := by decide +kernel

/-- ST M100 and TON T0 (spec/10_lattice_logic.md). -/
theorem test_lattice_words :
    (latOp 0x40C00064 = 0x10 ∧ latSp 0x40C00064 = 3 ∧ latAd 0x40C00064 = 100) ∧
    (latOp 0x61000000 = 0x18 ∧ latSp 0x61000000 = 4) ∧ latOp 0xFC000000 = 0x3F ∧ (s0.latTime 22).fld Fld.LAT_SCANTIME_LAST 0 0 = 444 := by
  decide +kernel

/-- A reply with identifier 0x183 gives flow 19 (spec/11_vertex_dispatch.md). -/
theorem test_flow : flowOf 0xC1000008 0 0x183 = some 19 := by decide +kernel

/-- Duty 0.6125 at 20,000 ticks, centred; the carry at duty 0.004; a refresh period (spec/12_arc_pwm.md). -/
theorem test_arc_duty : dutyCmp 0x3F1CCCCD 20000 true = (62000, 258000) := by decide +kernel

theorem test_arc_carry :
    let p := fun c => periodOut 320000 159360 160640 200 200 100 true true c 0;
    (p 0).skip = true ∧ (p 0).carry = 1280 ∧ (p 1280).carry = 2560 ∧ (p 2560).carry = 3840 ∧ (p 3840).skip = false ∧
    (p 3840).off - (p 3840).on = 5120 ∧ (p 3840).carry = 0 := by decide +kernel

theorem test_arc_refresh :
    (periodOut 320000 0 320000 200 200 100 true true 0 9600).on = 9600 ∧
    (let o := periodOut 320000 0 320000 200 200 100 true true 0 0; o.on = 0 ∧ o.off = 320000 ∧ o.skip = false) := by decide +kernel

/-- 0x010 behind 0x601 in the queue, and in an expedite slot (spec/15_canfd.md). -/
theorem test_can_queue :
    let q := fun (e : Nat) (id : Word) => (⟨e, 0, 0, id, 0, [], 0⟩ : CanTx);
    canNext [q 0 0x601, q 1 0x010] = some (q 0 0x601) ∧ canNext [q 0 0x601, q 64 0x010] = some (q 64 0x010) := by decide +kernel

/-- Pattern 0x0042: slot 0 DOOR_LOCK on SI0, slot 1 GAS_EXH on SI1 (spec/20_perimeter_safety.md). -/
theorem test_pattern :
    let t := nextOf (exec (.selftestDone 0x42 0x42 0 0 1) { s0 with per := { s0.per with state := 1, stored := 0x42 } });
    t.per.state = 3 ∧ (t.per.slot 0).func = 2 ∧ (t.per.slot 0).pair = 0 ∧ (t.per.slot 1).func = 4 ∧ (t.per.slot 1).pair = 1 ∧
    (t.per.slot 2).func = 0 := by decide +kernel

/-- A stamp carries at 1,000,000,000 ns (R482). -/
theorem test_stamp : stampOf (999999999 * 4294967296) = ⟨0, 999999999⟩ ∧ stampOf (1000000000 * 4294967296) = ⟨1, 0⟩ := by decide +kernel

/-- The step takes the front command and leaves the rest. -/
theorem test_step_front :
    nextOf (step { s0 with pending := [.pwrUnlockWrite 0xA55, .merSnap] }) =
      nextOf (exec (.pwrUnlockWrite 0xA55) { s0 with pending := [.merSnap] }) ∧
    (nextOf (step { s0 with pending := [.pwrUnlockWrite 0xA55, .merSnap] })).pending = [.merSnap] := by decide +kernel

/-- No row of the table gives bits. -/
theorem test_no_words : decodeTableWord 32 0xFFFFFFFF = none ∧ s0.withFetchWord 32 0 = s0 := by decide +kernel

end Sys2Proof.Tests
end

section
/-! PROOF. Register accesses to a block whose power domain is off (R19). -/

namespace Sys2Proof.Machine

/-- The registers after an off-domain access, before its event is logged: the first access is captured in PWR_OFFACC, and
a later one only sets MULTI. `State.offAccess_eq_log` ties it to the model. -/
def State.offCapture (s : State) (a : Nat) : State :=
  if s.bit Fld.PWR_OFFACC_VALID 0 0 then s.setF Fld.PWR_OFFACC_MULTI 0 0 1
  else (s.setF Fld.PWR_OFFACC_VALID 0 0 1).setF Fld.PWR_OFFACC_OFFSET 0 0 a

/-! ### Fields -/

theorem State.bit_iff_fld (s : State) (f : Fld) (i j : Nat) : s.bit f i j = true ↔ s.fld f i j = 1 := decide_eq_true_iff

/-- A one-bit field set to 1 reads 1. -/
theorem State.bit_setF_one (s : State) (f : Fld) (i j : Nat) (hw : f.wd = 1) (h : f.lo + f.wd ≤ 32) :
    (s.setF f i j 1).bit f i j = true := by
  rw [State.bit_iff_fld, State.fld_setF_same _ _ _ _ _ h, hw]
  rfl

/-- A field written leaves the one-bit fields beside it alone. -/
theorem State.bit_setF_beside (s : State) (f g : Fld) (i j v : Nat) (r : g.reg = f.reg) (h : f.lo + f.wd ≤ 32)
    (d : g.lo + g.wd ≤ f.lo ∨ f.lo + f.wd ≤ g.lo) : (s.setF f i j v).bit g i j = s.bit g i j := by
  unfold State.bit
  rw [State.fld_setF_beside _ _ _ _ _ _ r h d]

@[simp] theorem State.bit_log (s : State) (code inst : Nat) (p q r t : Word) (f : Fld) (i j : Nat) :
    (s.log code inst p q r t).bit f i j = s.bit f i j := rfl

/-! ### What the capture leaves in PWR_OFFACC -/

theorem State.offAccess_eq_log (s : State) (a : Nat) : s.offAccess a = (s.offCapture a).log 0x24C1 0 := rfl

theorem State.offCapture_first (s : State) (a : Nat) (h : s.bit Fld.PWR_OFFACC_VALID 0 0 = false) :
    s.offCapture a = (s.setF Fld.PWR_OFFACC_VALID 0 0 1).setF Fld.PWR_OFFACC_OFFSET 0 0 a :=
  if_neg (by simp [h])

theorem State.offCapture_later (s : State) (a : Nat) (h : s.bit Fld.PWR_OFFACC_VALID 0 0 = true) :
    s.offCapture a = s.setF Fld.PWR_OFFACC_MULTI 0 0 1 := if_pos h

/-- The first access sets VALID, and OFFSET holds the offset that fits in it. -/
theorem State.offCapture_captures (s : State) (a : Nat) (ha : a < 4194304) (h : s.bit Fld.PWR_OFFACC_VALID 0 0 = false) :
    (s.offCapture a).bit Fld.PWR_OFFACC_VALID 0 0 = true ∧ (s.offCapture a).fld Fld.PWR_OFFACC_OFFSET 0 0 = a := by
  rw [State.offCapture_first s a h]
  constructor
  · rw [State.bit_setF_beside _ Fld.PWR_OFFACC_OFFSET Fld.PWR_OFFACC_VALID _ _ _ rfl (by decide) (by decide)]
    exact State.bit_setF_one _ _ _ _ rfl (by decide)
  · rw [State.fld_setF_same _ _ _ _ _ (by decide)]
    exact Nat.mod_eq_of_lt ha

/-- A later access leaves VALID and OFFSET as the first one set them. -/
theorem State.offCapture_holds (s : State) (a : Nat) (h : s.bit Fld.PWR_OFFACC_VALID 0 0 = true) :
    (s.offCapture a).bit Fld.PWR_OFFACC_VALID 0 0 = true ∧
    (s.offCapture a).fld Fld.PWR_OFFACC_OFFSET 0 0 = s.fld Fld.PWR_OFFACC_OFFSET 0 0 := by
  rw [State.offCapture_later s a h]
  constructor
  · rw [State.bit_setF_beside _ Fld.PWR_OFFACC_MULTI Fld.PWR_OFFACC_VALID _ _ _ rfl (by decide) (by decide), h]
  · exact State.fld_setF_beside _ _ _ _ _ _ rfl (by decide) (by decide)

/-- An off-domain access leaves every register but PWR_OFFACC alone. -/
theorem State.rdA_offCapture_ne (s : State) (a b : Nat) (h : b ≠ Reg.PWR_OFFACC.addr 0 0) :
    (s.offCapture a).rdA b = s.rdA b := by
  cases hv : s.bit Fld.PWR_OFFACC_VALID 0 0 with
  | true => rw [State.offCapture_later s a hv, State.rdA_setF_ne _ _ _ _ _ _ h]
  | false => rw [State.offCapture_first s a hv, State.rdA_setF_ne _ _ _ _ _ _ h, State.rdA_setF_ne _ _ _ _ _ _ h]

/-- The capture is of registers alone: reporting, Meridian and the configuration stay. -/
theorem State.offCapture_keeps (s : State) (a : Nat) :
    (s.offCapture a).tr = s.tr ∧ (s.offCapture a).mer = s.mer ∧ (s.offCapture a).cfg = s.cfg := by
  cases hv : s.bit Fld.PWR_OFFACC_VALID 0 0 with
  | true =>
    rw [State.offCapture_later s a hv]
    exact ⟨State.setF_tr .., State.setF_mer .., State.setF_cfg ..⟩
  | false =>
    rw [State.offCapture_first s a hv, State.setF_tr, State.setF_mer, State.setF_cfg]
    exact ⟨State.setF_tr .., State.setF_mer .., State.setF_cfg ..⟩

/-! ### The three commands that reach a block whose domain is off -/

theorem execOffDomainAccess_off (s : State) (a : Nat) (hd : s.domOn (domainOf a) = false) (hl : s.alive = true) :
    execOffDomainAccess a s = .next (s.offAccess a) :=
  if_neg (by simp [hd, hl])

theorem execRegisterWrite_off (s : State) (a : Nat) (v : Word) (host : Bool) (hb : bar0Word a = true)
    (hd : s.domOn (domainOf a) = false) (hl : s.alive = true) :
    execRegisterWrite a v host s = .next (s.offAccess a) := by
  simp [execRegisterWrite, hb, hd, hl, execOffDomainAccess_off s a hd hl]

theorem execRegisterReadClear_off (s : State) (a : Nat) (hb : bar0Word a = true)
    (hd : s.domOn (domainOf a) = false) (hl : s.alive = true) :
    execRegisterReadClear a s = .next ((s.offAccess a).emit (.read a 0)) := by
  simp [execRegisterReadClear, hb, hd, hl, execOffDomainAccess_off s a hd hl, after, go]

/-- Settles O46: the three accesses end in the same capture, and the rest are facts about that capture. -/
theorem offDomainAccess : Obligations.OffDomainAccess := by
  intro a v host s hb ha hd hl
  refine ⟨execRegisterReadClear_off s a hb hd hl, execRegisterWrite_off s a v host hb hd hl,
    execOffDomainAccess_off s a hd hl, ?_⟩
  simp only [State.offAccess_eq_log, State.bit_log, State.fld_log, State.rdA_log]
  obtain ⟨htr, hmer, hcfg⟩ := State.offCapture_keeps s a
  exact ⟨State.offCapture_captures s a ha, State.offCapture_holds s a, State.rdA_offCapture_ne s a,
    s.offCapture a, htr, hmer, hcfg, rfl⟩

end Sys2Proof.Machine
end

section
/-! PROOF. The registers of one ring, and its consumer doorbell (R116). -/

namespace Sys2Proof.Machine

/-! ### The registers of one ring -/

/-- Registers laid out with one stride stand apart at every copy when their first copies do. -/
theorem Reg.addr_ne (r q : Reg) (i : Nat) (hs : r.s1 = q.s1) (hb : r.base ≠ q.base) : r.addr i 0 ≠ q.addr i 0 := by
  simp only [Reg.addr, hs, Nat.zero_mul]
  omega

theorem State.cqSize_congr (s t : State) (m : Nat) (h : t.rd Reg.HIF_CQ_CTRL m 0 = s.rd Reg.HIF_CQ_CTRL m 0) :
    t.cqSize m = s.cqSize m :=
  congrArg (fun w => 2 ^ bitsOf w 8 4) h

/-! ### A consumer index that is accepted -/

/-- A ring that stood FULL runs again once it has room. -/
def State.cqUnfill (s : State) (m : Nat) : State :=
  if s.fld Fld.HIF_CQ_STAT_STATE m 0 = 2 ∧ s.cqFree m ≠ 0 then s.setF Fld.HIF_CQ_STAT_STATE m 0 1 else s

/-- What an accepted consumer index makes of the state. `execCqDoorbell_accepted` ties it to the model. -/
def State.cqConsume (s : State) (m : Nat) (v : Word) : State :=
  { s.wr Reg.HIF_CQ_CI m 0 v with
    hif := { s.hif with stalled := s.hif.stalled.filter (fun n => n != m) } }.cqUnfill m

theorem State.cqUnfill_frame (s : State) (m : Nat) : s.cqUnfill m = { s with regs := (s.cqUnfill m).regs } := by
  unfold State.cqUnfill
  split <;> rfl

theorem State.rdA_cqUnfill_ne (s : State) (m a : Nat) (h : a ≠ Reg.HIF_CQ_STAT.addr m 0) :
    (s.cqUnfill m).rdA a = s.rdA a := by
  unfold State.cqUnfill
  split
  · exact State.rdA_setF_ne _ _ _ _ _ _ h
  · rfl

/-- It is of registers and of the list of stalled rings alone. -/
theorem State.cqConsume_frame (s : State) (m : Nat) (v : Word) :
    s.cqConsume m v = { s with regs := (s.cqConsume m v).regs,
                               hif := { s.hif with stalled := s.hif.stalled.filter (fun n => n != m) } } :=
  State.cqUnfill_frame _ m

theorem State.rdA_cqConsume_ne (s : State) (m : Nat) (v : Word) (a : Nat) (hci : a ≠ Reg.HIF_CQ_CI.addr m 0)
    (hstat : a ≠ Reg.HIF_CQ_STAT.addr m 0) : (s.cqConsume m v).rdA a = s.rdA a := by
  rw [State.cqConsume, State.rdA_cqUnfill_ne _ _ _ hstat]
  exact State.rdA_wrA_ne _ _ _ _ hci

theorem State.rd_cqConsume_ci (s : State) (m : Nat) (v : Word) : (s.cqConsume m v).rd Reg.HIF_CQ_CI m 0 = v := by
  rw [State.cqConsume, State.rd, State.rdA_cqUnfill_ne _ _ _ (Reg.addr_ne Reg.HIF_CQ_CI _ m rfl (by decide))]
  exact State.rd_wr_same ..

theorem State.rd_cqConsume_pi (s : State) (m : Nat) (v : Word) :
    (s.cqConsume m v).rd Reg.HIF_CQ_PI m 0 = s.rd Reg.HIF_CQ_PI m 0 :=
  State.rdA_cqConsume_ne _ _ _ _ (Reg.addr_ne _ _ m rfl (by decide)) (Reg.addr_ne _ _ m rfl (by decide))

theorem State.cqSize_cqConsume (s : State) (m : Nat) (v : Word) : (s.cqConsume m v).cqSize m = s.cqSize m :=
  State.cqSize_congr _ _ _
    (State.rdA_cqConsume_ne _ _ _ _ (Reg.addr_ne _ _ m rfl (by decide)) (Reg.addr_ne _ _ m rfl (by decide)))

theorem State.cqFree_cqConsume (s : State) (m : Nat) (v : Word) :
    (s.cqConsume m v).cqFree m = s.cqSize m - (s.rd Reg.HIF_CQ_PI m 0 - v).toNat := by
  rw [State.cqFree, State.cqSize_cqConsume, State.rd_cqConsume_pi, State.rd_cqConsume_ci]

/-! ### The doorbell of an enabled ring -/

section
variable (s : State) (m : Nat) (v : Word) (hm : m < 64) (hd : s.domOn 5 = true)
  (he : s.bit Fld.HIF_CQ_CTRL_ENABLE m 0 = true)
include hm hd he

theorem execCqDoorbell_accepted
    (h : (v - s.rd Reg.HIF_CQ_CI m 0).toNat < 2147483648 ∧ (s.rd Reg.HIF_CQ_PI m 0 - v).toNat ≤ s.cqSize m) :
    execCqDoorbell m v s = .next (s.cqConsume m v) := by
  rw [execCqDoorbell, if_neg (by simp [hd]), if_neg (by simp [he]; omega), if_pos h]
  rfl

theorem execCqDoorbell_ignored
    (h : ¬((v - s.rd Reg.HIF_CQ_CI m 0).toNat < 2147483648 ∧ (s.rd Reg.HIF_CQ_PI m 0 - v).toNat ≤ s.cqSize m)) :
    execCqDoorbell m v s = .next (s.incF Fld.HIF_CQ_STAT_BACKSTEP m 0 1) := by
  rw [execCqDoorbell, if_neg (by simp [hd]), if_neg (by simp [he]; omega), if_neg h]
  rfl

end

/-- Settles O48: an accepted index leaves `State.cqConsume`, and the rest are facts about that state. -/
theorem completionDoorbell : Obligations.CompletionDoorbell := by
  intro m v s hm hd he
  refine ⟨rfl, fun h => ⟨s.cqConsume m v, execCqDoorbell_accepted s m v hm hd he h, State.rd_cqConsume_ci s m v,
    State.rd_cqConsume_pi s m v, State.cqFree_cqConsume s m v, State.cqConsume_frame s m v,
    State.rdA_cqConsume_ne s m v⟩, execCqDoorbell_ignored s m v hm hd he⟩

end Sys2Proof.Machine
end

section
/-! PROOF. Enabling a ring whose shadow index lies in the write-protected firmware image (R82, R113). -/

namespace Sys2Proof.Machine

/-! ### Module DRAM under write protection (R82) -/

theorem tabGet_append {α : Type} (d : Nat → α) (t u : Tab α) (k : Nat) :
    tabGet d (t ++ u) k = tabGet (tabGet d u) t k := by
  induction t with
  | nil => rfl
  | cons x t ih => simp only [List.cons_append, tabGet, ih]

theorem tabGet_filter_keep {α : Type} (d : Nat → α) (p : Nat → Bool) (t : Tab α) (k : Nat) (h : p k = true) :
    tabGet d (t.filter (fun c => p c.1)) k = tabGet d t k := by
  induction t with
  | nil => rfl
  | cons x t ih =>
    rw [List.filter_cons]
    split
    · simp only [tabGet, ih]
    · have hk : k ≠ x.1 := fun e => by simp_all
      rw [ih, tabGet, if_neg hk]

theorem tabGet_filter_drop {α : Type} (d : Nat → α) (p : Nat → Bool) (t : Tab α) (k : Nat) (h : p k = false) :
    tabGet d (t.filter (fun c => p c.1)) k = d k := by
  induction t with
  | nil => rfl
  | cons x t ih =>
    rw [List.filter_cons]
    split
    · have hk : k ≠ x.1 := fun e => by simp_all
      rw [tabGet, if_neg hk, ih]
    · exact ih

theorem tabGet_congr {α : Type} (d e : Nat → α) (t : Tab α) (k : Nat) (h : d k = e k) : tabGet d t k = tabGet e t k := by
  induction t with
  | nil => exact h
  | cons x t ih => simp only [tabGet, ih]

/-- The bytes of the firmware image outlast a write of module DRAM. -/
theorem State.memGet_setDram_image (s : State) (m : Mem) (a : Nat) (hlo : imageAt ≤ a) (hhi : a < imageAt + s.sys.imgLen) :
    memGet (s.setDram m).dram a = memGet s.dram a := by
  rw [State.setDram, if_neg (by omega)]
  unfold memGet tget
  simp only [tabGet_append]
  rw [tabGet_filter_drop _ (fun k => decide (k < imageAt)) _ _ (by simpa using hlo),
    tabGet_filter_keep _ (fun k => decide (imageAt ≤ k) && decide (k < imageAt + s.sys.imgLen)) _ _ (by simp [hlo, hhi])]
  exact tabGet_congr _ _ _ _ (tabGet_filter_drop _ (fun k => decide (imageAt + s.sys.imgLen ≤ k)) _ _ (by simpa using hhi))

/-! ### The enable of a module-to-host ring (R113) -/

/-- The registers of a ring whose enable passes its checks. `State.cqEnable_of_check` ties it to the model. -/
def State.cqStart (s : State) (m : Nat) : State :=
  ((((s.setF Fld.HIF_CQ_CTRL_ENABLE m 0 1).wr Reg.HIF_CQ_PI m 0 0).wr Reg.HIF_CQ_CI m 0 0).setF
    Fld.HIF_CQ_STAT_ERR m 0 0).setF Fld.HIF_CQ_STAT_STATE m 0 1

/-- Starting a ring writes its control and status registers and its indices. -/
theorem State.rd_cqStart (s : State) (m : Nat) (q : Reg) (hs : q.s1 = 0x20) (hp : q.base ≠ 0x2200C) (hc : q.base ≠ 0x22010)
    (ht : q.base ≠ 0x22018) : (s.cqStart m).rd q m 0 = (s.setF Fld.HIF_CQ_CTRL_ENABLE m 0 1).rd q m 0 := by
  rw [State.cqStart, State.rd_setF_ne _ _ _ _ _ q _ _ (Reg.addr_ne q _ m hs ht),
    State.rd_setF_ne _ _ _ _ _ q _ _ (Reg.addr_ne q _ m hs ht), State.rd_wr_ne _ _ q _ _ _ _ _ (Reg.addr_ne q _ m hs hc),
    State.rd_wr_ne _ _ q _ _ _ _ _ (Reg.addr_ne q _ m hs hp)]

/-- The fields of the control register beside ENABLE stay. -/
theorem State.fld_cqStart (s : State) (m : Nat) (f : Fld) (r : f.reg = Reg.HIF_CQ_CTRL) (h : 1 ≤ f.lo) :
    (s.cqStart m).fld f m 0 = s.fld f m 0 := by
  rw [State.fld, r, State.rd_cqStart _ _ _ rfl (by decide) (by decide) (by decide), ← r]
  exact State.fld_setF_beside s Fld.HIF_CQ_CTRL_ENABLE f m 0 1 r (by decide) (.inr h)

theorem State.bit_cqStart_enable (s : State) (m : Nat) : (s.cqStart m).bit Fld.HIF_CQ_CTRL_ENABLE m 0 = true := by
  rw [State.bit, State.fld, State.rd_cqStart _ _ _ rfl (by decide) (by decide) (by decide)]
  exact State.bit_setF_one s Fld.HIF_CQ_CTRL_ENABLE m 0 rfl (by decide)

theorem State.cqCores_cqStart (s : State) (m : Nat) : (s.cqStart m).cqCores m = s.cqCores m := by
  unfold State.cqCores State.bit
  rw [State.fld_cqStart _ _ _ rfl (by decide)]

theorem State.cqSize_cqStart (s : State) (m : Nat) : (s.cqStart m).cqSize m = s.cqSize m :=
  congrArg (2 ^ ·) (State.fld_cqStart s m Fld.HIF_CQ_CTRL_SIZE_LOG2 rfl (by decide))

theorem State.cqBase_cqStart (s : State) (m : Nat) : (s.cqStart m).cqBase m = s.cqBase m := by
  unfold State.cqBase
  rw [State.rd_cqStart _ _ _ rfl (by decide) (by decide) (by decide),
    State.rd_cqStart _ _ _ rfl (by decide) (by decide) (by decide),
    State.rd_setF_ne _ _ _ _ _ Reg.HIF_CQ_BASE_HI _ _ (Reg.addr_ne _ _ m rfl (by decide)),
    State.rd_setF_ne _ _ _ _ _ Reg.HIF_CQ_BASE_LO _ _ (Reg.addr_ne _ _ m rfl (by decide))]

/-! ### The shadow producer index of an enabled ring -/

/-- The address of a module-to-host ring's shadow producer index (R111, R129). -/
def State.cqShadow (s : State) (m : Nat) : Nat := s.cqBase m + s.cqSize m * 32

theorem State.cqShadow_cqStart (s : State) (m : Nat) : (s.cqStart m).cqShadow m = s.cqShadow m := by
  rw [State.cqShadow, State.cqBase_cqStart, State.cqSize_cqStart, State.cqShadow]

/-- A ring whose enable passes its checks starts, a 0 goes to its shadow producer index, and its interrupt count restarts. -/
theorem State.cqEnable_of_check (s : State) (m : Nat) (h : s.cqCheck m = 0) :
    s.cqEnable m =
      let s2 := (s.cqStart m).setRingMem (s.cqCores m) (memPutWords (s.ringMem (s.cqCores m)) (s.cqShadow m) [0])
      { s2 with hif := { s2.hif with unsig := tset 0 s2.hif.unsig m 0 } } := by
  rw [← State.cqShadow_cqStart, ← State.cqCores_cqStart]
  unfold State.cqEnable
  rw [h]
  rfl

theorem State.regs_setRingMem (s : State) (c : Bool) (mem : Mem) : (s.setRingMem c mem).regs = s.regs := by
  unfold State.setRingMem State.setDram
  (repeat' split) <;> rfl

theorem State.regs_cqEnable (s : State) (m : Nat) (h : s.cqCheck m = 0) : (s.cqEnable m).regs = (s.cqStart m).regs := by
  rw [State.cqEnable_of_check s m h]
  exact State.regs_setRingMem ..

theorem State.rd_cqEnable (s : State) (m : Nat) (h : s.cqCheck m = 0) (q : Reg) (i j : Nat) :
    (s.cqEnable m).rd q i j = (s.cqStart m).rd q i j :=
  congrArg (fun g => tabGet regReset g (q.addr i j)) (State.regs_cqEnable s m h)

theorem State.fld_cqEnable (s : State) (m : Nat) (h : s.cqCheck m = 0) (f : Fld) (i j : Nat) :
    (s.cqEnable m).fld f i j = (s.cqStart m).fld f i j :=
  congrArg (bitsOf · f.lo f.wd) (State.rd_cqEnable s m h f.reg i j)

theorem State.bit_cqEnable_enable (s : State) (m : Nat) (h : s.cqCheck m = 0) :
    (s.cqEnable m).bit Fld.HIF_CQ_CTRL_ENABLE m 0 = true := by
  rw [State.bit, State.fld_cqEnable s m h]
  exact State.bit_cqStart_enable s m

theorem State.cqCores_cqEnable (s : State) (m : Nat) (h : s.cqCheck m = 0) : (s.cqEnable m).cqCores m = s.cqCores m := by
  rw [State.cqCores, State.bit, State.fld_cqEnable s m h]
  exact State.cqCores_cqStart s m

theorem State.cqShadow_cqEnable (s : State) (m : Nat) (h : s.cqCheck m = 0) : (s.cqEnable m).cqShadow m = s.cqShadow m := by
  rw [State.cqShadow, State.cqBase, State.cqSize, State.rd_cqEnable s m h, State.rd_cqEnable s m h, State.fld_cqEnable s m h]
  exact State.cqShadow_cqStart s m

/-- The shadow producer index of a ring of the cores is not written where it lies in the firmware image: the word stays. -/
theorem State.memWord_cqEnable_image (s : State) (m : Nat) (h : s.cqCheck m = 0) (hc : s.cqCores m = true)
    (hlo : imageAt ≤ s.cqShadow m) (hhi : s.cqShadow m + 4 ≤ imageAt + s.sys.imgLen) :
    memWord ((s.cqEnable m).ringMem true) (s.cqShadow m) = memWord s.dram (s.cqShadow m) := by
  rw [State.cqEnable_of_check s m h, hc]
  exact memWord_congr _ _ _ fun i hi => State.memGet_setDram_image (s.cqStart m) _ _ (Nat.le_add_right_of_le hlo)
    (Nat.lt_of_lt_of_le (Nat.add_lt_add_left hi _) hhi)

/-! ### A ring within the image -/

/-- The state with module DRAM `mem`, two pages of it firmware image, and the base of ring 64 at `b`. -/
def State.withImageRing (s : State) (b : Nat) (mem : Mem) : State :=
  { s.wr Reg.HIF_CQ_BASE_LO 0 0 (w32 b) with dram := mem, sys := { s.sys with imgLen := 8192 } }

/-- That state with OWNER = CORES and 16 entries in the ring's control register, before the enable checks. -/
def State.withImageRingSet (s : State) (b : Nat) (mem : Mem) : State :=
  (s.withImageRing b mem).wr Reg.HIF_CQ_CTRL 0 0 0x402

theorem State.rd_withImageRing (s : State) (b : Nat) (mem : Mem) (q : Reg) (i j : Nat)
    (h : q.addr i j ≠ Reg.HIF_CQ_BASE_LO.addr 0 0) : (s.withImageRing b mem).rd q i j = s.rd q i j :=
  State.rd_wr_ne s Reg.HIF_CQ_BASE_LO q 0 0 i j (w32 b) h

theorem State.domOn_withImageRing (s : State) (b n : Nat) (mem : Mem) : (s.withImageRing b mem).domOn n = s.domOn n := by
  unfold State.domOn
  rw [State.rd_withImageRing _ _ _ _ _ _ (by decide), State.rd_withImageRing _ _ _ _ _ _ (by decide)]
  rfl

theorem State.bit_withImageRing_enable (s : State) (b : Nat) (mem : Mem) :
    (s.withImageRing b mem).bit Fld.HIF_CQ_CTRL_ENABLE 0 0 = s.bit Fld.HIF_CQ_CTRL_ENABLE 0 0 := by
  unfold State.bit State.fld
  rw [State.rd_withImageRing _ _ _ _ _ _ (by decide)]

theorem State.fld_withImageRingSet (s : State) (b : Nat) (mem : Mem) (f : Fld) (r : f.reg = Reg.HIF_CQ_CTRL) :
    (s.withImageRingSet b mem).fld f 0 0 = bitsOf 0x402 f.lo f.wd := by
  rw [State.fld, r, State.withImageRingSet, State.rd_wr_same]

theorem State.cqCores_withImageRingSet (s : State) (b : Nat) (mem : Mem) : (s.withImageRingSet b mem).cqCores 0 = true := by
  rw [State.cqCores, State.bit, State.fld_withImageRingSet _ _ _ _ rfl]
  decide

theorem State.cqSize_withImageRingSet (s : State) (b : Nat) (mem : Mem) : (s.withImageRingSet b mem).cqSize 0 = 16 := by
  rw [State.cqSize, State.fld_withImageRingSet _ _ _ _ rfl]
  decide

section
variable (s : State) (b : Nat) (mem : Mem) (hhi : s.rd Reg.HIF_CQ_BASE_HI 0 0 = 0) (hb : b ≤ 0x80000000)
include hhi hb

theorem State.cqBase_withImageRingSet : (s.withImageRingSet b mem).cqBase 0 = b := by
  have hl : (s.withImageRingSet b mem).rd Reg.HIF_CQ_BASE_LO 0 0 = w32 b :=
    (State.rd_wr_ne _ _ _ _ _ _ _ _ (by decide)).trans (State.rd_wr_same s Reg.HIF_CQ_BASE_LO 0 0 (w32 b))
  have hh : (s.withImageRingSet b mem).rd Reg.HIF_CQ_BASE_HI 0 0 = 0 := by
    rw [State.withImageRingSet, State.rd_wr_ne _ _ _ _ _ _ _ _ (by decide), State.rd_withImageRing _ _ _ _ _ _ (by decide),
      hhi]
  rw [State.cqBase, hl, hh, w32_toNat, Nat.mod_eq_of_lt (by omega)]
  simp

theorem State.cqShadow_withImageRingSet : (s.withImageRingSet b mem).cqShadow 0 = b + 512 := by
  rw [State.cqShadow, State.cqBase_withImageRingSet s b mem hhi hb, State.cqSize_withImageRingSet]

/-- The enable checks of R111 let the ring pass. -/
theorem State.cqCheck_withImageRingSet (hal : b % 4096 = 0) : (s.withImageRingSet b mem).cqCheck 0 = 0 := by
  have hw : inRingWindow b (16 * 32 + 32) = true := decide_eq_true (by omega)
  rw [State.cqCheck, State.cqBase_withImageRingSet s b mem hhi hb, State.cqCores_withImageRingSet,
    State.cqSize_withImageRingSet, State.fld_withImageRingSet _ _ _ _ rfl, State.fld_withImageRingSet _ _ _ _ rfl, hw,
    if_neg (by decide), if_neg (not_not.mpr hal)]
  decide

/-- The word of the image at the ring's shadow producer index outlasts the enable. -/
theorem State.memWord_withImageRingSet (hal : b % 4096 = 0) (hlo : imageAt < b) (hup : b ≤ imageAt + 4096) :
    memWord (((s.withImageRingSet b mem).cqEnable 0).ringMem true) (b + 512) = memWord mem (b + 512) := by
  have hs := State.cqShadow_withImageRingSet s b mem hhi hb
  have h := State.memWord_cqEnable_image _ _ (State.cqCheck_withImageRingSet s b mem hhi hb hal)
    (State.cqCores_withImageRingSet s b mem) (by omega) (show _ ≤ imageAt + 8192 by omega)
  rwa [hs] at h

end

theorem State.execRingEnable_withImageRing (s : State) (b : Nat) (mem : Mem) (hd : s.domOn 5 = true)
    (he : s.bit Fld.HIF_CQ_CTRL_ENABLE 0 0 = false) :
    execRingEnable 64 0x403 (s.withImageRing b mem) = .next ((s.withImageRingSet b mem).cqEnable 0) := by
  rw [execRingEnable, if_neg (by simp [State.domOn_withImageRing, hd]), if_neg (by decide), if_pos (by decide)]
  exact if_neg (by simp [State.bit_withImageRing_enable, he])

/-- The firmware image begins below a page boundary that is less than a page away. -/
theorem exists_page_in_image : ∃ b, imageAt < b ∧ b ≤ imageAt + 4096 ∧ b % 4096 = 0 ∧ b ≤ 0x80000000 := by
  have h : imageAt < 0x80000000 := Nat.mod_lt _ (by decide)
  exact ⟨(imageAt / 4096 + 1) * 4096, by omega⟩

/-- Refutes O49: a ring of the cores may have its memory anywhere in module DRAM (R111), and where its shadow producer
index lies in the firmware image, which is write-protected (R82), enabling the ring leaves the word there as it was. The
state is `State.withImageRing` at reset, with ring 64 at a page boundary within the image and a 1 where the index lies. -/
theorem not_ringEnableZeroes : ¬ Obligations.RingEnableZeroes := by
  rintro ⟨-, hcq⟩
  obtain ⟨b, hlo, hup, hal, hb⟩ := exists_page_in_image
  let mem := memPutWords [] (b + 512) [1]
  have hd : State.reset.domOn 5 = true := by decide +kernel
  have he : State.reset.bit Fld.HIF_CQ_CTRL_ENABLE 0 0 = false := by decide +kernel
  have hhi : State.reset.rd Reg.HIF_CQ_BASE_HI 0 0 = 0 := by decide +kernel
  have hk := State.cqCheck_withImageRingSet State.reset b mem hhi hb hal
  obtain ⟨t, ht, hz⟩ := hcq 0 0x403 (State.reset.withImageRing b mem) (by decide)
    ((State.domOn_withImageRing ..).trans hd) ((State.bit_withImageRing_enable ..).trans he)
  obtain rfl : (State.reset.withImageRingSet b mem).cqEnable 0 = t :=
    Host.Outcome.next.inj ((State.execRingEnable_withImageRing State.reset b mem hd he).symm.trans ht)
  obtain ⟨-, -, h0⟩ := hz (State.bit_cqEnable_enable _ _ hk)
  rw [State.cqCores_cqEnable _ _ hk, State.cqCores_withImageRingSet, ← State.cqShadow, State.cqShadow_cqEnable _ _ hk,
    State.cqShadow_withImageRingSet _ _ _ hhi hb, State.memWord_withImageRingSet _ _ _ hhi hb hal hlo hup,
    memWord_memPutWords] at h0
  exact absurd h0 (by decide)

end Sys2Proof.Machine
end

section
/-! PROOF. Ranges (R151): `rangeOf` answers the nearest legal value of each kind that has one. -/

namespace Sys2Proof.Machine

/-- Of two legal values, `v` is the one R151 takes for `n` before `x`: the nearer, or the lower of two as near. -/
def ClampsBefore (n v x : Nat) : Prop :=
  ((n : Int) - v).natAbs < ((n : Int) - x).natAbs ∨ (((n : Int) - v).natAbs = ((n : Int) - x).natAbs ∧ v ≤ x)

theorem ClampsBefore.refl (n v : Nat) : ClampsBefore n v v := .inr ⟨rfl, le_rfl⟩

theorem ClampsBefore.trans {n u v x : Nat} (huv : ClampsBefore n u v) (hvx : ClampsBefore n v x) : ClampsBefore n u x := by
  unfold ClampsBefore at huv hvx ⊢
  omega

theorem w32_toNat_of_lt {n : Nat} (h : n < 2 ^ 32) : (w32 n).toNat = n := by rw [w32_toNat, Nat.mod_eq_of_lt h]

/-! ### Integers of either sign. -/

theorem holdNat_cases (lo hi n : Nat) :
    n < lo ∧ holdNat lo hi n = lo ∨ lo ≤ n ∧ hi < n ∧ holdNat lo hi n = hi ∨ lo ≤ n ∧ n ≤ hi ∧ holdNat lo hi n = n := by
  unfold holdNat
  split_ifs <;> omega

theorem rangeOf_int_nearest {lo hi : Nat} (w : Word) (hle : lo ≤ hi) (hhi : hi < 2 ^ 32) :
    ∃ v : Word, rangeOf (.int lo hi) w = some v ∧ lo ≤ v.toNat ∧ v.toNat ≤ hi ∧
      ∀ x, lo ≤ x → x ≤ hi → ((w.toNat : Int) - v.toNat).natAbs ≤ ((w.toNat : Int) - x).natAbs := by
  have hc := holdNat_cases lo hi w.toNat
  refine ⟨w32 (holdNat lo hi w.toNat), rfl, ?_⟩
  rw [w32_toNat_of_lt (by omega)]
  exact ⟨by omega, by omega, fun x hlx hxh => by omega⟩

theorem wInt_toInt {i : Int} (hlo : -(2 ^ 31) ≤ i) (hhi : i < 2 ^ 31) : (wInt i).toInt = i :=
  BitVec.toInt_ofInt_eq_self (by decide) hlo hhi

theorem rangeOf_sint_nearest {lo hi : Int} (w : Word) (hlo : -(2 ^ 31) ≤ lo) (hle : lo ≤ hi) (hhi : hi < 2 ^ 31) :
    ∃ v : Word, rangeOf (.sint lo hi) w = some v ∧ lo ≤ v.toInt ∧ v.toInt ≤ hi ∧
      ∀ x, lo ≤ x → x ≤ hi → (w.toInt - v.toInt).natAbs ≤ (w.toInt - x).natAbs := by
  refine ⟨_, rfl, ?_⟩
  unfold sInt
  split_ifs with hbelow habove
  · rw [wInt_toInt hlo (by omega)]
    exact ⟨le_rfl, hle, fun x hlx hxh => by omega⟩
  · rw [wInt_toInt (by omega) hhi]
    exact ⟨hle, le_rfl, fun x hlx hxh => by omega⟩
  · exact ⟨by omega, by omega, fun x hlx hxh => by omega⟩

/-! ### Multiples of a step: none lies strictly between the multiple at or below the value and the next one. -/

/-- The multiple of a step that `rangeOf` holds to the limits: of the two around the value the nearer, a tie to the lower. -/
def nearestMultiple (st n : Nat) : Nat :=
  if n - n / st * st ≤ n / st * st + st - n then n / st * st else n / st * st + st

theorem rangeOf_step (lo hi st : Nat) (w : Word) :
    rangeOf (.step lo hi st) w = some (w32 (holdNat lo hi (nearestMultiple st w.toNat))) := rfl

theorem dvd_nearestMultiple (st n : Nat) : st ∣ nearestMultiple st n := by
  have hd : st ∣ n / st * st := Nat.dvd_mul_left _ _
  unfold nearestMultiple
  split_ifs
  · exact hd
  · exact hd.add (Nat.dvd_refl st)

theorem le_or_add_le_of_dvd {st d x : Nat} (hd : st ∣ d) (hx : st ∣ x) : x ≤ d ∨ d + st ≤ x := by
  rcases Nat.lt_or_ge d x with hlt | hge
  · have := Nat.le_of_dvd (by omega) (Nat.dvd_sub hx hd)
    omega
  · exact .inl hge

theorem holdNat_dvd {lo hi st n : Nat} (hlo : st ∣ lo) (hhi : st ∣ hi) (hn : st ∣ n) : st ∣ holdNat lo hi n := by
  unfold holdNat
  split_ifs <;> assumption

theorem nearestMultiple_before {st x : Nat} (n : Nat) (hst : 0 < st) (hx : st ∣ x) :
    ClampsBefore n (nearestMultiple st n) x := by
  have hbelow : n / st * st ≤ n := Nat.div_mul_le_self n st
  have habove : n < n / st * st + st := Nat.lt_div_mul_add hst
  have hxd := le_or_add_le_of_dvd (Nat.dvd_mul_left st (n / st)) hx
  unfold nearestMultiple ClampsBefore
  split_ifs <;> omega

/-- What R151 takes before a legal value within the limits may be held to them, and is still taken before it. -/
theorem ClampsBefore.holdNat {n m lo hi x : Nat} (hx : ClampsBefore n m x) (hlx : lo ≤ x) (hxh : x ≤ hi) :
    ClampsBefore n (holdNat lo hi m) x := by
  have hc := holdNat_cases lo hi m
  unfold ClampsBefore at hx ⊢
  omega

theorem rangeOf_step_nearest {lo hi st : Nat} (w : Word) (hst : 0 < st) (hlo : st ∣ lo) (hhi : st ∣ hi) (hle : lo ≤ hi)
    (hlt : hi < 2 ^ 32) :
    ∃ v : Word, rangeOf (.step lo hi st) w = some v ∧ lo ≤ v.toNat ∧ v.toNat ≤ hi ∧ st ∣ v.toNat ∧
      ∀ x, lo ≤ x → x ≤ hi → st ∣ x → ClampsBefore w.toNat v.toNat x := by
  have hc := holdNat_cases lo hi (nearestMultiple st w.toNat)
  refine ⟨_, rangeOf_step lo hi st w, ?_⟩
  rw [w32_toNat_of_lt (by omega)]
  exact ⟨by omega, by omega, holdNat_dvd hlo hhi (dvd_nearestMultiple st w.toNat),
    fun x hlx hxh hx => (nearestMultiple_before w.toNat hst hx).holdNat hlx hxh⟩

/-! ### Listed values: the value that `nearestOf` carries along the ascending list is the one R151 takes of those seen. -/

/-- One turn of `nearestOf`: a higher value replaces the one carried where it is strictly nearer. -/
theorem nearestOf_cons (n x b : Nat) (xs : List Nat) (hbx : b ≤ x) :
    ∃ c, (c = b ∨ c = x) ∧ ClampsBefore n c b ∧ ClampsBefore n c x ∧ nearestOf n (x :: xs) b = nearestOf n xs c := by
  unfold ClampsBefore
  refine ⟨_, ?_, ?_, ?_, rfl⟩ <;> dsimp only <;> split_ifs <;> omega

theorem nearestOf_mem_before (n : Nat) (xs : List Nat) (b : Nat) (hasc : (b :: xs).Pairwise (· ≤ ·)) :
    nearestOf n xs b ∈ b :: xs ∧ ∀ x ∈ b :: xs, ClampsBefore n (nearestOf n xs b) x := by
  induction xs generalizing b with
  | nil => simpa [nearestOf] using ClampsBefore.refl n b
  | cons y ys ih =>
    obtain ⟨hb, hys⟩ := List.pairwise_cons.mp hasc
    obtain ⟨hy, hrest⟩ := List.pairwise_cons.mp hys
    obtain ⟨c, hc, hcb, hcy, heq⟩ := nearestOf_cons n y b ys (hb y List.mem_cons_self)
    have hcys : (c :: ys).Pairwise (· ≤ ·) := by
      refine List.pairwise_cons.mpr ⟨?_, hrest⟩
      rcases hc with rfl | rfl
      · exact fun z hz => hb z (List.mem_cons_of_mem _ hz)
      · exact hy
    obtain ⟨hmem, hbefore⟩ := ih c hcys
    have hcarried := hbefore c List.mem_cons_self
    rw [heq]
    constructor
    · rcases List.mem_cons.mp hmem with hkept | hlater
      · rw [hkept]
        rcases hc with rfl | rfl <;> simp
      · exact List.mem_cons_of_mem _ (List.mem_cons_of_mem _ hlater)
    · simp only [List.forall_mem_cons] at hbefore ⊢
      exact ⟨hcarried.trans hcb, hcarried.trans hcy, hbefore.2⟩

theorem rangeOf_set_nearest {vals : List Nat} (w : Word) (hne : vals ≠ []) (hasc : vals.Pairwise (· < ·))
    (hlt : ∀ x ∈ vals, x < 2 ^ 32) :
    ∃ v : Word, rangeOf (.set vals) w = some v ∧ v.toNat ∈ vals ∧ ∀ x ∈ vals, ClampsBefore w.toNat v.toNat x := by
  obtain ⟨b, xs, rfl⟩ := List.exists_cons_of_ne_nil hne
  have hfirst : (b :: b :: xs).Pairwise (· ≤ ·) := by
    have hle := hasc.imp Nat.le_of_lt
    refine List.pairwise_cons.mpr ⟨?_, hle⟩
    simpa using (List.pairwise_cons.mp hle).1
  obtain ⟨hmem, hbefore⟩ := nearestOf_mem_before w.toNat (b :: xs) b hfirst
  have hmem : nearestOf w.toNat (b :: xs) b ∈ b :: xs := by simpa using hmem
  refine ⟨w32 (nearestOf w.toNat (b :: xs) b), rfl, ?_⟩
  rw [w32_toNat_of_lt (hlt _ hmem)]
  exact ⟨hmem, fun x hx => hbefore x (List.mem_cons_of_mem _ hx)⟩

/-! ### Binary32: `clamp32` for a number, and the infinities beyond every finite limit. -/

theorem rangeOf_f32 (lo hi : Word) {w : Word} (hw : isNan32 w = false) :
    rangeOf (.f32 lo hi) w = some (clamp32 lo hi w) := by
  simp [rangeOf, holdF, hw]

theorem clamp32_below {lo w : Word} (hi : Word) (h : Fl.lt (f32 w) (f32 lo) = true) : clamp32 lo hi w = lo := if_pos h

theorem clamp32_above {lo hi w : Word} (hlo : Fl.lt (f32 w) (f32 lo) = false) (hhi : Fl.lt (f32 hi) (f32 w) = true) :
    clamp32 lo hi w = hi := by
  simp [clamp32, hlo, hhi]

theorem clamp32_within {lo hi w : Word} (hlo : Fl.lt (f32 w) (f32 lo) = false) (hhi : Fl.lt (f32 hi) (f32 w) = false) :
    clamp32 lo hi w = w := by
  simp [clamp32, hlo, hhi]

theorem Fl.lt_inf_of_isFin {x : Fl} (hx : x.isFin = true) (neg : Bool) : Fl.lt x (.inf neg) = !neg := by
  cases x with
  | fin _ _ _ => cases neg <;> rfl
  | nan | inf _ => cases hx

theorem Fl.inf_lt_of_isFin {x : Fl} (hx : x.isFin = true) (neg : Bool) : Fl.lt (.inf neg) x = neg := by
  cases x with
  | fin _ _ _ => cases neg <;> rfl
  | nan | inf _ => cases hx

theorem f32_posInf : f32 0x7F800000 = .inf false := by decide

theorem f32_negInf : f32 0xFF800000 = .inf true := by decide

theorem rangeOf_f32_posInf {lo hi : Word} (hlo : (f32 lo).isFin = true) (hhi : (f32 hi).isFin = true) :
    rangeOf (.f32 lo hi) 0x7F800000 = some hi := by
  rw [rangeOf_f32 lo hi (by decide), clamp32_above]
  · rw [f32_posInf, Fl.inf_lt_of_isFin hlo]
  · rw [f32_posInf, Fl.lt_inf_of_isFin hhi, Bool.not_false]

theorem rangeOf_f32_negInf {lo : Word} (hi : Word) (hlo : (f32 lo).isFin = true) :
    rangeOf (.f32 lo hi) 0xFF800000 = some lo := by
  rw [rangeOf_f32 lo hi (by decide), clamp32_below]
  rw [f32_negInf, Fl.inf_lt_of_isFin hlo]

/-- Settles O47: kind by kind, `rangeOf` answers a legal value that R151 takes before every other. -/
theorem clampNearest : Obligations.ClampNearest := by
  refine ⟨fun _ _ w hle hhi => rangeOf_int_nearest w hle hhi,
    fun _ _ w hlo hle hhi => rangeOf_sint_nearest w hlo hle hhi,
    fun _ _ _ w hst hlo hhi hle hlt => rangeOf_step_nearest w hst hlo hhi hle hlt,
    fun _ w hne hasc hlt => rangeOf_set_nearest w hne hasc hlt,
    fun lo hi w hlo hhi _ => ⟨rangeOf_f32_posInf hlo hhi, rangeOf_f32_negInf hi hlo, ?_, ?_, ?_⟩⟩
  · intro hw hbelow
    rw [rangeOf_f32 lo hi hw, clamp32_below hi hbelow]
  · intro hw hlow habove
    rw [rangeOf_f32 lo hi hw, clamp32_above hlow habove]
  · intro hw hlow hhigh
    rw [rangeOf_f32 lo hi hw, clamp32_within hlow hhigh]

end Sys2Proof.Machine
end

section
/-! PROOF. What every command answers: a next state with the same queue, in which Meridian's invariant and the canonical form
of the nonvolatile memories still hold. The commands come in three families, by the law that each one's meaning has. -/

namespace Sys2Proof.Machine

/-- What every command keeps of a state: the queue, Meridian's invariant, and the canonical form of MRAM and flash. -/
structure KeepsInvariants (s t : State) : Prop where
  pending : t.pending = s.pending
  mer : s.mer.Ok → t.mer.Ok
  memories : s.MemoriesOk → t.MemoriesOk

/-- An outcome is a next state that keeps them. -/
def Answers (s : State) (o : Host.Outcome State Fault Refusal) : Prop := ∃ t, o = .next t ∧ KeepsInvariants s t

/-- A command that may write Meridian or a nonvolatile memory. -/
theorem Answers.of_keeps {s : State} {o : Host.Outcome State Fault Refusal} (h : KeepsOut s.quiet o) : Answers s o := by
  obtain ⟨t, ho, hk⟩ := h
  exact ⟨t, ho, hk.pending, hk.mer, fun ⟨hf, hm⟩ => ⟨hk.flash hf, hk.mram hm⟩⟩

/-- A command that writes neither, nor the Perimeter die. -/
theorem Answers.of_quiet {s : State} {o : Host.Outcome State Fault Refusal} (h : quietOf o = some s.quiet) : Answers s o :=
  .of_keeps (keepsOut_quiet h (.rfl' _))

/-- A command that writes the Perimeter die alone of those parts. -/
theorem Answers.of_rest {s : State} {o : Host.Outcome State Fault Refusal} (h : restOf o = some s.rest) : Answers s o := by
  cases o with
  | next t =>
    obtain ⟨hp, hm, hf, hr⟩ : t.pending = s.pending ∧ t.mer = s.mer ∧ t.flash = s.flash ∧ t.mram = s.mram := by
      simpa [restOf, State.rest] using h
    exact ⟨t, rfl, hp, fun ok => hm ▸ ok, fun ⟨okf, okm⟩ => ⟨hf ▸ okf, hr ▸ okm⟩⟩
  | fault r => cases h
  | refused r => cases h

/-- Every command answers, whatever the state. -/
theorem exec_answers (c : Instr) (s : State) : Answers s (exec c s) := by
  have k := Keeps.rfl' s.quiet
  cases c
  case safetySupplyOn => exact .of_rest (execSafetySupplyOn_rest ..)
  case selftestDone => exact .of_rest (execSelftestDone_rest ..)
  case safetySupplyLoss => exact .of_rest (execSafetySupplyLoss_rest ..)
  case safetyInputDemand => exact .of_rest (execSafetyInputDemand_rest ..)
  case safetyInputPermit => exact .of_rest (execSafetyInputPermit_rest ..)
  case tpFault => exact .of_rest (execTpFault_rest ..)
  case discrepancy => exact .of_rest (execDiscrepancy_rest ..)
  case mutingStart => exact .of_rest (execMutingStart_rest ..)
  case mutingLimit => exact .of_rest (execMutingLimit_rest ..)
  case resetPulse => exact .of_rest (execResetPulse_rest ..)
  case resetStuck => exact .of_rest (execResetStuck_rest ..)
  case stopRequestFrame => exact .of_rest (execStopRequestFrame_rest ..)
  case stopChannelLoss => exact .of_rest (execStopChannelLoss_rest ..)
  case channelDisagree => exact .of_rest (execChannelDisagree_rest ..)
  case switchTest => exact .of_rest (execSwitchTest_rest ..)
  case readbackFault => exact .of_rest (execReadbackFault_rest ..)
  case dieFault => exact .of_rest (execDieFault_rest ..)
  case patternChange => exact .of_rest (execPatternChange_rest ..)
  case resetStuckClear => exact .of_rest (execResetStuckClear_rest ..)
  case registerWrite => exact .of_keeps (execRegisterWrite_keeps k ..)
  case registerReadClear => exact .of_keeps (execRegisterReadClear_keeps k ..)
  case clockLoss => exact .of_keeps (execClockLoss_keeps k ..)
  case tcxoReturn => exact .of_keeps (execTcxoReturn_keeps k ..)
  case powerGoodLost => exact .of_keeps (execPowerGoodLost_keeps k ..)
  case powerRelease => exact .of_keeps (execPowerRelease_keeps k ..)
  case hotInsertion => exact .of_keeps (execHotInsertion_keeps k ..)
  case presenceSettled => exact .of_keeps (execPresenceSettled_keeps k ..)
  case srstRelease => exact .of_keeps (execSrstRelease_keeps k ..)
  case thermalRecovery => exact .of_keeps (execThermalRecovery_keeps k ..)
  case coldStart => exact .of_keeps (execColdStart_keeps k ..)
  case warmRestart => exact .of_keeps (execWarmRestart_keeps k ..)
  case sysResetCold => exact .of_keeps (execSysResetCold_keeps k ..)
  case trialTimeout => exact .of_keeps (execTrialTimeout_keeps k ..)
  case sysFwWrite => exact .of_keeps (execSysFwWrite_keeps k ..)
  case blockValuesTaken => exact .of_keeps (execBlockValuesTaken_keeps k ..)
  case facetFrameTick => exact .of_keeps (execFacetFrameTick_keeps k ..)
  case ethTxSent => exact .of_keeps (execEthTxSent_keeps k ..)
  case merOfsGo => exact .of_keeps (execMerOfsGo_keeps k ..)
  case servoHoldover => exact .of_keeps (execServoHoldover_keeps k ..)
  case servoFreeRun => exact .of_keeps (execServoFreeRun_keeps k ..)
  case slewComplete => exact .of_keeps (execSlewComplete_keeps k ..)
  case merSet => exact .of_keeps (execMerSet_keeps k ..)
  case merTxtsPop => exact .of_keeps (execMerTxtsPop_keeps k ..)
  case timeMarkRx => exact .of_keeps (execTimeMarkRx_keeps k ..)
  case takeover => exact .of_keeps (execTakeover_keeps k ..)
  case epochApply => exact .of_keeps (execEpochApply_keeps k ..)
  case switchGo => exact .of_keeps (execSwitchGo_keeps k ..)
  case mramStatusPoll => exact .of_keeps (execMramStatusPoll_keeps k ..)
  all_goals
    refine .of_quiet ?_
    simp only [exec, execMalformedAccess_quiet, execOffDomainAccess_quiet, execClockRestored_quiet,
      execPwrUnlockWrite_quiet, execPwrUnlockExpiry_quiet, execPwrCtrlWrite_quiet, execDomainPowerGood_quiet,
      execDomainOffComplete_quiet, execBaseIdChange_quiet, execLsSag_quiet, execPowerFail_quiet, execSelfRefreshLost_quiet,
      execTempWarn_quiet, execTempCritical_quiet, execThermalShutdown_quiet, execLeverOpen_quiet, execLeverClose_quiet,
      execPresenceContactLost_quiet, execPresenceLost_quiet, execRemovalOutputsOff_quiet, execSysResetWarm_quiet,
      execCheckpointPeriod_quiet, execCheckpointCapture_quiet, execCheckpointWriteDone_quiet, execSysFwVerify_quiet,
      execSysFwTrial_quiet, execSysFwConfirm_quiet, execPcieLinkUp_quiet, execPcieLinkDown_quiet, execRingEnable_quiet,
      execRingDisable_quiet, execSqDoorbell_quiet, execCqDoorbell_quiet, execDescriptorFetch_quiet,
      execCqCoalesceTimeout_quiet, execReportRoomResume_quiet, execHostDmaError_quiet, execHifNop_quiet, execHifAbort_quiet,
      execHifQuery_quiet, execCfgStage_quiet, execCfgStageTable_quiet, execCfgDataWrite_quiet, execCfgValidateCommit_quiet,
      execCfgDryRun_quiet, execCfgJournalWritten_quiet, execCfgDiscard_quiet, execCfgRead_quiet, execCfgPersist_quiet,
      execCfgImageExport_quiet, execCfgImageImport_quiet, execFullImageWritten_quiet, execTanGainWrite_quiet,
      execTanKffWrite_quiet, execTanDfiltWrite_quiet, execArcBootWrite_quiet, execArcIrqdivWrite_quiet,
      execFctDithrWrite_quiet, execFctDebounceWrite_quiet, execFctSpotSelWrite_quiet, execDownstreamFrameRx_quiet,
      execUpstreamFrameRx_quiet, execFacetLinkDown_quiet, execFacetLinkUp_quiet, execPerimOffLine_quiet,
      execPerimOffRelease_quiet, execFacetWdtExpiry_quiet, execFallbackEval_quiet, execFallbackExpiry_quiet,
      execPairReleaseRamp_quiet, execDiChange_quiet, execDoOverload_quiet, execDoRetry_quiet, execDoTotalOverload_quiet,
      execDoTotalShedNext_quiet, execDoMismatch_quiet, execDoMismatchClear_quiet, execSupWarn_quiet, execSupLow_quiet,
      execShedGroupInstant_quiet, execShedRestart_quiet, execSupRecovered_quiet, execAutoRestoreGroup_quiet,
      execFacetSupplyReset_quiet, execFacetPowerUp_quiet, execPiGateEnd_quiet, execFctOutput_quiet, execFctRestore_quiet,
      execFctPiclear_quiet, execSliceCorrection_quiet, execFctCal_quiet, execFctCalDone_quiet, execFctDiagPath_quiet,
      execFctDiagWire_quiet, execDiagDone_quiet, execFctCalsetRead_quiet, execFctCalsetWrite_quiet, execFctTrimdrive_quiet,
      execFctTrimdriveRelease_quiet, execFctHart_quiet, execHartReply_quiet, execHartReplyTimeout_quiet,
      execHartTxTimeout_quiet, execHartUnsolicited_quiet, execAiOpenDetect_quiet, execAiOpenClear_quiet,
      execAoCompliance_quiet, execAoOpen_quiet, execAoThermalStep_quiet, execAoVOverload_quiet, execLoopTick_quiet,
      execLoopReady_quiet, execLoopEvaluation_quiet, execLoopResultHandoff_quiet, execLoopDeadlineMiss_quiet,
      execTanMode_quiet, execTanSetpoint_quiet, execTanManout_quiet, execTanInject_quiet, execTanInjectStop_quiet,
      execLocusTick_quiet, execStepTimeout_quiet, execSchedSlotFire_quiet, execReadinessTokenRx_quiet,
      execPendingTokenExpiry_quiet, execWithdrawNoticeRx_quiet, execRemoteTokenOutcome_quiet, execLocStart_quiet,
      execLocHold_quiet, execLocResume_quiet, execLocAbort_quiet, execLocJump_quiet, execLocReset_quiet, execLocToken_quiet,
      execLocCounterSet_quiet, execLocCounterAdd_quiet, execLocSchedArm_quiet, execLocSchedCancel_quiet,
      execLatticeScan_quiet, execLatTimerExpiry_quiet, execLatPatch_quiet, execLatStop_quiet, execLatStopBoundary_quiet,
      execLatStart_quiet, execLatShadowStart_quiet, execLatShadowStop_quiet, execLatCmpRead_quiet, execVertexEvent_quiet,
      execDepRelease_quiet, execVertexDispatch_quiet, execVtxCoreDone_quiet, execVtxCoreRaise_quiet,
      execVtxCoreEnable_quiet, execVtxCoreDisable_quiet, execVtxCoreFlush_quiet, execVtxCoreCiWrite_quiet,
      execVtxCoalesceTimeout_quiet, execVtxPost_quiet, execVtxSignal_quiet, execArcPeriodBoundary_quiet,
      execArcEdgeEvent_quiet, execArcSet_quiet, execArcStartNow_quiet, execArcStartAt_quiet, execArcArmedStart_quiet,
      execArcStopAtEnd_quiet, execArcStopNow_quiet, execArcClear_quiet, execArcTrip_quiet, execPrismSample_quiet,
      execCoValue_quiet, execChangeEntryTimeout_quiet, execCoMaxintExpiry_quiet, execReductionComplete_quiet,
      execTriggerFire_quiet, execTriggerTimeReached_quiet, execRecordComplete_quiet, execHoldoffEnd_quiet,
      execCaptureEntry_quiet, execPrismStreamDeliver_quiet, execPrmArm_quiet, execPrmDisarm_quiet, execPrmTrigger_quiet,
      execPrmMark_quiet, execPrmRead_quiet, execPrmHistRead_quiet, execHelixEvent_quiet, execHlxIntakeResume_quiet,
      execHlxStreamDeliver_quiet, execFreezeTimeout_quiet, execHlxRead_quiet, execHlxFreeze_quiet, execHlxUnfreeze_quiet,
      execHlxFfRearm_quiet, execCanTx_quiet, execCanFlush_quiet, execCanTxAttempt_quiet, execCanAttemptEnd_quiet,
      execCanFrameRx_quiet, execCanRxDeliver_quiet, execCanBusOff_quiet, execCanRecover_quiet, execCanBusoffRecovered_quiet,
      execEthTx_quiet, execEthTxFlush_quiet, execEthFrameRx_quiet, execEthRxDeliver_quiet, execPrpEntryForget_quiet,
      execPrpSupervision_quiet, execCyclicFrameSend_quiet, execCyclicFrameLate_quiet, execEthLinkUp_quiet,
      execEthLinkDown_quiet, execMerSnap_quiet, execVxlPortUp_quiet, execVxlPortDown_quiet, execHelloSend_quiet,
      execHelloRx_quiet, execRingNumberTimeout_quiet, execVxlFrameRx_quiet, execTimeMarkSend_quiet,
      execLinkDelayMeasure_quiet, execCycleMark_quiet, execScanRx_quiet, execCycleJudgement_quiet, execManagerLost_quiet,
      execGrantRequestRx_quiet, execGrantTimeout_quiet, execRemoteItemRx_quiet, execRemoteResultRx_quiet,
      execRemoteQueryTimer_quiet, execRemoteQueryRx_quiet, execJoinRequest_quiet, execJoinRequestRx_quiet,
      execPresenceTimeout_quiet, execVxlWrite_quiet, execVxlLeave_quiet, execVxlMembers_quiet, execHeartbeatSend_quiet,
      execHeartbeatRx_quiet, execPathLost_quiet, execEpochCapture_quiet, execSyncLagTimeout_quiet, execArbWaitExpiry_quiet,
      execMirrorWaitTimeout_quiet, execPairYield_quiet, execMirTokenRead_quiet, execMirSwitch_quiet,
      execSwitchInstant_quiet, execLeaveNoticeRx_quiet, execMirResync_quiet, execMirLocalWrite_quiet,
      execResetOneChannel_quiet, execCrossLinkExchange_quiet, execStatusFrame_quiet, execStatusChannelLoss_quiet,
      execPerStopWrite_quiet, execPerStopReq_quiet, execFaultEntry_quiet, execFltHack_quiet, execEccCorrected_quiet,
      execEccUncorrectable_quiet, execPatrolScrub_quiet, execFlashCheck_quiet, execFltWdkick_quiet, execFltWdWrite_quiet,
      execCoreWdtExpiry_quiet, execEngineWdtExpiry_quiet, execAoComplianceClear_quiet, execAoOpenClear_quiet,
      execAoVOverloadClear_quiet, execMsixEnable_quiet, execGrantReplyRx_quiet, execCycleFrameRx_quiet,
      execJoinReplyRx_quiet, execQueryAnswerRx_quiet, execLeaveRequestRx_quiet]

/-- Settles O42: every command answers, and what it keeps holds the queue. -/
theorem everyCommandAnswers : Obligations.EveryCommandAnswers := by
  intro c s
  obtain ⟨t, ht, hk⟩ := exec_answers c s
  exact ⟨t, ht, hk.pending⟩

/-- A step is a command run on the rest of the queue, or a tick; either keeps the invariants. -/
theorem step_answers (s : State) : ∃ t, step s = .next t ∧ (s.mer.Ok → t.mer.Ok) ∧ (s.MemoriesOk → t.MemoriesOk) := by
  unfold step
  split
  · have hk := State.timeTick_keeps (Keeps.rfl' s.quiet)
    exact ⟨_, rfl, hk.mer, fun ⟨hf, hm⟩ => ⟨hk.flash hf, hk.mram hm⟩⟩
  · rename_i c cs _
    obtain ⟨t, ht, hk⟩ := exec_answers c { s with pending := cs }
    exact ⟨t, ht, hk.mer, hk.memories⟩

/-- Settles O43, by the law of Meridian in what every step keeps. -/
theorem meridianInvariant : Obligations.MeridianInvariant := by
  intro s h
  obtain ⟨t, ht, hm, -⟩ := step_answers s
  exact ⟨t, ht, hm h⟩

/-- Settles O44, by the law of the memories in what every step keeps. -/
theorem memoriesInvariant : Obligations.MemoriesInvariant := by
  intro s h
  obtain ⟨t, ht, -, hm⟩ := step_answers s
  exact ⟨t, ht, hm h⟩

end Sys2Proof.Machine
end

section
/-! PROOF. Reports and stamps: the numbers of the Helix intake and of the Vertex sources, the order of the fault queue, the
carry of a stamp, and the laws of a memory. -/

namespace Sys2Proof.Machine

/-! ### Helix -/

theorem HelixSince.start (h : HlxSt) : HelixSince h.seq h.log h 0 :=
  ⟨by simp [w32], fun _ hr => .inl hr, id⟩

/-- An event that finds the intake FIFO full takes its number and leaves the log alone (R432). -/
theorem execHelixEvent_full {e : Event} {st : Stamp} {full : Bool} {s : State}
    (h : full = true ∧ s.tr.hlx.running = true ∧ s.tr.hlx.drop.isNone = true) :
    execHelixEvent e st full s = .next (s.setHlx { s.tr.hlx with
      seq := s.tr.hlx.seq + 1, drop := some (LossRun.add none s.tr.hlx.seq),
      dropIntake := satAdd 65535 s.tr.hlx.dropIntake 1 }) := if_pos h

/-- Any other event goes through the intake, and what follows from it is reported. -/
theorem execHelixEvent_taken {e : Event} {st : Stamp} {full : Bool} {s : State}
    (h : ¬(full = true ∧ s.tr.hlx.running = true ∧ s.tr.hlx.drop.isNone = true)) :
    execHelixEvent e st full s =
      .next (State.report { s with tr := (s.tr.intake s e st false).1 } (s.tr.intake s e st false).2) := if_neg h

/-- HELIX_EVENT numbers its event and what follows from it, at most one number a piece of work. -/
theorem execHelixEvent_since (e : Event) (st : Stamp) (full : Bool) (s : State) :
    ∃ t k, execHelixEvent e st full s = .next t ∧ 1 ≤ k ∧ k ≤ 25 ∧ HelixSince s.tr.hlx.seq s.tr.hlx.log t.tr.hlx k := by
  by_cases h : full = true ∧ s.tr.hlx.running = true ∧ s.tr.hlx.drop.isNone = true
  · exact ⟨_, 1, execHelixEvent_full h, le_rfl, by omega, rfl, fun _ hr => .inl hr, id⟩
  · have first := Trace.intake_since s e st false s.tr s.tr.hlx.seq s.tr.hlx.log 0 (by omega) (.start s.tr.hlx)
    obtain ⟨k, hlo, hhi, hk⟩ := Trace.run_since { s with tr := (s.tr.intake s e st false).1 } s.tr.hlx.seq s.tr.hlx.log
      traceFuel (s.tr.intake s e st false).2 (s.tr.intake s e st false).1 1 (by decide) first
    exact ⟨_, k, execHelixEvent_taken h, hlo, hhi, hk⟩

/-- Settles O54: the number that an event takes, and those of the report behind it. -/
theorem helixNumbersEvents : Obligations.HelixNumbersEvents := by
  intro e st full s
  obtain ⟨t, k, ht, hlo, hhi, hseq, hlog, hlen⟩ := execHelixEvent_since e st full s
  exact ⟨t, ht, ⟨k, hlo, hhi, hseq, hlog⟩, hlen⟩

/-! ### Vertex -/

/-- A raised source is served first, and what follows from it is run after it. -/
theorem State.report_src_tr (s : State) (n inst code : Nat) (param : Word) (st : Stamp) :
    (s.report [Work.src n inst code param st]).tr =
      Trace.run s 23 (Trace.source s n inst code param st s.tr).2 (Trace.source s n inst code param st s.tr).1 := rfl

/-- Settles O55: the source's own event advances its number, and the work that follows is of other sources. -/
theorem vertexNumbersEvents : Obligations.VertexNumbersEvents := by
  intro n inst code param st s hrun hn
  refine ⟨_, rfl, ?_⟩
  rw [State.report_src_tr]
  obtain ⟨hseq, hitems⟩ := Trace.source_same s n inst code param st s.tr hrun
  obtain ⟨hseq', hitems'⟩ := Trace.run_other s n hn 23 _ (Trace.source s n inst code param st s.tr).1
    (Trace.source_follows s n inst code param st s.tr)
  exact ⟨hseq'.trans hseq, fun i hi hs => hitems i (hitems' i hi hs) hs⟩

/-! ### The fault queue -/

/-- An acknowledgement presents the next entry, if one was presented, and has no effect otherwise. -/
theorem execFltHack_cases (sev : Nat) (s : State) :
    (s.tr.flt.pres sev ≠ none ∧ execFltHack sev s =
      .next { s with tr := Trace.present s { s.tr with flt := s.tr.flt.setPres sev none } }) ∨
    execFltHack sev s = .next s := by
  unfold execFltHack
  split
  · rename_i h
    exact .inl ⟨fun hn => by simp [hn] at h, rfl⟩
  · exact .inr rfl

theorem execFltHack_ok (sev : Nat) (s : State) (h : s.tr.flt.Ok) :
    ∃ t, execFltHack sev s = .next t ∧ t.tr.flt.Ok := by
  rcases execFltHack_cases sev s with ⟨-, hp⟩ | hs
  · refine ⟨_, hp, Trace.present_ok s _ ?_⟩
    rw [FltSt.waiting_setPres]
    exact h.1
  · exact ⟨s, hs, h⟩

theorem execFltHack_none (sev : Nat) (s : State) (h : s.tr.flt.pres sev = none) : execFltHack sev s = .next s := by
  rcases execFltHack_cases sev s with ⟨hp, -⟩ | hs
  · exact absurd h hp
  · exact hs

/-- Settles O56: a report and an acknowledgement both end in presenting. -/
theorem faultsPresentBySeverity : Obligations.FaultsPresentBySeverity :=
  ⟨fun e st q s h => ⟨_, rfl, Trace.run_ok s traceFuel [Work.flt e st q] s.tr h⟩, execFltHack_ok, execFltHack_none⟩

/-! ### Stamps -/

/-- The nanoseconds that a time counts advance by the whole nanoseconds added to it. -/
theorem ns_add (t : Int) (k : Nat) : (t + (k : Int) * 4294967296) / 4294967296 = t / 4294967296 + k :=
  Int.add_mul_ediv_right t k (by decide)

/-- Settles O57: seconds and nanoseconds are the quotient and remainder of the nanoseconds counted. -/
theorem stampCarries : Obligations.StampCarries := by
  intro t k hk
  refine ⟨?_, ?_, ?_⟩
  · simp only [stampOf]; omega
  · simp only [stampOf]; omega
  · split
    · rename_i h
      simp only [stampOf, ns_add] at h ⊢
      exact congrArg₂ Stamp.mk (by omega) (by omega)
    · rename_i h
      simp only [stampOf, ns_add] at h ⊢
      exact congrArg₂ Stamp.mk (by omega) (by omega)

/-! ### Memories -/

/-- A byte of a block written, or the byte that was there. -/
theorem memGet_memPut (m : Mem) (a : Nat) (bs : List Byte) (x : Nat) :
    memGet (memPut m a bs) x = if a ≤ x ∧ x < a + bs.length then bs.getD (x - a) 0 else memGet m x := by
  split
  · rename_i h
    obtain ⟨i, rfl⟩ := Nat.exists_eq_add_of_le h.1
    have hi : i < bs.length := by omega
    rw [memGet_memPut_in m a bs i hi, Nat.add_sub_cancel_left, List.getD_eq_getElem _ _ hi]
  · exact memGet_memPut_out m a x bs (by omega)

/-- Settles O58, by the laws of the sparse stores. -/
theorem memoryLaws : Obligations.MemoryLaws :=
  ⟨fun m a b x => memGet_memSet m a x b, memGet_memPut, memPut_wf, fun m m' => tabWf_ext _ m m'⟩

end Sys2Proof.Machine
end

section
/-! PROOF. Items (R120, R136): every command that is an item is served through `serve`, whose laws say the rest. -/

namespace Sys2Proof.Machine

/-- A command that is an item has its effect where `serve` gives it one. -/
theorem exec_eq_serve {c : Instr} {it : Item} (h : servedItem c = some it) (s : State) :
    ∃ k, exec c s = serve it s k := by
  cases c <;> cases h
  all_goals
    simp only [exec, execHifNop, execHifQuery, execArcClear, execArcSet, execArcStartNow, execArcStartAt,
      execArcStopAtEnd, execArcStopNow, execCanTx, execCanFlush, execCfgStage, execCfgStageTable, execCfgDiscard,
      execCfgRead, execCfgValidateCommit, execCfgDryRun, execCfgPersist, execCfgImageExport, execCfgImageImport,
      execEthTx, execEthTxFlush, execFctOutput, execFctRestore, execFctPiclear, execFctCal, execFctDiagPath,
      execFctDiagWire, execFctCalsetRead, execFctCalsetWrite, execFctTrimdrive, execFctTrimdriveRelease, execFctHart,
      execSysFwWrite, execSysFwVerify, execSysFwTrial, execSysFwConfirm, execHlxRead, execHlxFreeze, execHlxUnfreeze,
      execHlxFfRearm, execLatPatch, execLatStop, execLatStart, execLatShadowStart, execLatShadowStop, execLatCmpRead,
      execLocStart, execLocHold, execLocResume, execLocAbort, execLocJump, execLocReset, execLocToken, execLocCounterSet,
      execLocCounterAdd, execLocSchedArm, execLocSchedCancel, execMerSet, execMirSwitch, execMirResync, execPerStopReq,
      execPrmArm, execPrmDisarm, execPrmTrigger, execPrmMark, execPrmRead, execPrmHistRead, execTanMode, execTanSetpoint,
      execTanManout, execTanInject, execTanInjectStop, execVtxPost, execVtxSignal, execVxlWrite, execVxlLeave,
      execVxlMembers]
    exact ⟨_, rfl⟩

/-- An item that its block has decided, that a handover holds, or whose block the module does not serve waits. -/
theorem serve_held {s : State} {it : Item} (hhere : (it.remote && it.origin.isNone) = false)
    (hlate : (s.flight it.ring it.seq).any (fun f => f.late s.mer.base) = false)
    (h : s.itemTurn it = false ∨ s.undecided it = false ∨ s.frozen it = true ∨ s.serving it.block = false)
    (k : State → State) : serve it s k = .next s := by
  simp only [serve]
  rw [if_neg (not_sent hhere), if_neg (by simp only [hlate]; decide), if_pos (by simpa using h), go]

/-- Settles O59: each case is a law of `serve`, by which every item is served. -/
theorem itemsWaitOrFail : Obligations.ItemsWaitOrFail := by
  intro c it s hc
  obtain ⟨k, hk⟩ := exec_eq_serve hc s
  rw [hk]
  refine ⟨fun haway => ?_, fun hhere hlate => serve_late hhere hlate k,
    fun hhere hlate h => serve_held hhere hlate h k, fun hhere hlate hturn hdec hfroz hserv => ⟨fun hmir => ?_, fun hmir hoff => ?_⟩⟩
  · exact serve_sent (by simpa using haway) k
  · exact serve_intend hhere hlate hturn hdec hfroz hserv hmir k
  · exact serve_absent hhere hlate hturn hdec hfroz hserv hmir hoff k

end Sys2Proof.Machine
end

section
/-! PROOF. A scan of Lattice counts the words it executes (R324). -/

namespace Sys2Proof.Machine

/-! ### A word leaves the count of words executed alone -/

@[simp] theorem LatCpu.put_n (c : LatCpu) (sp a : Nat) (b : Bool) : (c.put sp a b).n = c.n := by
  unfold LatCpu.put
  split <;> rfl

@[simp] theorem LatCpu.logic_n (c : LatCpu) (op : Nat) (x : Bool) : (c.logic op x).n = c.n := by
  unfold LatCpu.logic
  split
  case h_13 => split <;> rfl
  all_goals rfl

@[simp] theorem State.latCtr_n (s : State) (c : LatCpu) (op a : Nat) : (s.latCtr c op a).n = c.n := rfl

@[simp] theorem State.latCmp_n (s : State) (c : LatCpu) (a : Nat) : (s.latCmp c a).n = c.n := rfl

@[simp] theorem State.latWord_n (s : State) (first : Bool) (d : Nat) (c : LatCpu) (w : Word) :
    (s.latWord first d c w).n = c.n := by
  simp only [State.latWord]
  split_ifs <;> simp

/-! ### The program -/

/-- From a word on, a scan executes at most the words that are left. -/
theorem State.latExec_n_le (s : State) (first : Bool) (d : Nat) (ws : List Word) (i skip : Nat) (c : LatCpu) :
    (s.latExec first d ws i skip c).n ≤ c.n + ws.length := by
  induction ws generalizing i skip c with
  | nil => exact Nat.le_refl _
  | cons w ws ih =>
    simp only [State.latExec, List.length_cons]
    split_ifs
    · exact (ih (i + 1) (skip - 1) c).trans (by omega)
    · simp only; omega
    · have h := ih (i + 1) (jumpSkip w c.acc i) (s.latWord first d { c with n := c.n + 1 } w)
      rw [State.latWord_n] at h
      simp only at h
      omega

/-- LAT_SCANTIME.LAST of a scan after a scan of at most 16,384 words: MAX beside it does not touch it. -/
theorem State.fld_latTime_last (s : State) (n : Nat) (hn : n ≤ 16384) :
    (s.latTime n).fld Fld.LAT_SCANTIME_LAST 0 0 = 400 + 2 * n := by
  have ht : Nat.min 65535 (400 + 2 * n) = 400 + 2 * n := Nat.min_eq_right (by omega)
  have hlast : (s.setF Fld.LAT_SCANTIME_LAST 0 0 (400 + 2 * n)).fld Fld.LAT_SCANTIME_LAST 0 0 = 400 + 2 * n := by
    rw [State.fld_setF_same _ _ _ _ _ (by decide)]
    exact Nat.mod_eq_of_lt (show 400 + 2 * n < 65536 by omega)
  simp only [State.latTime, ht]
  split_ifs
  · rw [State.fld_setF_beside _ Fld.LAT_SCANTIME_MAX Fld.LAT_SCANTIME_LAST _ _ _ rfl (by decide) (by decide), hlast]
  · exact hlast

/-- Settles O53: the count starts at zero and the program is gone through once. -/
theorem scanExecutesOnce : Obligations.ScanExecutesOnce := by
  refine ⟨fun first m s => ?_, fun n s hn => State.fld_latTime_last s n hn⟩
  exact (State.latExec_n_le s first _ s.latWords 0 0 ⟨m, false, [], 0, []⟩).trans (by simp)

end Sys2Proof.Machine
end

section
/-! PROOF. Budget 3 of a Facet (R217): each turn halves the largest AI_SLOTS, which is 8 or more while the sum is above 32, so
64 turns bring the sum down to it. -/

namespace Sys2Proof.Machine

/-- The key of AI_SLOTS of a channel. -/
def slotKey (c : Nat) : Nat := cfgKey 0x12 c 0x10 0

/-- The sum that budget 3 holds to 32; `budget3_succ` ties it to the model. -/
def Val.slotSum (n : Nat) (v : Val) : Nat := (facetChans n).foldl (fun a c => a + v.slots c) 0

/-- The channel that budget 3 halves: the one with the most slots, the highest among equals. -/
def Val.slotMost (n : Nat) (v : Val) : Nat :=
  (facetChans n).foldl (fun b c => if v.slots b ≤ v.slots c then c else b) (8 * n)

/-- The values with a channel's AI_SLOTS halved. -/
def Val.halve (v : Val) (c : Nat) : Val := v.clamp false (slotKey c) (w32 (v.slots c / 2)) 3 3

theorem budget3_succ (n fuel : Nat) (v : Val) :
    budget3 n (fuel + 1) v = if v.slotSum n ≤ 32 then v else budget3 n fuel (v.halve (v.slotMost n)) := rfl

/-! ### Sums and maxima over the channels of a Facet -/

theorem Val.slotSum_eq (n : Nat) (v : Val) : v.slotSum n = ((facetChans n).map v.slots).sum := by
  rw [Val.slotSum, List.sum_eq_foldl_nat, List.foldl_map]

theorem facetChans_length (n : Nat) : (facetChans n).length = 8 := by simp [facetChans]

theorem facetChans_first (n : Nat) : 8 * n ∈ facetChans n := by simp [facetChans]

/-- A fold that keeps the larger of two by a measure ends with the largest of the list. -/
theorem foldl_most (f : Nat → Nat) (l : List Nat) (b : Nat) :
    let m := l.foldl (fun b c => if f b ≤ f c then c else b) b
    (m = b ∨ m ∈ l) ∧ f b ≤ f m ∧ ∀ c ∈ l, f c ≤ f m := by
  induction l generalizing b with
  | nil => simp
  | cons x xs ih =>
    simp only [List.foldl_cons, List.mem_cons, forall_eq_or_imp]
    split_ifs with hbx
    · obtain ⟨hm, hle, hall⟩ := ih x
      exact ⟨.inr hm, hbx.trans hle, hle, hall⟩
    · obtain ⟨hm, hle, hall⟩ := ih b
      exact ⟨hm.imp_right .inr, hle, by omega, hall⟩

theorem Val.slotMost_mem (n : Nat) (v : Val) : v.slotMost n ∈ facetChans n := by
  obtain ⟨h | h, -⟩ : (v.slotMost n = 8 * n ∨ v.slotMost n ∈ facetChans n) ∧ _ :=
    foldl_most v.slots (facetChans n) (8 * n)
  · rw [h]
    exact facetChans_first n
  · exact h

theorem Val.slots_le_most {n c : Nat} (v : Val) (hc : c ∈ facetChans n) : v.slots c ≤ v.slots (v.slotMost n) :=
  (foldl_most v.slots (facetChans n) (8 * n)).2.2 c hc

/-- Eight channels of at most `b` slots each. -/
theorem Val.slotSum_le {n b : Nat} {v : Val} (h : ∀ c ∈ facetChans n, v.slots c ≤ b) : v.slotSum n ≤ 8 * b := by
  have hsum := List.sum_le_card_nsmul ((facetChans n).map v.slots) b (by simpa using h)
  rwa [List.length_map, facetChans_length, ← Val.slotSum_eq] at hsum

/-- The largest of a sum above 32 is above 4. -/
theorem Val.four_lt_most {n : Nat} {v : Val} (h : 32 < v.slotSum n) : 4 < v.slots (v.slotMost n) := by
  have := Val.slotSum_le (fun c hc => v.slots_le_most (n := n) hc)
  omega

/-- A sum whose terms do not grow, and of which one falls by `d`, falls by `d`. -/
theorem sum_map_add_le {f g : Nat → Nat} {l : List Nat} {c d : Nat} (hle : ∀ x ∈ l, g x ≤ f x) (hc : c ∈ l)
    (hd : g c + d ≤ f c) : (l.map g).sum + d ≤ (l.map f).sum := by
  induction l with
  | nil => cases hc
  | cons x xs ih =>
    obtain ⟨hx, hxs⟩ := List.forall_mem_cons.mp hle
    simp only [List.map_cons, List.sum_cons]
    rcases List.mem_cons.mp hc with rfl | hmem
    · have := List.sum_le_sum hxs
      omega
    · have := ih hxs hmem
      omega

/-! ### One turn -/

theorem Val.get_clamp (v : Val) (flt : Bool) (k : Nat) (new : Word) (reason : Nat) (cause : Word) (j : Nat) :
    (v.clamp flt k new reason cause).get j = if j = k then new else v.get j := tabGet_set _ _ _ _ _

/-- A turn changes AI_SLOTS of its channel alone. -/
theorem Val.get_halve_ne (v : Val) {c k : Nat} (h : k ≠ slotKey c) : (v.halve c).get k = v.get k := by
  rw [Val.halve, Val.get_clamp, if_neg h]

theorem slotKey_inj {c d : Nat} : slotKey c = slotKey d ↔ c = d := by
  unfold slotKey cfgKey
  omega

theorem modeKey_ne_slotKey (c d : Nat) : cfgKey 0x12 c 0 0 ≠ slotKey d := by
  unfold slotKey cfgKey
  omega

theorem Val.slots_eq_of_pos {v : Val} {c : Nat} (h : 0 < v.slots c) :
    isAI (v.get (cfgKey 0x12 c 0 0)).toNat = true ∧ v.slots c = (v.get (slotKey c)).toNat := by
  unfold Val.slots at h ⊢
  split_ifs at h ⊢ with hai
  · exact ⟨hai, rfl⟩
  · omega

theorem Val.slots_halve_ne (v : Val) {c d : Nat} (h : d ≠ c) : (v.halve c).slots d = v.slots d := by
  unfold Val.slots
  rw [v.get_halve_ne (modeKey_ne_slotKey d c), ← slotKey, v.get_halve_ne (fun e => h (slotKey_inj.mp e))]

theorem Val.slots_halve_same {v : Val} {c : Nat} (h : 0 < v.slots c) : (v.halve c).slots c = v.slots c / 2 := by
  obtain ⟨hai, hs⟩ := Val.slots_eq_of_pos h
  have hlt : v.slots c / 2 < 2 ^ 32 := by have := (v.get (slotKey c)).isLt; omega
  rw [Val.slots, v.get_halve_ne (modeKey_ne_slotKey c c), if_pos hai, ← slotKey, Val.halve, Val.get_clamp, if_pos rfl,
    w32_toNat, Nat.mod_eq_of_lt hlt]

/-- The numbers of slots that a channel may hold (R216). -/
def SlotsLegal (n : Nat) (v : Val) : Prop := ∀ c ∈ facetChans n, v.slots c ∈ [0, 1, 2, 4, 8, 16, 32]

/-- A turn on a sum above 32: legal slots stay legal, none grows, and the sum falls by at least 4. -/
theorem Val.halve_most {n : Nat} {v : Val} (hv : SlotsLegal n v) (hsum : 32 < v.slotSum n) :
    SlotsLegal n (v.halve (v.slotMost n)) ∧ (∀ c ∈ facetChans n, (v.halve (v.slotMost n)).slots c ≤ v.slots c) ∧
      (v.halve (v.slotMost n)).slotSum n + 4 ≤ v.slotSum n := by
  have hmost := Val.four_lt_most hsum
  have hmem := v.slotMost_mem n
  have hsame := Val.slots_halve_same (by omega : 0 < v.slots (v.slotMost n))
  have hlegal := hv _ hmem
  simp only [List.mem_cons, List.not_mem_nil, or_false] at hlegal
  have hle : ∀ c ∈ facetChans n, (v.halve (v.slotMost n)).slots c ≤ v.slots c := by
    intro c _
    by_cases hc : c = v.slotMost n
    · rw [hc, hsame]; omega
    · rw [v.slots_halve_ne hc]
  refine ⟨fun c hmc => ?_, hle, ?_⟩
  · by_cases hc : c = v.slotMost n
    · rw [hc, hsame]
      simp only [List.mem_cons, List.not_mem_nil, or_false]
      omega
    · rw [v.slots_halve_ne hc]
      exact hv c hmc
  · rw [Val.slotSum_eq, Val.slotSum_eq]
    exact sum_map_add_le hle hmem (by omega)

/-! ### All turns -/

/-- What budget 3 leaves after as many turns as the sum may need. -/
theorem budget3_holds {n : Nat} (fuel : Nat) {v : Val} (hv : SlotsLegal n v) (hsum : v.slotSum n ≤ 32 + 4 * fuel) :
    (budget3 n fuel v).slotSum n ≤ 32 ∧ (∀ c ∈ facetChans n, (budget3 n fuel v).slots c ≤ v.slots c) ∧
      ∀ k, (∀ c ∈ facetChans n, k ≠ slotKey c) → (budget3 n fuel v).get k = v.get k := by
  induction fuel generalizing v with
  | zero => exact ⟨hsum, fun _ _ => le_rfl, fun _ _ => rfl⟩
  | succ fuel ih =>
    rw [budget3_succ]
    split_ifs with hfits
    · exact ⟨hfits, fun _ _ => le_rfl, fun _ _ => rfl⟩
    · obtain ⟨hlegal, hle, hfall⟩ := Val.halve_most hv (by omega)
      obtain ⟨hfit, hsmaller, hframe⟩ := ih hlegal (by omega)
      exact ⟨hfit, fun c hc => (hsmaller c hc).trans (hle c hc),
        fun k hk => (hframe k hk).trans (v.get_halve_ne (hk _ (v.slotMost_mem n)))⟩

theorem SlotsLegal.le {n c : Nat} {v : Val} (hv : SlotsLegal n v) (hc : c ∈ facetChans n) : v.slots c ≤ 32 := by
  have h := hv c hc
  simp only [List.mem_cons, List.not_mem_nil, or_false] at h
  omega

/-- Settles O52: 64 turns are enough, since the sum starts at 256 at most and falls by 4 a turn. -/
theorem slotBudget : Obligations.SlotBudget := by
  intro n v _ hv
  exact budget3_holds 64 hv ((Val.slotSum_le fun _ hc => SlotsLegal.le hv hc).trans (by decide))

end Sys2Proof.Machine
end

section
/-! PROOF. Plain registers: a write to a register that no row of its own answers (R14). -/

namespace Sys2Proof.Machine

/-- A register that does not hold its value to a range takes the value written. -/
theorem clampedWrite_plain {r : Reg} (hr : r ∉ writeRows) (v : Word) : clampedWrite r v = v := by
  simp only [writeRows, List.mem_cons, List.not_mem_nil, or_false, not_or] at hr
  simp [clampedWrite, hr]

theorem State.writeAon_plain {r : Reg} (hr : r ∉ writeRows) (s : State) (a : Nat) (v : Word) (host : Bool) :
    s.writeAon r a v host = .next (s.plainWrite r a v) := by
  have hv := clampedWrite_plain hr v
  simp only [writeRows, List.mem_cons, List.not_mem_nil, or_false, not_or] at hr
  simp [State.writeAon, hr, hv, go]

theorem State.writeEng_plain {r : Reg} (hr : r ∉ writeRows) (s : State) (a : Nat) (v : Word) :
    s.writeEng r a v = .next (s.plainWrite r a v) := by
  simp only [writeRows, List.mem_cons, List.not_mem_nil, or_false, not_or] at hr
  simp [State.writeEng, hr, go]

/-- A write that reaches such a register is its plain write. -/
theorem execRegisterWrite_plain {a : Nat} {s : State} {r : Reg} (v : Word) (host : Bool) (hb : bar0Word a = true)
    (hmsix : a < 0x28000 ∨ 0x28400 ≤ a) (hl : s.alive = true) (hd : s.domOn (domainOf a) = true)
    (hr : regAt a = some r) (hrow : r ∉ writeRows) : execRegisterWrite a v host s = .next (s.plainWrite r a v) := by
  have hm : ¬(0x28000 ≤ a ∧ a < 0x28400) := by omega
  simp [execRegisterWrite, hb, hd, hl, hm, hr, State.writeAon_plain hrow, State.writeEng_plain hrow]

/-! ### The bits of a plain write -/

/-- Bit by bit: W1C bits written 1 clear, RW bits take the value, the others stay. -/
theorem State.bitOf_plainWrite (s : State) (r : Reg) (a : Nat) (v : Word) {i : Nat} (hi : i < 32) :
    bitOf ((s.plainWrite r a v).rdA a) i =
      ((bitOf (s.rdA a) i && !(bitOf r.rw i) || bitOf v i && bitOf r.rw i) && !(bitOf v i && bitOf r.w1c i)) := by
  rw [State.plainWrite, State.rdA_wrA_same]
  simp [bitOf, hi]

/-- Settles O50: the write is of one word of the registers, and the kinds of its bits say which value each takes. -/
theorem plainRegisterWrite : Obligations.PlainRegisterWrite := by
  intro a v host s r hb hmsix hd hl hr hrow
  refine ⟨_, execRegisterWrite_plain v host hb hmsix hl hd hr hrow, ?_, ?_, ?_, fun b hne => State.rdA_wrA_ne _ _ _ _ hne,
    rfl⟩
  · intro i hi hrw hw1c
    simp [State.bitOf_plainWrite s r a v hi, hrw, hw1c]
  · intro i hi hrw hw1c
    simp [State.bitOf_plainWrite s r a v hi, hrw, hw1c]
  · intro i hi hrw hw1c
    simp [State.bitOf_plainWrite s r a v hi, hrw, hw1c]

end Sys2Proof.Machine
end

section
/-! PROOF. Completions (R126 to R132): the verdict that a completion leaves in the intake log, and the bytes that an item's
buffer gives. -/

namespace Sys2Proof.Machine

/-! ### The intake log behind a completion -/

theorem State.intakeSet_hasVerdict (s : State) (it : Item) (v : Verdict) (w : Bool) :
    (s.intakeSet it.ring it.seq v w).HasVerdict it v := State.intakeOf_intakeSet s it.ring it.seq v w

/-- A ring that settles leaves the intake log alone. -/
theorem State.sqSettle_hif (s : State) (n : Nat) : (s.sqSettle n).hif = s.hif := by
  unfold State.sqSettle
  split <;> rfl

/-- What matters to a verdict is the intake log alone. -/
theorem State.HasVerdict.congr {s t : State} {it : Item} {v : Verdict} (h : s.HasVerdict it v) (hif : t.hif = s.hif) :
    t.HasVerdict it v := by
  unfold State.HasVerdict State.intakeOf at h ⊢
  rwa [hif]

theorem State.postRecord_hasVerdict (s : State) (it : Item) (st : Stamp) (status : Nat) (d0 d1 d2 d3 : Word) :
    (s.postRecord it st status d0 d1 d2 d3).HasVerdict it (verdictOf status) :=
  (State.intakeSet_hasVerdict _ it (verdictOf status) _).congr (State.sqSettle_hif ..)

/-- The outcome of an item that is not applied again stands in the intake log (R132). -/
theorem State.completeAt_hasVerdict {it : Item} (h : it.isAgain = false) (s : State) (st : Stamp) (status : Nat)
    (d0 d1 d2 d3 : Word) : (s.completeAt it st status d0 d1 d2 d3).HasVerdict it (verdictOf status) := by
  rw [State.completeAt, if_neg (by simp [h])]
  dsimp only
  split
  · exact (State.intakeSet_hasVerdict _ it (verdictOf status) true).congr rfl
  · exact State.postRecord_hasVerdict ..

/-! ### Bytes taken from a memory -/

theorem memTake_eq_map (m : Mem) (a n : Nat) : memTake m a n = (List.range n).map (fun i => memGet m (a + i)) := by
  induction n generalizing a with
  | zero => rfl
  | succ n ih =>
    rw [memTake, ih, List.range_succ_eq_map, List.map_cons, List.map_map]
    simp [Function.comp_def, Nat.add_assoc, Nat.add_comm 1]

theorem memTake_length (m : Mem) (a n : Nat) : (memTake m a n).length = n := by simp [memTake_eq_map]

/-- Bytes copied from one memory into another stand there. -/
theorem memGet_memPut_memTake (m f : Mem) (a b n i : Nat) (hi : i < n) :
    memGet (memPut f b (memTake m a n)) (b + i) = memGet m (a + i) := by
  rw [memGet_memPut_in _ _ _ i (by rwa [memTake_length])]
  simp [memTake_eq_map]

/-! ### SYS_FW_WRITE -/

/-- The state with an item's buffer bytes in flash, before the item completes. -/
def State.fwStore (s : State) (it : Item) : State :=
  { s with flash := memPut s.flash (imageBase it.inst + (it.w 6).toNat) (s.bufTake it (bufAddr it 3) (it.w 5).toNat) }

section
variable {it : Item} {s : State} (hs : s.Ready it) (hinst : it.inst ≤ 1) (hpos : 0 < (it.w 5).toNat)
  (hword : (it.w 5).toNat % 4 = 0) (hlen : (it.w 5).toNat ≤ 1048576) (hpage : (it.w 6).toNat % 4096 = 0)
  (hfit : (it.w 6).toNat + (it.w 5).toNat ≤ imageSize) (hrun : s.imageRuns it.inst = false)
include hs hinst hpos hword hlen hpage hfit hrun

/-- A write that R101 accepts stores the bytes and completes. -/
theorem execSysFwWrite_accepted :
    execSysFwWrite it s = .next ((s.fwStore it).complete it stDone (w32 (it.w 5).toNat)) := by
  rw [execSysFwWrite, serve_ready hs]
  dsimp only
  rw [if_neg (by omega), if_neg (by omega), if_neg (by omega), if_neg (by simp [hrun])]
  rfl

end

/-- Settles O60: the bytes are those of the buffer, and the completion behind them writes no flash. -/
theorem firmwareWriteFrame : Obligations.FirmwareWriteFrame := by
  intro it s hs hagain hinst hrun len off hpos hword hlen hpage hfit
  have hq := State.complete_quiet (s.fwStore it) it stDone (w32 len) 0 0 0
  have hflash := congrArg Quiet.flash hq
  have hmram := congrArg Quiet.mram hq
  have hmer := congrArg Quiet.mer hq
  refine ⟨_, execSysFwWrite_accepted hs hinst hpos hword hlen hpage hfit hrun, ?_, ?_, hmram, hmer,
    State.completeAt_hasVerdict hagain ..⟩
  · intro i hi
    exact (congrArg (memGet · _) hflash).trans (memGet_memPut_memTake _ _ _ _ _ _ hi)
  · intro a ha
    exact (congrArg (memGet · a) hflash).trans (memGet_memPut_out _ _ _ _ (by rwa [State.bufTake, memTake_length]))

end Sys2Proof.Machine
end

section
/-! PROOF. A completion record for a ring that lies in the write-protected firmware image (R82, R129). -/

namespace Sys2Proof.Machine

/-! ### What a completion leaves of module DRAM within the image -/

theorem State.cqIrq_dram (s : State) (m : Nat) : (s.cqIrq m).dram = s.dram := by
  unfold State.cqIrq
  dsimp only
  split <;> rfl

theorem State.intakeSet_dram (s : State) (ring : Nat) (seq : Word) (v : Verdict) (w : Bool) :
    (s.intakeSet ring seq v w).dram = s.dram := by
  unfold State.intakeSet
  split <;> rfl

theorem State.sqSettle_dram (s : State) (n : Nat) : (s.sqSettle n).dram = s.dram := by
  unfold State.sqSettle
  split <;> rfl

/-- Showing a ring FULL writes no memory. -/
theorem State.setFull_dram (s : State) (u : HifSt) (m : Nat) :
    (if State.cqFree { s with hif := u } m = 0 then State.setF { s with hif := u } Fld.HIF_CQ_STAT_STATE m 0 2
      else { s with hif := u }).dram = s.dram := by
  split <;> rfl

/-- An entry for a ring of the cores is one write of module DRAM. -/
theorem State.cqWrite_dram (s : State) (m : Nat) (words : List Word) (irq : Bool) (hc : s.cqCores m = true) :
    ∃ mem, (s.cqWrite m words irq).dram = (s.setDram mem).dram := by
  unfold State.cqWrite
  extract_lets pi size cores mem mem' s1 n h s2 s3
  have h1 : s1.dram = (s.setDram mem').dram := by simp only [s1, cores, hc, State.setRingMem, if_true, State.wr_dram]
  have h3 : s3.dram = s1.dram := State.setFull_dram s1 _ m
  refine ⟨mem', ?_⟩
  split
  · rw [State.cqIrq_dram, h3, h1]
  · rw [h3, h1]

/-- An entry for such a ring that is held or discarded writes nothing. -/
theorem State.cqPost_dram (s : State) (m : Nat) (words : List Word) (sq : Option Nat) (irq record : Bool)
    (hc : s.cqCores m = true) :
    (s.cqPost m words sq irq record).dram = s.dram ∨
      ∃ mem, (s.cqPost m words sq irq record).dram = (s.setDram mem).dram := by
  unfold State.cqPost
  dsimp only
  split_ifs
  · exact .inl rfl
  · exact .inl (State.incF_dram s Fld.HIF_CQ_STAT_STALLS m 0 1)
  · exact .inl rfl
  · exact .inr (State.cqWrite_dram s m words irq hc)

/-- The bytes of the firmware image outlast an entry for a ring of the cores. -/
theorem State.memGet_cqPost_image (s : State) (m : Nat) (words : List Word) (sq : Option Nat) (irq record : Bool)
    (hc : s.cqCores m = true) (a : Nat) (hlo : imageAt ≤ a) (hhi : a < imageAt + s.sys.imgLen) :
    memGet (s.cqPost m words sq irq record).dram a = memGet s.dram a := by
  rcases State.cqPost_dram s m words sq irq record hc with h | ⟨mem, h⟩
  · rw [h]
  · rw [h, State.memGet_setDram_image s mem a hlo hhi]

/-- They outlast a completion whose record goes to such a ring. -/
theorem State.memGet_postRecord_image (s : State) (it : Item) (st : Stamp) (status : Nat) (d0 d1 d2 d3 : Word)
    (hc : s.cqCores (s.fld Fld.HIF_SQ_CTRL_CQ it.ring 0) = true) (a : Nat) (hlo : imageAt ≤ a)
    (hhi : a < imageAt + s.sys.imgLen) :
    memGet (s.postRecord it st status d0 d1 d2 d3).dram a = memGet s.dram a := by
  rw [State.postRecord, State.sqSettle_dram, State.intakeSet_dram]
  exact State.memGet_cqPost_image s _ _ _ _ _ hc a hlo hhi

/-! ### The counterexample -/

/-- An item of submission ring 0 that the intake does not hold. -/
def loneItem : Item :=
  { ring := 0, seq := 0, flags := 0, remote := false, device := 0, block := 0, inst := 0, payload := [], origin := none }

/-- With no item fetched, its failure is its record alone. -/
theorem State.completeAt_lone (s : State) (st : Stamp) (h : s.hif.inflight = []) :
    s.completeAt loneItem st stAbsent 0 0 0 0 = s.postRecord loneItem st stAbsent 0 0 0 0 := by
  have hd : s.dropItem loneItem = s := by
    have : s.hif.inflight.filter (fun f => !(f.is loneItem.ring loneItem.seq)) = s.hif.inflight := by rw [h]; rfl
    rw [State.dropItem, this]
  show (s.dropItem loneItem).postRecord loneItem st stAbsent 0 0 0 0 = _
  rw [hd]

/-- The module after reset with two pages of firmware image, and ring 64 enabled for the cores with 16 entries from `b`. -/
def imageRing (b : Nat) : State :=
  let s := (State.reset.wr Reg.HIF_CQ_BASE_LO 0 0 (w32 b)).wr Reg.HIF_CQ_CTRL 0 0 0x403
  { s with sys := { s.sys with imgLen := 8192 } }

theorem rd_imageRing_eq (b : Nat) (q : Reg) (i j : Nat) : (imageRing b).rd q i j =
    ((State.reset.wr Reg.HIF_CQ_BASE_LO 0 0 (w32 b)).wr Reg.HIF_CQ_CTRL 0 0 0x403).rd q i j := rfl

theorem rd_imageRing (b : Nat) (q : Reg) (i j : Nat) (hctrl : q.addr i j ≠ Reg.HIF_CQ_CTRL.addr 0 0)
    (hbase : q.addr i j ≠ Reg.HIF_CQ_BASE_LO.addr 0 0) : (imageRing b).rd q i j = State.reset.rd q i j := by
  rw [rd_imageRing_eq, State.rd_wr_ne _ _ _ _ _ _ _ _ hctrl, State.rd_wr_ne _ _ _ _ _ _ _ _ hbase]

theorem fld_imageRing_ctrl (b : Nat) (f : Fld) (h : f.reg = Reg.HIF_CQ_CTRL) :
    (imageRing b).fld f 0 0 = bitsOf 0x403 f.lo f.wd := by
  rw [State.fld, h, rd_imageRing_eq, State.rd_wr_same]

theorem cqCores_imageRing (b : Nat) : (imageRing b).cqCores 0 = true := by
  rw [State.cqCores, State.bit, fld_imageRing_ctrl _ _ rfl]
  decide

theorem cqSize_imageRing (b : Nat) : (imageRing b).cqSize 0 = 16 := by
  rw [State.cqSize, fld_imageRing_ctrl _ _ rfl]
  decide

theorem rd_imageRing_pi (b : Nat) : (imageRing b).rd Reg.HIF_CQ_PI 0 0 = 0 := by
  rw [rd_imageRing _ _ _ _ (by decide) (by decide)]
  decide +kernel

theorem cqFree_imageRing (b : Nat) : (imageRing b).cqFree 0 ≠ 0 := by
  have hci : (imageRing b).rd Reg.HIF_CQ_CI 0 0 = 0 := by
    rw [rd_imageRing _ _ _ _ (by decide) (by decide)]
    decide +kernel
  rw [State.cqFree, cqSize_imageRing, rd_imageRing_pi, hci]
  decide

theorem cqUp_imageRing (b : Nat) : (imageRing b).cqUp 0 = true := by
  have hstate : (imageRing b).fld Fld.HIF_CQ_STAT_STATE 0 0 = 0 := by
    rw [State.fld, rd_imageRing _ _ _ _ (by decide) (by decide)]
    decide +kernel
  rw [State.cqUp, cqCores_imageRing, hstate, State.bit, fld_imageRing_ctrl _ _ rfl, Bool.true_or, Bool.and_true]
  decide

theorem cqBase_imageRing {b : Nat} (hb : b ≤ 0x80000000) : (imageRing b).cqBase 0 = b := by
  have hlo : (imageRing b).rd Reg.HIF_CQ_BASE_LO 0 0 = w32 b := by
    rw [rd_imageRing_eq, State.rd_wr_ne _ _ _ _ _ _ _ _ (by decide), State.rd_wr_same]
  have hhi : (imageRing b).rd Reg.HIF_CQ_BASE_HI 0 0 = 0 := by
    rw [rd_imageRing _ _ _ _ (by decide) (by decide)]
    decide +kernel
  rw [State.cqBase, hlo, hhi, w32_toNat, Nat.mod_eq_of_lt (by omega)]
  simp

/-- Submission ring 0 completes to ring 64. -/
theorem fld_imageRing_cq (b : Nat) : (imageRing b).fld Fld.HIF_SQ_CTRL_CQ loneItem.ring 0 = 0 := by
  rw [State.fld, rd_imageRing _ _ _ _ (by decide) (by decide)]
  decide +kernel

/-- Refutes O51: where the ring lies in the firmware image, which is write-protected (R82), the completion record's shadow
producer index does not reach module DRAM, and the word there stays 0. -/
theorem not_completionRecord : ¬ Obligations.CompletionRecord := by
  intro h
  obtain ⟨b, hlo, hup, -, hb⟩ := exists_page_in_image
  have hcq := fld_imageRing_cq b
  have hcores := cqCores_imageRing b
  obtain ⟨-, hshadow, -⟩ := h loneItem ⟨0, 0⟩ stAbsent 0 0 0 0 (imageRing b) (by decide) rfl
    (by rw [hcq]; exact cqUp_imageRing b) (by rw [hcq]; exact cqFree_imageRing b) rfl
  rw [hcq, hcores, cqBase_imageRing hb, cqSize_imageRing, rd_imageRing_pi, State.completeAt_lone _ _ rfl] at hshadow
  have hstays : memWord ((imageRing b).postRecord loneItem ⟨0, 0⟩ stAbsent 0 0 0 0).dram (b + 16 * 32) =
      memWord (imageRing b).dram (b + 16 * 32) :=
    memWord_congr _ _ _ fun i hi => State.memGet_postRecord_image _ _ _ _ _ _ _ _ (by rw [hcq, hcores]) _ (by omega)
      (show _ < imageAt + 8192 by omega)
  have hzero : memWord (imageRing b).dram (b + 16 * 32) = 0 := rfl
  exact absurd (hshadow.symm.trans (hstays.trans hzero)) (by decide)

end Sys2Proof.Machine
end

section
/-! PROOF. Register accesses (R12, R14, R19), steps and the state after reset. -/

namespace Sys2Proof.Machine

/-- The read of a register whose values are all stored clears its RC bits. -/
theorem State.readClear_plain {r : Reg} (hr : r ∉ readRows) (s : State) (a : Nat) :
    s.readClear r a = s.wrA a (s.rdA a &&& ~~~r.rc) := by
  simp only [readRows, List.mem_cons, List.not_mem_nil, or_false, not_or] at hr
  simp [State.readClear, hr]

/-- A read that reaches such a register answers what it shows. -/
theorem execRegisterReadClear_plain {a : Nat} {s : State} {r : Reg} (hb : bar0Word a = true)
    (hmsix : a < 0x28000 ∨ 0x29008 ≤ a) (hl : s.alive = true) (hd : s.domOn (domainOf a) = true) (hr : regAt a = some r)
    (hrow : r ∉ readRows) :
    execRegisterReadClear a s = .next ((s.wrA a (s.rdA a &&& ~~~r.rc)).emit (.read a (s.view r a))) := by
  have htab : ¬(0x28000 ≤ a ∧ a < 0x28400) := by omega
  have hpba : a ≠ 0x29000 ∧ a ≠ 0x29004 := by omega
  have htok : r ≠ Reg.MIR_TOKEN := fun e => hrow (by simp [readRows, e])
  simp [execRegisterReadClear, hb, hd, hl, htab, hpba, hr, htok, State.readClear_plain hrow, go]

/-- Settles O1: plain writes and reads, and the accesses that reach no register. -/
theorem registerAccessCompletes : Obligations.RegisterAccessCompletes := by
  refine ⟨fun a v host s r hb hmsix hl hd hr hrow => execRegisterWrite_plain v host hb hmsix hl hd hr hrow,
    fun a s r hb hmsix hl hd hr hrow => execRegisterReadClear_plain hb hmsix hl hd hr hrow, fun bar2 a s hd => ?_,
    fun a s hd hl => execOffDomainAccess_off s a hd hl⟩
  constructor
  · show execMalformedAccess ⟨bar2, false⟩ a s = _
    simp [execMalformedAccess, hd, go]
  · intro hl
    show execMalformedAccess ⟨bar2, true⟩ a s = _
    simp [execMalformedAccess, hd, hl, go]

/-- Settles O38. -/
theorem frontCommandRuns : Obligations.FrontCommandRuns := by
  intro c cs s h
  rw [step, h]

/-- Settles O39: a tick writes neither the queue nor anything of the base counter but its 8 ns. -/
theorem emptyQueueTicks : Obligations.EmptyQueueTicks := by
  intro s h
  refine ⟨by rw [step, h], ?_, State.timeTick_base s⟩
  exact (State.timeTick_keeps (Keeps.rfl' s.quiet)).pending.trans h

/-- Settles O40: the registers are listed or stand at the reset values of their tables. -/
theorem resetState : Obligations.ResetState := by
  refine ⟨rfl, rfl, rfl, rfl, rfl, rfl, ?_⟩
  decide +kernel

/-- Settles O41: Meridian's reset meets its invariant, and every queue and memory is empty. -/
theorem resetInvariants : Obligations.ResetInvariants :=
  ⟨merReset_ok, ⟨rfl, rfl⟩, ⟨nofun, Nat.le_refl 0⟩, Nat.zero_le _, rfl, rfl, rfl, rfl⟩

end Sys2Proof.Machine
end

section
/-! PROOF. Clock and power commands (R26, R33 to R38, R611). -/

namespace Sys2Proof.Machine

/-- A request that nothing denies switches its domains on, then off. -/
theorem execPwrCtrlWrite_granted {v : Word} {host : Bool} {s : State} (hl : s.alive = true)
    (h : s.pwrRefuse (bitsOf v 2 6 * 4) host = none) :
    let old := (s.rd Reg.PWR_CTRL 0 0).toNat
    let new := bitsOf v 2 6 * 4
    let up := switched.filter (fun n => !(inSet old n) && inSet new n)
    let down := switched.reverse.filter (fun n => inSet old n && !(inSet new n))
    execPwrCtrlWrite v host s = .next (down.foldl (fun s n => s.domOff n)
      (up.foldl (fun s n => s.domRise n) (s.wr Reg.PWR_CTRL 0 0 (w32 new)))).pwrBusy := by
  intro old new up down
  simp only [execPwrCtrlWrite, hl, h]
  rfl

/-- A domain that is on and fails: its event stands first, and its own loss follows. -/
theorem execPowerGoodLost_on {n : Nat} {s : State} (hlo : 2 ≤ n) (hhi : n < 8) (hon : s.domOn n = true) :
    let s1 := s.domEvent n 0x44C0
    execPowerGoodLost n s =
      if n = 2 then .next (s1.coldBegin 7)
      else if n = 5 ∨ n = 6 then
        .next (((s1.wr Reg.PWR_STATUS 0 0 (putBits (s1.rd Reg.PWR_STATUS 0 0) n 1 0)).domDown n).domAbsent n)
      else .next (s1.warmTrigger 11) :=
  if_pos ⟨hlo, hhi, hon⟩

/-- Settles O2: each clause is a branch of its command. -/
theorem clockAndPowerComplete : Obligations.ClockAndPowerComplete := by
  refine ⟨fun mask s => ⟨fun h => if_pos h, fun h => if_neg (Bool.eq_false_iff.mp h)⟩, fun n s hn h4 => if_pos ⟨hn, h4⟩,
    fun s h4 hm => ?_, fun v s hl => if_pos hl, fun s => rfl, fun v host s hl h => execPwrCtrlWrite_granted hl h,
    fun n s hlo hhi hctrl hstat hl => if_pos ⟨hlo, hhi, hctrl, by rw [hstat]; rfl, hl⟩, fun n s h => if_pos h,
    fun n s hlo hhi hon => ⟨fun h2 => ?_, fun h56 => ?_, fun h2 h5 h6 => ?_⟩⟩
  · refine (if_neg (Bool.eq_false_iff.mp h4)).trans ?_
    rw [if_pos hm, go]
  · exact (execPowerGoodLost_on hlo hhi hon).trans (if_pos h2)
  · exact (execPowerGoodLost_on hlo hhi hon).trans ((if_neg (by omega)).trans (if_pos h56))
  · exact (execPowerGoodLost_on hlo hhi hon).trans ((if_neg h2).trans (if_neg (by omega)))

end Sys2Proof.Machine
end

section
/-! PROOF. Supply, base, temperature and lever commands (R46, R47, R60, R66, R68 to R72, R76). -/

namespace Sys2Proof.Machine

/-! ### Supply -/

/-- Showing the LS voltage writes no clock register. -/
theorem State.clkOn_lsShow (s : State) (volt n : Nat) : (s.lsShow volt).clkOn n = s.clkOn n := by
  unfold State.clkOn State.lsShow
  dsimp only
  rw [State.rd_setF_ne _ _ _ _ _ _ _ _ (by decide), State.rd_setF_ne _ _ _ _ _ _ _ _ (by decide),
    State.rd_setF_ne _ _ _ _ _ _ _ _ (by decide)]

theorem State.lsShow_sys (s : State) (volt : Nat) : (s.lsShow volt).sys = s.sys := rfl

/-- A module held for want of a clock, by heat or by its oscillator is not started by its supply. -/
theorem State.powerStart_held {s : State} (h : s.clkOn 4 = false ∨ s.sys.hot = true ∨ s.sys.oscLost = true) :
    s.powerStart = s.released := if_pos (by simpa using h)

/-- What the supply starts otherwise, by what self-refresh has kept. -/
theorem State.powerStart_free {s : State} (hc : s.clkOn 4 = true) (hh : s.sys.hot = false) (ho : s.sys.oscLost = false) :
    s.powerStart =
      if !s.sys.selfRefresh then s.coldBegin 3
      else if s.sys.wasStopped then { s with sys := { s.sys with mode := .stopped, wasStopped := false } }
      else (s.inMode .warming).warmTrigger 4 := if_neg (by simp [hc, hh, ho])

theorem execPowerRelease_powerFail {volt : Nat} {s : State} (hv : 1920 ≤ volt) (hm : s.sys.mode = .powerFail) :
    execPowerRelease volt s = .next (s.lsShow volt).powerStart := (if_neg (by omega)).trans (if_pos hm)

theorem execPowerRelease_unpowered {volt : Nat} {s : State} (hv : 1920 ≤ volt) (hm : s.sys.mode = .unpowered) :
    execPowerRelease volt s = .next ((s.lsShow volt).coldBegin 0) :=
  (if_neg (by omega)).trans ((if_neg (by simp [hm])).trans (if_pos hm))

section
variable {volt : Nat} {s : State} (hv : 1920 ≤ volt) (hm : s.sys.mode = .powerFail) (hc : s.clkOn 4 = true)
  (hh : s.sys.hot = false) (ho : s.sys.oscLost = false)
include hv hm hc hh ho

theorem execPowerRelease_free : execPowerRelease volt s = .next (
    if !s.sys.selfRefresh then (s.lsShow volt).coldBegin 3
    else if s.sys.wasStopped then
      { s.lsShow volt with sys := { (s.lsShow volt).sys with mode := .stopped, wasStopped := false } }
    else ((s.lsShow volt).inMode .warming).warmTrigger 4) := by
  rw [execPowerRelease_powerFail hv hm,
    State.powerStart_free (by rw [State.clkOn_lsShow, hc]) (by rw [State.lsShow_sys, hh]) (by rw [State.lsShow_sys, ho]),
    State.lsShow_sys]

end

/-! ### The base -/

/-- The loss of presence tells the system, and the partner of a pair that still runs. -/
theorem execPresenceLost_eq (s : State) :
    let s1 := (s.setF Fld.SYS_HWSTAT_PRES_A 0 0 0).setF Fld.SYS_HWSTAT_PRES_B 0 0 0
    let pair := s1.inPair && s1.bit Fld.MIR_STATUS_PARTNER 0 0 && s1.sys.mode == .running
    let s2 := ({ s1 with sys := { s1.sys with gone := some (s1.mer.base, pair && s1.mirState == 2) } }).leaveTold
    let s3 := s2.emit .leaveNotice
    execPresenceLost s =
      if !pair then .next s2
      else if s2.mirState = 2 then .next ({ s3 with mir := { s3.mir with switchAt := s3.timeT } }).switchHold
      else .next s3 := rfl

/-- The outputs of a module that has left its base go off when no takeover is awaited. -/
theorem execRemovalOutputsOff_due {b : Nat} {takeover : Bool} {s : State} (hg : s.sys.gone = some (b, takeover))
    (hw : s.goneWait b takeover = false) :
    ∃ t, execRemovalOutputsOff s = .next t ∧ t.sys.mode = .unpowered ∧ t.sys.gone = none := by
  unfold execRemovalOutputsOff
  rw [hg]
  simp only [hw]
  exact ⟨_, rfl, rfl, rfl⟩

/-- Settles O3: each clause is a branch of its command. -/
theorem supplyAndBaseComplete : Obligations.SupplyAndBaseComplete := by
  refine ⟨fun volt s => ⟨fun h => if_pos h, fun h => if_neg (by omega)⟩, fun volt s hv hp hu => ?_,
    fun s h => if_pos h, fun volt s hv => ⟨fun hm hc hh ho => ⟨fun hr hw => ?_, fun hr hw => ?_, fun hr => ?_⟩,
      fun hm h => ?_, fun hm => execPowerRelease_unpowered hv hm⟩,
    fun code s hc hm => (if_neg hc).trans (if_neg hm), fun base s hm => ?_, fun s hm => if_pos hm, fun s => rfl,
    fun s => rfl, fun k s hk => if_pos hk, fun s => ⟨fun hp => ?_, fun hp h2 => ?_, fun hp h2 => ?_⟩,
    fun b s takeover hg hw => execRemovalOutputsOff_due hg hw, fun j b s h => if_pos h, fun j b s h => if_pos h,
    fun j b s hj hh hm => ?_, fun j b s hj hh hm => ?_⟩
  · exact ⟨_, if_pos ⟨hv, hp, hu⟩, rfl, decide_eq_true_iff⟩
  · refine (execPowerRelease_free hv hm hc hh ho).trans ?_
    simp [hr, hw, State.inMode]
  · refine (execPowerRelease_free hv hm hc hh ho).trans ?_
    simp [hr, hw]
  · refine (execPowerRelease_free hv hm hc hh ho).trans ?_
    simp [hr]
  · refine (execPowerRelease_powerFail hv hm).trans (congrArg _ (State.powerStart_held ?_))
    rwa [State.clkOn_lsShow, State.lsShow_sys]
  · exact ⟨_, if_pos hm, rfl, rfl, rfl, rfl, rfl, rfl, rfl, rfl, rfl⟩
  · exact (execPresenceLost_eq s).trans (if_pos (by rw [hp]; rfl))
  · exact (execPresenceLost_eq s).trans ((if_neg (by rw [hp]; decide)).trans (if_neg h2))
  · exact (execPresenceLost_eq s).trans ((if_neg (by rw [hp]; decide)).trans (if_pos h2))
  · exact ⟨_, if_pos ⟨hj, by rw [hh]; rfl, hm⟩, rfl, rfl, rfl⟩
  · refine (if_pos ⟨hj, hh⟩).trans ?_
    rw [if_pos hm, go]

end Sys2Proof.Machine
end

section
/-! PROOF. Starts, checkpoints and firmware (R75, R82, R95 to R97, R101, R102). -/

namespace Sys2Proof.Machine

/-- A branch that goes on either way goes on with the state of the branch. -/
theorem ite_go (c : Prop) [Decidable c] (a b : State) : (if c then go a else go b) = .next (if c then a else b) := by
  split <;> rfl

theorem not_bnot_of_true {b : Bool} (h : b = true) : ¬ (!b) = true := by simp [h]

theorem bnot_of_false {b : Bool} (h : b = false) : (!b) = true := by simp [h]

theorem execColdStart_starting {cause straps : Nat} {links : List (Nat × Nat)} {env : StartEnv} {s : State}
    (h : s.sys.mode = .starting) : execColdStart cause straps links env s = .next (s.coldRun straps links env) := by
  simp [execColdStart, h, go]

theorem execWarmRestart_warming {cause : Nat} {links : List (Nat × Nat)} {env : WarmEnv} {s : State}
    (h : s.sys.mode = .warming) (hc : ∀ n, n ∈ [0, 1, 2, 9, 11] → s.clkOn n = true) :
    execWarmRestart cause links env s = .next (s.warmRun links env.badImage env.partner) := by
  simp [execWarmRestart, h, hc, go]

/-- Settles O4: each clause is a branch of its command. -/
theorem startsAndCheckpointsComplete : Obligations.StartsAndCheckpointsComplete := by
  refine ⟨fun cause straps links env s h => execColdStart_starting h,
    fun cause links bad partner s h hc => execWarmRestart_warming h hc, fun v s hk hl => if_pos ⟨hk, hl⟩,
    fun v s hk hl => if_pos ⟨hk, hl⟩, fun s hl => if_pos hl, fun s ht hl hm => if_pos ⟨ht, hl, hm⟩, fun s hm => if_pos hm,
    fun s hd hm hon => (if_pos ⟨hd, hm, hon⟩).trans (ite_go _ _ _), fun s hw => (if_pos hw).trans (ite_go _ _ _)⟩

/-- Settles O5: each clause is the branch that its item takes when it is served. -/
theorem firmwareCompletes : Obligations.FirmwareCompletes := by
  refine ⟨fun it s hs hinst hpos hword hlen hpage hfit hrun =>
      execSysFwWrite_accepted hs hinst hpos hword hlen hpage hfit hrun,
    fun it s hs hinst hok => (show execSysFwVerify it s = _ from serve_ready hs _).trans (congrArg _ ?_),
    fun it s hs hinst hrun => (show execSysFwTrial it s = _ from serve_ready hs _).trans (congrArg _ ?_),
    fun it s hs hinst => ⟨fun ht => (show execSysFwConfirm it s = _ from serve_ready hs _).trans (congrArg _ ?_),
      fun ht => (show execSysFwConfirm it s = _ from serve_ready hs _).trans (congrArg _ ?_)⟩⟩
  · exact (if_neg (by omega)).trans (if_pos hok)
  · exact (if_neg (by omega)).trans (if_neg (Bool.eq_false_iff.mp hrun))
  · exact (if_neg (not_not_intro hinst)).trans (congrArg (State.complete · it stDone) (if_pos ht))
  · exact (if_neg (not_not_intro hinst)).trans (congrArg (State.complete · it stDone) (if_neg (Bool.eq_false_iff.mp ht)))

end Sys2Proof.Machine
end

section
/-! PROOF. The host rings (R107, R111 to R116, R130, R131, R139, R140). -/

namespace Sys2Proof.Machine

/-- A ring that passes its checks is enabled with its indices at zero. -/
theorem State.sqEnable_ok {s : State} {n : Nat} (h : s.sqCheck n = 0) :
    s.sqEnable n =
      ((((({ s with mir := { s.mir with ackIdx := tset 0 s.mir.ackIdx n 0 } }).setF Fld.HIF_SQ_CTRL_ENABLE n 0 1).wr
        Reg.HIF_SQ_PI n 0 0).wr Reg.HIF_SQ_CI n 0 0).setF Fld.HIF_SQ_STAT_ERR n 0 0).setF Fld.HIF_SQ_STAT_STATE n 0 1 := by
  rw [State.sqEnable, h]
  rfl

/-- A ring that fails a check shows which. -/
theorem State.sqEnable_failed {s : State} {n : Nat} (h : s.sqCheck n ≠ 0) :
    s.sqEnable n = (s.setF Fld.HIF_SQ_STAT_ERR n 0 (s.sqCheck n)).log 0x2083 n (w32 (s.sqCheck n)) := by
  unfold State.sqEnable
  split
  case h_1 h0 => exact absurd h0 h
  case h_2 => rfl

theorem execRingEnable_sq {n : Nat} (v : Word) {s : State} (hn : n < 64) (hd : s.domOn 5 = true)
    (he : s.bit Fld.HIF_SQ_CTRL_ENABLE n 0 = false) :
    execRingEnable n v s =
      .next ((s.wr Reg.HIF_SQ_CTRL n 0 (v &&& Reg.HIF_SQ_CTRL.rw &&& 0xFFFFFFFE)).sqEnable n) :=
  (if_neg (not_bnot_of_true hd)).trans ((if_pos hn).trans (if_neg (Bool.eq_false_iff.mp he)))

theorem execRingEnable_cq {m : Nat} (v : Word) {s : State} (hm : m < 64) (hd : s.domOn 5 = true)
    (he : s.bit Fld.HIF_CQ_CTRL_ENABLE m 0 = false) :
    execRingEnable (64 + m) v s =
      .next ((s.wr Reg.HIF_CQ_CTRL m 0 (v &&& Reg.HIF_CQ_CTRL.rw &&& 0xFFFFFFFE)).cqEnable m) := by
  refine (if_neg (not_bnot_of_true hd)).trans ((if_neg (by omega)).trans ((if_pos (by omega)).trans ?_))
  simp only [Nat.add_sub_cancel_left]
  exact if_neg (Bool.eq_false_iff.mp he)

theorem execRingDisable_cq {m : Nat} {s : State} (hm : m < 64) (hd : s.domOn 5 = true)
    (he : s.bit Fld.HIF_CQ_CTRL_ENABLE m 0 = true) :
    execRingDisable (64 + m) s = .next (if s.cqBound m then s.setF Fld.HIF_CQ_STAT_ERR m 0 4 else s.cqOff m) := by
  refine (if_neg (not_bnot_of_true hd)).trans ((if_neg (by omega)).trans ((if_pos (by omega)).trans ?_))
  simp only [Nat.add_sub_cancel_left]
  exact (if_neg (not_bnot_of_true he)).trans (ite_go _ _ _)

/-- A doorbell that steps forward within the ring moves the producer index; that of a standby's shared ring moves it
without the check. -/
theorem execSqDoorbell_accepted {n : Nat} {v : Word} {s : State} (hn : n < 64) (hd : s.domOn 5 = true)
    (he : s.bit Fld.HIF_SQ_CTRL_ENABLE n 0 = true) (hv : (v - s.rd Reg.HIF_SQ_PI n 0).toNat < 2147483648)
    (hfit : (s.standby && !(s.ringLocal n)) = true ∨ (v - s.rd Reg.HIF_SQ_CI n 0).toNat ≤ s.sqSize n) :
    execSqDoorbell n v s = .next (s.wr Reg.HIF_SQ_PI n 0 v) := by
  refine (if_neg (not_bnot_of_true hd)).trans ((if_neg (by simp [he, hn])).trans ((if_neg (by omega)).trans ?_))
  by_cases hst : s.standby = true ∧ (!(s.ringLocal n)) = true
  · exact if_pos hst
  · rw [Bool.and_eq_true] at hfit
    have hle := hfit.resolve_left hst
    exact (if_neg hst).trans (if_neg (by omega))

/-- Settles O6: each clause is a branch of its command. -/
theorem hostRingsComplete : Obligations.HostRingsComplete := by
  refine ⟨fun speed width s hd hc => if_neg (by simp [hd, hc]), fun s => rfl, fun s => rfl,
    fun n v s hn hd he => ⟨fun h => (execRingEnable_sq v hn hd he).trans (congrArg _ (State.sqEnable_ok h)),
      fun h => (execRingEnable_sq v hn hd he).trans (congrArg _ (State.sqEnable_failed h))⟩,
    fun m v s hm hd he => execRingEnable_cq v hm hd he,
    fun n s hn hd he => (if_neg (not_bnot_of_true hd)).trans ((if_pos hn).trans (if_pos he)),
    fun m s hm hd he => execRingDisable_cq hm hd he,
    fun n v s hn hd he hv hfit => execSqDoorbell_accepted hn hd he hv hfit,
    fun m v s hm hd he hv hfit =>
      (if_neg (not_bnot_of_true hd)).trans ((if_neg (by simp [he, hm])).trans (if_pos ⟨hv, hfit⟩)),
    fun m s hu hi ht hun => if_pos (by simp [hu, hi, ht, hun]), fun m s hh => if_pos hh, fun n s => rfl⟩

end Sys2Proof.Machine
end

section
/-! PROOF. Fetches and the items of the host interface (R118 to R125, R132). -/

namespace Sys2Proof.Machine

/-- The fetch of a ring whose turn it is, when the descriptor is there and sound. -/
theorem execDescriptorFetch_taken {n : Nat} {s : State} (hn : s.nextRing = some n)
    (hi : s.idxWait n (s.rd Reg.HIF_SQ_CI n 0 + 1) = false)
    (hp : (s.sqCores n &&
      s.sys.poison.contains ((s.sqBase n + (s.rd Reg.HIF_SQ_CI n 0).toNat % s.sqSize n * 64) / 64)) = false) :
    let ci := s.rd Reg.HIF_SQ_CI n 0
    let s1 := s.wr Reg.HIF_SQ_CI n 0 (ci + 1)
    let turn := tset 0 s1.hif.turn (s.fld Fld.HIF_SQ_CTRL_PRIO n 0) (n + 1)
    let s2 := { s1 with hif := { s1.hif with fetchIdx := tset 0 s1.hif.fetchIdx n (ci + 1), turn := turn } }
    execDescriptorFetch s =
      .next (s2.takeDescriptor n (memWords (s.ringMem (s.sqCores n)) (s.sqBase n + ci.toNat % s.sqSize n * 64)
        16)).fetchStalls := by
  unfold execDescriptorFetch
  rw [hn]
  exact (if_neg (Bool.eq_false_iff.mp hi)).trans (if_neg (Bool.eq_false_iff.mp hp))

/-- An item in flight that may still be aborted, and is not within an attempt, is aborted at once. -/
theorem execHifAbort_abortNow {it : Item} {s : State} {f : Inflight} (hb : s.serving it.block = true)
    (hu : s.undecided it = true) (hw : s.mirWait it = false) (hr : (it.w 3).toNat ≤ 63)
    (hf : s.flight (it.w 3).toNat (it.w 4) = some f) (ha : f.abortable = true) (hi : f.inAttempt = false) :
    execHifAbort it s = .next (s.abortNow it f) := by
  refine (if_neg (by simp [hb, hu])).trans ((if_neg (Bool.eq_false_iff.mp hw)).trans ((if_neg (by omega)).trans ?_))
  rw [hf]
  exact (if_neg (not_bnot_of_true ha)).trans (if_neg (Bool.eq_false_iff.mp hi))

/-- Settles O7: each clause is the branch that its command takes. -/
theorem fetchAndHifItemsComplete : Obligations.FetchAndHifItemsComplete := by
  refine ⟨fun n s hn => fun hi hp => execDescriptorFetch_taken hn hi hp,
    fun it s hs => show execHifNop it s = _ from serve_ready hs _,
    fun it s hs hr => ⟨fun he => ?_, fun e st he hv => ?_, fun e st he hv => ?_, fun e he hv => ?_⟩,
    fun it s f hb hu hw hr hf ha hi => execHifAbort_abortNow hb hu hw hr hf ha hi⟩
  all_goals
    refine (show execHifQuery it s = _ from serve_ready hs _).trans (congrArg _ ?_)
    rw [State.hifQuery, if_neg (by omega), he]
  all_goals
    dsimp only
    rw [hv]

end Sys2Proof.Machine
end

section
/-! PROOF. Staging, images, commits and direct writes (R144 to R168, R521). -/

namespace Sys2Proof.Machine

theorem chk_false {b : Bool} (h : b = false) (n : Nat) : chk b n = none := by simp [chk, h]

/-- A list of checks finds nothing when none of them does. -/
theorem firstOff_eq_none {l : List (Option Nat)} (h : ∀ o ∈ l, o = none) : firstOff l = none := by
  induction l with
  | nil => rfl
  | cons o l ih =>
    obtain rfl := h o List.mem_cons_self
    exact ih fun o ho => h o (List.mem_cons_of_mem _ ho)

/-- A stage item whose words are all as R164 wants them is well formed. -/
theorem stageFormat_none {it : Item} (hi : it.inst = 0) (hw : bitsOf (it.w 3) 24 8 = 0)
    (h1 : 1 ≤ bitsOf (it.w 3) 21 3) (h5 : bitsOf (it.w 3) 21 3 ≤ 5) (ht : tailOff it (4 + 2 * bitsOf (it.w 3) 21 3) = none)
    (hj : ∀ j, j < bitsOf (it.w 3) 21 3 → bitsOf (it.w (4 + 2 * j)) 16 16 = 0 ∧
      stageErr (bitsOf (it.w 3) 0 6) (bitsOf (it.w 3) 6 15) (it.w (4 + 2 * j)).toNat 0 = 0) : stageFormat it = none := by
  refine firstOff_eq_none fun o ho => ?_
  simp only [List.mem_append, List.mem_cons, List.not_mem_nil, or_false, List.mem_map, List.mem_range] at ho
  obtain ((((rfl | rfl) | ⟨j, hjn, rfl⟩) | rfl) | ⟨j, hjn, rfl⟩) := ho
  · exact chk_false (by simp [hi]) 8
  · exact chk_false (by simp [hw]; omega) 12
  · exact chk_false (by simp [(hj j hjn).1]) _
  · exact ht
  · rw [(hj j hjn).2]; rfl

theorem tableFormat_none {it : Item} {r : FieldRow} (hi : it.inst = 0) (h0 : 0 < (it.w 5).toNat)
    (h4 : (it.w 5).toNat % 4 = 0) (hl : (it.w 5).toNat ≤ 262144) (hw : bitsOf (it.w 6) 21 11 = 0)
    (hf : (it.w 7).toNat ≤ 65535) (hn : (it.w 8).toNat + (it.w 5).toNat / 4 ≤ 65536)
    (he : stageErr (bitsOf (it.w 6) 0 6) (bitsOf (it.w 6) 6 15) (it.w 7).toNat (it.w 8).toNat = 0)
    (he1 : stageErr (bitsOf (it.w 6) 0 6) (bitsOf (it.w 6) 6 15) (it.w 7).toNat
      ((it.w 8).toNat + (it.w 5).toNat / 4 - 1) = 0)
    (hr : fieldRow (bitsOf (it.w 6) 0 6) (bitsOf (it.w 6) 6 15) (it.w 7).toNat = some r) (hn1 : r.nElem ≠ 1) :
    tableFormat it = none := by
  refine firstOff_eq_none fun o ho => ?_
  simp only [List.mem_cons, List.not_mem_nil, or_false, he, he1, hr] at ho
  obtain (rfl | rfl | rfl | rfl | rfl | rfl | rfl | rfl) := ho <;> refine chk_false ?_ _
  · simp [hi]
  · simp [h4]; omega
  · simp [hw]
  · simpa using hf
  · simpa using hn
  · rfl
  · simpa using hn1
  · rfl

theorem readFormat_none {it : Item} (hi : it.inst = 0) (hw : bitsOf (it.w 3) 24 8 = 0) (hn : bitsOf (it.w 3) 21 3 = 1)
    (hf : bitsOf (it.w 4) 16 16 = 0) (hel : bitsOf (it.w 5) 16 16 = 0)
    (he : stageErr (bitsOf (it.w 3) 0 6) (bitsOf (it.w 3) 6 15) (it.w 4).toNat (it.w 5).toNat = 0) :
    readFormat it = none := by
  refine firstOff_eq_none fun o ho => ?_
  simp only [List.mem_cons, List.not_mem_nil, or_false, he] at ho
  obtain (rfl | rfl | rfl | rfl | rfl) := ho
  · exact chk_false (by simp [hi]) _
  · exact chk_false (by simp [hw, hn]) _
  · exact chk_false (by simp [hf]) _
  · exact chk_false (by simp [hel]) _
  · rfl

theorem discardFormat_none {it : Item} (hi : it.inst = 0) (hm : maskOk (it.w 3) = true) : discardFormat it = none := by
  refine firstOff_eq_none fun o ho => ?_
  simp only [List.mem_cons, List.not_mem_nil, or_false] at ho
  obtain (rfl | rfl) := ho
  · exact chk_false (by simp [hi]) _
  · exact chk_false (by simp [hm]) _

/-- Settles O8: an item whose format is in order does what its command says. -/
theorem stagingAndImagesComplete : Obligations.StagingAndImagesComplete := by
  refine ⟨fun it s => fun hs hi hw h1 h5 ht hj => ?_, fun it s r => fun hs hi h0 h4 hl hw hf hn he he1 hr hn1 => ?_,
    fun v s hd hn hfit => ?_, fun it s hs hi hm => ?_, fun it s hs hi hw hn hf hel he => ?_, fun it s hs hi => ?_,
    fun it s hs hi hl => ?_, fun it s cs hs hi hg => ?_, fun s hw => if_pos hw⟩
  · refine (show execCfgStage it s = _ from serve_ready hs _).trans (congrArg _ ?_)
    simp only [stageFormat_none hi hw h1 h5 ht hj]
    rfl
  · refine (show execCfgStageTable it s = _ from serve_ready hs _).trans (congrArg _ ?_)
    simp only [tableFormat_none hi h0 h4 hl hw hf hn he he1 hr hn1]
    rfl
  · exact (if_neg (not_bnot_of_true hd)).trans (if_pos ⟨hn, hfit⟩)
  · refine (show execCfgDiscard it s = _ from serve_ready hs _).trans (congrArg _ ?_)
    simp only [discardFormat_none hi hm]
  · refine (show execCfgRead it s = _ from serve_ready hs _).trans (congrArg _ ?_)
    simp only [readFormat_none hi hw hn hf hel he]
  · exact (show execCfgPersist it s = _ from serve_ready hs _).trans (congrArg _ (if_neg (not_not_intro hi)))
  · exact (show execCfgImageExport it s = _ from serve_ready hs _).trans
      (congrArg _ ((if_neg (not_not_intro hi)).trans (if_neg (by omega))))
  · refine (show execCfgImageImport it s = _ from serve_ready hs _).trans
      (congrArg _ ((if_neg (not_not_intro hi)).trans ?_))
    rw [hg]
    rfl

/-- Settles O9: each clause is the branch that its command takes. -/
theorem commitsComplete : Obligations.CommitsComplete := by
  refine ⟨fun it s hs hc hb => ⟨?_, ?_⟩, fun ring seq s j hj hf hh hz hm => ?_, fun ring seq b s j hj hw ho hb => ?_,
    fun pubs subs ints bad s g hg => fun hv => ?_, fun s g hg => ?_⟩
  · refine (show execCfgValidateCommit it s = _ from serve_ready hs _).trans (congrArg _ ?_)
    simp only [hc]
    exact if_neg (Bool.eq_false_iff.mp hb)
  · refine (show execCfgDryRun it s = _ from serve_ready hs _).trans (congrArg _ ?_)
    simp only [hc]
    exact if_neg (Bool.eq_false_iff.mp hb)
  · show execCfgJournalWritten ring seq s = _
    rw [execCfgJournalWritten, hj]
    exact (if_neg (by simpa [Option.isSome_iff_ne_none] using hf)).trans ((if_neg (not_bnot_of_true hh)).trans
      ((if_neg (Bool.eq_false_iff.mp hz)).trans (if_neg (Bool.eq_false_iff.mp hm))))
  · show execBlockValuesTaken ring seq b s = _
    rw [execBlockValuesTaken, hj]
    exact (if_neg (Bool.eq_false_iff.mp hw)).trans ((if_neg (Bool.eq_false_iff.mp ho)).trans
      (if_neg (not_bnot_of_true hb)))
  · show execGrantReplyRx pubs subs ints bad s = _
    rw [execGrantReplyRx, hg]
    dsimp only
    rw [hv]
    rfl
  · show execGrantTimeout s = _
    rw [execGrantTimeout, hg]
    rfl

/-- Settles O10: a write in range to a powered domain goes to its field. -/
theorem directWritesComplete : Obligations.DirectWritesComplete :=
  ⟨fun _ _ _ _ hd ht hi => if_pos ⟨hd, ht, hi⟩, fun _ _ _ hd hl => ⟨if_pos ⟨hd, hl⟩, if_pos ⟨hd, hl⟩⟩,
    fun _ _ _ hd hg => ⟨if_pos ⟨hd, hg⟩, if_pos ⟨hd, hg⟩⟩, fun _ _ _ hd hc => ⟨if_pos ⟨hd, hc⟩, if_pos ⟨hd, hc⟩⟩,
    fun _ _ _ hd hn => if_pos ⟨hd, hn⟩⟩

end Sys2Proof.Machine
end

section
/-! PROOF. The Facet link and safe state (R172 to R190, R553). -/

namespace Sys2Proof.Machine

/-- A frame that follows the last one in sequence, or is the first, is taken. -/
theorem execUpstreamFrameRx_taken {n : Nat} {bytes : List Byte} {s : State} (hn : n < 16) (hd : s.domOn 7 = true)
    (hm : s.sys.mode = .running) (hu : s.linkUp n = true) (hl : bytes.length = 124) (hcrc : frameCrcOk bytes = true)
    (hq : ∀ q, (s.facet n).upSeq = some q → sym bytes 1 = (q + 1) % 256) :
    execUpstreamFrameRx n true false bytes s = .next (s.takeUp n bytes) := by
  refine (if_pos ⟨hn, hd, hm, hu⟩).trans (if_pos ?_)
  cases h : (s.facet n).upSeq with
  | none => simp [hl, hcrc]
  | some q => simp [hl, hcrc, hq q h]

/-- The frame of a Facet and the marks that it leaves. -/
theorem execFacetFrameTick_running {n : Nat} {s : State} (hn : n < 16) (hd : s.domOn 7 = true)
    (hm : s.sys.mode = .running) :
    let r := (s.expireRemote.frameItems n).composeFrame n
    let tick : List Out := if s.mirState = 2 then [.tick ((s.timeT / 4294967296 / 1000) % 256).toNat] else []
    execFacetFrameTick n s =
      .next { r.2 with out := tick ++ Out.facet n r.1 :: r.2.out, mir := { r.2.mir with ownFrame := s.timeT } } := by
  dsimp only
  rw [execFacetFrameTick, if_pos ⟨hn, hd, hm⟩]
  obtain ⟨bs, t⟩ := (s.expireRemote.frameItems n).composeFrame n
  rfl

/-- Settles O11: each clause is a branch of its command. -/
theorem facetLinkAndSafeStateComplete : Obligations.FacetLinkAndSafeStateComplete := by
  refine ⟨fun n s hn hd hm => execFacetFrameTick_running hn hd hm, fun n sof codeErr bytes x s hn hu => ?_,
    fun n bytes s hn hd hm hu hl hcrc hq => execUpstreamFrameRx_taken hn hd hm hu hl hcrc hq,
    fun n s hn hu => if_pos ⟨hn, hu⟩, fun n d s hn hd hm hu => if_pos ⟨hn, hd, hm, bnot_of_false hu⟩,
    fun n s => ⟨rfl, rfl⟩, fun n ins s hc => fun h => if_pos ⟨hc, h.imp_left bnot_of_false⟩,
    fun n slot s => fun hs hr => ⟨fun hb => (if_pos ⟨hs, hr⟩).trans (if_neg (Bool.eq_false_iff.mp hb)),
      fun v hh => (if_pos ⟨hs, hr⟩).trans (if_pos hh),
      fun v hh => (if_pos ⟨hs, hr⟩).trans (if_neg (Bool.eq_false_iff.mp hh)), if_pos ⟨hs, hr⟩⟩,
    fun n s hv hc => fun hst => if_pos ⟨hv, hc, hst⟩⟩
  exact (if_pos ⟨hn, bnot_of_false hu⟩).trans ((ite_go _ _ _).trans
    (congrArg _ (if_congr (by simp [and_assoc]) rfl rfl)))

end Sys2Proof.Machine
end

section
/-! PROOF. The digital channels (R196 to R200, R206, R207). -/

namespace Sys2Proof.Machine

/-- A level held long enough changes the debounced state; the Facet's link carries the change on. -/
theorem execDiChange_debounced {ch held : Nat} {mv : Int} (st : Stamp) {s : State} (hc : ch < 128)
    (hm : s.ownMode ch = 7) (hd : (s.chan ch).deb ≠ s.cmpAt ch (s.chan ch).cmp mv) (ht : (s.chan ch).chgAt = none)
    (hh : (s.own Cf.FCT_DI_DEBOUNCE ch).toNat * 1000 ≤ held) :
    let on := s.cmpAt ch (s.chan ch).cmp mv
    let s0 := s.setChan ch { s.chan ch with cmp := on, deb := on, chgAt := some (stTime st) }
    execDiChange ch ⟨mv, held⟩ st s = .next (if s.linkUp (ch / 8) then s0.diDeliver ch on (stTime st) else s0) :=
  (if_pos ⟨hc, hm⟩).trans (if_pos ⟨hd.symm, ht, hh⟩)

/-- A level that brings no change moves the comparator alone. -/
theorem execDiChange_kept {ch held : Nat} {mv : Int} (st : Stamp) {s : State} (hc : ch < 128) (hm : s.ownMode ch = 7)
    (h : (s.chan ch).deb = s.cmpAt ch (s.chan ch).cmp mv ∨ (s.chan ch).chgAt ≠ none ∨
      held < (s.own Cf.FCT_DI_DEBOUNCE ch).toNat * 1000) :
    execDiChange ch ⟨mv, held⟩ st s = .next (s.setChan ch { s.chan ch with cmp := s.cmpAt ch (s.chan ch).cmp mv }) := by
  refine (if_pos ⟨hc, hm⟩).trans (if_neg fun ⟨h1, h2, h3⟩ => ?_)
  obtain h | h | h := h
  · exact h1 h.symm
  · exact h h2
  · exact absurd h3 (Nat.not_le.mpr h)

theorem readback_eq_true_iff {mv : Int} : readback mv = true ↔ 12000 < mv := decide_eq_true_iff

/-- An output that does not read back as it is driven shows the mismatch; one driven off does so on a bipolar base. -/
theorem execDoMismatch_raised {ch : Nat} {mv : Int} {s : State} {on rb : Bool} (hm : s.ownMode ch = 8)
    (hi : (s.chan ch).mism = false) (hon : ((s.chan ch).drv == 1) = on) (hrb : readback mv = rb)
    (h : (on = true ∧ (!rb) = true) ∨ ((!on) = true ∧ rb = true ∧ s.baseId = 2)) :
    execDoMismatch ch mv false s =
      .next ((s.setChan ch { s.chan ch with mism := true }).log 0x248E ch (if on then 1 else 0) (if rb then 1 else 0)) := by
  subst hon hrb
  exact if_pos ⟨hm, bnot_of_false hi, rfl, h⟩

/-- An output whose level is in order may be commanded by an item. -/
theorem State.fctOutput_held {it : Item} {s : State} (hi : it.inst ≤ 127) (ho : s.cfN Cf.FCT_OWNER it.inst = 0)
    (hm : isOut (s.chMode it.inst) = true) (h8 : s.chMode it.inst = 8 → (it.w 3).toNat ≤ 1)
    (ha : isAO (s.chMode it.inst) = true → isNan32 (it.w 3) = false) : s.fctOutput it = s.holdItem 0x1200 it [it.w 3] := by
  rw [State.fctOutput, if_neg (by omega), if_neg (not_not_intro ho), if_neg (not_bnot_of_true hm),
    if_neg (fun h => absurd (h8 h.1) (Nat.not_le.mpr h.2)), if_neg (fun h => by simp [ha h.1] at h)]

/-- Settles O12: each clause is a branch of its command. -/
theorem digitalChannelsComplete : Obligations.DigitalChannelsComplete := by
  refine ⟨fun ch mv held st s hc hm => ⟨fun hd ht hh => ⟨fun hl => ?_, fun hl => ?_⟩, fun h => execDiChange_kept st hc hm h⟩,
    fun ch s hm ho hd => if_pos ⟨hm, bnot_of_false ho, hd⟩, fun ch s hm ho hr ht hw => if_pos ⟨hm, ho, hr, ht, hw⟩,
    fun n s ht => ?_, fun n k s ht => ⟨?_, ?_⟩, fun ch mv s hm hi => ⟨fun h => ?_, fun h => ?_⟩, fun ch mv s h => ?_,
    fun ch s hc hm hl => if_pos ⟨hc, hm, bnot_of_false hl⟩,
    fun ch s hc hm hl => (if_neg (by simp [hl])).trans (if_pos ⟨hc, hm⟩), fun it s hs hi hm => ?_,
    fun it s hs hi ho hm h8 ha => ?_, fun it s hs hi hl => ?_⟩
  · exact (execDiChange_debounced st hc hm hd ht hh).trans (congrArg _ (if_neg (Bool.eq_false_iff.mp hl)))
  · exact (execDiChange_debounced st hc hm hd ht hh).trans (congrArg _ (if_pos hl))
  · show execDoTotalOverload n s = _
    rw [execDoTotalOverload, ht]
    rfl
  · show execDoTotalShedNext n true s = _
    rw [execDoTotalShedNext, ht]
    rfl
  · show execDoTotalShedNext n false s = _
    rw [execDoTotalShedNext, ht]
    rfl
  · exact execDoMismatch_raised hm hi (beq_iff_eq.mpr h.1) (decide_eq_false (by omega)) (.inl ⟨rfl, rfl⟩) |>.trans
      (by rw [if_pos rfl, if_neg Bool.false_ne_true])
  · exact execDoMismatch_raised hm hi (beq_eq_false_iff_ne.mpr h.1) (decide_eq_true h.2.1) (.inr ⟨rfl, rfl, h.2.2⟩)
      |>.trans (by rw [if_pos rfl, if_neg Bool.false_ne_true])
  · exact if_pos (Bool.eq_iff_iff.mpr (readback_eq_true_iff.trans (h.trans beq_iff_eq.symm)))
  · exact (show execFctPiclear it s = _ from serve_ready hs _).trans
      (congrArg _ ((if_neg (by omega)).trans (if_neg (not_not_intro hm))))
  · exact (show execFctOutput it s = _ from serve_ready hs _).trans (congrArg _ (State.fctOutput_held hi ho hm h8 ha))
  · exact (show execFctRestore it s = _ from serve_ready hs _).trans
      (congrArg _ ((if_neg (by omega)).trans (if_neg (Bool.eq_false_iff.mp hl))))

end Sys2Proof.Machine
end

section
/-! PROOF. The field supply (R171, R201 to R204). -/

namespace Sys2Proof.Machine

@[simp] theorem State.facet_setFacet (s : State) (n : Nat) (f : FacetSt) : (s.setFacet n f).facet n = f :=
  tget_tset facetIdle s.fct.facets n f

/-- Setting channels one after another touches the channels alone. -/
theorem State.foldl_setChan (f : State → Nat → ChanSt) (cs : List Nat) (s : State) :
    ∃ chans, cs.foldl (fun s ch => s.setChan ch (f s ch)) s = { s with fct := { s.fct with chans := chans } } := by
  induction cs generalizing s with
  | nil => exact ⟨s.fct.chans, rfl⟩
  | cons ch cs ih =>
    obtain ⟨chans, h⟩ := ih (s.setChan ch (f s ch))
    exact ⟨chans, h⟩

section
variable (r : Reg) (n : Nat) (f : State → Nat → Word)

/-- Writing the copies of a register one after another touches the registers alone. -/
theorem State.foldl_wr (ks : List Nat) (s : State) :
    ∃ regs, ks.foldl (fun s k => s.wr r n k (f s k)) s = { s with regs := regs } := by
  induction ks generalizing s with
  | nil => exact ⟨s.regs, rfl⟩
  | cons k ks ih =>
    obtain ⟨regs, h⟩ := ih (s.wr r n k (f s k))
    exact ⟨regs, h⟩

theorem State.rdA_foldl_wr_ne {b : Nat} (ks : List Nat) (s : State) (h : ∀ k ∈ ks, b ≠ r.addr n k) :
    (ks.foldl (fun s k => s.wr r n k (f s k)) s).rdA b = s.rdA b := by
  induction ks generalizing s with
  | nil => rfl
  | cons k ks ih =>
    exact (ih (s.wr r n k (f s k)) fun j hj => h j (List.mem_cons_of_mem _ hj)).trans
      (State.rdA_wrA_ne s _ _ _ (h k List.mem_cons_self))

/-- Copies that are all given one value read it back. -/
theorem State.rd_foldl_wr_const (hr : 0 < r.s2) {w : Word} {ks : List Nat} (s : State)
    (h : ∀ t : State, t.fct = s.fct → ∀ k, f t k = w) {k : Nat} (hk : k ∈ ks) :
    (ks.foldl (fun s k => s.wr r n k (f s k)) s).rd r n k = w := by
  induction ks generalizing s with
  | nil => exact absurd hk List.not_mem_nil
  | cons j ks ih =>
    by_cases hks : k ∈ ks
    · exact ih (s.wr r n j (f s j)) h hks
    · obtain rfl : k = j := (List.mem_cons.mp hk).resolve_right hks
      refine (State.rdA_foldl_wr_ne r n f ks (s.wr r n k (f s k)) fun j hj he => hks ?_).trans
        ((State.rd_wr_same s r n k _).trans (h s rfl k))
      have hkj : k * r.s2 = j * r.s2 := by simp only [Reg.addr] at he; omega
      exact Nat.eq_of_mul_eq_mul_right hr hkj ▸ hj

end

/-- The word that shows slice `k` of a Facet. `showSlices_eq` ties it to the model. -/
def State.sliceWord (n : Nat) (s : State) (k : Nat) : Word :=
  let x := (s.facet n).slices.getD k (0, 0, 0)
  w32 (sliceBits 10 x.2.2 * 2 ^ 22 + sliceBits 11 x.2.1 * 2 ^ 11 + sliceBits 11 x.1)

theorem State.showSlices_eq (s : State) (n : Nat) :
    s.showSlices n = (List.range 4).foldl (fun s k => s.wr Reg.FCT_SLICE n k (s.sliceWord n k)) s := rfl

/-- Showing the slices writes registers alone. -/
theorem State.showSlices_frame (s : State) (n : Nat) : ∃ regs, s.showSlices n = { s with regs := regs } := by
  rw [State.showSlices_eq]
  exact State.foldl_wr Reg.FCT_SLICE n (State.sliceWord n) (List.range 4) s

/-- A Facet without factors shows its slices as zero. -/
theorem State.rd_showSlices_none {s : State} {n k : Nat} (h : (s.facet n).slices = []) (hk : k < 4) :
    (s.showSlices n).rd Reg.FCT_SLICE n k = 0 := by
  rw [State.showSlices_eq]
  refine State.rd_foldl_wr_const Reg.FCT_SLICE n (State.sliceWord n) (by decide) s (fun t ht j => ?_)
    (List.mem_range.mpr hk)
  have hx : (t.facet n).slices = [] := by rw [State.facet, ht, ← State.facet, h]
  simp [State.sliceWord, hx, sliceBits, w32]

/-- Showing the slices leaves the calibration status as it is. -/
theorem State.rd_showSlices_calstat (s : State) (n : Nat) :
    (s.showSlices n).rd Reg.FCT_CALSTAT n 0 = s.rd Reg.FCT_CALSTAT n 0 := by
  rw [State.showSlices_eq]
  refine State.rdA_foldl_wr_ne Reg.FCT_SLICE n (State.sliceWord n) (List.range 4) s fun k _ => ?_
  simp only [Reg.addr, Reg.FCT_CALSTAT, Reg.FCT_SLICE]
  omega

/-! ### The reset of a Facet -/

/-- A Facet after its reset: idle, apart from its link and its line. `execFacetSupplyReset_eq` ties it to the model. -/
def FacetSt.unfedReset (f : FacetSt) : FacetSt :=
  { facetIdle with fseq := f.fseq, upSeq := f.upSeq, invalid := f.invalid, updates := [], cmds := f.cmds,
                   diag := f.diag, hart := f.hart, spot := f.spot, tempSeen := f.tempSeen,
                   perimOff := f.perimOff, lastFrame := f.lastFrame, sent := f.sent, cfgIdx := f.cfgIdx,
                   unfed := true }

/-- A channel after the reset of its Facet. -/
def State.unfedChan (s : State) (ch : Nat) : ChanSt :=
  { chanIdle with own := (s.chan ch).own, last := (s.chan ch).last, lastCode := (s.chan ch).lastCode,
                  lastAt := (s.chan ch).lastAt, shed := isOut (s.chMode ch) }

/-- The reset of a Facet, its channels and what it holds, before the registers show it. -/
def State.unfedReset (s : State) (n : Nat) : State :=
  let s1 := (facetChans n).foldl (fun s ch => s.setChan ch (s.unfedChan ch)) (s.setFacet n (s.facet n).unfedReset)
  { s1 with fct := { s1.fct with own := dropFacet n s1.fct.own, cals := s1.fct.cals.filter (fun kv => kv.1 / 32 != n) } }

theorem execFacetSupplyReset_eq (n : Nat) (s : State) :
    execFacetSupplyReset n s =
      .next (((((s.unfedReset n).setSlot n 0 fbIdle).wr Reg.FCT_CALSTAT n 0 0).showSlices n).log 0x448F n) := by
  unfold execFacetSupplyReset go State.unfedReset State.unfedChan FacetSt.unfedReset
  dsimp only

theorem State.unfedReset_frame (s : State) (n : Nat) :
    (s.unfedReset n).facet n = (s.facet n).unfedReset ∧ (s.unfedReset n).mer = s.mer ∧ (s.unfedReset n).cfg = s.cfg := by
  obtain ⟨chans, h⟩ := State.foldl_setChan State.unfedChan (facetChans n) (s.setFacet n (s.facet n).unfedReset)
  rw [State.unfedReset, h]
  exact ⟨State.facet_setFacet s n _, rfl, rfl⟩

/-- Setting a fallback slot writes the Facet and the register that shows its slots. -/
theorem State.setSlot_eq (s : State) (n sl : Nat) (x : FbSlot) :
    ∃ w, s.setSlot n sl x = (s.setFacet n ((s.facet n).setSlot sl x)).wr Reg.FCT_FBSTAT n 0 w := ⟨_, rfl⟩

theorem FacetSt.slot_setSlot_unfedReset (f : FacetSt) (k : Nat) : (f.unfedReset.setSlot 0 fbIdle).slot k = fbIdle := by
  simp only [FacetSt.slot]
  split_ifs <;> rfl

/-- The end of the reset: the registers show no calibration and no factors. -/
theorem State.showReset {u : State} {n : Nat} (hs : (u.facet n).slices = []) :
    ∃ t, ((u.wr Reg.FCT_CALSTAT n 0 0).showSlices n).log 0x448F n = t ∧ t.facet n = u.facet n ∧
      t.rd Reg.FCT_CALSTAT n 0 = 0 ∧ (∀ k, k < 4 → t.rd Reg.FCT_SLICE n k = 0) ∧ t.mer = u.mer ∧ t.cfg = u.cfg := by
  have hc := State.rd_wr_same u Reg.FCT_CALSTAT n 0 0
  have hf : (u.wr Reg.FCT_CALSTAT n 0 0).facet n = u.facet n := rfl
  obtain ⟨regs, hv⟩ := (u.wr Reg.FCT_CALSTAT n 0 0).showSlices_frame n
  refine ⟨_, rfl, ?_, (State.rd_log ..).trans ((State.rd_showSlices_calstat _ n).trans hc),
    fun k hk => (State.rd_log ..).trans (State.rd_showSlices_none (hf ▸ hs) hk), ?_, ?_⟩
  · rw [State.facet, State.log_fct, hv]
    rfl
  · rw [State.log_mer, hv]
    rfl
  · rw [State.log_cfg, hv]
    rfl

/-- What the reset of a Facet leaves of it. -/
theorem execFacetSupplyReset_resets (n : Nat) (s : State) :
    ∃ t, execFacetSupplyReset n s = .next t ∧ t.facet n = (s.facet n).unfedReset.setSlot 0 fbIdle ∧
      t.rd Reg.FCT_CALSTAT n 0 = 0 ∧ (∀ k, k < 4 → t.rd Reg.FCT_SLICE n k = 0) ∧ t.mer = s.mer ∧ t.cfg = s.cfg := by
  obtain ⟨hf, hmer, hcfg⟩ := s.unfedReset_frame n
  rw [execFacetSupplyReset_eq]
  generalize s.unfedReset n = u at hf hmer hcfg
  obtain ⟨w, hu⟩ := u.setSlot_eq n 0 fbIdle
  have hslot : ((u.setFacet n ((u.facet n).setSlot 0 fbIdle)).wr Reg.FCT_FBSTAT n 0 w).facet n =
      (s.facet n).unfedReset.setSlot 0 fbIdle :=
    (State.facet_setFacet u n _).trans (congrArg (FacetSt.setSlot · 0 fbIdle) hf)
  obtain ⟨t, ht, hfacet, hc, hsl, hm, hg⟩ := State.showReset (congrArg FacetSt.slices hslot)
  exact ⟨t, hu ▸ congrArg Host.Outcome.next ht, hfacet.trans hslot, hc, hsl, hm.trans hmer, hg.trans hcfg⟩

/-- Settles O13: each clause is a branch of its command. -/
theorem fieldSupplyCompletes : Obligations.FieldSupplyCompletes := by
  refine ⟨fun n v s hw hv => if_pos ⟨bnot_of_false hw, hv⟩, fun n v s hl hv => if_pos ⟨bnot_of_false hl, hv⟩,
    fun n v g s hg => ⟨fun hv => ?_, fun hv => ?_⟩, fun n v s hl hs hn hv => if_pos ⟨hl, hs, hn, hv⟩,
    fun n v s h hv => if_pos ⟨h, hv⟩, fun n g s hg => ?_, fun n s => ?_, fun n s => rfl⟩
  · show execShedGroupInstant n v s = _
    simp only [execShedGroupInstant, hg]
    exact if_pos hv
  · show execShedGroupInstant n v s = _
    simp only [execShedGroupInstant, hg]
    exact if_neg (by omega)
  · show execAutoRestoreGroup n s = _
    rw [execAutoRestoreGroup, hg]
    rfl
  · obtain ⟨t, ht, hf, hc, hsl, hm, hg⟩ := execFacetSupplyReset_resets n s
    refine ⟨t, ht, ?_, ?_, ?_, ?_, fun k => ?_, fun _ => ⟨hc, hsl⟩, hm, hg⟩ <;> rw [hf]
    · rfl
    · rfl
    · rfl
    · rfl
    · exact FacetSt.slot_setSlot_unfedReset _ k

end Sys2Proof.Machine
end

section
/-! PROOF. Calibration, diagnosis and HART (R213 to R215, R229 to R234, R242 to R250). -/

namespace Sys2Proof.Machine

/-- No element of a list is the calibration command, when none has its code. -/
theorem any_cmd_eq_false {l : List (Nat × Nat)} (h : ∀ c ∈ l, c.1 ≠ 1) : l.any (fun c => c.1 == 1) = false := by
  simpa using h

/-- A diagnosis whose channel, levels and Facet allow it hands its command to the Facet. -/
theorem State.fctDiag_started {it : Item} {s : State} (hi : it.inst ≤ 127) (hw : (it.w 3).toNat ≤ 1)
    (hd : (s.facet (it.inst / 8)).diag = none) (hb : (s.facet (it.inst / 8)).calBusy = false)
    (hc : ∀ c ∈ (s.facet (it.inst / 8)).cmds, c.1 ≠ 1) (ha : isAI (s.chMode it.inst) = true)
    (hm : it.w 3 = 1 → s.chMode it.inst = 1) (h4 : s.levelOk it.inst (it.w 4) = true)
    (h5 : s.levelOk it.inst (it.w 5) = true) :
    let ch := it.inst
    let n := ch / 8
    let m := s.chMode ch
    let a := dacCode m (it.w 4)
    let b := dacCode m (it.w 5)
    let arg := ch % 8 + (a % 4096).toNat * 16 + (b % 4096).toNat * 65536
    let d : DiagSt := ⟨it.ring, it.seq, it.w 3 = 1, ch % 8, w32f (dacLevel m a), w32f (dacLevel m b), false, none, []⟩
    let s1 := s.setFacet n { s.facet n with
      cmds := (s.facet n).cmds ++ [(if it.w 3 = 1 then 3 else 2, arg)], diag := some d }
    s.fctDiag it (it.w 3 = 1) =
      ((s1.setF Fld.FCT_DIAGSTAT_BUSY n 0 1).setF Fld.FCT_DIAGSTAT_CH n 0 (ch % 8)).holdItem 0x1211 it [] := by
  intros
  rw [State.fctDiag]
  dsimp only
  rw [if_neg (by omega), if_neg (by omega), if_neg (by simp [hd, hb, any_cmd_eq_false hc]), if_neg (by simpa [ha] using hm),
    if_neg (not_bnot_of_true h4), if_neg (not_bnot_of_true h5)]
  simp only [decide_eq_true_eq]
  rfl

/-- A calibration whose factors all fit ends its item DONE. -/
theorem execFctCalDone_fits {n : Nat} {found : CalFound} {s : State} {x : Inflight} (hn : n < 16)
    (hb : (s.facet n).calBusy = true) (hf : ∀ k, k < 4 → factorsFit (found.factors.getD k (0, 0, 0)) = true)
    (hx : s.begun 0x1210 (fun i => i == n) = some x) :
    let fs' := (List.range 4).map (fun k => found.factors.getD k (0, 0, 0))
    let f1 := { s.facet n with calBusy := false, dac := found.dac, ack := 129, slices := fs' }
    let s1 := ((s.setFacet n f1).setF Fld.FCT_CALSTAT_BUSY n 0 0).incF Fld.FCT_CALSTAT_RUNS n 0 1
    let s2 := ((s1.showSlices n).setF Fld.FCT_CALSTAT_FAIL n 0 0).setF Fld.FCT_CALSTAT_LIMIT n 0 0
    execFctCalDone n found s = .next ((s2.log 0x0491 n 38).complete x.item stDone) := by
  have hnone : (List.range 4).find? (fun k => !(factorsFit (found.factors.getD k (0, 0, 0)))) = none :=
    List.find?_eq_none.mpr fun k hk => not_bnot_of_true (hf k (List.mem_range.mp hk))
  intros
  refine (if_pos ⟨hn, hb⟩).trans ?_
  rw [hnone, hx]
  rfl

/-- A diagnosis that has lasted, or was aborted, ends its item with its verdict. -/
theorem execDiagDone_ended {n : Nat} {mA mB : Word} {s : State} {d : DiagSt} {x : Inflight} (hd : (s.facet n).diag = some d)
    (hx : s.flight d.ring d.seq = some x)
    (h : d.aborted = true ∨ (d.since ≠ none ∧ laterBy (d.since.getD s.timeT) (s.diagLen (8 * n + d.ch)) ≤ s.timeT)) :
    let ch := 8 * n + d.ch
    let m := s.ownMode ch
    let multi := s.own Cf.FCT_HART_MULTIDROP ch == 1
    let cs := diagCodes (d.since.getD s.timeT) d.codes
    let s0 := s.setFacet n { s.facet n with diag := none, fdiag := none, ack := 128 + (if d.wire then 3 else 2) }
    let a := diagMean m multi cs.1 mA
    let b := diagMean m multi cs.2 mB
    let r := s0.diagRatio d a b
    let v := diagVerdict d m (s.cfN Cf.FCT_DIAG_TOL (128 + n)) r.1 a
    let g := wInt (satInt32 (Fl.mul fmt64 (Fl.sub fmt64 r.1 (Fl.ofInt 1)) (Fl.ofInt 1000000)).toIntEven)
    let s2 := (r.2.setF Fld.FCT_DIAGSTAT_BUSY n 0 0).setF Fld.FCT_DIAGSTAT_VERDICT n 0 v
    execDiagDone n mA mB s =
      .next ((if v = 0 then s2 else s2.log 0x249A ch (if d.wire then 1 else 0) (w32 v)).complete x.item stDone (w32 v)
        a b g) := by
  unfold execDiagDone
  dsimp only
  rw [hd]
  dsimp only
  rw [if_pos (by simpa [Option.isSome_iff_ne_none] using h), hx]
  rfl

/-- Settles O14: each clause is the branch that its command takes. -/
theorem calibrationCompletes : Obligations.CalibrationCompletes := by
  refine ⟨fun n k dO dG dS s hn hk => ⟨fun hl => ?_, fun hl => ?_⟩, fun it s hs hi hd hb hc => ?_,
    fun n fs dac s x hn hb hf hx => execFctCalDone_fits hn hb hf hx, fun it s hs hi hw => fun hd hb hc ha hm h4 h5 => ⟨?_, ?_⟩,
    fun n mA mB s d x hd hx => fun h => execDiagDone_ended hd hx h, fun it s hs hi hr => ?_,
    fun it s hs hm hi hr h1 h2 => ?_, fun it s hs hi hr ho ha => ?_⟩
  · exact (if_pos ⟨hn, hk⟩).trans (if_neg (Bool.eq_false_iff.mp hl))
  · exact (if_pos ⟨hn, hk⟩).trans ((if_pos hl).trans
      ((ite_go _ _ _).trans (congrArg _ (if_congr (by simp) rfl rfl))))
  · refine (show execFctCal it s = _ from serve_ready hs _).trans (congrArg _ ((if_neg (by omega)).trans
      ((if_neg (by simp [hd])).trans (if_neg ?_))))
    simp [hb, any_cmd_eq_false hc]
  · exact (show execFctDiagPath it s = _ from serve_ready hs _).trans
      (congrArg _ (State.fctDiag_started hi hw hd hb hc ha hm h4 h5))
  · exact (show execFctDiagWire it s = _ from serve_ready hs _).trans
      (congrArg _ (State.fctDiag_started hi hw hd hb hc ha hm h4 h5))
  · exact (show execFctCalsetRead it s = _ from serve_ready hs _).trans (congrArg _ ((if_neg (by omega)).trans
      (if_neg (by omega))))
  · exact (show execFctCalsetWrite it s = _ from serve_ready hs _).trans (congrArg _ ((if_neg (not_not_intro hm)).trans
      ((if_neg (by omega)).trans ((if_neg (by omega)).trans ((if_neg (not_bnot_of_true h1)).trans
        (if_neg (not_bnot_of_true h2)))))))
  · have ht : s.fctTrim it = s.holdItem 0x1214 it [] := by
      rw [State.fctTrim, if_neg (by omega), if_neg (by omega), if_neg (not_not_intro ho), if_neg (not_bnot_of_true ha)]
    exact ⟨(show execFctTrimdrive it s = _ from serve_ready hs _).trans (congrArg _ ht),
      (show execFctTrimdriveRelease it s = _ from serve_ready hs _).trans (congrArg _ ht)⟩

end Sys2Proof.Machine
end

section
/-! PROOF. HART and the conditions of analog channels (R235 to R245). -/

namespace Sys2Proof.Machine

/-- A reply that an item waits for goes to its buffer and ends it. -/
theorem State.hartReply_waited {n : Nat} {s : State} {x : Inflight} (hx : s.hartWait n = some x) (body : List Byte)
    (ok : Bool) :
    let s1 := (s.hartEnd n).bufPutBytes x.item (bufAddr x.item 7) (body.take (x.item.w 9).toNat)
    let s2 := if ok then s1 else s1.incF Fld.FCT_HARTSTAT_CHKERR n 0 1
    s.hartReply n body ok = s2.completeAt x.item x.sentAt stDone (w32 body.length) (if ok then 0 else 2) 0 0 := by
  dsimp only
  rw [State.hartReply, hx]

theorem State.hartReply_unsolicited {n : Nat} {s : State} (hx : s.hartWait n = none) (body : List Byte) (ok : Bool) :
    s.hartReply n body ok = s.incF Fld.FCT_HARTSTAT_UNSOL n 0 1 := by
  rw [State.hartReply, hx]

/-- Settles O15: each clause is the branch that its command takes. -/
theorem hartCompletes : Obligations.HartCompletes := by
  refine ⟨fun it s hs hi h3 h6 h9 hm ht => ?_, fun n line clean s x hx => ⟨?_, fun t ht hto => ?_⟩, fun n s t ht hc => ?_,
    fun n line clean s hx => ⟨?_, ?_⟩⟩
  · exact (show execFctHart it s = _ from serve_ready hs _).trans (congrArg _ ((if_neg (by omega)).trans
      ((if_neg (by omega)).trans ((if_neg (by omega)).trans ((if_neg (by omega)).trans
        (if_neg (Bool.eq_false_iff.mp ht)))))))
  · exact congrArg Host.Outcome.next (State.hartReply_waited hx _ _)
  · show execHartReplyTimeout n s = _
    rw [execHartReplyTimeout, hx, ht]
    exact if_pos hto
  · show execHartTxTimeout n s = _
    rw [execHartTxTimeout, State.hartCut, ht]
    exact congrArg Host.Outcome.next (if_neg (Bool.eq_false_iff.mp hc))
  · show execHartUnsolicited n s = _
    rw [execHartUnsolicited, hx]
    rfl
  · exact congrArg Host.Outcome.next (State.hartReply_unsolicited hx _ _)

/-- Settles O16: each clause is a branch of its command. -/
theorem analogConditionsComplete : Obligations.AnalogConditionsComplete := by
  refine ⟨fun ch meas s ha => ⟨fun hd ho h => if_pos ⟨ha, hd, bnot_of_false ho, h⟩, fun h => if_pos ⟨ha, h⟩⟩,
    fun ch need meas s ha => ⟨fun hc ho hs h => (if_pos ha).trans (if_pos ⟨bnot_of_false hc, bnot_of_false ho, hs, h⟩),
      fun h => (if_pos ha).trans (if_neg fun ⟨h1, h2, h3, h4⟩ => ?_),
      fun ho h1 h2 => if_pos ⟨ha, bnot_of_false ho, h1, h2⟩, fun h => if_pos ⟨ha, h⟩⟩,
    fun ch meas s => fun h1 h2 => if_neg fun h => h.elim (Bool.eq_false_iff.mp h1) (Bool.eq_false_iff.mp h2),
    fun ch temp need s ha => if_pos ha, fun ch s hm => ⟨fun ho => if_pos ⟨hm, bnot_of_false ho⟩, if_pos hm⟩⟩
  obtain h | h | h | h := h
  · exact not_bnot_of_true h h1
  · exact not_bnot_of_true h h2
  · exact h h3
  · exact Bool.eq_false_iff.mp h h4

end Sys2Proof.Machine
end

section
/-! PROOF. The Tangent loops (R253 to R283). -/

namespace Sys2Proof.Machine

/-- An item of an enabled loop has its effect. -/
theorem State.tanItem_enabled {s : State} {it : Item} (hi : it.inst ≤ 255) (he : s.loopEn it.inst = true)
    (k : State → State) : s.tanItem it k = k s := by
  rw [State.tanItem, if_neg (by omega), if_neg (not_bnot_of_true he)]

theorem serve_tanItem {s : State} {it : Item} (hs : s.Ready it) (hi : it.inst ≤ 255) (he : s.loopEn it.inst = true)
    (k : State → State) : serve it s (fun s => s.tanItem it k) = .next (k s) :=
  (serve_ready hs _).trans (congrArg _ (State.tanItem_enabled hi he k))

/-- A sample of a loop becomes ready with the value that its source has now. -/
theorem execLoopReady_ready {l : Nat} {s : State} {x : Sample} (hx : (s.loop l).samp = some x) (hr : x.ready = false)
    (ht : s.timeT ≤ s.deadline l x) :
    let v := s.srcVal (s.cf Cf.TAN_PV_SRC l 0)
    let y := { x with ready := true, x := v.1, q := v.2, readyAt := s.mer.base }
    execLoopReady l s = .next (s.setLoop l { s.loop l with samp := some y }) := by
  rw [execLoopReady]
  dsimp only
  rw [hx]
  exact if_neg (by simp [hr]; omega)

/-- An injection that is in order waits at its loop. -/
theorem execTanInject_waits {it : Item} {s : State} (hs : s.Ready it) (hi : it.inst ≤ 255) (he : s.loopEn it.inst = true)
    (h4 : isNan32 (it.w 4) = false) (h5 : isNan32 (it.w 5) = false) (h6 : isNan32 (it.w 6) = false)
    (hp : bitsOf (it.w 3) 4 2 ≠ 3)
    (hw : bitsOf (it.w 3) 0 2 = 1 → bitsOf (it.w 3) 16 8 ≠ 0 ∧ bitsOf (it.w 8) 0 15 ≠ 0) (hl : 1 ≤ (it.w 7).toNat)
    (hh : (it.w 7).toNat ≤ 4000000000) (hk : pointOk (s.loop it.inst).st (bitsOf (it.w 3) 4 2) = true)
    (hj : (s.loop it.inst).inj = none)
    (hq : (s.loop it.inst).reqs.any (fun r => r.kind == 3 && s.reqLives r) = false)
    (hc : bitOf (it.w 3) 8 = true → s.capsOpen < 16) :
    let a := s.freqClamp it.inst (it.w 5)
    let b := s.freqClamp it.inst (it.w 6)
    let n := if a ≠ it.w 5 then [1, 1, it.w 5, a] else if b ≠ it.w 6 then [1, 1, it.w 6, b] else [0, 0, 0, 0]
    execTanInject it s = .next (s.tanReq it 0x0703 3 0 (n ++ [a, b])) := by
  refine (serve_tanItem hs hi he _).trans (congrArg Host.Outcome.next ?_)
  refine (if_neg (Bool.eq_false_iff.mp h4)).trans ((if_neg (Bool.eq_false_iff.mp h5)).trans
    ((if_neg (Bool.eq_false_iff.mp h6)).trans ((if_neg fun h => h.elim hp fun h => (hw h.1).1 h.2).trans
      ((if_neg (by omega)).trans ((if_neg fun h => (hw h.1).2 h.2).trans ((if_neg (not_bnot_of_true hk)).trans
        ((if_neg ?_).trans (if_neg fun h => absurd (hc h.1) (Nat.not_lt.mpr h.2)))))))))
  simp only [hj, hq]
  decide

/-- Settles O17: each clause is the branch that its command takes. -/
theorem tangentCompletes : Obligations.TangentCompletes := by
  refine ⟨fun s he ht => if_pos ⟨he, ht⟩, fun l s x hx hr ht => execLoopReady_ready hx hr ht, fun l s x he hb hn ht => ?_,
    fun l s x hx hd ht => ⟨fun v hv => ?_, fun hv => ?_⟩, fun l s x hx => fun ht => ?_,
    fun it s hs hi he h1 h3 hn => ?_, fun it s hs hi he hnan h5 hr => ?_, fun it s hs hi he hnan h7 => ?_,
    fun it s hs hi he h4 h5 h6 hp hw hl hh hk hj hq hc => execTanInject_waits hs hi he h4 h5 h6 hp hw hl hh hk hj hq hc,
    fun it s hs hi he hj => ?_⟩
  · show execLoopEvaluation s = _
    rw [execLoopEvaluation, if_pos ⟨he, hb⟩, hn]
    exact if_neg (by omega)
  · show execLoopResultHandoff l s = _
    simp only [execLoopResultHandoff, hx, hv]
    exact (if_neg (by omega)).trans (if_pos hd)
  · show execLoopResultHandoff l s = _
    simp only [execLoopResultHandoff, hx, hv]
    exact (if_neg (by omega)).trans (if_pos hd)
  · show execLoopDeadlineMiss l s = _
    rw [execLoopDeadlineMiss, hx]
    exact if_pos ht
  · exact (show execTanMode it s = _ from serve_tanItem hs hi he _).trans (congrArg _ ((if_neg (by omega)).trans
      (if_neg fun h => not_bnot_of_true (hn h.1) h.2)))
  · exact (show execTanSetpoint it s = _ from serve_tanItem hs hi he _).trans (congrArg _
      ((if_neg (Bool.eq_false_iff.mp hnan)).trans ((if_neg h5).trans (if_neg (Bool.eq_false_iff.mp hr)))))
  · exact (show execTanManout it s = _ from serve_tanItem hs hi he _).trans (congrArg _
      ((if_neg (Bool.eq_false_iff.mp hnan)).trans (if_neg (not_not_intro h7))))
  · exact (show execTanInjectStop it s = _ from serve_tanItem hs hi he _).trans (congrArg _
      (if_neg (by simpa [Option.isSome_iff_ne_none] using hj)))

end Sys2Proof.Machine
end

section
/-! PROOF. Locus (R287 to R315). -/

namespace Sys2Proof.Machine

theorem State.locQueue_track {s : State} {it : Item} (hi : it.inst ≤ 15) (op : Nat) :
    let s1 := s.holdItem op it []
    s.locQueue op it =
      s1.setTrack it.inst { s1.track it.inst with cmds := (s1.track it.inst).cmds ++ [(it.ring, it.seq)] } :=
  if_neg (by omega)

theorem State.cntItem_counter {s : State} {it : Item} (hi : it.inst ≤ 1023) (op kind : Nat) (v : Int) :
    s.cntItem op it kind v = (s.holdItem op it []).cntPut ⟨kind, it.inst, v, some (it.ring, it.seq)⟩ :=
  if_neg (by omega)

theorem State.locCounter_put {s : State} {it : Item} (hi : it.inst ≤ 1023) (hk : (it.w 3).toNat ≤ 1) :
    s.locCounter it =
      (s.holdItem 0x807 it []).cntPut ⟨1 + (it.w 3).toNat, it.inst, sInt (it.w 4), some (it.ring, it.seq)⟩ :=
  (if_neg (by omega)).trans (State.cntItem_counter hi _ _ _)

theorem ne_zero_of_toNat_pos {w : Word} (h : 0 < w.toNat) : w ≠ 0 := fun h0 => by simp [h0] at h

/-- Settles O18: each clause is the branch that its command takes. -/
theorem locusEventsComplete : Obligations.LocusEventsComplete := by
  refine ⟨fun s he hn => if_pos ⟨he, hn⟩, fun t s ht he hst h0 hel => if_pos ⟨ht, he, hst, h0, hel⟩,
    fun k s hk he hd => if_pos ⟨hk, he, hd⟩, fun grp idx t sent s => ⟨fun k hk ht => ?_, fun hk => ?_⟩, fun s => rfl,
    fun grp idx t s => ⟨fun hk => ?_, fun k hk => ?_⟩, fun no st s x hx => ⟨fun hst => ?_, fun hst => ?_⟩⟩
  · show execReadinessTokenRx grp t idx sent s = _
    simp only [execReadinessTokenRx, hk]
    exact if_pos ht
  · show execReadinessTokenRx grp t idx sent s = _
    simp only [execReadinessTokenRx, hk]
    rfl
  · show execWithdrawNoticeRx grp t idx s = _
    rw [execWithdrawNoticeRx]
    dsimp only
    rw [hk]
    rfl
  · show execWithdrawNoticeRx grp t idx s = _
    rw [execWithdrawNoticeRx]
    dsimp only
    rw [hk]
    rfl
  · show execRemoteTokenOutcome no st s = _
    rw [execRemoteTokenOutcome, hx]
    exact if_pos hst
  · show execRemoteTokenOutcome no st s = _
    rw [execRemoteTokenOutcome, hx]
    exact if_neg hst

/-- Settles O19: each clause is the branch that its item takes when it is served. -/
theorem locusItemsComplete : Obligations.LocusItemsComplete := by
  refine ⟨fun it s hs hi => ?_, fun it s hs hi => ⟨fun h1 h255 => ?_, fun hk => ⟨?_, ?_⟩⟩⟩
  · have hq := fun op : Nat => congrArg (Host.Outcome.next : State → Host.Outcome State Fault Refusal) (State.locQueue_track (s := s) hi op)
    exact ⟨(show execLocStart it s = _ from serve_ready hs _).trans (hq 0x800),
      (show execLocHold it s = _ from serve_ready hs _).trans (hq 0x801),
      (show execLocResume it s = _ from serve_ready hs _).trans (hq 0x802),
      (show execLocAbort it s = _ from serve_ready hs _).trans (hq 0x803),
      (show execLocJump it s = _ from serve_ready hs _).trans (hq 0x804),
      (show execLocReset it s = _ from serve_ready hs _).trans (hq 0x805),
      fun ha => (show execLocSchedArm it s = _ from serve_ready hs _).trans
        ((congrArg _ (if_neg (not_not_intro ha))).trans (hq 0x808)),
      (show execLocSchedCancel it s = _ from serve_ready hs _).trans (hq 0x809)⟩
  · exact (show execLocToken it s = _ from serve_ready hs _).trans (congrArg _ ((if_neg
      (not_or.mpr ⟨ne_zero_of_toNat_pos h1, by omega⟩)).trans (State.cntItem_counter hi _ _ _)))
  · exact (show execLocCounterSet it s = _ from serve_ready hs _).trans (congrArg _ (State.locCounter_put hi hk))
  · exact (show execLocCounterAdd it s = _ from serve_ready hs _).trans (congrArg _ (State.locCounter_put hi hk))

end Sys2Proof.Machine
end

section
/-! PROOF. Lattice (R322, R329, R340 to R350). -/

namespace Sys2Proof.Machine

/-- The checks of a patch that hold in every state of Lattice that takes patches. -/
theorem latPatch_ok {it : Item} {s : State} (h1 : 1 ≤ (it.w 3).toNat) (h7 : (it.w 3).toNat ≤ 7)
    (hi : (it.w 4).toNat < patchMax (it.w 3).toNat)
    (hf : (it.w 3).toNat = 4 ∨ (it.w 3).toNat = 5 →
      bitOf (s.cf Cf.LAT_CMPDEF 0 (4 * (it.w 4).toNat)) 31 = true ∧ isNan32 (it.w 5) = false) :
    ¬((it.w 3).toNat = 0 ∨ 7 < (it.w 3).toNat) ∧
    ¬(patchMax (it.w 3).toNat ≤ (it.w 4).toNat ∨ (((it.w 3).toNat = 4 ∨ (it.w 3).toNat = 5) ∧
      (!(bitOf (s.cf Cf.LAT_CMPDEF 0 (4 * (it.w 4).toNat)) 31)) = true)) ∧
    ¬(((it.w 3).toNat = 4 ∨ (it.w 3).toNat = 5) ∧ isNan32 (it.w 5) = true) :=
  ⟨by omega, not_or.mpr ⟨Nat.not_le.mpr hi, fun h => not_bnot_of_true (hf h.1).1 h.2⟩,
    fun h => Bool.eq_false_iff.mp (hf h.1).2 h.2⟩

/-- Settles O20: each clause is the branch that its command takes. -/
theorem latticeCompletes : Obligations.LatticeCompletes := by
  refine ⟨fun s hd hm hmir hh hg hl => if_pos ⟨hd, hm, hmir, bnot_of_false hh, hg, hl⟩,
    fun n acc s w => fun hw hst hr hpt hq => ?_, fun it s hs h1 h7 hi hf => ⟨fun hst => ?_, fun hst hl => ?_⟩,
    fun it s hs h1 hst hreq => ?_, fun s it hreq hst => ?_, fun it s hs hst hne hreq => ?_,
    fun it s hs => ⟨fun h3 hst hreq hmir hd => ?_, fun h3 hst => ?_⟩, fun it s hs hst => ?_⟩
  · show execLatTimerExpiry n acc s = _
    simp only [execLatTimerExpiry, hw]
    exact if_pos ⟨hst, hr, hpt, hq⟩
  · obtain ⟨h17, hidx, hnan⟩ := latPatch_ok h1 h7 hi hf
    exact (show execLatPatch it s = _ from serve_ready hs _).trans (congrArg _ ((if_neg h17).trans
      ((if_neg (by omega)).trans ((if_neg hidx).trans ((if_neg hnan).trans (if_pos (by omega)))))))
  · obtain ⟨h17, hidx, hnan⟩ := latPatch_ok h1 h7 hi hf
    exact (show execLatPatch it s = _ from serve_ready hs _).trans (congrArg _ ((if_neg h17).trans
      ((if_neg (by omega)).trans ((if_neg hidx).trans ((if_neg hnan).trans ((if_neg (by omega)).trans
        (if_neg (by omega))))))))
  · exact (show execLatStop it s = _ from serve_ready hs _).trans (congrArg _ ((if_neg (by omega)).trans
      (if_neg (by simp [hst, hreq]))))
  · show execLatStopBoundary s = _
    rw [execLatStopBoundary, hreq]
    exact congrArg Host.Outcome.next (if_pos hst)
  · exact (show execLatStart it s = _ from serve_ready hs _).trans (congrArg _ (if_neg (by simp [hst, hne, hreq])))
  · exact (show execLatShadowStart it s = _ from serve_ready hs _).trans (congrArg _ ((if_neg (by simp [h3])).trans
      ((if_neg (by simp [h3])).trans ((if_neg (by simp [hst, hreq])).trans ((if_neg (not_not_intro hmir)).trans
        (if_neg (not_bnot_of_true hd)))))))
  · exact (show execLatShadowStop it s = _ from serve_ready hs _).trans (congrArg _ ((if_neg (by simp [h3])).trans
      ((if_pos h3).trans (if_pos hst))))
  · exact (show execLatCmpRead it s = _ from serve_ready hs _).trans (congrArg _ (if_pos hst))

end Sys2Proof.Machine
end

section
/-! PROOF. Arc (R378 to R392, R556). -/

namespace Sys2Proof.Machine

/-- An item of a generator that is clocked has its effect. -/
theorem serve_arcItem {s : State} {it : Item} (hs : s.Ready it) (hc : s.clkOn 3 = true) (hi : it.inst ≤ 31)
    (k : State → State) : serve it s (fun s => s.arcItem it k) = .next (k s) :=
  (serve_ready hs _).trans (congrArg _ ((if_neg (not_bnot_of_true hc)).trans (if_neg (by omega))))

/-- A running generator that is to stop stops at its boundary and ends the item that asked for it. -/
theorem execArcPeriodBoundary_stops {g : Nat} {s : State} (hg : g < 32) (ha : s.arcOn = true) (hst : s.genState g = 2)
    (hp : (s.gen g).phased = false)
    (h : (s.gen g).stopAt = 2 ∨ ((s.gen g).stopAt = 1 ∧ (s.reqItem (s.gen g).stopItem).isSome = true)) :
    let s1 := (s.genStopAll g (if (s.gen g).stopAt = 2 then 1 else 0)).reqComplete (s.gen g).stopItem
    execArcPeriodBoundary g s = .next ((s1.setGen g { s1.gen g with stopItem := none }).blockStep 0xA g) :=
  (if_neg (by simp [hp])).trans ((if_pos ⟨hg, ha, hst⟩).trans (if_pos h.symm))

/-- A running generator that goes on starts its next period. -/
theorem execArcPeriodBoundary_runs {g : Nat} {s : State} (hg : g < 32) (ha : s.arcOn = true) (hst : s.genState g = 2)
    (hs : (s.gen g).stopAt = 0) (hp : (s.gen g).phased = false) :
    let x := s.gen g
    let s0 := s.setGen g { x with ctl := s.genCtl g, stopAt := 0, stopItem := none,
                                  pcount := (x.pcount + 1) % 281474976710656 }
    let r := s0.arcTransfer g
    let s2 := (((r.1.blockStep 0xA g).startPeriod g).arcEnables g).arcEvent g 0
    execArcPeriodBoundary g s = .next (if r.2 then s2.arcEvent g 1 else s2) :=
  (if_neg (by simp [hp])).trans ((if_pos ⟨hg, ha, hst⟩).trans (if_neg (by omega)))

/-- Settles O21: each clause is the branch that its command takes. -/
theorem arcCompletes : Obligations.ArcCompletes := by
  refine ⟨fun g s hg ha hst hs hp => execArcPeriodBoundary_runs hg ha hst hs hp,
    fun g s hg ha hst hp => if_pos ⟨hg, ha, hst, hp⟩,
    fun g s hg ha hst hp h => execArcPeriodBoundary_stops hg ha hst hp h,
    fun g off s hg ha hst he => if_pos ⟨hg, ha, hst, he⟩, fun it s hs hc hi hw => ?_,
    fun it s hs hc hi hm he => ⟨fun hst hw => ?_, fun hst hw h4 => fun ht => ?_, fun hst hw => ?_, fun hst hw hstop => ?_⟩,
    fun g s it hg ha hst ht => ⟨fun hr => (if_pos ⟨hg, ha, hst, ht⟩).trans (if_pos hr), fun hr hi => ?_⟩,
    fun it s hs => show execArcClear it s = _ from serve_ready hs _, fun src active s hsrc => if_neg (by omega)⟩
  · intro g x per cmp hd he hper hcmp
    refine ⟨fun hp hc0 => ?_, fun h => ?_⟩ <;>
      refine (show execArcSet it s = _ from serve_arcItem hs hc hi _).trans (congrArg _ ((if_neg (by omega)).trans
        ((if_neg hd).trans ((if_neg fun h => Bool.eq_false_iff.mp (hper h.1).1 h.2).trans ((if_neg he).trans
          ((if_neg ?_).trans ?_))))))
    · exact fun h => h.elim (fun h => Bool.eq_false_iff.mp hp h.1) fun h => Bool.eq_false_iff.mp hc0 h.1
    · exact if_pos ⟨bnot_of_false hp, bnot_of_false hc0⟩
    · exact fun h => h.elim (fun h => Option.isSome_iff_ne_none.mp h.2 (hper h.1).2) fun h =>
        Option.isSome_iff_ne_none.mp h.2 (hcmp h.1)
    · exact if_neg fun hn => h.elim (fun hp => not_bnot_of_true hp hn.1) fun hc1 => not_bnot_of_true hc1 hn.2
  · exact (show execArcStartNow it s = _ from serve_arcItem hs hc hi _).trans (congrArg _ ((if_neg (by simp [hw])).trans
      ((if_neg (by simp [hw])).trans ((if_neg (Bool.eq_false_iff.mp hm)).trans ((if_neg (by simp [he, hst])).trans
        (if_pos hw))))))
  · exact (show execArcStartAt it s = _ from serve_arcItem hs hc hi _).trans (congrArg _ ((if_neg (by simp [hw])).trans
      ((if_neg (by omega)).trans ((if_neg (Bool.eq_false_iff.mp hm)).trans ((if_neg (by simp [he, hst])).trans
        ((if_neg (by simp [hw])).trans (if_neg (Int.not_lt.mpr ht))))))))
  · exact (show execArcStopNow it s = _ from serve_arcItem hs hc hi _).trans (congrArg _ ((if_neg (by simp [hw])).trans
      ((if_neg (Bool.eq_false_iff.mp hm)).trans ((if_neg he).trans ((if_neg (by omega)).trans ((if_neg (by omega)).trans
        (if_pos hw)))))))
  · exact (show execArcStopAtEnd it s = _ from serve_arcItem hs hc hi _).trans (congrArg _ ((if_neg (by simp [hw])).trans
      ((if_neg (Bool.eq_false_iff.mp hm)).trans ((if_neg he).trans ((if_neg (by omega)).trans ((if_neg (by omega)).trans
        ((if_neg (by simp [hw])).trans (if_neg fun h => hstop.elim (fun h1 => h1 h.1) fun h2 => by simp [h2] at h))))))))
  · refine (if_pos ⟨hg, ha, hst, ht⟩).trans ((if_neg (Bool.eq_false_iff.mp hr)).trans ?_)
    rw [hi]
    rfl

end Sys2Proof.Machine
end

section
/-! PROOF. Vertex (R352 to R369). -/

namespace Sys2Proof.Machine

/-- A command of a core that exists and is powered passes its first check. -/
theorem core_ok {c : Nat} {s : State} (hc : c < 4) (hd : s.domOn 3 = true) : ¬(4 ≤ c ∨ (!s.domOn 3) = true) := by
  simp [hd]
  omega

theorem execVtxCoreDone_inService {c : Nat} {v : Word} {s : State} {i : VtxItem} (hc : c < 4) (hd : s.domOn 3 = true)
    (hi : s.tr.vtx.items.find? (fun i => i.phase == .inService c && i.handle == bitsOf v 0 16) = some i) :
    let s1 := s.setVtx (s.tr.vtx.finish i)
    let s2 := (List.range 64).foldl (fun st q =>
      if st.isDep q && st.depPred q i.queue then st.setCnt q (st.depCnt q - 1) else st) s1
    execVtxCoreDone c v s = .next (if bitOf v 16 = true then s2 else s1) := by
  refine (if_neg (core_ok hc hd)).trans ?_
  dsimp only
  rw [hi]
  exact ite_go _ _ _

theorem execVtxCoreEnable_ok {c : Nat} {v : Word} {s : State} (hc : c < 4) (hd : s.domOn 3 = true)
    (he : s.bit Fld.VTX_CORE_CTRL_ENABLE c 0 = false) (h : (s.coreCtrl c v).coreCheck c = 0) :
    execVtxCoreEnable c v s =
      .next (((s.coreCtrl c v).setF Fld.VTX_CORE_CTRL_ENABLE c 0 1).setF Fld.VTX_CORE_STAT_ERR c 0 0) := by
  refine (if_neg (core_ok hc hd)).trans ((if_neg (Bool.eq_false_iff.mp he)).trans ?_)
  rw [h]
  rfl

theorem execVtxCoreEnable_failed {c : Nat} {v : Word} {s : State} (hc : c < 4) (hd : s.domOn 3 = true)
    (he : s.bit Fld.VTX_CORE_CTRL_ENABLE c 0 = false) (h : (s.coreCtrl c v).coreCheck c ≠ 0) :
    let s1 := s.coreCtrl c v
    execVtxCoreEnable c v s =
      .next ((s1.setF Fld.VTX_CORE_STAT_ERR c 0 (s1.coreCheck c)).log 0x2187 c (w32 (s1.coreCheck c))) := by
  refine (if_neg (core_ok hc hd)).trans ((if_neg (Bool.eq_false_iff.mp he)).trans ?_)
  split
  case h_1 h0 => exact absurd h0 h
  case h_2 => rfl

/-- Settles O22: each clause is the branch that its command takes. -/
theorem vertexCompletes : Obligations.VertexCompletes := by
  refine ⟨fun source inst code param st s => rfl, fun q s hd hc hi => if_pos ⟨hd, hc, hi⟩, fun s p i c hr hb => ?_,
    fun c v s i hc hd hi => execVtxCoreDone_inService hc hd hi,
    fun c src s hc hd => ⟨fun h => (if_neg (core_ok hc hd)).trans (if_neg (by omega)),
      fun h => (if_neg (core_ok hc hd)).trans (if_pos h)⟩,
    fun c v s hc hd he => ⟨fun h => execVtxCoreEnable_ok hc hd he h, fun h => execVtxCoreEnable_failed hc hd he h⟩,
    fun c s hc hd => ⟨if_neg (core_ok hc hd), if_neg (core_ok hc hd)⟩,
    fun c v s hc hd h1 h2 => (if_neg (core_ok hc hd)).trans (if_pos ⟨h1, h2⟩),
    fun c s hc hd ht hu => (if_neg (core_ok hc hd)).trans (if_pos ⟨ht, hu⟩), fun it s hs h1 h2 => ?_,
    fun it s hs hw hi hd => ?_⟩
  · show execVertexDispatch s = _
    rw [execVertexDispatch, if_neg (not_bnot_of_true hr), hb]
    rfl
  · exact (show execVtxPost it s = _ from serve_ready hs _).trans (congrArg _ (if_neg (by omega)))
  · exact (show execVtxSignal it s = _ from serve_ready hs _).trans (congrArg _ ((if_neg (not_bnot_of_true hw)).trans
      ((if_neg (by omega)).trans (if_neg (not_bnot_of_true hd)))))

end Sys2Proof.Machine
end

section
/-! PROOF. Prism (R399 to R422). -/

namespace Sys2Proof.Machine

/-- A sample of a channel feeds its history, its records and the units that watch it. -/
theorem execPrismSample_channel {s : State} {x : PrmIn} {rest : List PrmIn} (hx : s.fct.toPrm = x :: rest)
    (ho : s.prmOn = true) (hk : x.kind = 0) :
    let s0 := { s with fct := { s.fct with toPrm := rest } }
    let s1 := match tget none s0.prm.hist x.ch with
      | some h =>
        let r := s0.histPut x.ch h x.raw x.t
        r.1.recFeed x.ch r.2.1 r.2.2 x.raw x.t
      | none => s0
    execPrismSample s = .next ((List.range 16).foldl (fun s u =>
      if s.trgKind u = 1 ∧ s.trgArg u % 128 = x.ch ∧ s.fld Fld.PRM_USTAT_STATE u 0 ≠ 0 then s.unitSample u x else s) s1) := by
  unfold execPrismSample
  rw [hx]
  exact (if_neg (not_bnot_of_true ho)).trans (if_pos hk)

/-- An entry of a capture that is not its last, and fits, joins it. -/
theorem execCaptureEntry_joins {s : State} {x : CapIn} {rest : List CapIn} {c : CapRec} (hx : s.tan.capt = x :: rest)
    (ho : s.prmOn = true) (hc : s.prm.caps.find? (fun c => c.loop == x.loop && c.no == x.recNo) = some c)
    (hl : x.last = false) (ht : c.trunc = false) (hn : c.entries.length + 1 < 1048576) :
    let s0 := { s with tan := { s.tan with capt := rest } }
    let others := s.prm.caps.filter (fun y => !(y.loop == c.loop && y.no == c.no))
    execCaptureEntry s = .next (s0.setPrm { s0.prm with
      caps := others ++ [{ c with entries := (x.t, x.inj, x.spw, x.pv, x.drive) :: c.entries }] }) := by
  unfold execCaptureEntry
  rw [hx]
  refine (if_neg (not_bnot_of_true ho)).trans ?_
  dsimp only
  rw [hc]
  exact (if_neg (Bool.eq_false_iff.mp hl)).trans ((if_neg (Bool.eq_false_iff.mp ht)).trans (if_pos hn))

theorem execCaptureEntry_last {s : State} {x : CapIn} {rest : List CapIn} {c : CapRec} (hx : s.tan.capt = x :: rest)
    (ho : s.prmOn = true) (hc : s.prm.caps.find? (fun c => c.loop == x.loop && c.no == x.recNo) = some c)
    (hl : x.last = true) : execCaptureEntry s = .next ({ s with tan := { s.tan with capt := rest } }.capEnd c) := by
  unfold execCaptureEntry
  rw [hx]
  refine (if_neg (not_bnot_of_true ho)).trans ?_
  dsimp only
  rw [hc]
  exact if_pos hl

/-- Settles O23: each clause is the branch that its command takes. -/
theorem prismEventsComplete : Obligations.PrismEventsComplete := by
  refine ⟨fun s => fun ho hu => if_pos ⟨ho, hu⟩, fun u s x hx => ?_,
    fun s x rest hx ho hk => execPrismSample_channel hx ho hk, fun u s r hr hst hf => ?_,
    fun u s hst hh => if_pos ⟨hst, hh⟩, fun u s ho hk hst h0 ht => ?_, fun s o ho hb => ?_,
    fun e s ho hb hh hm => if_pos ⟨ho, hb, hh, hm⟩, fun e k s r hr ho hk ht => ?_, fun e s ho he => if_pos ⟨ho, he⟩,
    fun s x rest c hx ho hc => ⟨fun hl => execCaptureEntry_last hx ho hc hl,
      fun hl ht hn => execCaptureEntry_joins hx ho hc hl ht hn⟩⟩
  · show execTriggerFire u s = _
    rw [execTriggerFire, hx]
    rfl
  · show execRecordComplete u s = _
    rw [execRecordComplete, hr]
    exact if_pos ⟨hst, hf⟩
  · exact (if_pos ⟨ho, hk, by omega, h0, ht⟩).trans (if_pos hst)
  · show execChangeEntryTimeout s = _
    rw [execChangeEntryTimeout, ho]
    exact if_pos hb
  · show execReductionComplete e k s = _
    rw [execReductionComplete, hr]
    exact if_pos ⟨ho, hk, ht⟩

end Sys2Proof.Machine
end

section
/-! PROOF. The items of Prism (R401, R415, R417, R421) and Helix (R430 to R440). -/

namespace Sys2Proof.Machine

/-- An item of a trigger unit has its effect. -/
theorem serve_unitItem {s : State} {it : Item} (hs : s.Ready it) (hi : it.inst ≤ 15) (k : State → State) :
    serve it s (fun s => s.unitItem it k) = .next (k s) :=
  (serve_ready hs _).trans (congrArg _ (if_neg (by omega)))

/-- A history of a channel answers the samples that the item asks for. -/
theorem execPrmHistRead_held {it : Item} {s : State} {h : HistCh} (hs : s.Ready it) (hi : it.inst ≤ 127)
    (h3 : (it.w 3).toNat < 1000000000) (h1 : 1 ≤ (it.w 5).toNat) (h5 : (it.w 5).toNat ≤ 1048576)
    (hh : tget none s.prm.hist it.inst = some h) :
    let n := (it.w 5).toNat
    let t := s.fullTime (it.w 4) (it.w 3)
    let back := ((h.tLast - t) / Int.ofNat (Nat.max 1 (ivT h.iv).toNat))
    let j : Int := if h.tLast < t then h.n else (h.n : Int) - 1 - back
    let k := Nat.max h.oldest j.toNat
    let r := s.histBlocks it.inst h (n + 1) k (Nat.min n (h.n - k)) (it.w 8).toNat
    execPrmHistRead it s =
      .next ((s.bufPut it (bufAddr it 6) r.1).complete it stDone (w32 (4 * r.1.length)) (w32 r.2)
        (if j < (h.oldest : Int) then 1 else 0)) := by
  refine (serve_ready hs _).trans (congrArg Host.Outcome.next ((if_neg (by omega)).trans ((if_neg (by omega)).trans
    ((if_neg (by omega)).trans ?_))))
  rw [hh]

/-- Settles O24: each clause is the branch that its item takes when it is served. -/
theorem prismItemsComplete : Obligations.PrismItemsComplete := by
  refine ⟨fun it s hs hi => ⟨fun hst hk ht => ?_, fun hst => ?_, fun hst => ?_⟩, fun it s hs => ?_, fun it s k hs hk => ?_,
    fun it s h hs hi h3 h1 h5 hh => execPrmHistRead_held hs hi h3 h1 h5 hh⟩
  · exact (show execPrmArm it s = _ from serve_unitItem hs hi _).trans (congrArg _
      ((if_neg fun h => absurd (ht h.1).1 (Nat.not_lt.mpr h.2)).trans ((if_neg (not_not_intro hst)).trans
        (if_neg fun h => h.elim hk fun h => absurd h.2 (Int.not_lt.mpr (ht h.1).2)))))
  · exact (show execPrmDisarm it s = _ from serve_unitItem hs hi _).trans (congrArg _ (if_neg hst))
  · exact (show execPrmTrigger it s = _ from serve_unitItem hs hi _).trans (congrArg _ (if_neg (not_not_intro hst)))
  · exact (show execPrmMark it s = _ from serve_ready hs _)
  · refine (show execPrmRead it s = _ from serve_ready hs _).trans (congrArg _ ?_)
    rw [hk]

/-! ### Helix -/

/-- The records that an HLX_READ of the log or the first-fault region finds. -/
def State.hlxFound (s : State) (it : Item) : List HlxRec :=
  (recsFrom (it.w 4) (if it.w 3 = 0 then s.tr.hlx.log else s.tr.hlx.ffRegion)).take
    (Nat.min (it.w 5).toNat ((it.w 8).toNat / 32))

section
variable {it : Item} {s : State} (h3 : (it.w 3).toNat ≤ 1) (h1 : 1 ≤ (it.w 5).toNat) (h5 : (it.w 5).toNat ≤ 16384)
include h3 h1 h5

theorem State.hlxRead_some {a b : HlxRec} (ha : (s.hlxFound it).head? = some a) (hb : (s.hlxFound it).getLast? = some b) :
    s.hlxRead it =
      (s.bufPut it (bufAddr it 6) ((s.hlxFound it).flatMap recWords)).complete it stDone (w32 (s.hlxFound it).length) a.seq
        (if (b.seq - it.w 4).toNat + 1 = (s.hlxFound it).length then 0 else 1) := by
  have h0 : ((it.w 3).toNat = 0) = (it.w 3 = 0) := propext (BitVec.toNat_eq (y := 0)).symm
  unfold State.hlxFound at ha hb ⊢
  unfold State.hlxRead
  dsimp only
  rw [if_neg (by omega), if_neg (by omega)]
  simp only [h0]
  rw [ha, hb]

theorem State.hlxRead_none (hn : s.hlxFound it = []) :
    s.hlxRead it =
      (s.bufPut it (bufAddr it 6) []).complete it stDone 0 0
        (if 0 < (s.tr.hlx.seq - it.w 4).toNat ∧ (s.tr.hlx.seq - it.w 4).toNat < 2147483648 then 1 else 0) := by
  have h0 : ((it.w 3).toNat = 0) = (it.w 3 = 0) := propext (BitVec.toNat_eq (y := 0)).symm
  unfold State.hlxFound at hn
  unfold State.hlxRead
  dsimp only
  rw [if_neg (by omega), if_neg (by omega)]
  simp only [h0, hn]
  rfl

end

/-- Settles O25: each clause is the branch that its command takes. -/
theorem helixCompletes : Obligations.HelixCompletes := by
  refine ⟨fun e st s => ?_, fun e st s hr hd => if_pos ⟨rfl, hr, by rw [hd]; rfl⟩,
    fun s r hr => ?_, fun s => ⟨fun hl => ?_, fun r hl hn => ?_⟩, fun s hf => if_pos hf,
    fun it s hs h3 h1 h5 => ⟨fun a b ha hb => ?_, fun hn => ?_⟩,
    fun it s hs => ⟨fun hf => ?_, fun hf => ?_, fun hf => ?_⟩⟩
  · show execHelixEvent e st false s = _
    rw [execHelixEvent]
    exact if_neg fun h => Bool.false_ne_true h.1
  · show execHlxIntakeResume s = _
    rw [execHlxIntakeResume, hr]
    rfl
  · show execHlxStreamDeliver s = _
    rw [execHlxStreamDeliver]
    dsimp only
    rw [hl]
    rfl
  · show execHlxStreamDeliver s = _
    rw [execHlxStreamDeliver]
    dsimp only
    rw [hl]
    exact if_pos hn
  · exact (show execHlxRead it s = _ from serve_ready hs _).trans (congrArg _ (State.hlxRead_some h3 h1 h5 ha hb))
  · refine (show execHlxRead it s = _ from serve_ready hs _).trans (congrArg _ ((State.hlxRead_none h3 h1 h5 hn).trans ?_))
    rw [hn]
    rfl
  · exact (show execHlxFreeze it s = _ from serve_ready hs _).trans (congrArg _ (if_neg (by simp [hf])))
  · exact (show execHlxUnfreeze it s = _ from serve_ready hs _).trans (congrArg _
      ((if_neg (by simpa [Option.isSome_iff_ne_none] using hf)).trans rfl))
  · refine (show execHlxFfRearm it s = _ from serve_ready hs _).trans (congrArg _ ?_)
    rw [hf]

end Sys2Proof.Machine
end

section
/-! PROOF. CAN (R449 to R457). -/

namespace Sys2Proof.Machine

/-- A frame of an item that is in order takes an entry and waits there. -/
theorem State.canTx_waits {it : Item} {s : State} {e : Nat} (hi : it.inst ≤ 3) (hb : canTxBad it = none)
    (hm : s.canMode it.inst = 1) (hst : s.standby = false)
    (he : (if bitOf (it.w 4) 8 then freeEntry (s.canFrames it.inst) 64 8 else freeEntry (s.canFrames it.inst) 0 64) = some e) :
    let f : CanTx := ⟨e, it.ring, it.seq, it.w 3, it.w 4, s.canData it, 0⟩
    let x := { s.canc it.inst with frames := s.canFrames it.inst ++ [f] }
    s.canTx it = (s.setCan it.inst x).holdItem 0x0E00 it [0, 0, 0, w32 e] := by
  refine (if_neg (by omega)).trans ?_
  rw [hb]
  refine (if_neg (by simp [hm, hst])).trans ?_
  dsimp only
  rw [he]

theorem execCanAttemptEnd_ended {c : Nat} (ok : Bool) (st : Stamp) (tec rec_ : Nat) {s : State} {e : Nat} {f : CanTx}
    (ha : (s.canc c).att = some e) (hu : s.canUp = true) (hf : (s.canc c).frames.find? (fun f => f.entry == e) = some f) :
    let s1 := s.setCan c { s.canc c with att := none }
    let s2 := (s1.wrapF Fld.CAN_TXCNT_COUNT c 0 1).canDone c f st stDone (w32 f.fails) (w32 f.entry)
    let s3 := { s2 with out := Out.can c f.id (s.canSent c f) f.data :: s2.out }
    execCanAttemptEnd c ok st tec rec_ s =
      .next (if ok = true then s3.canErrors c tec rec_ else (s1.canFailed c f).canErrors c tec rec_) := by
  refine (if_neg (not_bnot_of_true hu)).trans ?_
  rw [ha]
  dsimp only
  rw [hf]
  cases ok <;> rfl

section
variable {c tec : Nat} {s : State} (hs : s.canSends c = true)
include hs

theorem execCanBusOff_idle (ha : (s.canc c).att = none) :
    let hold := s.bit Fld.CAN_BUSOFF_HOLD c 0
    let s1 := ((s.incF Fld.CAN_BUSOFF_COUNT c 0 1).setF Fld.CAN_STAT_ERRSTATE c 0 (if hold then 2 else 3)).setF
      Fld.CAN_ERRCNT_TEC c 0 tec
    let s2 := s1.setCan c { s.canc c with att := none, boAt := s.mer.base }
    execCanBusOff c tec s = .next (s2.log 0x4383 c (w32 tec) (w32 (s2.fld Fld.CAN_BUSOFF_COUNT c 0))) := by
  refine (if_pos hs).trans ?_
  dsimp only
  rw [ha]
  rfl

theorem execCanBusOff_attempt {e : Nat} {f : CanTx} (ha : (s.canc c).att = some e)
    (hf : (s.canc c).frames.find? (fun f => f.entry == e) = some f) :
    let hold := s.bit Fld.CAN_BUSOFF_HOLD c 0
    let s1 := ((s.incF Fld.CAN_BUSOFF_COUNT c 0 1).setF Fld.CAN_STAT_ERRSTATE c 0 (if hold then 2 else 3)).setF
      Fld.CAN_ERRCNT_TEC c 0 tec
    let s2 := s1.setCan c { s.canc c with att := none, boAt := s.mer.base }
    let s3 := s2.log 0x4383 c (w32 tec) (w32 (s2.fld Fld.CAN_BUSOFF_COUNT c 0))
    let note := ((s3.flight f.ring f.seq).map (fun y => y.note)).getD []
    execCanBusOff c tec s = .next (if note.getD 1 0 = 1 then s3.canDone c f s3.now stAborted (note.getD 2 0) 0
      else s3.canDone c f s3.now stFault 0x4383 s2.tr.hlx.seq) := by
  refine (if_pos hs).trans ?_
  dsimp only
  rw [ha]
  dsimp only
  rw [hf]
  exact ite_go _ _ _

end

/-- Settles O26: each clause is the branch that its command takes. -/
theorem canCompletes : Obligations.CanCompletes := by
  refine ⟨fun it s e hs hi hb hm hst => fun he => ?_, fun it s hs hi => ?_, fun c s f hs ha hn => ?_,
    fun c ok st tec rec_ s e f ha hu hf => execCanAttemptEnd_ended ok st tec rec_ ha hu hf,
    fun c own id ctl bytes st tec rec_ s hc hu hm he ho => if_pos ⟨hc, hu, hm, he, ?_⟩,
    fun c s f fs hx hu hst hn => ?_,
    fun c tec s f hs => ⟨fun ha => execCanBusOff_idle hs ha, fun e ha hf => execCanBusOff_attempt hs ha hf⟩,
    fun c s hc hu => ⟨fun he hh => if_pos ⟨hc, hu, he, hh⟩, fun he => if_pos ⟨hc, hu, he⟩⟩⟩
  · exact (show execCanTx it s = _ from serve_ready hs _).trans (congrArg _ (State.canTx_waits hi hb hm hst he))
  · exact (show execCanFlush it s = _ from serve_ready hs _).trans (congrArg _ (if_neg (by omega)))
  · refine (if_pos ⟨hs, ha⟩).trans ?_
    rw [hn]
    rfl
  · refine (if_neg (not_bnot_of_true hu)).trans ?_
    rw [hx]
    exact if_pos ⟨hst, hn⟩
  · cases own with
    | false => exact .inl rfl
    | true => exact .inr (ho rfl)

end Sys2Proof.Machine
end

section
/-! PROOF. Ethernet (R463 to R479) and Meridian (R485 to R499). -/

namespace Sys2Proof.Machine

/-- A frame of an item that is in order joins the queues of its ports. -/
theorem State.ethTx_queued {it : Item} {s : State} (hi : it.inst = 0) (hn : (it.w 3).toNat ≤ 2)
    (hp : (it.w 3).toNat = 2 → s.prpOn = true) (h14 : 14 ≤ (it.w 4).toNat)
    (hl : (it.w 4).toNat ≤ (if (it.w 3).toNat = 2 then 2038 else 2044))
    (hq : ∀ p, p < 2 → inMask (portMask (it.w 3).toNat) p = true → (s.ethQueue p).length < 256) :
    let n := (it.w 3).toNat
    let m := portMask n
    let f : EthTx := ⟨it.ring, it.seq, m, 0, 0, s.bufTake it (bufAddr it 5) (it.w 4).toNat, ⟨0, 0⟩,
      if n = 2 then some s.eth.prpSeq else none⟩
    let s1 := s.holdItem 0x0D00 it []
    let q := if n = 2 then (s1.eth.prpSeq + 1) % 65536 else s1.eth.prpSeq
    let s2 : State := { s1 with eth := { s1.eth with tx := s1.eth.tx ++ [f], prpSeq := q } }
    s.ethTx it = (List.range 2).foldl (fun s p => if inMask m p then s.ethStart p else s) s2 := by
  refine (if_neg (not_not_intro hi)).trans ((if_neg fun h => ?_).trans ((if_neg (by omega)).trans (if_neg fun h => ?_)))
  · exact h.elim (fun h => absurd hn (Nat.not_le.mpr h)) fun h => not_bnot_of_true (hp h.1) h.2
  · obtain ⟨p, hp2, hpm⟩ := List.any_eq_true.mp h
    obtain ⟨hm, hlen⟩ := Bool.and_eq_true_iff.mp hpm
    exact absurd (hq p (List.mem_range.mp hp2) hm) (Nat.not_lt.mpr (of_decide_eq_true hlen))

section
variable {port : Nat} {bytes : List Byte} (st : Stamp) {s : State} (hp : port < 2) (hd : s.domOn 5 = true)
  (hu : s.ethUp port = true) (hl : bytes.length ≤ 2044) (hpause : ¬(addr48 bytes 0 = pauseAddr ∧ half bytes 12 = 0x8808))
  (ha : s.ethAccepts port bytes = true)
include hp hd hu hl hpause ha

/-- A frame that a port accepts is stored, or its trailer looked at when the redundancy protocol runs. -/
theorem execEthFrameRx_plain (hprp : s.prpOn = false) :
    execEthFrameRx port bytes true st s = .next (s.ethFifo port bytes 0 st) :=
  (if_pos ⟨hp, hd, hu⟩).trans ((if_neg (by decide)).trans ((if_neg (by omega)).trans ((if_neg hpause).trans
    ((if_neg (not_bnot_of_true ha)).trans (if_pos (bnot_of_false hprp))))))

theorem execEthFrameRx_trailer {seq lan : Nat} (hprp : s.prpOn = true) (ht : trailerOf bytes = some (seq, lan)) :
    let s1 := if lan = 10 + port then s else s.prpWrong port bytes
    let r := s1.dupForget.prpNew (addr48 bytes 6) seq
    execEthFrameRx port bytes true st s = .next (if r.2 then r.1.ethFifo port bytes (lan - 9) st else r.1) := by
  refine (if_pos ⟨hp, hd, hu⟩).trans ((if_neg (by decide)).trans ((if_neg (by omega)).trans ((if_neg hpause).trans
    ((if_neg (not_bnot_of_true ha)).trans ((if_neg (not_bnot_of_true hprp)).trans ?_)))))
  rw [ht]
  rfl

end

/-- Settles O27: each clause is the branch that its command takes. -/
theorem ethernetCompletes : Obligations.EthernetCompletes := by
  refine ⟨fun it s hs hi => fun hn hp h14 hl hq => ?_, fun it s hs hi => ?_, fun port st s f hf => ⟨fun hp => ?_, fun h hp => ?_⟩,
    fun port bytes st s hp hd hu => ⟨?_, fun hl => ?_, fun hl hpause ha =>
      ⟨fun hprp => execEthFrameRx_plain st hp hd hu hl hpause ha hprp,
        fun seq lan hprp ht => execEthFrameRx_trailer st hp hd hu hl hpause ha hprp ht⟩⟩,
    fun port s f fs hx hu hn => ?_, fun s => rfl, fun s hd hp hc => if_pos ⟨hd, hp, hc⟩, fun s => rfl, fun s hp => ?_,
    fun port speed s hp => ⟨fun hd hc hu => if_pos ⟨hp, hd, hc, bnot_of_false hu⟩, if_pos hp⟩⟩
  · exact (show execEthTx it s = _ from serve_ready hs _).trans (congrArg _ (State.ethTx_queued hi hn hp h14 hl hq))
  · exact (show execEthTxFlush it s = _ from serve_ready hs _).trans (congrArg _ (if_neg (not_not_intro hi)))
  · show execEthTxSent port st s = _
    rw [execEthTxSent]
    dsimp only
    rw [hf]
    dsimp only
    rw [hp]
    rfl
  · show execEthTxSent port st s = _
    rw [execEthTxSent]
    dsimp only
    rw [hf]
    dsimp only
    rw [hp]
    rfl
  · exact (if_pos ⟨hp, hd, hu⟩).trans (if_pos rfl)
  · exact (if_pos ⟨hp, hd, hu⟩).trans ((if_neg (by decide)).trans (if_pos hl))
  · show execEthRxDeliver port s = _
    rw [execEthRxDeliver]
    dsimp only
    rw [hx]
    exact if_pos ⟨hu, hn⟩
  · show execCyclicFrameSend s = _
    rw [execCyclicFrameSend]
    simp only [hp]
    rfl

/-! ### Meridian -/

/-- An offset whose time is past and whose history is held enters its servo. -/
theorem execMerOfsGo_enters {n frac : Nat} {s : State} {d : Int} (ha : s.alive = true)
    (h1 : s.fullTime (s.rd Reg.MER_OFS_TSEC n 0) (s.rd Reg.MER_OFS_TNS n 0) ≤ s.timeT)
    (h2 : s.timeT - 2000000000 * oneNs ≤ s.fullTime (s.rd Reg.MER_OFS_TSEC n 0) (s.rd Reg.MER_OFS_TNS n 0))
    (hd : dAt (s.fullTime (s.rd Reg.MER_OFS_TSEC n 0) (s.rd Reg.MER_OFS_TNS n 0)) s.timeT
      ((if n = 1 then s.mer.offA else s.mer.offB) - s.mer.offT) (if n = 1 then s.mer.hist1 else s.mer.hist2) = some d) :
    execMerOfsGo n frac s =
      .next (s.servoIn n (((sInt (s.rd Reg.MER_OFS_HI n 0)) * 4294967296 + ((s.rd Reg.MER_OFS_LO n 0).toNat : Int)) *
        oneNs + ((frac % 65536 * 65536 : Nat) : Int) + d)) := by
  refine (if_neg (not_bnot_of_true ha)).trans ((if_neg (by omega)).trans ((if_neg (by omega)).trans ?_))
  dsimp only
  rw [hd]
  rfl

/-- The three times are captured at one instant. -/
theorem execMerSnap_captures {s : State} (ha : s.alive = true) :
    let b : Int := (s.mer.base : Int) * oneNs
    let r0 := snapWords (b + s.mer.offT)
    let r1 := snapWords (b + s.mer.offA)
    let r2 := snapWords (b + s.mer.offB)
    let s1 := ((s.wr Reg.MER_SNAP_HI_T 0 0 r0.1).wr Reg.MER_SNAP_SEC_T 0 0 r0.2.1).wr Reg.MER_SNAP_NS_T 0 0 r0.2.2
    let s2 := ((s1.wr Reg.MER_SNAP_HI_VA 0 0 r1.1).wr Reg.MER_SNAP_SEC_VA 0 0 r1.2.1).wr Reg.MER_SNAP_NS_VA 0 0 r1.2.2
    execMerSnap s = .next (((s2.wr Reg.MER_SNAP_HI_VB 0 0 r2.1).wr Reg.MER_SNAP_SEC_VB 0 0 r2.2.1).wr
      Reg.MER_SNAP_NS_VB 0 0 r2.2.2) := by
  refine (if_neg (not_bnot_of_true ha)).trans ?_
  rfl

/-- Settles O28: each clause is the branch that its command takes. -/
theorem meridianCompletes : Obligations.MeridianCompletes := by
  refine ⟨fun n frac s d _ ha => fun h1 h2 hd => execMerOfsGo_enters ha h1 h2 hd,
    fun x s hx => ⟨fun hst hage => if_pos ⟨hx, hst, hage⟩, fun h => if_pos ⟨hx, h⟩⟩,
    fun s hsw hp ho => if_pos ⟨hsw, hp, ho⟩, fun it s hs h3 ha => ?_, fun s ha => execMerSnap_captures ha,
    fun p s ha => if_pos ha⟩
  exact (show execMerSet it s = _ from serve_ready hs _).trans (congrArg _ ((if_neg (by omega)).trans
    (if_neg (not_not_intro ha))))

end Sys2Proof.Machine
end

section
/-! PROOF. Vexlink frames and links (R502 to R511). -/

namespace Sys2Proof.Machine

theorem State.onward_eq_foldl (s : State) (port : Nat) (f : Frame) :
    s.onward port f = (if port = 0 then [1] else if port = 1 then [0] else []).foldl
      (fun st p => st.sendOn p { f with hops := f.hops + 1 }) s := by
  unfold State.onward
  split_ifs <;> rfl

/-- A good frame goes onward and, the first time it comes, is taken. -/
theorem execVxlFrameRx_good {port : Nat} {f : Frame} {s : State} (hp : port < 4) (ho : s.portOn port = true)
    (hr : (s.crcGood port).returned port f = false) (hh : f.hops < 63) (hm : ¬(f.ty = 3 ∧ f.kind = kMark)) :
    let s0 := s.crcGood port
    let onward := if port = 0 then [1] else if port = 1 then [0] else []
    let s1 := if f.ty = 4 ∨ (f.ty = 5 ∧ f.kind = kHello) then s0
      else onward.foldl (fun st p => st.sendOn p { f with hops := f.hops + 1 }) s0
    let r := (tget winNone s.vxl.win f.src).take f.fseq
    execVxlFrameRx port f true s =
      .next (if r.1 then ((s1.winTaken f).takeFrame f).cross port f else s1.winTaken f) := by
  refine (if_neg (by simp [ho]; omega)).trans ((if_neg (by decide)).trans ((if_neg ?_).trans ?_))
  · rintro (h | h | h)
    · exact Bool.eq_false_iff.mp hr h
    · omega
    · exact hm h
  · simp only [State.onward_eq_foldl]
    rfl

section
variable {port nb : Nat} {s : State}

/-- A port that comes up and is in use shows its neighbour; what follows depends on which it is. -/
theorem execVxlPortUp_up (h4 : port < 4) (hu : s.portUp port = false) (ho : s.portOn port = true) :
    let s1 := ((s.setF Fld.VXL_PORT_STATE port 0 2).setF Fld.VXL_PORT_NEIGHBOUR port 0 nb).log 0x03C0 port (w32 nb)
    let s2 := if s.bit Fld.VXL_STATUS_RING_OPEN 0 0 then s1.log 0x03C3 port else s1
    execVxlPortUp port nb s =
      if port < 2 then .next (s2.setF Fld.VXL_STATUS_RING_OPEN 0 0 (if s2.portUp 0 && s2.portUp 1 then 0 else 1))
      else if port = 2 ∧ s.ring ≠ 0 ∧ nb % 32 = s.ring then .next (s1.setUplink 0) else .next s1 :=
  if_neg (by simp [hu, ho]; omega)

theorem execVxlPortDown_down (h4 : port < 4) (hu : s.portUp port = true) : execVxlPortDown port s = .next (s.portFall port) :=
  if_neg (by simp [hu]; omega)

end

/-- A hello that tells the ring number sets it, and the state of joining when that is still idle. -/
theorem execHelloRx_learns {port device peer k : Nat} {ring : Option Nat} {s : State} (h4 : port < 4)
    (ho : s.portOn port = true)
    (h : (s.isManager = true ∧ k = 0) ∨
      (s.isManager = false ∧ port = 2 ∧ device / 32 = 0 ∧
        k = (if peer = 3 then device % 32 else if device % 32 % 2 = 0 then device % 32 + 1 else device % 32 - 1)) ∨
      (s.isManager = false ∧ port < 2 ∧ ring = some k)) :
    let s1 := s.setF Fld.VXL_PORT_NEIGHBOUR port 0 device
    let s2 := { s1.setF Fld.VXL_STATUS_RING 0 0 k with vxl := { s1.vxl with ringKnown := true } }
    execHelloRx port device ring peer s =
      .next (if s.isAlone ∨ s.fld Fld.VXL_STATUS_JSTATE 0 0 ≠ 0 then s2
        else s2.setF Fld.VXL_STATUS_JSTATE 0 0 (if s.isManager then 2 else if s.device = 0 then 4 else 1)) := by
  have hk : (if s.isManager = true then some 0
      else if port = 2 ∧ device / 32 = 0 then
        some (if peer = 3 then device % 32 else if device % 32 % 2 = 0 then device % 32 + 1 else device % 32 - 1)
      else if port < 2 then ring else none) = some k := by
    obtain ⟨hm, rfl⟩ | ⟨hm, hp, hd, rfl⟩ | ⟨hm, hp, hr⟩ := h
    · exact if_pos hm
    · exact (if_neg (Bool.eq_false_iff.mp hm)).trans (if_pos ⟨hp, hd⟩)
    · exact (if_neg (Bool.eq_false_iff.mp hm)).trans ((if_neg (by omega)).trans ((if_pos hp).trans hr))
  refine (if_neg (by simp [ho]; omega)).trans ?_
  dsimp only
  rw [hk]
  exact ite_go _ _ _

/-- A mark of a port in use that is not the module's own is looked at. -/
theorem timeMark_ok {port : Nat} {f : Frame} {s : State} (h4 : port < 4) (ho : s.portOn port = true)
    (hr : s.returned port f = false) (hh : f.hops < 63) :
    ¬((!s.portOn port) = true ∨ 4 ≤ port ∨ s.returned port f = true ∨ 63 ≤ f.hops) := by
  simp [ho, hr]
  omega

/-- Settles O29: each clause is the branch that its command takes. -/
theorem vexlinkLinksComplete : Obligations.VexlinkLinksComplete := by
  refine ⟨fun port f s hp ho => ⟨(if_neg (by simp [ho]; omega)).trans (if_pos rfl),
      fun hr hh hm => execVxlFrameRx_good hp ho hr hh hm⟩,
    fun port nb s hu ho => ⟨fun hp => ?_, fun hp => ?_, fun hp => ?_⟩,
    fun port s hu => ⟨fun hp => ?_, fun hp => ?_, fun hp => ?_⟩, fun s => rfl,
    fun port device ring peer k s h4 ho h => execHelloRx_learns h4 ho h,
    fun s hk hm => if_neg (by simp [hk, hm]), fun port rt s h4 ho => if_neg (by simp [ho]; omega),
    fun s hm hst => if_pos ⟨hm, bnot_of_false hst⟩,
    fun port f em corr ing res s h4 ho hr hh => ⟨fun hw => ?_, fun e0 hw hmark => ?_⟩⟩
  · exact (execVxlPortUp_up (by omega) hu ho).trans (if_pos hp)
  · exact (execVxlPortUp_up (by omega) hu ho).trans ((if_neg (by omega)).trans (if_neg (by omega)))
  · exact (execVxlPortUp_up (by omega) hu ho).trans ((if_neg (by omega)).trans ((ite_go _ _ _).trans
      (congrArg _ (if_congr (by simp [hp]) rfl rfl))))
  · exact (execVxlPortDown_down (by omega) hu).trans (congrArg _ (if_pos hp))
  · exact (execVxlPortDown_down (by omega) hu).trans (congrArg _ ((if_neg (by omega)).trans (if_neg (by omega))))
  · exact (execVxlPortDown_down (by omega) hu).trans (congrArg _ ((if_neg (by omega)).trans
      (if_congr (by simp [hp]) rfl rfl)))
  · exact (if_neg (timeMark_ok h4 ho hr hh)).trans (if_pos hw)
  · refine (if_neg (timeMark_ok h4 ho hr hh)).trans ((if_neg (Bool.eq_false_iff.mp hw)).trans ?_)
    rw [hmark]
    exact if_pos rfl

end Sys2Proof.Machine
end

section
/-! PROOF. Remote items (R525, R526) and the cyclic exchange (R513 to R530). -/

namespace Sys2Proof.Machine

section
variable {op : Nat} {it : Item} {dl : Stamp} {s : State} (hst : s.standby = false) (ha : s.alive = true)
  (ht : travels op = true) (hb : it.block = op / 256)
include hst ha ht hb

/-- An item that reaches its target and may travel is refused when it was refused before. -/
theorem execRemoteItemRx_again (hr : s.vxl.refused.contains (it.origin.getD 0, it.ring, it.seq) = true) :
    execRemoteItemRx op it dl s =
      .next (s.emit (.result (it.origin.getD 0) (remoteRing (it.origin.getD 0) it.ring) it.seq stTimeout [] [])) :=
  (if_neg (by simp [hst, ha])).trans ((if_neg (by simp [ht, hb])).trans (if_pos hr))

theorem execRemoteItemRx_absent (hr : s.vxl.refused.contains (it.origin.getD 0, it.ring, it.seq) = false)
    (hh : ¬(s.sys.mode = .running ∧ s.domOn 3 = true ∧ s.sys.gone = none)) :
    execRemoteItemRx op it dl s =
      .next (s.emit (.result (it.origin.getD 0) (remoteRing (it.origin.getD 0) it.ring) it.seq stAbsent [] [])) := by
  refine (if_neg (by simp [hst, ha])).trans ((if_neg (by simp [ht, hb])).trans ((if_neg (Bool.eq_false_iff.mp hr)).trans
    (if_pos (Decidable.byContradiction fun h => hh ?_))))
  simpa [not_or, Option.isSome_iff_ne_none] using h

theorem execRemoteItemRx_late (hr : s.vxl.refused.contains (it.origin.getD 0, it.ring, it.seq) = false)
    (hh : s.sys.mode = .running ∧ s.domOn 3 = true ∧ s.sys.gone = none) (hl : stTime dl < s.timeT) :
    execRemoteItemRx op it dl s =
      .next (s.emit (.result (it.origin.getD 0) (remoteRing (it.origin.getD 0) it.ring) it.seq stTimeout [] [])) :=
  (if_neg (by simp [hst, ha])).trans ((if_neg (by simp [ht, hb])).trans ((if_neg (Bool.eq_false_iff.mp hr)).trans
    ((if_neg (by simp [hh])).trans (if_pos (by omega)))))

theorem execRemoteItemRx_accepted (hr : s.vxl.refused.contains (it.origin.getD 0, it.ring, it.seq) = false)
    (hh : s.sys.mode = .running ∧ s.domOn 3 = true ∧ s.sys.gone = none) (hl : s.timeT ≤ stTime dl) :
    let dev := it.origin.getD 0
    let ring := remoteRing dev it.ring
    let s1 := (s.intakeAdd ring it.seq .inFlight).emit (.accept dev ring it.seq)
    let due := s.mer.base + ((stTime dl - s.timeT) / oneNs).toNat
    let x : Inflight := ⟨op, { it with ring := ring, origin := some dev }, .fetched, true, due, [], none, none⟩
    execRemoteItemRx op it dl s = .next { s1 with hif := { s1.hif with inflight := s1.hif.inflight ++ [x] } } :=
  (if_neg (by simp [hst, ha])).trans ((if_neg (by simp [ht, hb])).trans ((if_neg (Bool.eq_false_iff.mp hr)).trans
    ((if_neg (by simp [hh])).trans (if_neg (by omega)))))

end

section
variable {ring : Nat} {seq : Word} {s : State} {f : Inflight} (hf : s.flight ring seq = some f)
include hf

theorem execRemoteResultRx_flight (status : Nat) (res : ResultAt) (d0 d1 d2 d3 : Word) :
    execRemoteResultRx ring seq status res d0 d1 d2 d3 s =
      .next (if status = stClamped then s.completeClampedAt f.item res.st res.clamps
        else s.completeAt f.item res.st status d0 d1 d2 d3) := by
  rw [execRemoteResultRx, hf]
  rfl

theorem execQueryAnswerRx_flight (verdict status : Nat) :
    execQueryAnswerRx ring seq verdict status s =
      if verdict = 1 then .next (s.complete f.item status)
      else if verdict = 3 then .next s
      else .next (s.complete f.item stTimeout 0x23CD (f.note.headD 0)) := by
  rw [execQueryAnswerRx, hf]
  rfl

theorem execRemoteQueryTimer_first (hr : f.item.remote = true) (hp : f.phase = .waiting)
    (hd : f.deadline + 2000000 ≤ s.mer.base) (hn : f.note = []) :
    let s1 := s.emit (.query f.item.device ring seq)
    let n := (s.hif.inflight.filter (fun g => g.item.device == f.item.device && g.item.remote)).length
    let s2 := { s1 with hif := { s1.hif with
      inflight := flightUpd ring seq (fun x => { x with note := [s.tr.hlx.seq] }) s1.hif.inflight } }
    execRemoteQueryTimer ring seq s = .next (s2.log 0x23CD f.item.device (w32 n)) := by
  rw [execRemoteQueryTimer, hf]
  refine (if_pos ⟨hr, hp, hd⟩).trans ?_
  dsimp only
  rw [hn]
  rfl

theorem execRemoteQueryTimer_again (hr : f.item.remote = true) (hp : f.phase = .waiting)
    (hd : f.deadline + 2000000 ≤ s.mer.base) (hn : f.note ≠ []) :
    execRemoteQueryTimer ring seq s = .next (s.emit (.query f.item.device ring seq)) := by
  rw [execRemoteQueryTimer, hf]
  refine (if_pos ⟨hr, hp, hd⟩).trans ?_
  obtain ⟨w, ws, hw⟩ := List.exists_cons_of_ne_nil hn
  dsimp only
  rw [hw]
  rfl

end

/-- Settles O30: each clause is the branch that its command takes. -/
theorem remoteItemsComplete : Obligations.RemoteItemsComplete := by
  refine ⟨fun op it dl s hst ha ht hb => ⟨fun hr hh hl => execRemoteItemRx_accepted hst ha ht hb hr hh hl,
      fun hr hh hl => execRemoteItemRx_late hst ha ht hb hr hh hl, fun hr hh => execRemoteItemRx_absent hst ha ht hb hr hh,
      fun hr => execRemoteItemRx_again hst ha ht hb hr⟩,
    fun ring seq s f hf => ⟨fun status st d0 d1 d2 d3 cs => ⟨fun h => ?_, fun h => ?_⟩,
      fun verdict status => ⟨fun h => ?_, fun h => ?_, fun h1 h3 => ?_⟩,
      fun hr hp hd => ⟨fun hn => execRemoteQueryTimer_first hf hr hp hd hn,
        fun hn => execRemoteQueryTimer_again hf hr hp hd hn⟩⟩,
    fun dev ring seq s hst => ⟨fun he => ?_, fun e st he hv => ?_, fun e st he hv => ?_, fun e he hv => ?_⟩⟩
  · exact (execRemoteResultRx_flight hf status _ d0 d1 d2 d3).trans (congrArg _ (if_neg h))
  · exact (execRemoteResultRx_flight hf status _ d0 d1 d2 d3).trans (congrArg _ (if_pos h))
  · exact (execQueryAnswerRx_flight hf verdict status).trans (if_pos h)
  · exact (execQueryAnswerRx_flight hf verdict status).trans ((if_neg (by omega)).trans (if_pos h))
  · exact (execQueryAnswerRx_flight hf verdict status).trans ((if_neg h1).trans (if_neg h3))
  all_goals
    refine (if_neg (Bool.eq_false_iff.mp hst)).trans ?_
    rw [he]
  · rfl
  all_goals
    dsimp only
    rw [hv]
    rfl

/-! ### The cyclic exchange -/

/-- A cycle frame that names the module among those that join admits what it publishes. -/
theorem execCycleFrameRx_eq (n period version : Nat) (joins : List Nat) (leaves : List (Nat × Nat)) (u : Nat) (s : State) :
    let s1 := { (s.setF Fld.VXL_STATUS_MGR_SEEN 0 0 1).setF Fld.VXL_CYCPER_US 0 0 period with
      vxl := { s.vxl with silent := 0 } }
    let s2 := leaves.foldl (fun st d => st.left d.1 d.2) (joins.foldl (fun st d => st.joined n d) s1)
    let s3 := (s2.showMembers version).admitPubs u
    execCycleFrameRx n period version joins leaves u s =
      .next (if joins.contains s.device then (if u ≠ 0 then s3.log 0x23C9 0 (w32 u) else s3)
        else s2.showMembers version) := by
  unfold execCycleFrameRx
  dsimp only
  by_cases hj : joins.contains s.device = true
  · simp only [hj, if_true, true_and]
    exact ite_go _ _ _
  · rw [if_neg hj, if_neg hj, if_neg fun h => hj h.1]
    rfl

/-- Settles O31: each clause is a branch of its command. -/
theorem cyclicExchangeCompletes : Obligations.CyclicExchangeCompletes := by
  refine ⟨fun n s ha hd => (if_neg (by simp [ha, hd])).trans (ite_go _ _ _),
    fun n period version joins leaves u s => execCycleFrameRx_eq n period version joins leaves u s,
    fun s h => if_pos h, fun src n es s => ⟨fun ht => if_pos (bnot_of_false ht),
      fun ht => (if_neg (not_bnot_of_true ht)).trans (ite_go _ _ _)⟩,
    fun n s hd => if_neg (not_bnot_of_true hd), fun d pubs subs s hm hst => if_pos ⟨hm, bnot_of_false hst⟩,
    fun s hr ha => ⟨fun hd => (if_neg (by simp [hr, ha])).trans (if_pos hd),
      fun hd hv => (if_neg (by simp [hr, ha])).trans ((if_neg hd).trans (if_pos hv))⟩,
    fun d slot ring locked s hm hst => (if_pos ⟨hm, bnot_of_false hst⟩).trans (ite_go _ _ _), fun r s => rfl,
    fun d cause s hm hst hc => ⟨fun h => if_pos ⟨hm, bnot_of_false hst, hc, h⟩, if_pos ⟨hm, bnot_of_false hst, hc⟩⟩⟩

/-! ### A manager that asks to leave twice -/

/-- The manager of a ring, joined and running, whose leave is listed for its next cycle. -/
def leavingManager : State :=
  let s := (((State.reset.setF Fld.SYS_STRAP_ROLE 0 0 2).setF Fld.VXL_STATUS_JSTATE 0 0 2).wr Reg.PWR_CTRL 0 0 0xFC).wr
    Reg.PWR_STATUS 0 0 0xFC
  { s with sys := { s.sys with mode := .running }, vxl := { s.vxl with leavePend := [(0, 0)] } }

/-- A VXL_LEAVE of submission ring 0. -/
def leaveItem : Item :=
  { ring := 0, seq := 0, flags := 0, remote := false, device := 0, block := 0xF, inst := 0, payload := [], origin := none }

theorem leavingManager_ready : leavingManager.Ready leaveItem := by
  unfold State.Ready
  decide +kernel

theorem leavingManager_admitted : leavingManager.admitted = true := by decide +kernel

theorem leavingManager_isManager : leavingManager.isManager = true := by decide +kernel

/-- The second request is held, and the list of leaves stays as it is. -/
theorem execVxlLeave_leavingManager :
    execVxlLeave leaveItem leavingManager = .next (leavingManager.holdItem 0x0F01 leaveItem []) := by
  have hd : leavingManager.device = 0 := by decide +kernel
  refine (serve_ready leavingManager_ready _).trans (congrArg _ ((if_neg (not_bnot_of_true leavingManager_admitted)).trans
    ((if_pos leavingManager_isManager).trans ?_)))
  rw [hd]
  rfl

/-- Refutes O32: a manager whose leave is listed already lists it once, and the clause of VXL_LEAVE lists it again. -/
theorem not_vexlinkItemsComplete : ¬ Obligations.VexlinkItemsComplete := by
  rintro ⟨-, hleave, -⟩
  have h := hleave leaveItem leavingManager leavingManager_ready leavingManager_admitted
  dsimp only at h
  rw [if_pos leavingManager_isManager] at h
  have heq := Host.Outcome.next.inj (execVxlLeave_leavingManager.symm.trans h)
  exact absurd (congrArg (fun s : State => s.vxl.leavePend.length) heq) (by decide)

end Sys2Proof.Machine
end

section
/-! PROOF. The mirror pair (R540 to R561). -/

namespace Sys2Proof.Machine

/-- The active module's heartbeat asks for nothing again and keeps what it has counted. -/
theorem execHeartbeatSend_active {s : State} (hd : s.domOn 3 = true) (hr : s.sys.mode = .running) (hm : s.mirState = 2) :
    let s2 := { s with out := Out.heartbeat 1 s.heartbeat 0 false :: Out.heartbeat 0 s.heartbeat 0 false :: s.out,
                       mir := { s.mir with resend := 0 + s.mir.resend, resync := false } }
    execHeartbeatSend s = .next (s2.rampEnd.pairUpdate) := by
  refine (if_pos ⟨hd, hr, by omega⟩).trans ?_
  dsimp only
  rw [if_neg (show ¬(s.mir.final = true ∧ s.mir.goAt = none ∧ s.mirState = 4) by omega)]
  simp only [hm, Nat.zero_add]
  rfl

/-- An epoch of changes that came whole is applied and acknowledged. -/
theorem execEpochApply_changes {n : Word} {t : Int} {last final : Bool} {bytes : Nat} {img : Image} {s : State}
    (hd : s.domOn 3 = true) (hr : s.sys.mode = .running) (hm : s.mirState = 3 ∨ s.mirState = 4) :
    let s3 := (s.applyImage img).wr Reg.MIR_EPOCH 0 0 n
    let m := { s3.mir with image := some img, captureAt := t, lagFrom := s.lagFromAt t, final := s3.mir.final || final }
    let s4 := { s3 with mir := m }
    execEpochApply n t true false last final bytes img s = .next ((s4.wr Reg.MIR_ACK 0 0 n).lagShow.trySync) :=
  (if_pos ⟨hd, hr, hm⟩).trans ((if_pos rfl).trans rfl)

/-- Settles O33: each clause is a branch of its command. -/
theorem mirrorCompletes : Obligations.MirrorCompletes :=
  ⟨fun _ hm hr hp ht => if_pos ⟨hm, hr, bnot_of_false hp, ht⟩, fun _ hd hr hm => execHeartbeatSend_active hd hr hm,
    fun _ _ _ _ _ _ _ _ hp hd hi => if_pos ⟨hp, hd, hi⟩, fun _ _ hp hd hr hi hdue => if_pos ⟨hp, hd, hr, hi, hdue⟩,
    fun _ hd hr hm hh hp hst => if_pos ⟨hd, hr, hm, bnot_of_false hh, hp, hst⟩,
    fun _ _ _ _ _ _ _ hd hr hm => ⟨fun _ => (if_pos ⟨hd, hr, hm⟩).trans (if_neg (by decide)),
      execEpochApply_changes hd hr hm⟩,
    fun _ hm h1 h2 => if_pos ⟨hm, h1, h2⟩, fun _ hw ht => if_pos ⟨hw, ht⟩,
    fun _ _ hd hr hm h0 h1 => if_pos ⟨hd, hr, hm, h0, h1⟩, fun _ hm hr => if_pos ⟨hm, hr⟩, fun _ hd => if_pos hd,
    fun _ _ _ hd => if_pos hd⟩

/-- Settles O34: each clause is the branch that its command takes. -/
theorem mirrorSwitchCompletes : Obligations.MirrorSwitchCompletes := by
  refine ⟨fun it s hs h3 hm hp hv ht => ?_, fun s x rest hx hm hr hh ht => ?_,
    fun s t hg ht hr => ⟨fun hm hh => ?_, fun hm => ?_⟩, fun s hm hr => if_pos ⟨hm, hr⟩, fun it s hs hm => ?_⟩
  · exact (show execMirSwitch it s = _ from serve_ready hs _).trans (congrArg _ ((if_neg (by omega)).trans
      ((if_neg (not_not_intro hm)).trans ((if_neg (by simp [hp, hv])).trans (if_neg (not_bnot_of_true ht))))))
  · show execSwitchInstant s = _
    rw [execSwitchInstant, hx]
    exact if_pos ⟨hm, hr, bnot_of_false hh, ht⟩
  · show execSwitchGo s = _
    rw [execSwitchGo, hg]
    exact (if_neg (not_or.mpr ⟨by omega, not_not_intro hr⟩)).trans (if_pos ⟨hm, hh⟩)
  · show execSwitchGo s = _
    rw [execSwitchGo, hg]
    exact (if_neg (not_or.mpr ⟨by omega, not_not_intro hr⟩)).trans ((if_neg (by omega)).trans (if_pos hm))
  · exact (show execMirResync it s = _ from serve_ready hs _).trans (congrArg _ (if_neg (by omega)))

end Sys2Proof.Machine
end

section
/-! PROOF. The Perimeter (R57, R569 to R592) and faults (R595 to R608). -/

namespace Sys2Proof.Machine

/-- Settles O35: each clause is a branch of its command. -/
theorem perimeterInputsComplete : Obligations.PerimeterInputsComplete := by
  refine ⟨fun pair a b s => ⟨rfl, rfl⟩,
    fun k s => ⟨fun hst hf h4 hm hp => if_pos ⟨hst, hf, h4, bnot_of_false hm, hp⟩, fun hm ht => if_pos (by simp [hm, ht])⟩,
    fun pair cause chans s => ⟨fun hc ho hst => if_pos ⟨hc, bnot_of_false ho, hst⟩,
      fun ho ht => if_pos (Bool.and_eq_true_iff.mpr ⟨ho, ht⟩), rfl, rfl, rfl⟩,
    fun ms s hs hm => ⟨fun hst h100 => ?_, fun hst h100 => ?_, fun hst h100 => ?_⟩,
    fun ms s hst => ⟨fun hs => if_neg (by simp [hst, hs]), if_neg hst⟩, fun s => rfl⟩
  · exact (if_neg (by simp [hst, hs]; omega)).trans ((if_neg (by omega)).trans (if_neg (by omega)))
  · exact (if_neg (by simp [hst, hs]; omega)).trans ((if_neg (by omega)).trans (if_pos hst))
  · exact (if_neg (by simp [hs]; omega)).trans (if_pos h100)

/-- A stop request that arrives whole is taken, and ends a loss of the channel. -/
theorem execStopRequestFrame_whole {s : State} (hst : s.per.state ≠ 0) (ha : s.alive = true) :
    let bits := s.stopBits
    let s1 := match s.per.lost with
      | some t => s.log 0x544D 0 (w32 ((s.mer.base - t) / 1000000))
      | none => s
    let b := s.mer.base
    let p := { s1.per with req := bits, lost := none, frameAt := b, reqAt := some (s.per.reqAt.getD b) }
    execStopRequestFrame true s =
      .next ((s1.setPer p).stopAct (bits &&& (s.per.req ||| s.per.act))
        (fun j => if j < 4 && s.pubQ (128 + j) then 0 else 1)) :=
  if_neg (by simp [hst, ha])

/-- Showing the Perimeter leaves the times alone. -/
theorem State.showPer_mer (s : State) : s.showPer.mer = s.mer := congrArg Quiet.mer s.showPer_quiet

theorem State.viewSeen_eq {s : State} {b : Nat} (h : s.mer.base = b) :
    s.viewSeen = s.setPer { s.per with viewAt := b } := by
  rw [State.viewSeen, h]

/-- A status frame that arrives whole shows what the Perimeter says. -/
theorem execStatusFrame_whole {s : State} (hst : s.per.state ≠ 0) (ha : s.alive = true) :
    let v := w32 (s.per.view s.mer.base + 32768)
    let s0 := ((s.showPer).wr Reg.PER_VIEW 0 0 v).setF Fld.PER_LINK_UP 0 0 1
    let s1 := s0.setPer { s0.per with viewAt := s.mer.base }
    execStatusFrame true s = .next (if v = s.rd Reg.PER_VIEW 0 0 then s1 else s1.raise 139 0 0 v).stopDone := by
  rw [execStatusFrame, if_neg (by simp [hst, ha]), if_neg (by decide)]
  generalize w32 (s.per.view s.mer.base + 32768) = v
  have hm : (((s.showPer).wr Reg.PER_VIEW 0 0 v).setF Fld.PER_LINK_UP 0 0 1).mer.base = s.mer.base := by
    rw [State.setF_mer, State.wr_mer, State.showPer_mer]
  dsimp only
  rw [State.viewSeen_eq hm, go]

/-- Settles O36: each clause is the branch that its command takes. -/
theorem perimeterDieCompletes : Obligations.PerimeterDieCompletes := by
  refine ⟨fun s => ⟨rfl, fun o => ite_go _ _ _, fun hst => if_pos hst, rfl⟩,
    fun ph pp cause chans pfw s hst => ?_, fun p s hst hp => if_pos ⟨hst, hp⟩,
    fun s hst ha => ⟨execStopRequestFrame_whole hst ha, fun hl ht => if_neg (by simp [hst, hl, ht])⟩,
    fun v s ha => if_pos ha, fun it s hs hi hv => ?_, fun s hst ha => ⟨?_, ?_⟩, fun s hu ht => if_pos ⟨hu, ht⟩⟩
  · refine ⟨fun hc => ?_, fun hc hp => ?_, fun hc hp hb => ?_, fun hc hp hb h => ?_, fun hc hp hb h => ?_⟩
    · exact (if_neg (not_not_intro hst)).trans (if_pos hc)
    · exact (if_neg (not_not_intro hst)).trans ((if_neg (not_not_intro hc)).trans (if_pos hp))
    · exact (if_neg (not_not_intro hst)).trans ((if_neg (not_not_intro hc)).trans ((if_neg (not_not_intro hp)).trans
        (if_pos hb)))
    · exact (if_neg (not_not_intro hst)).trans ((if_neg (not_not_intro hc)).trans ((if_neg (not_not_intro hp)).trans
        ((if_neg (Bool.eq_false_iff.mp hb)).trans (if_pos h))))
    · exact (if_neg (not_not_intro hst)).trans ((if_neg (not_not_intro hc)).trans ((if_neg (not_not_intro hp)).trans
        ((if_neg (Bool.eq_false_iff.mp hb)).trans (if_neg h))))
  · exact (show execPerStopReq it s = _ from serve_ready hs _).trans (congrArg _ ((if_neg (not_not_intro hi)).trans
      (if_neg (by omega))))
  · exact execStatusFrame_whole hst ha
  · exact (if_neg (by simp [hst, ha])).trans (if_pos rfl)

/-- Settles O37: each clause is a branch of its command. -/
theorem faultsComplete : Obligations.FaultsComplete := by
  refine ⟨fun e st q s => rfl, fun sev s ha hp => if_pos ⟨ha, hp⟩,
    fun r a obj dirty s ha => ⟨fun hr => if_pos ⟨hr, ha⟩, fun hr => ?_, fun h0 h12 h4 => ?_, fun hr ho hm => ?_,
      fun hr => ?_⟩,
    fun p s ha => ⟨if_pos ⟨rfl, ha⟩, ?_⟩, fun ce ue s ha => if_pos ha, fun bad s ha => if_pos ha,
    fun v s ha => ⟨fun hv => if_pos ⟨ha, hv⟩, fun hv => if_neg fun h => hv h.2, if_pos ha⟩,
    fun s hr hl => if_pos ⟨hr, hl⟩, fun src us s hr hw hl => if_pos ⟨hr, hw, hl⟩⟩
  · exact (if_neg (not_bnot_of_true ha)).trans (if_pos hr)
  · refine (if_neg (not_bnot_of_true ha)).trans ((if_neg fun h => ?_).trans (if_pos h12))
    exact h.elim (by omega) fun h => Bool.eq_false_iff.mp (h4 h.1) h.2
  · exact (if_neg (not_bnot_of_true ha)).trans ((if_neg (by omega)).trans ((if_neg (by omega)).trans (if_pos ⟨hr, ho, hm⟩)))
  · exact (if_neg (not_bnot_of_true ha)).trans ((if_neg (by omega)).trans ((if_neg (by omega)).trans
      ((if_neg (by omega)).trans (if_pos (by omega)))))
  · show execPatrolScrub p false s = _
    exact if_neg fun h => Bool.false_ne_true h.1

end Sys2Proof.Machine
end
